-- ==== Sys2Proof/Word.lean ====
section
/-! DEFINITION. The word types of the package and their plainest readings: 64-bit words, bytes, the 4,096-bit vector
register, the 32-bit slot. Everything that a rule of the spec computes lives in `Machine/`. -/

namespace Sys2Proof

/-- A 64-bit register, latch or memory doubleword (08 R214, 09 R242). -/
abbrev Word := BitVec 64

/-- One byte of memory (01 R7: every memory is little-endian). -/
abbrev Byte := BitVec 8

/-- A V register or V latch: 4,096 bits (12 R306). -/
abbrev Vec := BitVec 4096

/-- One 32-bit slot of a bundle, or one side-core instruction word (09 R237, 16 R414). -/
abbrev SlotWord := BitVec 32

/-- A lane mask k0-k7: 128 bits (12 R308). -/
abbrev Mask := BitVec 128

/-- One layout table entry: DW0 in bits 63:0 up to DW7 in bits 511:448 (01 R13). -/
abbrev LteBits := BitVec 512

end Sys2Proof
end

