-- ==== Sys2Proof/Config.lean ====
section
/-! DEFINITION. What an implementation fixes and the values the spec leaves free. No constant here has a body that a proof
could use. -/

namespace Sys2Proof.Config

/-- The die firmware vector (18 R443): the spec names it and gives no address. -/
opaque firmwareVector : BitVec 55

/-- What a 64 B granule that was encrypted under one key's material decrypts to under another's at the same place (03 R78): the two
materials, the flat granule, and the plaintext that was written. -/
opaque recipher : BitVec 512 → BitVec 512 → Nat → BitVec 512 → BitVec 512

/-- The front selector of a pair whose sync object lies on another package (01 R27, R531), as the Canal read of it returns: a number that
names the access, and nothing constrains the bit. -/
opaque peerSelector : Nat → Bool

/-- A 64-bit source replicated under a reserved element type of VTYPE (09 R242, 12 R305): the type's code and the source. -/
opaque reservedSpread : Nat → BitVec 64 → BitVec 4096

/-- Which of two contents each 64 B of a drawer row ends with where a fill meets a DREL or a DWR (14 R368): a number that names the piece. -/
opaque fillKept : Nat → Bool

/-- Which of the units of an access that are left is performed next (06 R154), by place: a number that names the access and what is left of
it. -/
opaque unitChoice : Nat → Nat

/-- A byte of a seat image in a save area, whose layout is private (17 R533): the number of the save, and the offset. -/
opaque imageByte : Nat → Nat → BitVec 8

/-- Where in the seat image the latch-bank frames stand (17 R533, 18 R448), which is private: the number of the save. -/
opaque framePlace : Nat → Nat

/-- What j.lte reads under a field code that 14 R357 does not list: the code, and the entry. -/
opaque unnamedField : Nat → BitVec 512 → BitVec 64

/-- The kind that SCFLT.VAL gives for an LENM1 above 7 (16 R422): a number that names the instruction. -/
opaque sideKind : Nat → BitVec 8

/-- Bytes of the text of a code object (15 R400), which no field of the launch record gives: the context and CODE that name it. -/
opaque textLength : Nat → Nat → Nat

/-- Whether a record of channel state can be written into its log (18 R455), whose bounds the spec does not give: a number that names the
record. -/
opaque recordFits : Nat → Bool

/-- A byte of function 0's or of a die function's BAR0 where no register of the spec stands (19 R463), as a host reads it: a number that
names the read, and the offset. -/
opaque registerByte : Nat → Nat → BitVec 8

/-- Offset in function 0's BAR0 of a management register, which the spec does not give (19 R463): the register's number. -/
opaque registerPlace : Nat → Nat

/-- Key 0 as the root of trust generates it at a boot (03 R77): a number that names the boot. -/
opaque rootKey : Nat → BitVec 512

/-- The exported wrap key of a session between a tenant and the root of trust (19 R470), none where the session has ended or never was: a
number that names the request, and the session. -/
opaque wrapKey : Nat → Nat → Option (BitVec 256)

/-- With which version of a line of code that was written in its launch a bundle executes, the one of the launch (02 R54): a number that
names the execution, and the line. -/
opaque launchVersion : Nat → Nat → Bool

/-- Key and salt of a port's link as the roots of trust agree them at bring-up (05 R144, 19 R471): a number that names the boot, and the
port. -/
opaque firstKey : Nat → Nat → BitVec 256 × BitVec 48

/-- Fragments of this end's key-agreement message (05 R145), whose form the spec does not give: the port and the generation asked for. -/
opaque agreement : Nat → Nat → List (List (BitVec 8))

/-- Key and salt that the peer's fragments of a key agreement amount to; none while they are not complete: the port, the generation and
the fragments. -/
opaque agreedKey : Nat → Nat → List (List (BitVec 8)) → Option (BitVec 256 × BitVec 48)

/-- Which job a 64 KiB block of a tenant's belongs to (18 R454), where the tenant has several: the place of the cistern, and the block. -/
opaque blockJob : Nat → Nat → Nat

/-- The syndrome of a memory error (18 R452 INFO): a number that names the event. -/
opaque syndrome : Nat → BitVec 32

/-- Whether a boot selects CXL mode for a port (19 R460): a number that names the boot, and the port. -/
opaque portMode : Nat → Nat → Bool

/-- What bring-up sets and measures of a Lade (04 R118, R119), by the ring's index: the flit times of P above 10, and the windows of the hop
that leaves station `i`. -/
opaque ladePeriod : Nat → Nat
opaque ladeHop : Nat → Nat → Nat

/-- Which other station of a Lade returns the credits that a slot brings (04 R111), for which the header has no field: a number that names the
arrival. -/
opaque creditSource : Nat → Nat

/-- The 32 B of Lade control that share flit 0 of a Lade slot with its header (04 R118), which the spec does not describe: the flit counter
of the message. -/
opaque ladeControl : Nat → BitVec 256

/-- The secret salt that the root of trust keeps for a tenant on a die (15 R405), by 1024·die + tenant. -/
opaque salt : Nat → BitVec 256

/-- What bring-up finds: 0-4 the domain's rows and columns, DOM, and the package's row and column (05 R121, 11 R287); 16 + d the quarter
turns and the spares of die d (19 R472). -/
opaque bringUp : Nat → Nat

end Sys2Proof.Config
end

