-- ==== Sys2Proof/Syntax.lean ====
section
/-! DEFINITION. The syntax of every step of the part: one constructor of `Instr` per row of the opcode table. A slot
operation carries the typed fields of its 32-bit slot (09 R237-R247), a side-core operation its RV64 registers
(16 R411-R414), and an event of the part (a landing, an arrival, a station's pass, a write of the host) names the
agent and the item it concerns. -/

namespace Sys2Proof

/-- The seven units of a core (09 R238, 18 R448 in this order). -/
inductive UnitId where
  | b | s0 | s1 | v | l0 | l1 | m
deriving DecidableEq, Repr

/-- A guard names a predicate q0-q15 (09 R251). -/
abbrev Guard := Fin 16

/-- A layout table entry e0-e31 (01 R13). -/
abbrev LteIx := Fin 32

/-- A lane mask k0-k7 (12 R308). -/
abbrev MaskIx := Fin 8

/-- A main-file or operand-file register of a unit, or the unit's latch alone (09 R239). -/
inductive Dst where
  | main (n : Fin 24)
  | opnd (n : Fin 8)
  | latch
deriving DecidableEq, Repr

/-- A source selector (09 R240). In a V operand `main` and `opnd` name the V file (14 R356). -/
inductive Src where
  | main (n : Fin 24)
  | opnd (n : Fin 8)
  | latch (u : UnitId) (older : Bool)
  | gp (i : Fin 4)
  | imm
  /-- Code 54 + k: 0, 1, -1, 2, 0.5, 4, 8, 16, 64, 128. -/
  | const (k : Fin 10)
deriving DecidableEq, Repr

/-- How an entry takes a source (09 R530): a source of a B slot, an integer operand, or an operand that rule 6 of
09 R248 admits with the constant 0.5. -/
inductive SrcKind where
  | branch | int | fp
deriving DecidableEq, Repr

/-- Rounding modes (08 R207). -/
inductive Rm where
  | rne | rtz | rdn | rup
deriving DecidableEq, Repr

/-- Conditions of CMP (11 R276). -/
inductive CmpCond where
  | eq | ne | lt | ge | ltu | geu | le | tst
deriving DecidableEq, Repr

/-- Conditions of FCMP: relation and width (11 R276). -/
inductive FcmpCond where
  | eqS | ltS | leS | unS | eqD | ltD | leD | unD
deriving DecidableEq, Repr

/-- Conditions of VCMP, VANY and VALL (12 R314). Codes 6 and 7 read LTU/GEU under integers and UN/OR under FP. -/
inductive VCond where
  | eq | ne | lt | le | gt | ge | ltuUn | geuOr
deriving DecidableEq, Repr

/-- Operations of QOP (11 R277). -/
inductive PredOp where
  | and | or | xor | andn | orn | mov
deriving DecidableEq, Repr

/-- Operations of VKOP (12 R317). -/
inductive MaskOp where
  | and | or | xor | andn | orn | not | mov | set
deriving DecidableEq, Repr

/-- Formats of an M slot (09 R247). -/
inductive MFmt where
  | rx8 | b16 | fp16 | fp32
deriving DecidableEq, Repr

/-- Fields read by LIDX (11 R284). -/
inductive LidxField where
  | idx | cnt | rem
deriving DecidableEq, Repr

/-- Targets of MOVX (11 R282). -/
inductive MovxTarget where
  | s0 | s1 | l0 | l1 | v
deriving DecidableEq, Repr

/-- Formats of FCLS (11 R280). -/
inductive FclsFmt where
  | fp32 | fp64 | fp16 | b16
deriving DecidableEq, Repr

/-- A pair destination of TWOS, TWOP and VTWS (11 R281, 12 R325): registers 2i and 2i + 1, or the latch alone. -/
inductive PairDst where
  | regs (i : Fin 16)
  | latch
deriving DecidableEq, Repr

/-- Source of a drain: K27 or FP32 basin words (13 R340). -/
inductive DrainSrc where
  | k27 | f32
deriving DecidableEq, Repr

/-! ### Shapes of slots: the fields of 09 R237 as each entry of 11-15 reads them. -/

/-- PSC (09 R244): `none` leaves a port not allotted. -/
structure Ppsc where
  scope : Fin 8
  gp0 : Option (Fin 31)
  gp1 : Option (Fin 31)
  gp2 : Option (Fin 31)
  gp3 : Option (Fin 31)
deriving DecidableEq, Repr

/-- PIM and PIMH (09 R244). -/
structure Pimm where
  val : BitVec 23
deriving DecidableEq, Repr

/-- B slot without operands. -/
structure Bn where
  g : Guard
deriving DecidableEq, Repr

/-- BPT: target register and offset in 16 B units (11 R290). -/
structure Bpt where
  g : Guard
  t : Fin 4
  off : BitVec 12
deriving DecidableEq, Repr

/-- B slot with a branch target register and a source. -/
structure Bba where
  g : Guard
  t : Fin 4
  a : Src
deriving DecidableEq, Repr

/-- B slot with a branch target register. -/
structure Bb where
  g : Guard
  t : Fin 4
deriving DecidableEq, Repr

/-- B slot with one source. -/
structure Ba where
  g : Guard
  a : Src
deriving DecidableEq, Repr

/-- B slot with two sources. -/
structure Bab where
  g : Guard
  a : Src
  b : Src
deriving DecidableEq, Repr

/-- LSET with a constant length (11 R289): `len` is the length minus 1. -/
structure Blset where
  g : Guard
  len : Fin 64
  a : Src
deriving DecidableEq, Repr

/-- LSTR: g register, stride, relative level, 7 meaning the staged set (11 R295). -/
structure Blstr where
  g : Guard
  n : Fin 32
  a : Src
  level : Fin 8
deriving DecidableEq, Repr

/-- LBRK (11 R298). -/
structure Blbrk where
  g : Guard
  n : Fin 8
deriving DecidableEq, Repr

/-- WFL: station flag and time-out (11 R301). -/
structure Bwfl where
  g : Guard
  flag : Fin 32
  a : Src
deriving DecidableEq, Repr

/-- S slot with destination and two sources; `x` selects S1. -/
structure S3 where
  g : Guard
  x : Bool
  d : Dst
  a : Src
  b : Src
deriving DecidableEq, Repr

/-- S slot with destination and one source. -/
structure S2 where
  g : Guard
  x : Bool
  d : Dst
  a : Src
deriving DecidableEq, Repr

/-- S slot with a destination only. -/
structure S1 where
  g : Guard
  x : Bool
  d : Dst
deriving DecidableEq, Repr

/-- MOVI (11 R275). -/
structure Smovi where
  g : Guard
  x : Bool
  d : Dst
  imm : BitVec 12
deriving DecidableEq, Repr

/-- CMP (11 R276). -/
structure Scmp where
  g : Guard
  x : Bool
  cond : CmpCond
  j : Fin 8
  a : Src
  b : Src
deriving DecidableEq, Repr

/-- FCMP (11 R276). -/
structure Sfcmp where
  g : Guard
  x : Bool
  cond : FcmpCond
  j : Fin 8
  a : Src
  b : Src
deriving DecidableEq, Repr

/-- QOP (11 R277). -/
structure Sqop where
  g : Guard
  x : Bool
  op : PredOp
  j : Fin 8
  p : Fin 16
  r : Fin 16
deriving DecidableEq, Repr

/-- MOVX (11 R282). -/
structure Smovx where
  g : Guard
  x : Bool
  d : Dst
  a : Src
  target : MovxTarget
deriving DecidableEq, Repr

/-- FCVT: code of 11 R279 and rounding mode. -/
structure Sfcvt where
  g : Guard
  x : Bool
  d : Dst
  a : Src
  code : Fin 16
  rm : Rm
deriving DecidableEq, Repr

/-- FCLS (11 R280). -/
structure Sfcls where
  g : Guard
  x : Bool
  d : Dst
  a : Src
  fmt : FclsFmt
deriving DecidableEq, Repr

/-- TWOS and TWOP (11 R281): `wide` selects FP64. -/
structure Spair where
  g : Guard
  x : Bool
  p : PairDst
  wide : Bool
  a : Src
  b : Src
deriving DecidableEq, Repr

/-- CSRR (11 R286). -/
structure Scsrr where
  g : Guard
  x : Bool
  d : Dst
  csr : Fin 64
deriving DecidableEq, Repr

/-- CSRW (11 R286). -/
structure Scsrw where
  g : Guard
  x : Bool
  csr : Fin 64
  b : Src
deriving DecidableEq, Repr

/-- GSET (11 R283). -/
structure Sgset where
  g : Guard
  x : Bool
  n : Fin 32
  a : Src
deriving DecidableEq, Repr

/-- LIDX (11 R284). -/
structure Slidx where
  g : Guard
  x : Bool
  d : Dst
  level : Fin 8
  field : LidxField
deriving DecidableEq, Repr

/-- TSRD (11 R285). -/
structure Stsrd where
  g : Guard
  x : Bool
  d : Dst
  n : Fin 16
deriving DecidableEq, Repr

/-- TLBI (15 R398). -/
structure Sab where
  g : Guard
  x : Bool
  a : Src
  b : Src
deriving DecidableEq, Repr

/-- V slot with destination and two sources. -/
structure V3 where
  g : Guard
  d : Dst
  a : Src
  b : Src
deriving DecidableEq, Repr

/-- V slot whose X chooses the unsigned order (12 R312). -/
structure V3x where
  g : Guard
  x : Bool
  d : Dst
  a : Src
  b : Src
deriving DecidableEq, Repr

/-- V slot with one source. -/
structure V2 where
  g : Guard
  d : Dst
  a : Src
deriving DecidableEq, Repr

/-- VZERO. -/
structure V1 where
  g : Guard
  d : Dst
deriving DecidableEq, Repr

/-- VCMP, and VANY, VALL over a compare: `k` is the mask, or the pair, in D[14:12] (12 R314, R316). -/
structure Vcmp where
  g : Guard
  cond : VCond
  k : Fin 8
  a : Src
  b : Src
deriving DecidableEq, Repr

/-- VANY and VALL over a mask (12 R316). -/
structure Vvotm where
  g : Guard
  k : MaskIx
  j : Fin 8
deriving DecidableEq, Repr

/-- VKOP (12 R317). -/
structure Vkop where
  g : Guard
  op : MaskOp
  d : MaskIx
  a : MaskIx
  b : MaskIx
deriving DecidableEq, Repr

/-- VMOVK to a mask (12 R318). -/
structure Vmkto where
  g : Guard
  k : MaskIx
  a : Src
deriving DecidableEq, Repr

/-- VMOVK from a mask (12 R318). -/
structure Vmkfr where
  g : Guard
  d : Dst
  k : MaskIx
deriving DecidableEq, Repr

/-- VREDM (12 R320): `x` unsigned order, `min` the minimum. -/
structure Vredm where
  g : Guard
  x : Bool
  d : Dst
  a : Src
  min : Bool
deriving DecidableEq, Repr

/-- VCVT (12 R321): `x` the half, `toTy` an ET code. -/
structure Vcvt where
  g : Guard
  x : Bool
  d : Dst
  a : Src
  toTy : Fin 16
  rm : Rm
deriving DecidableEq, Repr

/-- VPCK, VUPK (part) and VSATN (target code) (12 R322, R323). -/
structure Vpart where
  g : Guard
  d : Dst
  a : Src
  p : Fin 4
deriving DecidableEq, Repr

/-- VTWS (12 R325). -/
structure Vtws where
  g : Guard
  p : PairDst
  a : Src
  b : Src
deriving DecidableEq, Repr

/-- VSETT (12 R333). -/
structure Vsett where
  g : Guard
  men : Bool
  ksel : MaskIx
  et : Fin 16
deriving DecidableEq, Repr

/-- VROUND (12 R312). -/
structure Vround where
  g : Guard
  d : Dst
  a : Src
  rm : Rm
deriving DecidableEq, Repr

/-! L shapes (14 R356): `x` selects L1. -/

/-- LTSET: entry, value, field code. -/
structure Ltset where
  g : Guard
  x : Bool
  e : LteIx
  a : Src
  code : Fin 64
deriving DecidableEq, Repr

/-- LTGET: destination, entry, field code. -/
structure Ltget where
  g : Guard
  x : Bool
  d : Dst
  e : LteIx
  code : Fin 64
deriving DecidableEq, Repr

/-- LTCPY: destination and source entries. -/
structure Ltcpy where
  g : Guard
  x : Bool
  ed : LteIx
  es : LteIx
deriving DecidableEq, Repr

/-- Destination, coordinate source and entry (VLD, VGTH, SPRB; REDW, whose entry field is the tree). -/
structure Ldae where
  g : Guard
  x : Bool
  d : Dst
  a : Src
  e : Fin 32
deriving DecidableEq, Repr

/-- Entry and two sources (stores, atomics, SBEQ). -/
structure Leab where
  g : Guard
  x : Bool
  e : LteIx
  a : Src
  b : Src
deriving DecidableEq, Repr

/-- SLD, with sign extension when `sx`. -/
structure Lsld where
  g : Guard
  x : Bool
  d : Dst
  a : Src
  e : LteIx
  sx : Bool
deriving DecidableEq, Repr

/-- Destination and two sources (CPY, CPYA, DCLM). -/
structure Ldab where
  g : Guard
  x : Bool
  d : Dst
  a : Src
  b : Src
deriving DecidableEq, Repr

/-- An entry only (PUB, ACQ, REL, UNBD). -/
structure Le where
  g : Guard
  x : Bool
  e : LteIx
deriving DecidableEq, Repr

/-- Destination and entry (DIGQ). -/
structure Lde where
  g : Guard
  x : Bool
  d : Dst
  e : LteIx
deriving DecidableEq, Repr

/-- One source (DREL, FNW, QPSH, BZERO). -/
structure La where
  g : Guard
  x : Bool
  a : Src
deriving DecidableEq, Repr

/-- DWR: row, data, drawer, half (14 R368). -/
structure Ldwr where
  g : Guard
  x : Bool
  row : Fin 64
  a : Src
  drawer : Fin 32
  hi : Bool
deriving DecidableEq, Repr

/-- LSCL: SA or SB (14 R369). -/
structure Llscl where
  g : Guard
  x : Bool
  sb : Bool
  a : Src
  e : LteIx
deriving DecidableEq, Repr

/-- ACAS: the register pair code must be even and at most 30 (14 R370). -/
structure Lacas where
  g : Guard
  x : Bool
  e : LteIx
  a : Src
  pair : Fin 64
deriving DecidableEq, Repr

/-- Two sources (TDEC, BST, HGSET). -/
structure Lab where
  g : Guard
  x : Bool
  a : Src
  b : Src
deriving DecidableEq, Repr

/-- Entry and one source (BIND, ACQT, MONA, PREF). -/
structure Lea where
  g : Guard
  x : Bool
  e : LteIx
  a : Src
deriving DecidableEq, Repr

/-- No operand (FNC). -/
structure Ln where
  g : Guard
  x : Bool
deriving DecidableEq, Repr

/-- Destination only (FNI, QPOP, QLEV). -/
structure Ld where
  g : Guard
  x : Bool
  d : Dst
deriving DecidableEq, Repr

/-- SFLG: flag and target (14 R376). -/
structure Lsflg where
  g : Guard
  x : Bool
  flag : Fin 32
  a : Src
deriving DecidableEq, Repr

/-- SCNT: counter (14 R376). -/
structure Lscnt where
  g : Guard
  x : Bool
  c : Fin 32
deriving DecidableEq, Repr

/-- REDP: format 1-4, data, control (14 R380). -/
structure Lredp where
  g : Guard
  x : Bool
  fmt : Fin 8
  a : Src
  b : Src
deriving DecidableEq, Repr

/-- Destination and one source (WALW, HGGET, MANR, CPYW, BLD). -/
structure Lda where
  g : Guard
  x : Bool
  d : Dst
  a : Src
deriving DecidableEq, Repr

/-- Destination, entry and source (LTHDR). -/
structure Ldeb where
  g : Guard
  x : Bool
  d : Dst
  e : LteIx
  b : Src
deriving DecidableEq, Repr

/-! M shapes (09 R247, 13 R340). -/

/-- M slot without operands. -/
structure Mn where
  g : Guard
deriving DecidableEq, Repr

/-- A block: format, drawer (or entry), row (or row offset), block number. -/
structure Mblk where
  g : Guard
  fmt : MFmt
  drawer : Fin 32
  row : Fin 64
  kb : Fin 4
deriving DecidableEq, Repr

/-- MSHR. -/
structure Mshr where
  g : Guard
  half : Bool
  fmt : MFmt
deriving DecidableEq, Repr

/-- MDRD: output code 0 FP32, 1 FP16, 2 B16. -/
structure Mdrd where
  g : Guard
  half : Bool
  src : DrainSrc
  drawer : Fin 32
  row : Fin 64
  out : Fin 4
deriving DecidableEq, Repr

/-- MDRV. -/
structure Mdrv where
  g : Guard
  half : Bool
  src : DrainSrc
  o : Fin 8
  out : Fin 4
deriving DecidableEq, Repr

/-- MDRB: output code 0 FP32, 1 C32, 2 K27. -/
structure Mdrb where
  g : Guard
  src : DrainSrc
  brow : Fin 2048
  out : Fin 4
deriving DecidableEq, Repr

/-- MBAS and MBAS.keep. -/
structure Mbas where
  g : Guard
  cursor : Fin 2048
  stride : Fin 16
deriving DecidableEq, Repr

/-- MKST. -/
structure Mkst where
  g : Guard
  val : Fin 2048
deriving DecidableEq, Repr

/-- MTSR. -/
structure Mtsr where
  g : Guard
  all : Bool
  n : Fin 16
deriving DecidableEq, Repr

/-- MBLD and MBST. -/
structure Mrow where
  g : Guard
  drawer : Fin 32
  row : Fin 64
deriving DecidableEq, Repr

/-- MPOI. -/
structure Mpoi where
  g : Guard
  fmt : MFmt
deriving DecidableEq, Repr

/-! ### Side cores (16 R411): RV64I with M, Zicsr, Zba and Zbb. -/

/-- An integer register x0-x31. -/
abbrev Reg5 := Fin 32

/-- Branch conditions of RV64I. -/
inductive RvBranch where
  | beq | bne | blt | bge | bltu | bgeu
deriving DecidableEq, Repr

/-- Load kinds of RV64I. -/
inductive RvLoad where
  | lb | lh | lw | ld | lbu | lhu | lwu
deriving DecidableEq, Repr

/-- Store kinds of RV64I. -/
inductive RvStore where
  | sb | sh | sw | sd
deriving DecidableEq, Repr

/-- Register-register operations of RV64I, M, Zba and Zbb; a name ending in W works on 32 bits. -/
inductive RvOp where
  | add | sub | sll | slt | sltu | xor | srl | sra | or | and
  | addw | subw | sllw | srlw | sraw
  | mul | mulh | mulhsu | mulhu | div | divu | rem | remu
  | mulw | divw | divuw | remw | remuw
  | sh1add | sh2add | sh3add | adduw | sh1adduw | sh2adduw | sh3adduw
  | andn | orn | xnor | max | maxu | min | minu | rol | ror | rolw | rorw
deriving DecidableEq, Repr

/-- Register-immediate operations with a 12-bit immediate. -/
inductive RvOpImm where
  | addi | slti | sltiu | xori | ori | andi | addiw
deriving DecidableEq, Repr

/-- Shifts and rotates by an immediate amount. -/
inductive RvShImm where
  | slli | srli | srai | rori | slliuw | slliw | srliw | sraiw | roriw
deriving DecidableEq, Repr

/-- One-source operations of Zbb. -/
inductive RvUnary where
  | clz | ctz | cpop | clzw | ctzw | cpopw | sextb | sexth | zexth | orcb | rev8
deriving DecidableEq, Repr

/-- Zicsr operations. -/
inductive RvCsrOp where
  | rw | rs | rc
deriving DecidableEq, Repr

/-- One RV64 instruction of a side core. -/
inductive RvInstr where
  | lui (rd : Reg5) (imm : BitVec 20)
  | auipc (rd : Reg5) (imm : BitVec 20)
  | jal (rd : Reg5) (off : BitVec 20)
  | jalr (rd rs1 : Reg5) (imm : BitVec 12)
  | branch (k : RvBranch) (rs1 rs2 : Reg5) (off : BitVec 12)
  | load (k : RvLoad) (rd rs1 : Reg5) (imm : BitVec 12)
  | store (k : RvStore) (rs1 rs2 : Reg5) (imm : BitVec 12)
  | opImm (k : RvOpImm) (rd rs1 : Reg5) (imm : BitVec 12)
  | shImm (k : RvShImm) (rd rs1 : Reg5) (sh : Fin 64)
  | op (k : RvOp) (rd rs1 rs2 : Reg5)
  | unary (k : RvUnary) (rd rs1 : Reg5)
  | csr (k : RvCsrOp) (rd rs1 : Reg5) (csr : BitVec 12)
  | csrImm (k : RvCsrOp) (rd : Reg5) (uimm : Fin 32) (csr : BitVec 12)
  | fence
  | fenceI
  | wfi
  | ecall
  | ebreak
deriving DecidableEq, Repr

/-! ### What an event carries (04, 05, 17, 19): the item it concerns, or what comes from outside the package. -/

/-- STATE of a slot header (04 R91). -/
inductive SlotState where
  | free | busy | freeHeld | busyHeld
deriving DecidableEq, Repr

/-- A Flume or Lade slot: its header and its 256 B payload (04 R91). The CRC is a function of the rest. -/
structure Slot where
  state : SlotState
  owned : Bool
  epar : Bool
  fmt : BitVec 3
  hold : BitVec 5
  origin : BitVec 5
  stream : BitVec 12
  len : BitVec 9
  dest : BitVec 21
  cseq : BitVec 16
  key : BitVec 12
  inc : Bool
  job : BitVec 10
  miss : BitVec 21
  /-- CRDST and CRCNT when CRV is 1. -/
  credit : Option (BitVec 5 × BitVec 5)
  tgt : BitVec 52
  payload : BitVec 2048
deriving DecidableEq, Repr

/-- The rings of slots (04 R86, R117). -/
inductive Ring where
  | flume | row | col
deriving DecidableEq, Repr

/-- A slot passes a station (04 R86-R98): whether its CRC fails there, and for a Lade the slot as it comes off the link. -/
structure Pass where
  ring : Ring
  slot : Nat
  station : Nat
  bad : Bool
  arrives : Option Slot
deriving DecidableEq, Repr

/-- A Canal packet (05 R123), with the port of this package it has come in by (31 for none) and the credit counts that DW5 to DW7 brought. -/
structure Packet where
  type : BitVec 4
  vc : BitVec 2
  trimmed : Bool
  rel : Bool
  det : Bool
  pfl : BitVec 4
  hop : BitVec 2
  src : BitVec 18
  dst : BitVec 18
  sub : BitVec 2
  tenant : BitVec 10
  seq : BitVec 40
  lenM1 : BitVec 9
  aop : BitVec 5
  job : BitVec 10
  addr : BitVec 55
  opa : Word
  opb : Word
  payload : List Byte
  via : BitVec 5
  counts : List (BitVec 16)
deriving DecidableEq, Repr

/-- An inbound access at a host port (19 R459-R465): the port, the die of the TDI whose IDE selective stream brings it, the
Requester ID, the function, the BAR (0, 2, 4) and the offset. -/
structure HostAccess where
  port : Fin 4
  ide : Option (Fin 16)
  rid : BitVec 16
  fn : Fin 17
  bar : Nat
  off : Nat
deriving DecidableEq, Repr

/-- PCIe AtomicOps (19 R459). -/
inductive HostAtomicOp where
  | fetchAdd | swap | cas
deriving DecidableEq, Repr

/-- Why a seat is pre-empted (17 R437). -/
inductive Preempt where
  | priority | tenant | host | snapshot
deriving DecidableEq, Repr

/-- Tables of a die's cistern (03 R60; 15 R388, R404, R405). -/
inductive DieTable where
  | contexts | tasks | reuse | quotas
deriving DecidableEq, Repr

/-- Management registers without a row of their own (05 R134, R146; 17 R438; 19 R462-R465; 03 R64). -/
inductive MgmtReg where
  | fabctl | rrctl | hsalt | rwdog
  | tctx (tenant : Nat)
  | best (station : Nat)
  | slctl (die : Nat)
  | fmap
  | dfctl (die : Nat)
  | windowClass (word : Nat)
  | mreq (port : Nat)
  | rqt (port entry : Nat)
  | xmwin (window : Nat)
  /-- A tree-node entry of a core's router (14 R379). -/
  | treeNode (core tree : Nat)
  /-- The tenant tag of a 64 KiB block of a die's cistern, or of the I/O cistern (02 R48). -/
  | blockTag (die : Option Nat) (block : Nat)
  /-- Where a table of a die stands in its cistern. -/
  | tableBase (die : Nat) (table : DieTable)
  /-- The trim counter of an output port (05 R149). -/
  | trims (port : Nat)
deriving DecidableEq, Repr

/-- TDISP messages that move the interface state (19 R466). -/
inductive TdispMsg where
  | lockInterface | startInterface | stopInterface | getState | getReport
deriving DecidableEq, Repr

/-- A firmware stage as the root of trust finds it: its image, and whether its HSS/LMS signature verifies (19 R471). -/
structure FirmwareStage where
  image : List Byte
  genuine : Bool
deriving DecidableEq, Repr

/-- One step of the part: one constructor per row of the opcode table. -/
inductive Instr where
  /-- PSC (10 R260). -/
  | psc (f : Ppsc)
  /-- PIM (10 R260). -/
  | pim (f : Pimm)
  /-- PIMH (10 R260). -/
  | pimh (f : Pimm)
  /-- NOPB (10 R260). -/
  | nopb (f : Bn)
  /-- BPT (10 R260). -/
  | bpt (f : Bpt)
  /-- BPTR (10 R260). -/
  | bptr (f : Bba)
  /-- BPTR_REL (10 R260). -/
  | bptrRel (f : Bba)
  /-- BTR (10 R260). -/
  | btr (f : Bb)
  /-- BCL (10 R260). -/
  | bcl (f : Bb)
  /-- BCL_A (10 R260). -/
  | bclA (f : Ba)
  /-- BRTN (10 R260). -/
  | brtn (f : Bn)
  /-- BRTN_A (10 R260). -/
  | brtnA (f : Ba)
  /-- LSET (10 R260). -/
  | lset (f : Blset)
  /-- LSET_REG (10 R260). -/
  | lsetReg (f : Bab)
  /-- LSTR (10 R260). -/
  | lstr (f : Blstr)
  /-- LBRK (10 R260). -/
  | lbrk (f : Blbrk)
  /-- LRRB (10 R260). -/
  | lrrb (f : Ba)
  /-- YLD (10 R260). -/
  | yld (f : Bn)
  /-- YLDP (10 R260). -/
  | yldp (f : Bn)
  /-- WTC (10 R260). -/
  | wtc (f : Ba)
  /-- WFL (10 R260). -/
  | wfl (f : Bwfl)
  /-- WMON (10 R260). -/
  | wmon (f : Ba)
  /-- TSPN (10 R260). -/
  | tspn (f : Bab)
  /-- TEND (10 R260). -/
  | tend (f : Bn)
  /-- TRAP (10 R260). -/
  | trap (f : Ba)
  /-- TRAP_SV (10 R260). -/
  | trapSv (f : Ba)
  /-- RTT (10 R260). -/
  | rtt (f : Bn)
  /-- ASK (10 R260). -/
  | ask (f : Ba)
  /-- ASKR (10 R260). -/
  | askr (f : Ba)
  /-- SNAP (10 R260). -/
  | snap (f : Ba)
  /-- SNAPW (10 R260). -/
  | snapw (f : Ba)
  /-- ADD (10 R260). -/
  | add (f : S3)
  /-- SUB (10 R260). -/
  | sub (f : S3)
  /-- MUL (10 R260). -/
  | mul (f : S3)
  /-- MULH (10 R260). -/
  | mulh (f : S3)
  /-- MULHU (10 R260). -/
  | mulhu (f : S3)
  /-- DIV (10 R260). -/
  | div (f : S3)
  /-- DIVU (10 R260). -/
  | divu (f : S3)
  /-- REM (10 R260). -/
  | rem (f : S3)
  /-- REMU (10 R260). -/
  | remu (f : S3)
  /-- AND (10 R260). -/
  | and (f : S3)
  /-- OR (10 R260). -/
  | or (f : S3)
  /-- XOR (10 R260). -/
  | xor (f : S3)
  /-- ANDN (10 R260). -/
  | andn (f : S3)
  /-- SHL (10 R260). -/
  | shl (f : S3)
  /-- SHR (10 R260). -/
  | shr (f : S3)
  /-- SAR (10 R260). -/
  | sar (f : S3)
  /-- ROTL (10 R260). -/
  | rotl (f : S3)
  /-- CLZ (10 R260). -/
  | clz (f : S2)
  /-- CTZ (10 R260). -/
  | ctz (f : S2)
  /-- POPC (10 R260). -/
  | popc (f : S2)
  /-- MIN (10 R260). -/
  | min (f : S3)
  /-- MAX (10 R260). -/
  | max (f : S3)
  /-- MINU (10 R260). -/
  | minu (f : S3)
  /-- MAXU (10 R260). -/
  | maxu (f : S3)
  /-- SEL (10 R260). -/
  | sel (f : S3)
  /-- BEXT (10 R260). -/
  | bext (f : S3)
  /-- BINS (10 R260). -/
  | bins (f : S3)
  /-- ADDW (10 R260). -/
  | addw (f : S3)
  /-- CMP (10 R260). -/
  | cmp (f : Scmp)
  /-- FCMP (10 R260). -/
  | fcmp (f : Sfcmp)
  /-- QOP (10 R260). -/
  | qop (f : Sqop)
  /-- MOVX (10 R260). -/
  | movx (f : Smovx)
  /-- FADDS (10 R260). -/
  | fadds (f : S3)
  /-- FADDD (10 R260). -/
  | faddd (f : S3)
  /-- FSUBS (10 R260). -/
  | fsubs (f : S3)
  /-- FSUBD (10 R260). -/
  | fsubd (f : S3)
  /-- FMULS (10 R260). -/
  | fmuls (f : S3)
  /-- FMULD (10 R260). -/
  | fmuld (f : S3)
  /-- FMAS (10 R260). -/
  | fmas (f : S3)
  /-- FMAD (10 R260). -/
  | fmad (f : S3)
  /-- FDIVS (10 R260). -/
  | fdivs (f : S3)
  /-- FDIVD (10 R260). -/
  | fdivd (f : S3)
  /-- FSQRS (10 R260). -/
  | fsqrs (f : S2)
  /-- FSQRD (10 R260). -/
  | fsqrd (f : S2)
  /-- FMINS (10 R260). -/
  | fmins (f : S3)
  /-- FMAXS (10 R260). -/
  | fmaxs (f : S3)
  /-- FMIND (10 R260). -/
  | fmind (f : S3)
  /-- FMAXD (10 R260). -/
  | fmaxd (f : S3)
  /-- FCVT (10 R260). -/
  | fcvt (f : Sfcvt)
  /-- FCLS (10 R260). -/
  | fcls (f : Sfcls)
  /-- TWOS (10 R260). -/
  | twos (f : Spair)
  /-- TWOP (10 R260). -/
  | twop (f : Spair)
  /-- CSRR (10 R260). -/
  | csrr (f : Scsrr)
  /-- CSRW (10 R260). -/
  | csrw (f : Scsrw)
  /-- GSET (10 R260). -/
  | gset (f : Sgset)
  /-- LIDX (10 R260). -/
  | lidx (f : Slidx)
  /-- CYCR (10 R260). -/
  | cycr (f : S1)
  /-- MOVI (10 R260). -/
  | movi (f : Smovi)
  /-- TSRD (10 R260). -/
  | tsrd (f : Stsrd)
  /-- TLBI (10 R260). -/
  | tlbi (f : Sab)
  /-- VADD (10 R260). -/
  | vadd (f : V3)
  /-- VSUB (10 R260). -/
  | vsub (f : V3)
  /-- VMUL (10 R260). -/
  | vmul (f : V3)
  /-- VFMA (10 R260). -/
  | vfma (f : V3)
  /-- VFMS (10 R260). -/
  | vfms (f : V3)
  /-- VDIV (10 R260). -/
  | vdiv (f : V3)
  /-- VSQRT (10 R260). -/
  | vsqrt (f : V2)
  /-- VMIN (10 R260). -/
  | vmin (f : V3x)
  /-- VMAX (10 R260). -/
  | vmax (f : V3x)
  /-- VABS (10 R260). -/
  | vabs (f : V2)
  /-- VNEG (10 R260). -/
  | vneg (f : V2)
  /-- VEXP2 (10 R260). -/
  | vexp2 (f : V2)
  /-- VLOG2 (10 R260). -/
  | vlog2 (f : V2)
  /-- VRCP (10 R260). -/
  | vrcp (f : V2)
  /-- VRSQ (10 R260). -/
  | vrsq (f : V2)
  /-- VCMP (10 R260). -/
  | vcmp (f : Vcmp)
  /-- VSEL (10 R260). -/
  | vsel (f : V3)
  /-- VANY (10 R260). -/
  | vany (f : Vcmp)
  /-- VANY_MASK (10 R260). -/
  | vanyMask (f : Vvotm)
  /-- VALL (10 R260). -/
  | vall (f : Vcmp)
  /-- VALL_MASK (10 R260). -/
  | vallMask (f : Vvotm)
  /-- VKOP (10 R260). -/
  | vkop (f : Vkop)
  /-- VAND (10 R260). -/
  | vand (f : V3)
  /-- VOR (10 R260). -/
  | vor (f : V3)
  /-- VXOR (10 R260). -/
  | vxor (f : V3)
  /-- VSHL (10 R260). -/
  | vshl (f : V3)
  /-- VSHR (10 R260). -/
  | vshr (f : V3)
  /-- VSAR (10 R260). -/
  | vsar (f : V3)
  /-- VBCST (10 R260). -/
  | vbcst (f : V3)
  /-- VXTR (10 R260). -/
  | vxtr (f : V3)
  /-- VIOTA (10 R260). -/
  | viota (f : V3)
  /-- VPERM (10 R260). -/
  | vperm (f : V3)
  /-- VBFLY (10 R260). -/
  | vbfly (f : V3)
  /-- VROTL (10 R260). -/
  | vrotl (f : V3)
  /-- VREDA (10 R260). -/
  | vreda (f : V2)
  /-- VREDM (10 R260). -/
  | vredm (f : Vredm)
  /-- VCVT (10 R260). -/
  | vcvt (f : Vcvt)
  /-- VPCK (10 R260). -/
  | vpck (f : Vpart)
  /-- VUPK (10 R260). -/
  | vupk (f : Vpart)
  /-- VCMUL (10 R260). -/
  | vcmul (f : V3)
  /-- VCMAC (10 R260). -/
  | vcmac (f : V3)
  /-- VTWS (10 R260). -/
  | vtws (f : Vtws)
  /-- VCADD (10 R260). -/
  | vcadd (f : V3)
  /-- VHAD (10 R260). -/
  | vhad (f : V2)
  /-- VSGN (10 R260). -/
  | vsgn (f : V3)
  /-- VQNT (10 R260). -/
  | vqnt (f : V3)
  /-- VDQ (10 R260). -/
  | vdq (f : V2)
  /-- VCRT (10 R260). -/
  | vcrt (f : V2)
  /-- VRES (10 R260). -/
  | vres (f : V2)
  /-- VSETT (10 R260). -/
  | vsett (f : Vsett)
  /-- VMOVK_TO_MASK (10 R260). -/
  | vmovkToMask (f : Vmkto)
  /-- VMOVK_TO_REG (10 R260). -/
  | vmovkToReg (f : Vmkfr)
  /-- VCLS (10 R260). -/
  | vcls (f : V2)
  /-- VROUND (10 R260). -/
  | vround (f : Vround)
  /-- VMULH (10 R260). -/
  | vmulh (f : V3x)
  /-- VABSD (10 R260). -/
  | vabsd (f : V3x)
  /-- VCLZ (10 R260). -/
  | vclz (f : V2)
  /-- VPOPC (10 R260). -/
  | vpopc (f : V2)
  /-- VSATN (10 R260). -/
  | vsatn (f : Vpart)
  /-- VSCL (10 R260). -/
  | vscl (f : V3)
  /-- VMIX (10 R260). -/
  | vmix (f : V3)
  /-- VSPLT (10 R260). -/
  | vsplt (f : V3)
  /-- VZERO (10 R260). -/
  | vzero (f : V1)
  /-- LTSET (10 R260). -/
  | ltset (f : Ltset)
  /-- LTGET (10 R260). -/
  | ltget (f : Ltget)
  /-- LTCPY (10 R260). -/
  | ltcpy (f : Ltcpy)
  /-- VLD (10 R260). -/
  | vld (f : Ldae)
  /-- VLD_RAW (10 R260). -/
  | vldRaw (f : Ldae)
  /-- VST (10 R260). -/
  | vst (f : Leab)
  /-- VST_RAW (10 R260). -/
  | vstRaw (f : Leab)
  /-- SLD (10 R260). -/
  | sld (f : Lsld)
  /-- SST (10 R260). -/
  | sst (f : Leab)
  /-- VGTH (10 R260). -/
  | vgth (f : Ldae)
  /-- VSCT (10 R260). -/
  | vsct (f : Leab)
  /-- CPY (10 R260). -/
  | cpy (f : Ldab)
  /-- CPYA (10 R260). -/
  | cpya (f : Ldab)
  /-- PUB (10 R260). -/
  | pub (f : Le)
  /-- DCLM (10 R260). -/
  | dclm (f : Ldab)
  /-- DREL (10 R260). -/
  | drel (f : La)
  /-- DWR (10 R260). -/
  | dwr (f : Ldwr)
  /-- LSCL (10 R260). -/
  | lscl (f : Llscl)
  /-- AADD (10 R260). -/
  | aadd (f : Leab)
  /-- AADDF (10 R260). -/
  | aaddf (f : Leab)
  /-- AADDK (10 R260). -/
  | aaddk (f : Leab)
  /-- AMIN (10 R260). -/
  | amin (f : Leab)
  /-- AMAX (10 R260). -/
  | amax (f : Leab)
  /-- AMINU (10 R260). -/
  | aminu (f : Leab)
  /-- AMAXU (10 R260). -/
  | amaxu (f : Leab)
  /-- AXCH (10 R260). -/
  | axch (f : Leab)
  /-- ACAS (10 R260). -/
  | acas (f : Lacas)
  /-- AAND (10 R260). -/
  | aand (f : Leab)
  /-- AOR (10 R260). -/
  | aor (f : Leab)
  /-- AXOR (10 R260). -/
  | axor (f : Leab)
  /-- TDEC (10 R260). -/
  | tdec (f : Lab)
  /-- BIND (10 R260). -/
  | bind (f : Lea)
  /-- UNBD (10 R260). -/
  | unbd (f : Le)
  /-- ACQ (10 R260). -/
  | acq (f : Le)
  /-- REL (10 R260). -/
  | rel (f : Le)
  /-- ACQT (10 R260). -/
  | acqt (f : Lea)
  /-- FNC (10 R260). -/
  | fnc (f : Ln)
  /-- FNI (10 R260). -/
  | fni (f : Ld)
  /-- FNW (10 R260). -/
  | fnw (f : La)
  /-- SFLG (10 R260). -/
  | sflg (f : Lsflg)
  /-- SCNT (10 R260). -/
  | scnt (f : Lscnt)
  /-- SBEQ (10 R260). -/
  | sbeq (f : Leab)
  /-- REDP (10 R260). -/
  | redp (f : Lredp)
  /-- REDW (10 R260). -/
  | redw (f : Ldae)
  /-- QPOP (10 R260). -/
  | qpop (f : Ld)
  /-- QPSH (10 R260). -/
  | qpsh (f : La)
  /-- QLEV (10 R260). -/
  | qlev (f : Ld)
  /-- WALW (10 R260). -/
  | walw (f : Lda)
  /-- MONA (10 R260). -/
  | mona (f : Lea)
  /-- DIGQ (10 R260). -/
  | digq (f : Lde)
  /-- HGSET (10 R260). -/
  | hgset (f : Lab)
  /-- HGGET (10 R260). -/
  | hgget (f : Lda)
  /-- MANR (10 R260). -/
  | manr (f : Lda)
  /-- PREF (10 R260). -/
  | pref (f : Lea)
  /-- BLD (10 R260). -/
  | bld (f : Lda)
  /-- BST (10 R260). -/
  | bst (f : Lab)
  /-- BZERO (10 R260). -/
  | bzero (f : La)
  /-- CPYW (10 R260). -/
  | cpyw (f : Lda)
  /-- LTHDR (10 R260). -/
  | lthdr (f : Ldeb)
  /-- SPRB (10 R260). -/
  | sprb (f : Ldae)
  /-- MNOP (10 R260). -/
  | mnop (f : Mn)
  /-- MSHB (10 R260). -/
  | mshb (f : Mblk)
  /-- MSHR (10 R260). -/
  | mshr (f : Mshr)
  /-- MSWP (10 R260). -/
  | mswp (f : Mn)
  /-- MPSA (10 R260). -/
  | mpsa (f : Mblk)
  /-- MPSS (10 R260). -/
  | mpss (f : Mblk)
  /-- MPRA (10 R260). -/
  | mpra (f : Mblk)
  /-- MPRS (10 R260). -/
  | mprs (f : Mblk)
  /-- MDRD (10 R260). -/
  | mdrd (f : Mdrd)
  /-- MDRV (10 R260). -/
  | mdrv (f : Mdrv)
  /-- MDRB (10 R260). -/
  | mdrb (f : Mdrb)
  /-- MBAS (10 R260). -/
  | mbas (f : Mbas)
  /-- MBAS_KEEP (10 R260). -/
  | mbasKeep (f : Mbas)
  /-- MZRO (10 R260). -/
  | mzro (f : Mn)
  /-- MKST (10 R260). -/
  | mkst (f : Mkst)
  /-- MKRD (10 R260). -/
  | mkrd (f : Mn)
  /-- MTSR (10 R260). -/
  | mtsr (f : Mtsr)
  /-- MBLD (10 R260). -/
  | mbld (f : Mrow)
  /-- MBST (10 R260). -/
  | mbst (f : Mrow)
  /-- MSYN (10 R260). -/
  | msyn (f : Mn)
  /-- MPOI (10 R260). -/
  | mpoi (f : Mpoi)
  /-- JQ_PUSH (16 R414). -/
  | jqPush (s : Reg5)
  /-- JQ_PULL (16 R414). -/
  | jqPull (d : Reg5)
  /-- JQ_PULL_LEV (16 R414). -/
  | jqPullLev (d : Reg5)
  /-- J_CPY (16 R414). -/
  | jCpy (d s t : Reg5)
  /-- J_WTC (16 R414). -/
  | jWtc (d s : Reg5)
  /-- J_DCLM (16 R414). -/
  | jDclm (d s t : Reg5)
  /-- J_LTE (16 R414). -/
  | jLte (d s : Reg5)
  /-- J_LTE_W (16 R414). -/
  | jLteW (s t : Reg5)
  /-- J_FLAG (16 R414). -/
  | jFlag (s : Reg5)
  /-- J_CYC (16 R414). -/
  | jCyc (d : Reg5)
  /-- J_PUB (16 R414). -/
  | jPub (e s : Reg5)
  /-- J_ACQ (16 R414). -/
  | jAcq (e s : Reg5)
  /-- J_REL (16 R414). -/
  | jRel (e s : Reg5)
  /-- J_SBEQ (16 R414). -/
  | jSbeq (e s t : Reg5)
  /-- SIDE_CORE_RV64_INSTRUCTION (16 R414). -/
  | sideCoreRv64Instruction (i : RvInstr)
  /-- SIDE_CORE_EXCEPTION (95). -/
  | sideCoreException (c : Nat) (storer : Bool)
  /-- SCFLT_WRITE (95). -/
  | scfltWrite (c : Nat) (storer : Bool) (pc : Word)
  /-- RESULT_LAND (95). -/
  | resultLand (c : Nat)
  /-- PUSH_LAND (95). -/
  | pushLand (c : Nat)
  /-- ICACHE_FILL (95). -/
  | icacheFill (c : Nat)
  /-- OUTER_LOAD_ARRIVAL (95). -/
  | outerLoadArrival (c k : Nat)
  /-- REMOTE_TIMEOUT (95). -/
  | remoteTimeout (c k : Nat)
  /-- REMOTE_REFUSAL (95). -/
  | remoteRefusal (c k : Nat)
  /-- POSTED_WRITE_PERFORM (95). -/
  | postedWritePerform (id : Nat)
  /-- RELEASE_PERFORM (95). -/
  | releasePerform (id : Nat)
  /-- ARMED_GRANULE_COPY (95). -/
  | armedGranuleCopy (d ctx va : Nat)
  /-- PAGE_WALK (95). -/
  | pageWalk (d : Nat)
  /-- PAGE_WALK_COMPLETE (95). -/
  | pageWalkComplete (d k : Nat)
  /-- COPY_COMPLETE (95). -/
  | copyComplete (c id : Nat)
  /-- COPY_FAULT (95). -/
  | copyFault (c id : Nat)
  /-- DRAWER_ROW_FILLED (95). -/
  | drawerRowFilled (c id : Nat)
  /-- TLBI_COMPLETE (95). -/
  | tlbiComplete (id : Nat)
  /-- PROMISE_REACHED (95). -/
  | promiseReached (c n : Nat)
  /-- STATION_FLAG_SET (95). -/
  | stationFlagSet (k : Nat)
  /-- FLAG_TIMEOUT (95). -/
  | flagTimeout (c n : Nat)
  /-- MONITOR_FIRE (95). -/
  | monitorFire (c n : Nat)
  /-- MONITOR_TIMEOUT (95). -/
  | monitorTimeout (c n : Nat)
  /-- WMON_TIMEOUT (95). -/
  | wmonTimeout (c n : Nat)
  /-- PARK_WAKE (95). -/
  | parkWake (c n : Nat)
  /-- PARK_TIMEOUT_WAKE (95). -/
  | parkTimeoutWake (c n : Nat)
  /-- ACQT_REREAD (95). -/
  | acqtReread (c n : Nat)
  /-- LEAVE_GRANT (95). -/
  | leaveGrant (d : Nat)
  /-- REDUCTION_PACKET_ARRIVAL (95). -/
  | reductionPacketArrival (c k : Nat)
  /-- REDUCTION_ROUTER_TIMEOUT (95). -/
  | reductionRouterTimeout (c tree : Nat)
  /-- REDUCTION_WAIT_TIMEOUT (95). -/
  | reductionWaitTimeout (c n : Nat)
  /-- SPAN_WATCHDOG (95). -/
  | spanWatchdog (c : Nat)
  /-- TASK_RELEASE (95). -/
  | taskRelease (d record : Nat) (fail : Bool)
  /-- ISSUE_SELECT (95). -/
  | issueSelect (c : Nat)
  /-- SLUICE_BIND (95). -/
  | sluiceBind (c : Nat)
  /-- DISPATCH_COMPLETE (95). -/
  | dispatchComplete (c n : Nat)
  /-- SCRATCH_FILL_COMPLETE (95). -/
  | scratchFillComplete (c n : Nat)
  /-- SEAT_RESTORE_COMPLETE (95). -/
  | seatRestoreComplete (c n : Nat)
  /-- PREEMPT_REQUEST (95). -/
  | preemptRequest (c n : Nat) (why : Preempt)
  /-- FORCED_SAVE (95). -/
  | forcedSave (c n : Nat)
  /-- SEAT_SAVE_COMPLETE (95). -/
  | seatSaveComplete (c n : Nat)
  /-- TASK_END_SUCCESSORS (95). -/
  | taskEndSuccessors (d record : Nat)
  /-- REUSE_LOOKUP (95). -/
  | reuseLookup (d record : Nat)
  /-- REUSE_HIT_COMPLETE (95). -/
  | reuseHitComplete (d record : Nat)
  /-- HOST_FETCHADD_RESV (95). -/
  | hostFetchaddResv (a : HostAccess) (amount : Word)
  /-- QUEUE_TAIL_WRITE (95). -/
  | queueTailWrite (a : HostAccess) (value : Word)
  /-- HOST_POSTED_WRITE (95). -/
  | hostPostedWrite (a : HostAccess) (data : List Byte)
  /-- FLAG_CLASS_WRITE_PERFORM (95). -/
  | flagClassWritePerform (port : Nat)
  /-- HOST_READ (95). -/
  | hostRead (a : HostAccess) (len : Nat)
  /-- HOST_ATOMIC (95). -/
  | hostAtomic (a : HostAccess) (op : HostAtomicOp) (wide : Bool) (value compare : Word)
  /-- HOST_BAR4_ACCESS (95). -/
  | hostBar4Access (a : HostAccess) (len : Nat) (data : Option (List Byte))
  /-- LAUNCH_QUEUE_POLL (95). -/
  | launchQueuePoll (q : Nat)
  /-- TASK_CREATION (95). -/
  | taskCreation (slot d : Nat)
  /-- LAUNCH_COMPLETION (95). -/
  | launchCompletion (slot : Nat)
  /-- STREAM_CLOSE_FOLLOWUP (95). -/
  | streamCloseFollowup (k : Nat)
  /-- GATE_PASS (95). -/
  | gatePass (p : Pass)
  /-- GATE_LOAD (95). -/
  | gateLoad (p : Pass)
  /-- GATE_COPY (95). -/
  | gateCopy (p : Pass)
  /-- GATE_ADD (95). -/
  | gateAdd (p : Pass)
  /-- GATE_TAKE (95). -/
  | gateTake (p : Pass)
  /-- GATE_EMPTY (95). -/
  | gateEmpty (p : Pass)
  /-- STATION0_CLASS_CHANGE (95). -/
  | station0ClassChange (p : Pass)
  /-- STATION0_EMPTY_STALE (95). -/
  | station0EmptyStale (p : Pass)
  /-- BE_TAKE_SLOT (95). -/
  | beTakeSlot (p : Pass)
  /-- BE_HOLD (95). -/
  | beHold (p : Pass)
  /-- BE_RESEND (95). -/
  | beResend (p : Pass)
  /-- BE_WRITE (95). -/
  | beWrite (p : Pass)
  /-- BE_READ_REQUEST (95). -/
  | beReadRequest (p : Pass)
  /-- BE_READ_RESPONSE (95). -/
  | beReadResponse (p : Pass)
  /-- BE_COUNTER_DECREMENT (95). -/
  | beCounterDecrement (p : Pass)
  /-- BE_ATOMIC_REQUEST (95). -/
  | beAtomicRequest (p : Pass)
  /-- BE_ATOMIC_RESPONSE (95). -/
  | beAtomicResponse (p : Pass)
  /-- BE_SBEQ_MESSAGE (95). -/
  | beSbeqMessage (p : Pass)
  /-- BE_RESERVED_KIND (95). -/
  | beReservedKind (p : Pass)
  /-- LADE_BRING_UP (95). -/
  | ladeBringUp (ring : Ring) (n hops : Nat)
  /-- CANAL_INJECT (95). -/
  | canalInject (k : Nat)
  /-- CANAL_TRIM (95). -/
  | canalTrim (port : Nat) (p : Packet)
  /-- CANAL_READ_REQUEST (95). -/
  | canalReadRequest (p : Packet)
  /-- CANAL_READ_RESPONSE (95). -/
  | canalReadResponse (p : Packet)
  /-- CANAL_POSTED_WRITE (95). -/
  | canalPostedWrite (p : Packet)
  /-- CANAL_AADD (95). -/
  | canalAadd (p : Packet)
  /-- CANAL_AADDF (95). -/
  | canalAaddf (p : Packet)
  /-- CANAL_AADDK (95). -/
  | canalAaddk (p : Packet)
  /-- CANAL_AMIN (95). -/
  | canalAmin (p : Packet)
  /-- CANAL_AMAX (95). -/
  | canalAmax (p : Packet)
  /-- CANAL_AMINU (95). -/
  | canalAminu (p : Packet)
  /-- CANAL_AMAXU (95). -/
  | canalAmaxu (p : Packet)
  /-- CANAL_AXCH (95). -/
  | canalAxch (p : Packet)
  /-- CANAL_ACAS (95). -/
  | canalAcas (p : Packet)
  /-- CANAL_AAND (95). -/
  | canalAand (p : Packet)
  /-- CANAL_AOR (95). -/
  | canalAor (p : Packet)
  /-- CANAL_AXOR (95). -/
  | canalAxor (p : Packet)
  /-- CANAL_ACQUIRE_READ (95). -/
  | canalAcquireRead (p : Packet)
  /-- CANAL_TASK_DECREMENT (95). -/
  | canalTaskDecrement (p : Packet)
  /-- CANAL_PUBLICATION (95). -/
  | canalPublication (p : Packet)
  /-- CANAL_RESERVED_AOP (95). -/
  | canalReservedAop (p : Packet)
  /-- CANAL_ATOMIC_RESPONSE (95). -/
  | canalAtomicResponse (p : Packet)
  /-- CANAL_RE_REQUEST (95). -/
  | canalReRequest (p : Packet)
  /-- CANAL_ACKNOWLEDGEMENT (95). -/
  | canalAcknowledgement (p : Packet)
  /-- CANAL_SNAPSHOT_MARKER (95). -/
  | canalSnapshotMarker (p : Packet)
  /-- CANAL_REFUSAL (95). -/
  | canalRefusal (p : Packet)
  /-- CANAL_RESERVED_TYPE (95). -/
  | canalReservedType (p : Packet)
  /-- CANAL_PACKET_PERFORM (95). -/
  | canalPacketPerform (peer seq : Nat)
  /-- CANAL_HOLE_REREQUEST (95). -/
  | canalHoleRerequest (peer seq : Nat)
  /-- CANAL_TOKEN_REFILL (95). -/
  | canalTokenRefill (peer : Nat)
  /-- CANAL_ACK_SEND (95). -/
  | canalAckSend (peer : Nat)
  /-- RESPONDER_WATCHDOG (95). -/
  | responderWatchdog (peer seq : Nat)
  /-- LINK_IDLE (95). -/
  | linkIdle (port : Nat) (freed : List (BitVec 16))
  /-- LINK_RESYNC (95). -/
  | linkResync (port : Nat) (freed received : List (BitVec 16))
  /-- LINK_ADV (95). -/
  | linkAdv (port : Nat) (occupancy : List Byte)
  /-- LINK_RKREQ (95). -/
  | linkRkreq (port generation : Nat)
  /-- LINK_RKMSG (95). -/
  | linkRkmsg (port : Nat) (fragment : List Byte)
  /-- LINK_KEYSW (95). -/
  | linkKeysw (port : Nat)
  /-- LINK_ADV_TIMER (95). -/
  | linkAdvTimer (port : Nat)
  /-- LINK_RESYNC_TIMER (95). -/
  | linkResyncTimer (port : Nat)
  /-- LINK_REPLAY_REQUEST (95). -/
  | linkReplayRequest (port rpn : Nat)
  /-- LINK_RETIRE (95). -/
  | linkRetire (port : Nat)
  /-- REKEY_START (95). -/
  | rekeyStart (port : Nat)
  /-- REKEY_STOP (95). -/
  | rekeyStop (port : Nat)
  /-- REKEY_TIMEOUT (95). -/
  | rekeyTimeout (port : Nat)
  /-- KEY_LOAD (95). -/
  | keyLoad (material : Option (BitVec 512))
  /-- KEY_RETIRE (95). -/
  | keyRetire
  /-- KEY_QUERY (95). -/
  | keyQuery
  /-- KEY_BAD_REQUEST (95). -/
  | keyBadRequest
  /-- KEY_DOORBELL_INVALID (95). -/
  | keyDoorbellInvalid
  /-- WALLOW_WRITE (95). -/
  | wallowWrite (i : Nat) (value : Word)
  /-- PCAP_WRITE (95). -/
  | pcapWrite (value : Word)
  /-- POWER_CLASS_CHANGE (95). -/
  | powerClassChange
  /-- MANAGEMENT_REGISTER_WRITE (95). -/
  | managementRegisterWrite (r : MgmtReg) (value : Word)
  /-- THROTTLE (95). -/
  | throttle (d : Nat) (on : Bool)
  /-- THERMAL_SHUTDOWN (95). -/
  | thermalShutdown
  /-- DIE_RESET (95). -/
  | dieReset (d : Nat)
  /-- DIE_READMIT (95). -/
  | dieReadmit (d : Nat)
  /-- TDISP_MESSAGE (95). -/
  | tdispMessage (d : Nat) (m : TdispMsg)
  /-- SPDM_REQUEST (95). -/
  | spdmRequest (fn index : Nat)
  /-- PORT_RESET (95). -/
  | portReset (port : Nat)
  /-- BOOT (95). -/
  | boot (stages : List FirmwareStage) (fuses : List Byte)
  /-- CORE_OWNER_CHANGE (95). -/
  | coreOwnerChange (c tenant : Nat)
  /-- SCRUB_COMPLETE (95). -/
  | scrubComplete (c : Nat)
  /-- JOB_REGISTER (95). -/
  | jobRegister (job tenant ctx : Nat) (packages : List Nat)
  /-- JOB_DEREGISTER (95). -/
  | jobDeregister (job : Nat)
  /-- SNAPSHOT_REQUEST_RECEIPT (95). -/
  | snapshotRequestReceipt (d job : Nat)
  /-- SNAPSHOT_SAVED (95). -/
  | snapshotSaved (d job : Nat)
  /-- SNAPSHOT_RESUME (95). -/
  | snapshotResume (job : Nat)
  /-- SNAPSHOT_SWEEP_COMPLETE (95). -/
  | snapshotSweepComplete (job : Nat)
  /-- MANIFEST_COMMIT (95). -/
  | manifestCommit (job : Nat) (signature : List Byte)
  /-- UNCORRECTABLE_READ (95). -/
  | uncorrectableRead (addr : Nat) (again : Bool) (reader : Option (Nat × Nat × Nat))
  /-- FLUME_HOP_FAILURE (95). -/
  | flumeHopFailure (station : Nat) (again : Bool)
  /-- ROLLBACK (95). -/
  | rollback (job : Nat) (verified : Bool) (frames : List (Nat × Nat))
  /-- ILLEGAL_BUNDLE (95). -/
  | illegalBundle (c : Nat)
  /-- REUSE_INSERT_COMPLETE (95). -/
  | reuseInsertComplete (d record : Nat)
  /-- ACQUIRE_READ_PERFORMED (95). -/
  | acquireReadPerformed (c n : Nat)
  /-- PREFETCH_READ_ARRIVAL (95). -/
  | prefetchReadArrival (c n : Nat)
  /-- RPN_ACKNOWLEDGEMENT (95). -/
  | rpnAcknowledgement (port rpn : Nat)
deriving DecidableEq, Repr

end Sys2Proof
end

