-- ==== Sys2Proof/Machine/Num.lean ====
section
/-! DEFINITION. Number formats and arithmetic (08): floating point computed exactly and rounded once, K27 residues, scales,
rotation and quantisation. Bit patterns are naturals here; the meanings place them in registers. -/

namespace Sys2Proof.Machine

/-! ### Floating point (08 R206-R213) -/

/-- The four floating-point formats (08 R206). -/
inductive FpFmt where
  | f64 | f32 | f16 | b16
deriving DecidableEq, Repr

/-- Exponent field width. -/
def FpFmt.ebits : FpFmt → Nat
  | .f64 => 11 | .f32 => 8 | .f16 => 5 | .b16 => 8
/-- Fraction field width. -/
def FpFmt.mbits : FpFmt → Nat
  | .f64 => 52 | .f32 => 23 | .f16 => 10 | .b16 => 7
/-- Format width in bits. -/
def FpFmt.width : FpFmt → Nat
  | .f64 => 64 | .f32 => 32 | .f16 => 16 | .b16 => 16
/-- Exponent bias. -/
def FpFmt.bias (f : FpFmt) : Nat := 2 ^ (f.ebits - 1) - 1
/-- The canonical quiet NaN (08 R209). -/
def FpFmt.nan (f : FpFmt) : Nat := (2 ^ f.ebits - 1) * 2 ^ f.mbits + 2 ^ (f.mbits - 1)
/-- The infinity of a sign. -/
def FpFmt.inf (f : FpFmt) (neg : Bool) : Nat :=
  (if neg then 2 ^ (f.width - 1) else 0) + (2 ^ f.ebits - 1) * 2 ^ f.mbits
/-- The zero of a sign. -/
def FpFmt.zero (f : FpFmt) (neg : Bool) : Nat := if neg then 2 ^ (f.width - 1) else 0
/-- The largest finite number of a sign. -/
def FpFmt.largest (f : FpFmt) (neg : Bool) : Nat := f.inf neg - 1

/-- An exact value: a NaN, an infinity, or (-1)^neg · m · 2^e with a signed zero. -/
inductive FpVal where
  | nan
  | inf (neg : Bool)
  | fin (neg : Bool) (m : Nat) (e : Int)
deriving DecidableEq, Repr

/-- The value of a bit pattern (08 R206, R208). -/
def FpFmt.val (f : FpFmt) (x : Nat) : FpVal :=
  let neg := x / 2 ^ (f.width - 1) % 2 == 1
  let ex := x / 2 ^ f.mbits % 2 ^ f.ebits
  let fr := x % 2 ^ f.mbits
  if ex = 2 ^ f.ebits - 1 then (if fr = 0 then .inf neg else .nan)
  else if ex = 0 then .fin neg fr (1 - (f.bias : Int) - f.mbits)
  else .fin neg (fr + 2 ^ f.mbits) ((ex : Int) - f.bias - f.mbits)

/-- Whether a magnitude `q` with a remainder is rounded up: `half` compares the remainder with one half (08 R207). -/
def roundUp (rm : Rm) (neg odd : Bool) (cmp : Ordering) (exact : Bool) : Bool :=
  match rm with
  | .rne => cmp == .gt || (cmp == .eq && odd)
  | .rtz => false
  | .rdn => neg && !exact
  | .rup => !neg && !exact

/-- m · 2^sh rounded to a natural in mode `rm`. -/
def roundShift (rm : Rm) (neg : Bool) (m : Nat) (sh : Int) : Nat :=
  if 0 ≤ sh then m <<< sh.toNat
  else
    let k := (-sh).toNat
    let q := m >>> k
    let r := m - q <<< k
    let half := 1 <<< (k - 1)
    if roundUp rm neg (q % 2 == 1) (compare r half) (r == 0) then q + 1 else q

/-- ROUND(fmt, rm, v) of an exact value (08 R207, R209). -/
def FpFmt.round (f : FpFmt) (rm : Rm) (v : FpVal) : Nat :=
  match v with
  | .nan => f.nan
  | .inf neg => f.inf neg
  | .fin neg m e =>
    if m = 0 then f.zero neg
    else
      let top := (Nat.log2 m : Int) + e
      let emin := 1 - (f.bias : Int)
      let q := max top emin - f.mbits
      let sig := roundShift rm neg m (e - q)
      let bits := if top < emin then sig else (q + f.mbits + f.bias).toNat * 2 ^ f.mbits + sig - 2 ^ f.mbits
      if (2 ^ f.ebits - 1) * 2 ^ f.mbits ≤ bits then
        match rm with
        | .rne => f.inf neg
        | .rtz => f.largest neg
        | .rdn => if neg then f.inf true else f.largest false
        | .rup => if neg then f.largest true else f.inf false
      else f.zero neg + bits

/-- The opposite of a value. -/
def FpVal.neg : FpVal → FpVal
  | .nan => .nan
  | .inf n => .inf (!n)
  | .fin n m e => .fin (!n) m e

/-- Magnitude as a signed integer at exponent `t`, for `t` at most the value's exponent. -/
def signedAt (neg : Bool) (m : Nat) (e t : Int) : Int :=
  let x : Int := ((m <<< (e - t).toNat : Nat) : Int)
  if neg then -x else x

/-- The exact sum; a zero sum of opposite signs is +0 (08 R207). -/
def FpVal.add : FpVal → FpVal → FpVal
  | .nan, _ => .nan
  | _, .nan => .nan
  | .inf a, .inf b => if a == b then .inf a else .nan
  | .inf a, .fin _ _ _ => .inf a
  | .fin _ _ _, .inf b => .inf b
  | .fin na ma ea, .fin nb mb eb =>
    let t := min ea eb
    let s := signedAt na ma ea t + signedAt nb mb eb t
    if s = 0 then .fin (na && nb) 0 t else .fin (s < 0) s.natAbs t

/-- The exact difference. -/
def FpVal.sub (a b : FpVal) : FpVal := a.add b.neg

/-- The exact product. -/
def FpVal.mul : FpVal → FpVal → FpVal
  | .nan, _ => .nan
  | _, .nan => .nan
  | .inf a, .inf b => .inf (a != b)
  | .inf a, .fin b m _ => if m = 0 then .nan else .inf (a != b)
  | .fin a m _, .inf b => if m = 0 then .nan else .inf (a != b)
  | .fin a ma ea, .fin b mb eb => .fin (a != b) (ma * mb) (ea + eb)

/-- A truncated magnitude with a sticky bit below it: rounds as the exact value does when it has the bits to spare. -/
def sticky (q : Nat) (exact : Bool) : Nat := 2 * q + (if exact then 0 else 1)

/-- Bits kept of a quotient or root: more than any format's significand. -/
def keep : Nat := 60

/-- The quotient with a sticky bit (08 R212). -/
def FpVal.div : FpVal → FpVal → FpVal
  | .nan, _ => .nan
  | _, .nan => .nan
  | .inf _, .inf _ => .nan
  | .inf a, .fin b _ _ => .inf (a != b)
  | .fin a _ _, .inf b => .fin (a != b) 0 0
  | .fin a ma ea, .fin b mb eb =>
    if mb = 0 then (if ma = 0 then .nan else .inf (a != b))
    else if ma = 0 then .fin (a != b) 0 0
    else
      let k := keep + Nat.log2 mb
      let n := ma <<< k
      .fin (a != b) (sticky (n / mb) (n % mb == 0)) (ea - eb - k - 1)

/-- Integer square root by bits: `r` so far, bits below `i` still open. -/
def isqrtGo (n : Nat) : Nat → Nat → Nat
  | 0, r => r
  | i + 1, r => let t := r + 1 <<< i; if t * t ≤ n then isqrtGo n i t else isqrtGo n i r

/-- Integer square root. -/
def isqrt (n : Nat) : Nat := isqrtGo n (Nat.log2 n / 2 + 1) 0

/-- The square root with a sticky bit (08 R212). -/
def FpVal.sqrt : FpVal → FpVal
  | .nan => .nan
  | .inf n => if n then .nan else .inf false
  | .fin n m e =>
    if m = 0 then .fin n 0 0
    else if n then .nan
    else
      let odd := e % 2 == 1
      let m' := if odd then 2 * m else m
      let e' := if odd then e - 1 else e
      let x := m' <<< (2 * keep)
      let r := isqrt x
      .fin false (sticky r (r * r == x)) (e' / 2 - keep - 1)

/-- 1 / x (08 R212). -/
def FpVal.rcp (a : FpVal) : FpVal := (FpVal.fin false 1 0).div a

/-- 1 / √x (08 R212). -/
def FpVal.rsq : FpVal → FpVal
  | .nan => .nan
  | .inf n => if n then .nan else .fin false 0 0
  | .fin n m e =>
    if m = 0 then .inf n
    else if n then .nan
    else
      let odd := e % 2 == 1
      let m' := if odd then 2 * m else m
      let e' := if odd then e - 1 else e
      let k := keep + Nat.log2 m'
      let r := isqrt (1 <<< (2 * k) / m')
      .fin false (sticky r (r * r * m' == 1 <<< (2 * k))) (-(e' / 2) - k - 1)

/-- ⌊ln 2 · 2^384⌋. -/
def ln2Fixed : Nat := 0xb17217f7d1cf79abc9e3b39803f2f6af40f343267298b62d8a0d175b8baafa2be7b876206debac98559552fb4afa1b10

/-- Taylor terms of e^z in 384-bit fixed point: `t` the current term, `k` its index, `acc` the sum. -/
def expGo (z : Nat) : Nat → Nat → Nat → Nat → Nat
  | 0, _, _, acc => acc
  | n + 1, k, t, acc => let t' := (t * z) >>> 384 / (k + 1); expGo z n (k + 1) t' (acc + t')

/-- 2^x: exact for an integer x, else 384-bit fixed point with a sticky bit (08 R212; see the log). -/
def FpVal.exp2 : FpVal → FpVal
  | .nan => .nan
  | .inf n => if n then .fin false 0 0 else .inf false
  | .fin n m e =>
    if m = 0 then .fin false 1 0
    else if 12 ≤ (Nat.log2 m : Int) + e then (if n then .fin false 1 (-100000) else .fin false 1 100000)
    else
      let x := signedAt n m (max e (-384)) (-384)
      let x := if e < -384 then (let q : Int := ((m >>> (-384 - e).toNat : Nat) : Int); if n then -q - 1 else q) else x
      let i := x / ((1 <<< 384 : Nat) : Int)
      let fr := (x % ((1 <<< 384 : Nat) : Int)).toNat
      if fr = 0 ∧ -384 ≤ e then .fin false 1 i
      else
        let z := (fr * ln2Fixed) >>> 384
        .fin false (sticky (expGo z 90 0 (1 <<< 384) (1 <<< 384)) false) (i - 384 - 1)

/-- Binary digits of log2 of a mantissa in [1, 2), in 640-bit fixed point. -/
def logGo : Nat → Nat → Nat → Nat
  | 0, _, acc => acc
  | n + 1, y, acc =>
    let y2 := (y * y) >>> 640
    if 2 <<< 640 ≤ y2 then logGo n (y2 >>> 1) (2 * acc + 1) else logGo n y2 (2 * acc)

/-- log2 x: exact for a power of two, else 256 digits with a sticky bit (08 R212; see the log). -/
def FpVal.log2 : FpVal → FpVal
  | .nan => .nan
  | .inf n => if n then .nan else .inf false
  | .fin n m e =>
    if m = 0 then .inf true
    else if n then .nan
    else
      let l := Nat.log2 m
      let top := (l : Int) + e
      if m = 1 <<< l then .fin (top < 0) top.natAbs 0
      else
        let s := top * ((1 <<< 256 : Nat) : Int) + (logGo 256 (m <<< (640 - l)) 0 : Nat)
        let s := 2 * s + 1
        .fin (s < 0) s.natAbs (-257)

/-- Ordered and equal; -0 equals +0 (11 R276). -/
def FpVal.eq (a b : FpVal) : Bool :=
  match a, b with
  | .nan, _ => false
  | _, .nan => false
  | .inf x, .inf y => x == y
  | .fin x mx ex, .fin y my ey => let t := min ex ey; signedAt x mx ex t == signedAt y my ey t
  | _, _ => false

/-- Ordered and less (11 R276). -/
def FpVal.lt (a b : FpVal) : Bool :=
  match a, b with
  | .nan, _ => false
  | _, .nan => false
  | .inf x, .inf y => x && !y
  | .inf x, .fin _ _ _ => x
  | .fin _ _ _, .inf y => !y
  | .fin x mx ex, .fin y my ey => let t := min ex ey; signedAt x mx ex t < signedAt y my ey t

/-- A NaN. -/
def FpVal.isNan : FpVal → Bool
  | .nan => true
  | _ => false
/-- An infinity. -/
def FpVal.isInf : FpVal → Bool
  | .inf _ => true
  | _ => false
/-- The sign of a value. -/
def FpVal.isNeg : FpVal → Bool
  | .nan => false
  | .inf n => n
  | .fin n _ _ => n
/-- |a|. -/
def FpVal.abs : FpVal → FpVal
  | .nan => .nan
  | .inf _ => .inf false
  | .fin _ m e => .fin false m e
/-- a · 2^k. -/
def FpVal.scale (a : FpVal) (k : Int) : FpVal :=
  match a with
  | .fin n m e => .fin n m (e + k)
  | x => x
/-- An integer as a value. -/
def FpVal.ofInt (i : Int) : FpVal := .fin (i < 0) i.natAbs 0

/-- Two-operand arithmetic in one format, rounded once by RNE. -/
def FpFmt.add (f : FpFmt) (a b : Nat) : Nat := f.round .rne ((f.val a).add (f.val b))
def FpFmt.sub (f : FpFmt) (a b : Nat) : Nat := f.round .rne ((f.val a).sub (f.val b))
def FpFmt.mul (f : FpFmt) (a b : Nat) : Nat := f.round .rne ((f.val a).mul (f.val b))
def FpFmt.div (f : FpFmt) (a b : Nat) : Nat := f.round .rne ((f.val a).div (f.val b))
/-- RNE(a · b + c). -/
def FpFmt.fma (f : FpFmt) (a b c : Nat) : Nat := f.round .rne (((f.val a).mul (f.val b)).add (f.val c))
/-- RNE(c - a · b). -/
def FpFmt.fms (f : FpFmt) (a b c : Nat) : Nat := f.round .rne ((f.val c).sub ((f.val a).mul (f.val b)))
def FpFmt.sqrt (f : FpFmt) (a : Nat) : Nat := f.round .rne (f.val a).sqrt

/-- minimumNumber (08 R211). -/
def FpFmt.min (f : FpFmt) (a b : Nat) : Nat :=
  match f.val a, f.val b with
  | .nan, .nan => f.nan
  | .nan, _ => b
  | _, .nan => a
  | x, y => if x.lt y then a else if y.lt x then b else if x.isNeg then a else b
/-- maximumNumber (08 R211). -/
def FpFmt.max (f : FpFmt) (a b : Nat) : Nat :=
  match f.val a, f.val b with
  | .nan, .nan => f.nan
  | .nan, _ => b
  | _, .nan => a
  | x, y => if x.lt y then b else if y.lt x then a else if x.isNeg then b else a

/-- The value rounded to an integer in mode `rm`; none for a NaN or an infinity. -/
def FpVal.toInt? (rm : Rm) : FpVal → Option Int
  | .fin n m e => let q : Int := ((roundShift rm n m e : Nat) : Int); some (if n then -q else q)
  | _ => none

/-- Conversion to a w-bit two's-complement integer with saturation; a NaN gives 0 (08 R213). -/
def FpVal.toSat (rm : Rm) (w : Nat) (v : FpVal) : Int :=
  let hi : Int := 2 ^ (w - 1) - 1
  let lo : Int := -2 ^ (w - 1)
  match v with
  | .nan => 0
  | .inf n => if n then lo else hi
  | .fin n m e =>
    match FpVal.toInt? rm (if (w : Int) < (Nat.log2 m : Int) + e then .fin n 1 (w : Int) else .fin n m e) with
    | some i => if i < lo then lo else if hi < i then hi else i
    | none => 0

/-- The value rounded to an integral value in its own format (12 R312 VROUND). -/
def FpFmt.integral (f : FpFmt) (rm : Rm) (x : Nat) : Nat :=
  match f.val x with
  | .nan => f.nan
  | .inf _ => x
  | .fin n m e => if m = 0 then x else if 0 ≤ e then x else f.round .rne (.fin n (roundShift rm n m e) 0)

/-- The one-hot class of 11 R280. -/
def FpFmt.cls (f : FpFmt) (x : Nat) : Nat :=
  match f.val x with
  | .nan => if x / 2 ^ (f.mbits - 1) % 2 = 1 then 2 ^ 9 else 2 ^ 8
  | .inf n => if n then 1 else 2 ^ 7
  | .fin n m _ =>
    let normal : Bool := x / 2 ^ f.mbits % 2 ^ f.ebits != 0
    if m = 0 then (if n then 2 ^ 3 else 2 ^ 4)
    else if normal then (if n then 2 ^ 1 else 2 ^ 6)
    else (if n then 2 ^ 2 else 2 ^ 5)

/-- Finite. -/
def FpVal.finite : FpVal → Bool
  | .fin _ _ _ => true
  | _ => false

/-- TWOSUM (08 R215): the rounded sum and its exact error. -/
def FpFmt.twoSum (f : FpFmt) (a b : Nat) : Nat × Nat :=
  let ex := (f.val a).add (f.val b)
  let s := f.round .rne ex
  (s, if (f.val s).finite then
        (match ex.sub (f.val s) with
         | .fin n m e => if m = 0 then 0 else f.round .rne (.fin n m e)
         | _ => 0)
      else 0)

/-- TWOPRODUCT (08 R216). -/
def FpFmt.twoProd (f : FpFmt) (a b : Nat) : Nat × Nat :=
  let ex := (f.val a).mul (f.val b)
  let p := f.round .rne ex
  (p, if (f.val p).finite then
        (match ex.sub (f.val p) with
         | .fin n m e => if m = 0 then 0 else f.round .rne (.fin n m e)
         | _ => 0)
      else 0)

/-- The C32 pair rule (08 R217): s in the low half, e in the high half. -/
def c32Add (x y : Nat) : Nat :=
  let p := FpFmt.f32.twoSum (x % 2 ^ 32) (y % 2 ^ 32)
  let e1 := FpFmt.f32.add (x / 2 ^ 32 % 2 ^ 32) p.2
  p.1 + FpFmt.f32.add e1 (y / 2 ^ 32 % 2 ^ 32) * 2 ^ 32

/-! ### Residues (08 R218-R225) -/

/-- The K27 word of a residue triple (08 R220). -/
def k27Encode (poison : Bool) (r0 r1 r2 : Nat) : Nat :=
  (if poison then 2 ^ 31 else 0) + (if r2 ≤ 511 then r2 * 2 ^ 18 + r1 * 2 ^ 9 + r0 else r0 * 2 ^ 18 + r1 * 2 ^ 9 + 511)

/-- Malformed words (08 R220). -/
def k27Malformed (w : Nat) : Bool :=
  w / 2 ^ 27 % 16 != 0 || (w % 512 == 511 && w / 2 ^ 18 % 512 == 511)

/-- Bit 31. -/
def k27Poison (w : Nat) : Bool := w / 2 ^ 31 % 2 == 1

/-- The channels of a well-formed word (08 R220). -/
def k27Channels (w : Nat) : Nat × Nat × Nat :=
  if w % 512 = 511 then (w / 2 ^ 18 % 512, w / 2 ^ 9 % 512, 512)
  else (w % 512, w / 2 ^ 9 % 512, w / 2 ^ 18 % 512)

/-- A K27 operation channel by channel (08 R221, 12 R312). -/
def k27Op (f : Nat → Nat → Nat → Nat) (x y : Nat) : Nat :=
  if k27Malformed x || k27Malformed y then 0x80000000
  else
    let (a0, a1, a2) := k27Channels x
    let (b0, b1, b2) := k27Channels y
    k27Encode (k27Poison x || k27Poison y) (f 511 a0 b0) (f 512 a1 b1) (f 513 a2 b2)

/-- Addition (08 R221). -/
def k27Add : Nat → Nat → Nat := k27Op fun m a b => (a + b) % m
/-- Subtraction (12 R312). -/
def k27Sub : Nat → Nat → Nat := k27Op fun m a b => (a + m - b % m) % m
/-- Multiplication (12 R312). -/
def k27Mul : Nat → Nat → Nat := k27Op fun m a b => a * b % m

/-- The K27 word of an integer's residues (08 R219, 12 R331). -/
def k27OfInt (poison : Bool) (i : Int) : Nat :=
  k27Encode poison (i % 511).toNat (i % 512).toNat (i % 513).toNat

/-- CRT (08 R222): none for poison. -/
def k27Crt (w : Nat) : Option Int :=
  if k27Poison w || k27Malformed w then none
  else
    let (r0, r1, r2) := k27Channels w
    let u := (r0 * 67239936 + r1 * 133955073 + r2 * 67239424) % 134217216
    some (if 67108608 ≤ u then (u : Int) - 134217216 else u)

/-- A w-bit pattern as a signed integer. -/
def sint (w x : Nat) : Int := if x % 2 ^ w < 2 ^ (w - 1) then (x % 2 ^ w : Nat) else (x % 2 ^ w : Nat) - (2 ^ w : Int)

/-- The w-bit pattern of an integer. -/
def uint (w : Nat) (i : Int) : Nat := (i % 2 ^ w).toNat

/-- One product of two RX8 elements: none when either is poison (08 R219). -/
def rx8Mul (x y : Nat) : Option Int :=
  if x % 256 = 0x80 ∨ y % 256 = 0x80 then none else some (sint 8 x * sint 8 y)

/-- The K27 sum of RX8 products (08 R219, R221, R232). -/
def rx8Dot : List (Nat × Nat) → Nat
  | ps =>
    let go : Int × Bool := ps.foldl (fun acc p => match rx8Mul p.1 p.2 with
      | some v => (acc.1 + v, acc.2)
      | none => (acc.1, true)) (0, false)
    k27OfInt go.2 go.1

/-- A K27 drain (08 R225): the result and its poison bit. -/
def k27Drain (f : FpFmt) (w sa sb : Nat) : Nat × Bool :=
  match k27Crt w with
  | none => (f.nan, true)
  | some v =>
    if sa % 256 = 0x80 ∨ sb % 256 = 0x80 then (f.nan, true)
    else (f.round .rne ((FpVal.ofInt v).scale (sint 8 sa + sint 8 sb)), false)

/-! ### Rotation and quantisation (08 R226-R230) -/

/-- MIX64 (08 R226). -/
def mix64 (x : Nat) : Nat :=
  let m := 2 ^ 64
  let z := (x + 0x9E3779B97F4A7C15) % m
  let z := ((z ^^^ (z >>> 30)) * 0xBF58476D1CE4E5B9) % m
  let z := ((z ^^^ (z >>> 27)) * 0x94D049BB133111EB) % m
  z ^^^ (z >>> 31)

/-- An FP pattern with its sign bit inverted when bit 63 of MIX64(n) is 1 (08 R226). -/
def signFlip (w x n : Nat) : Nat := if mix64 (n % 2 ^ 64) / 2 ^ 63 = 1 then x ^^^ 2 ^ (w - 1) else x

/-- One stage of the Hadamard transform, of distance `h` (08 R227). -/
def hadamardStage (h : Nat) (y : List Nat) : List Nat :=
  (List.range y.length).map fun i =>
    if i / h % 2 = 0 then FpFmt.f32.add (y.getD i 0) (y.getD (i + h) 0)
    else FpFmt.f32.sub (y.getD (i - h) 0) (y.getD i 0)

/-- The 64-point Hadamard transform (08 R227). -/
def hadamard (y : List Nat) : List Nat :=
  let z := [1, 2, 4, 8, 16, 32].foldl (fun v h => hadamardStage h v) y
  z.map fun x => FpFmt.f32.round .rne ((FpFmt.f32.val x).scale (-3))

/-- The larger of two finite magnitudes. -/
def maxAbs (a b : FpVal) : FpVal := if a.abs.lt b.abs then b.abs else a.abs

/-- The block scale (08 R228), none for the NaN scale. -/
def blockScale (y : List Nat) : Option Int :=
  if y.any fun x => !(FpFmt.f32.val x).finite then none
  else
    match y.foldl (fun m x => maxAbs m (FpFmt.f32.val x)) (.fin false 0 0) with
    | .fin _ m e =>
      if m = 0 then some (-127)
      else
        let e0 := (Nat.log2 m : Int) + e - 6
        let e1 := if (FpVal.fin false 127 e0).lt (.fin false m e) then e0 + 1 else e0
        some (max (-127) (min 127 e1))
    | _ => none

/-- The quantised code of an element (08 R229). -/
def quantise (e : Option Int) (x : Nat) : Nat :=
  match e with
  | none => 0x80
  | some k =>
    match FpVal.toInt? .rne ((FpFmt.f32.val x).scale (-k)) with
    | some q => uint 8 (max (-127) (min 127 q))
    | none => 0x80

/-- The SX8 code of a scale (08 R224). -/
def scaleCode (e : Option Int) : Nat :=
  match e with
  | none => 0x80
  | some k => uint 8 k

/-- q · 2^e as FP32 (08 R230, 12 R330). -/
def dequantise (q e : Nat) : Nat :=
  if q % 256 = 0x80 ∨ e % 256 = 0x80 then FpFmt.f32.nan
  else FpFmt.f32.round .rne ((FpVal.ofInt (sint 8 q)).scale (sint 8 e))

end Sys2Proof.Machine
end

