-- ==== Sys2Proof/WellFormed.lean ====
section
/-! DEFINITION. Well-formed instructions: the limits that the entries of 11-15 put on the fields of a slot (09 R248 rule 6,
R249). An ill-formed term has no encoding that decodes to it. -/

namespace Sys2Proof

/-- A source an entry may name: no register in a B slot, the constant 0.5 only in a floating-point operand (09 R240, R530). -/
def Src.wf (k : SrcKind) : Src → Bool
  | .main _ => k != .branch
  | .opnd _ => k != .branch
  | .const c => k == .fp || c != 4
  | _ => true

/-- Pairs 1-5 (09 R239). -/
def pairOk (j : Nat) : Bool := 1 ≤ j && j ≤ 5

/-- The CSRs of 11 R286. -/
def csrValid (n : Nat) : Bool := n < 18 || (32 ≤ n && n < 48)
/-- The CSRs a CSRW may name (11 R286). -/
def csrWritable (n : Nat) : Bool := csrValid n && n != 0 && n != 1 && n != 15
/-- The LTE field codes of 14 R357. -/
def lteCodeValid (n : Nat) : Bool := n < 28 || (32 ≤ n && n < 40)
/-- The target codes of VCVT (12 R321). -/
def vcvtTo (n : Nat) : Bool := n < 9 && n != 6
/-- Legal k-blocks of a format (13 R338). -/
def kbLegal (fmt kb : Nat) : Bool := kb < (if fmt = 0 then 4 else if fmt = 3 then 1 else 2)
/-- Codes 10-13 of FCVT read an integer source (09 R530). -/
def fcvtKind (code : Nat) : SrcKind := if 10 ≤ code ∧ code ≤ 13 then .int else .fp
/-- The code of an M format (09 R247). -/
def MFmt.code : MFmt → Nat
  | .rx8 => 0 | .b16 => 1 | .fp16 => 2 | .fp32 => 3

def Ppsc.wf (f : Ppsc) : Bool := f.scope.val < 5
def Pimm.wf (_ : Pimm) : Bool := true
def Bn.wf (_ : Bn) : Bool := true
def Bpt.wf (_ : Bpt) : Bool := true
def Bba.wf (f : Bba) : Bool := f.a.wf .branch
def Bb.wf (_ : Bb) : Bool := true
def Ba.wf (f : Ba) : Bool := f.a.wf .branch
def Bab.wf (f : Bab) : Bool := f.a.wf .branch && f.b.wf .branch
def Blset.wf (f : Blset) : Bool := f.a.wf .branch
def Blstr.wf (f : Blstr) : Bool := f.a.wf .branch && f.n != 31 && f.level != 6
def Blbrk.wf (f : Blbrk) : Bool := f.n != 0 && f.n != 7
def Bwfl.wf (f : Bwfl) : Bool := f.a.wf .branch
def S3.wf (k : SrcKind) (f : S3) : Bool := f.a.wf k && f.b.wf k
def S2.wf (k : SrcKind) (f : S2) : Bool := f.a.wf k
def S1.wf (_ : S1) : Bool := true
def Smovi.wf (_ : Smovi) : Bool := true
def Scmp.wf (f : Scmp) : Bool := pairOk f.j.val && f.a.wf .int && f.b.wf .int
def Sfcmp.wf (f : Sfcmp) : Bool := pairOk f.j.val && f.a.wf .fp && f.b.wf .fp
def Sqop.wf (f : Sqop) : Bool := pairOk f.j.val && (f.op != .mov || f.r == 0)
def Smovx.wf (f : Smovx) : Bool := f.a.wf .int && (f.d != .latch || f.target == .s0)
def Sfcvt.wf (f : Sfcvt) : Bool := f.a.wf (fcvtKind f.code.val)
def Sfcls.wf (f : Sfcls) : Bool := f.a.wf .fp
def Spair.wf (f : Spair) : Bool := f.a.wf .fp && f.b.wf .fp && (f.p != .latch || !f.wide)
def Scsrr.wf (f : Scsrr) : Bool := csrValid f.csr.val
def Scsrw.wf (f : Scsrw) : Bool := csrWritable f.csr.val && f.b.wf .int
def Sgset.wf (f : Sgset) : Bool := f.n != 31 && f.a.wf .int
def Slidx.wf (f : Slidx) : Bool := f.level.val < 6
def Stsrd.wf (_ : Stsrd) : Bool := true
def Sab.wf (f : Sab) : Bool := f.a.wf .int && f.b.wf .int
def V3.wf (ka kb : SrcKind) (f : V3) : Bool := f.a.wf ka && f.b.wf kb
def V3x.wf (k : SrcKind) (f : V3x) : Bool := f.a.wf k && f.b.wf k
def V2.wf (k : SrcKind) (f : V2) : Bool := f.a.wf k
def V1.wf (_ : V1) : Bool := true
def Vcmp.wf (f : Vcmp) : Bool := f.a.wf .fp && f.b.wf .fp
def Vvotm.wf (f : Vvotm) : Bool := pairOk f.j.val
def Vkop.wf (f : Vkop) : Bool :=
  match f.op with
  | .not => f.b == 0
  | .mov => f.b == 0
  | .set => f.a == 0 && f.b == 0
  | _ => true
def Vmkto.wf (f : Vmkto) : Bool := f.a.wf .int
def Vmkfr.wf (_ : Vmkfr) : Bool := true
def Vredm.wf (f : Vredm) : Bool := f.a.wf .fp
def Vcvt.wf (f : Vcvt) : Bool := f.a.wf .fp && vcvtTo f.toTy.val
def Vpart.wf (k : SrcKind) (f : Vpart) : Bool := f.a.wf k
def Vtws.wf (f : Vtws) : Bool := f.a.wf .fp && f.b.wf .fp
def Vsett.wf (f : Vsett) : Bool := f.et.val < 10
def Vround.wf (f : Vround) : Bool := f.a.wf .fp
def Ltset.wf (f : Ltset) : Bool := f.a.wf .int && lteCodeValid f.code.val
def Ltget.wf (f : Ltget) : Bool := lteCodeValid f.code.val
def Ltcpy.wf (_ : Ltcpy) : Bool := true
def Ldae.wf (f : Ldae) : Bool := f.a.wf .int
def Leab.wf (ka kb : SrcKind) (f : Leab) : Bool := f.a.wf ka && f.b.wf kb
def Lsld.wf (f : Lsld) : Bool := f.a.wf .int
def Ldab.wf (f : Ldab) : Bool := f.a.wf .int && f.b.wf .int
def Le.wf (_ : Le) : Bool := true
def Lde.wf (_ : Lde) : Bool := true
def La.wf (f : La) : Bool := f.a.wf .int
def Ldwr.wf (f : Ldwr) : Bool := f.a.wf .int
def Llscl.wf (f : Llscl) : Bool := f.a.wf .int
def Lacas.wf (f : Lacas) : Bool := f.a.wf .int && f.pair.val % 2 == 0 && f.pair.val ≤ 30
def Lab.wf (f : Lab) : Bool := f.a.wf .int && f.b.wf .int
def Lea.wf (f : Lea) : Bool := f.a.wf .int
def Ln.wf (_ : Ln) : Bool := true
def Ld.wf (_ : Ld) : Bool := true
def Lsflg.wf (f : Lsflg) : Bool := f.a.wf .int
def Lscnt.wf (_ : Lscnt) : Bool := true
/-- How code 58 is judged in REDP's payload (09 R530): a floating-point operand under F32 and C32, an integer one under K27 and I32. -/
def redKind (fmt : Nat) : SrcKind := if fmt ≤ 2 then .fp else .int
def Lredp.wf (f : Lredp) : Bool := 1 ≤ f.fmt.val && f.fmt.val ≤ 4 && f.a.wf (redKind f.fmt.val) && f.b.wf .int
def Lda.wf (f : Lda) : Bool := f.a.wf .int
def Ldeb.wf (f : Ldeb) : Bool := f.b.wf .int
def Mn.wf (_ : Mn) : Bool := true
def Mblk.wf (f : Mblk) : Bool := kbLegal f.fmt.code f.kb.val
def Mshr.wf (_ : Mshr) : Bool := true
def Mdrd.wf (f : Mdrd) : Bool := f.out != 3 && !(f.out == 0 && f.half)
def Mdrv.wf (f : Mdrv) : Bool := f.out != 3
def Mdrb.wf (f : Mdrb) : Bool :=
  f.out != 3 && !(f.out == 2 && f.src != .k27) && !(f.out == 1 && f.brow.val % 2 == 1)
def Mbas.wf (_ : Mbas) : Bool := true
def Mkst.wf (_ : Mkst) : Bool := true
def Mtsr.wf (f : Mtsr) : Bool := !(f.all && f.n != 0)
def Mrow.wf (_ : Mrow) : Bool := true
def Mpoi.wf (_ : Mpoi) : Bool := true

/-- 32-bit shifts take amounts below 32 (16 R411). -/
def RvInstr.wf : RvInstr → Bool
  | .shImm k _ _ sh =>
    match k with
    | .slliw => sh.val < 32
    | .srliw => sh.val < 32
    | .sraiw => sh.val < 32
    | .roriw => sh.val < 32
    | _ => true
  | _ => true

/-- What the encoding admits of an instruction: the limits of its entry (09 R248 rule 6, R249). Side-core words
and events carry no such limit. -/
def Instr.wf : Instr → Bool
  | .psc f => f.wf
  | .pim f => f.wf
  | .pimh f => f.wf
  | .nopb f => f.wf
  | .bpt f => f.wf
  | .bptr f => f.wf
  | .bptrRel f => f.wf
  | .btr f => f.wf
  | .bcl f => f.wf
  | .bclA f => f.wf
  | .brtn f => f.wf
  | .brtnA f => f.wf
  | .lset f => f.wf
  | .lsetReg f => f.wf
  | .lstr f => f.wf
  | .lbrk f => f.wf
  | .lrrb f => f.wf
  | .yld f => f.wf
  | .yldp f => f.wf
  | .wtc f => f.wf
  | .wfl f => f.wf
  | .wmon f => f.wf
  | .tspn f => f.wf
  | .tend f => f.wf
  | .trap f => f.wf
  | .trapSv f => f.wf
  | .rtt f => f.wf
  | .ask f => f.wf
  | .askr f => f.wf
  | .snap f => f.wf
  | .snapw f => f.wf
  | .add f => f.wf .int
  | .sub f => f.wf .int
  | .mul f => f.wf .int
  | .mulh f => f.wf .int
  | .mulhu f => f.wf .int
  | .div f => f.wf .int
  | .divu f => f.wf .int
  | .rem f => f.wf .int
  | .remu f => f.wf .int
  | .and f => f.wf .int
  | .or f => f.wf .int
  | .xor f => f.wf .int
  | .andn f => f.wf .int
  | .shl f => f.wf .int
  | .shr f => f.wf .int
  | .sar f => f.wf .int
  | .rotl f => f.wf .int
  | .clz f => f.wf .int
  | .ctz f => f.wf .int
  | .popc f => f.wf .int
  | .min f => f.wf .int
  | .max f => f.wf .int
  | .minu f => f.wf .int
  | .maxu f => f.wf .int
  | .sel f => f.wf .int && f.d != .latch
  | .bext f => f.wf .int
  | .bins f => f.wf .int && f.d != .latch
  | .addw f => f.wf .int
  | .cmp f => f.wf
  | .fcmp f => f.wf
  | .qop f => f.wf
  | .movx f => f.wf
  | .fadds f => f.wf .fp
  | .faddd f => f.wf .fp
  | .fsubs f => f.wf .fp
  | .fsubd f => f.wf .fp
  | .fmuls f => f.wf .fp
  | .fmuld f => f.wf .fp
  | .fmas f => f.wf .fp && f.d != .latch
  | .fmad f => f.wf .fp && f.d != .latch
  | .fdivs f => f.wf .fp
  | .fdivd f => f.wf .fp
  | .fsqrs f => f.wf .fp
  | .fsqrd f => f.wf .fp
  | .fmins f => f.wf .fp
  | .fmaxs f => f.wf .fp
  | .fmind f => f.wf .fp
  | .fmaxd f => f.wf .fp
  | .fcvt f => f.wf
  | .fcls f => f.wf
  | .twos f => f.wf
  | .twop f => f.wf
  | .csrr f => f.wf
  | .csrw f => f.wf
  | .gset f => f.wf
  | .lidx f => f.wf
  | .cycr f => f.wf
  | .movi f => f.wf
  | .tsrd f => f.wf
  | .tlbi f => f.wf
  | .vadd f => f.wf .fp .fp
  | .vsub f => f.wf .fp .fp
  | .vmul f => f.wf .fp .fp
  | .vfma f => f.wf .fp .fp && f.d != .latch
  | .vfms f => f.wf .fp .fp && f.d != .latch
  | .vdiv f => f.wf .fp .fp
  | .vsqrt f => f.wf .fp
  | .vmin f => f.wf .fp
  | .vmax f => f.wf .fp
  | .vabs f => f.wf .fp
  | .vneg f => f.wf .fp
  | .vexp2 f => f.wf .fp
  | .vlog2 f => f.wf .fp
  | .vrcp f => f.wf .fp
  | .vrsq f => f.wf .fp
  | .vcmp f => f.wf
  | .vsel f => f.wf .fp .fp
  | .vany f => f.wf && pairOk f.k.val
  | .vanyMask f => f.wf
  | .vall f => f.wf && pairOk f.k.val
  | .vallMask f => f.wf
  | .vkop f => f.wf
  | .vand f => f.wf .int .int
  | .vor f => f.wf .int .int
  | .vxor f => f.wf .int .int
  | .vshl f => f.wf .int .int
  | .vshr f => f.wf .int .int
  | .vsar f => f.wf .int .int
  | .vbcst f => f.wf .fp .int
  | .vxtr f => f.wf .fp .int
  | .viota f => f.wf .fp .fp
  | .vperm f => f.wf .fp .int
  | .vbfly f => f.wf .fp .int
  | .vrotl f => f.wf .fp .int
  | .vreda f => f.wf .fp
  | .vredm f => f.wf
  | .vcvt f => f.wf
  | .vpck f => f.wf .fp
  | .vupk f => f.wf .fp
  | .vcmul f => f.wf .fp .fp
  | .vcmac f => f.wf .fp .fp && f.d != .latch
  | .vtws f => f.wf
  | .vcadd f => f.wf .fp .fp
  | .vhad f => f.wf .fp
  | .vsgn f => f.wf .fp .int
  | .vqnt f => f.wf .fp .int
  | .vdq f => f.wf .fp
  | .vcrt f => f.wf .int
  | .vres f => f.wf .int
  | .vsett f => f.wf
  | .vmovkToMask f => f.wf
  | .vmovkToReg f => f.wf
  | .vcls f => f.wf .fp
  | .vround f => f.wf
  | .vmulh f => f.wf .int
  | .vabsd f => f.wf .fp
  | .vclz f => f.wf .int
  | .vpopc f => f.wf .int
  | .vsatn f => f.wf .int && f.p != 3
  | .vscl f => f.wf .fp .int
  | .vmix f => f.wf .int .int
  | .vsplt f => f.wf .fp .int
  | .vzero f => f.wf
  | .ltset f => f.wf
  | .ltget f => f.wf
  | .ltcpy f => f.wf
  | .vld f => f.wf
  | .vldRaw f => f.wf
  | .vst f => f.wf .fp .int
  | .vstRaw f => f.wf .fp .int
  | .sld f => f.wf
  | .sst f => f.wf .fp .int
  | .vgth f => f.wf
  | .vsct f => f.wf .fp .int
  | .cpy f => f.wf
  | .cpya f => f.wf
  | .pub f => f.wf
  | .dclm f => f.wf
  | .drel f => f.wf
  | .dwr f => f.wf
  | .lscl f => f.wf
  | .aadd f => f.wf .int .int
  | .aaddf f => f.wf .int .fp
  | .aaddk f => f.wf .int .int
  | .amin f => f.wf .int .int
  | .amax f => f.wf .int .int
  | .aminu f => f.wf .int .int
  | .amaxu f => f.wf .int .int
  | .axch f => f.wf .int .fp
  | .acas f => f.wf
  | .aand f => f.wf .int .int
  | .aor f => f.wf .int .int
  | .axor f => f.wf .int .int
  | .tdec f => f.wf
  | .bind f => f.wf
  | .unbd f => f.wf
  | .acq f => f.wf
  | .rel f => f.wf
  | .acqt f => f.wf
  | .fnc f => f.wf
  | .fni f => f.wf
  | .fnw f => f.wf
  | .sflg f => f.wf
  | .scnt f => f.wf
  | .sbeq f => f.wf .fp .int
  | .redp f => f.wf
  | .redw f => f.wf
  | .qpop f => f.wf
  | .qpsh f => f.wf
  | .qlev f => f.wf
  | .walw f => f.wf
  | .mona f => f.wf
  | .digq f => f.wf
  | .hgset f => f.wf
  | .hgget f => f.wf
  | .manr f => f.wf
  | .pref f => f.wf
  | .bld f => f.wf
  | .bst f => f.wf
  | .bzero f => f.wf
  | .cpyw f => f.wf
  | .lthdr f => f.wf
  | .sprb f => f.wf
  | .mnop f => f.wf
  | .mshb f => f.wf
  | .mshr f => f.wf
  | .mswp f => f.wf
  | .mpsa f => f.wf
  | .mpss f => f.wf
  | .mpra f => f.wf
  | .mprs f => f.wf
  | .mdrd f => f.wf
  | .mdrv f => f.wf
  | .mdrb f => f.wf
  | .mbas f => f.wf
  | .mbasKeep f => f.wf
  | .mzro f => f.wf
  | .mkst f => f.wf
  | .mkrd f => f.wf
  | .mtsr f => f.wf
  | .mbld f => f.wf
  | .mbst f => f.wf
  | .msyn f => f.wf
  | .mpoi f => f.wf
  | .jqPush _ => true
  | .jqPull _ => true
  | .jqPullLev _ => true
  | .jCpy _ _ _ => true
  | .jWtc _ _ => true
  | .jDclm _ _ _ => true
  | .jLte _ _ => true
  | .jLteW _ _ => true
  | .jFlag _ => true
  | .jCyc _ => true
  | .jPub _ _ => true
  | .jAcq _ _ => true
  | .jRel _ _ => true
  | .jSbeq _ _ _ => true
  | .sideCoreRv64Instruction i => i.wf
  | .sideCoreException _ _ => true
  | .scfltWrite _ _ _ => true
  | .resultLand _ => true
  | .pushLand _ => true
  | .icacheFill _ => true
  | .outerLoadArrival _ _ => true
  | .remoteTimeout _ _ => true
  | .remoteRefusal _ _ => true
  | .postedWritePerform _ => true
  | .releasePerform _ => true
  | .armedGranuleCopy _ _ _ => true
  | .pageWalk _ => true
  | .pageWalkComplete _ _ => true
  | .copyComplete _ _ => true
  | .copyFault _ _ => true
  | .drawerRowFilled _ _ => true
  | .tlbiComplete _ => true
  | .promiseReached _ _ => true
  | .stationFlagSet _ => true
  | .flagTimeout _ _ => true
  | .monitorFire _ _ => true
  | .monitorTimeout _ _ => true
  | .wmonTimeout _ _ => true
  | .parkWake _ _ => true
  | .parkTimeoutWake _ _ => true
  | .acqtReread _ _ => true
  | .leaveGrant _ => true
  | .reductionPacketArrival _ _ => true
  | .reductionRouterTimeout _ _ => true
  | .reductionWaitTimeout _ _ => true
  | .spanWatchdog _ => true
  | .taskRelease _ _ _ => true
  | .issueSelect _ => true
  | .sluiceBind _ => true
  | .dispatchComplete _ _ => true
  | .scratchFillComplete _ _ => true
  | .seatRestoreComplete _ _ => true
  | .preemptRequest _ _ _ => true
  | .forcedSave _ _ => true
  | .seatSaveComplete _ _ => true
  | .taskEndSuccessors _ _ => true
  | .reuseLookup _ _ => true
  | .reuseHitComplete _ _ => true
  | .hostFetchaddResv _ _ => true
  | .queueTailWrite _ _ => true
  | .hostPostedWrite _ _ => true
  | .flagClassWritePerform _ => true
  | .hostRead _ _ => true
  | .hostAtomic _ _ _ _ _ => true
  | .hostBar4Access _ _ _ => true
  | .launchQueuePoll _ => true
  | .taskCreation _ _ => true
  | .launchCompletion _ => true
  | .streamCloseFollowup _ => true
  | .gatePass _ => true
  | .gateLoad _ => true
  | .gateCopy _ => true
  | .gateAdd _ => true
  | .gateTake _ => true
  | .gateEmpty _ => true
  | .station0ClassChange _ => true
  | .station0EmptyStale _ => true
  | .beTakeSlot _ => true
  | .beHold _ => true
  | .beResend _ => true
  | .beWrite _ => true
  | .beReadRequest _ => true
  | .beReadResponse _ => true
  | .beCounterDecrement _ => true
  | .beAtomicRequest _ => true
  | .beAtomicResponse _ => true
  | .beSbeqMessage _ => true
  | .beReservedKind _ => true
  | .ladeBringUp _ _ _ => true
  | .canalInject _ => true
  | .canalTrim _ _ => true
  | .canalReadRequest _ => true
  | .canalReadResponse _ => true
  | .canalPostedWrite _ => true
  | .canalAadd _ => true
  | .canalAaddf _ => true
  | .canalAaddk _ => true
  | .canalAmin _ => true
  | .canalAmax _ => true
  | .canalAminu _ => true
  | .canalAmaxu _ => true
  | .canalAxch _ => true
  | .canalAcas _ => true
  | .canalAand _ => true
  | .canalAor _ => true
  | .canalAxor _ => true
  | .canalAcquireRead _ => true
  | .canalTaskDecrement _ => true
  | .canalPublication _ => true
  | .canalReservedAop _ => true
  | .canalAtomicResponse _ => true
  | .canalReRequest _ => true
  | .canalAcknowledgement _ => true
  | .canalSnapshotMarker _ => true
  | .canalRefusal _ => true
  | .canalReservedType _ => true
  | .canalPacketPerform _ _ => true
  | .canalHoleRerequest _ _ => true
  | .canalTokenRefill _ => true
  | .canalAckSend _ => true
  | .responderWatchdog _ _ => true
  | .linkIdle _ _ => true
  | .linkResync _ _ _ => true
  | .linkAdv _ _ => true
  | .linkRkreq _ _ => true
  | .linkRkmsg _ _ => true
  | .linkKeysw _ => true
  | .linkAdvTimer _ => true
  | .linkResyncTimer _ => true
  | .linkReplayRequest _ _ => true
  | .linkRetire _ => true
  | .rekeyStart _ => true
  | .rekeyStop _ => true
  | .rekeyTimeout _ => true
  | .keyLoad _ => true
  | .keyRetire => true
  | .keyQuery => true
  | .keyBadRequest => true
  | .keyDoorbellInvalid => true
  | .wallowWrite _ _ => true
  | .pcapWrite _ => true
  | .powerClassChange => true
  | .managementRegisterWrite _ _ => true
  | .throttle _ _ => true
  | .thermalShutdown => true
  | .dieReset _ => true
  | .dieReadmit _ => true
  | .tdispMessage _ _ => true
  | .spdmRequest _ _ => true
  | .portReset _ => true
  | .boot _ _ => true
  | .coreOwnerChange _ _ => true
  | .scrubComplete _ => true
  | .jobRegister _ _ _ _ => true
  | .jobDeregister _ => true
  | .snapshotRequestReceipt _ _ => true
  | .snapshotSaved _ _ => true
  | .snapshotResume _ => true
  | .snapshotSweepComplete _ => true
  | .manifestCommit _ _ => true
  | .uncorrectableRead _ _ _ => true
  | .flumeHopFailure _ _ => true
  | .rollback _ _ _ => true
  | .illegalBundle _ => true
  | .reuseInsertComplete _ _ => true
  | .acquireReadPerformed _ _ => true
  | .prefetchReadArrival _ _ => true
  | .rpnAcknowledgement _ _ => true

/-- The guard of a slot (09 R237, R247, R251): none for a P slot, a side-core word and an event. -/
def Instr.guard : Instr → Option Guard
  | .psc _ => none
  | .pim _ => none
  | .pimh _ => none
  | .nopb f => some f.g
  | .bpt f => some f.g
  | .bptr f => some f.g
  | .bptrRel f => some f.g
  | .btr f => some f.g
  | .bcl f => some f.g
  | .bclA f => some f.g
  | .brtn f => some f.g
  | .brtnA f => some f.g
  | .lset f => some f.g
  | .lsetReg f => some f.g
  | .lstr f => some f.g
  | .lbrk f => some f.g
  | .lrrb f => some f.g
  | .yld f => some f.g
  | .yldp f => some f.g
  | .wtc f => some f.g
  | .wfl f => some f.g
  | .wmon f => some f.g
  | .tspn f => some f.g
  | .tend f => some f.g
  | .trap f => some f.g
  | .trapSv f => some f.g
  | .rtt f => some f.g
  | .ask f => some f.g
  | .askr f => some f.g
  | .snap f => some f.g
  | .snapw f => some f.g
  | .add f => some f.g
  | .sub f => some f.g
  | .mul f => some f.g
  | .mulh f => some f.g
  | .mulhu f => some f.g
  | .div f => some f.g
  | .divu f => some f.g
  | .rem f => some f.g
  | .remu f => some f.g
  | .and f => some f.g
  | .or f => some f.g
  | .xor f => some f.g
  | .andn f => some f.g
  | .shl f => some f.g
  | .shr f => some f.g
  | .sar f => some f.g
  | .rotl f => some f.g
  | .clz f => some f.g
  | .ctz f => some f.g
  | .popc f => some f.g
  | .min f => some f.g
  | .max f => some f.g
  | .minu f => some f.g
  | .maxu f => some f.g
  | .sel f => some f.g
  | .bext f => some f.g
  | .bins f => some f.g
  | .addw f => some f.g
  | .cmp f => some f.g
  | .fcmp f => some f.g
  | .qop f => some f.g
  | .movx f => some f.g
  | .fadds f => some f.g
  | .faddd f => some f.g
  | .fsubs f => some f.g
  | .fsubd f => some f.g
  | .fmuls f => some f.g
  | .fmuld f => some f.g
  | .fmas f => some f.g
  | .fmad f => some f.g
  | .fdivs f => some f.g
  | .fdivd f => some f.g
  | .fsqrs f => some f.g
  | .fsqrd f => some f.g
  | .fmins f => some f.g
  | .fmaxs f => some f.g
  | .fmind f => some f.g
  | .fmaxd f => some f.g
  | .fcvt f => some f.g
  | .fcls f => some f.g
  | .twos f => some f.g
  | .twop f => some f.g
  | .csrr f => some f.g
  | .csrw f => some f.g
  | .gset f => some f.g
  | .lidx f => some f.g
  | .cycr f => some f.g
  | .movi f => some f.g
  | .tsrd f => some f.g
  | .tlbi f => some f.g
  | .vadd f => some f.g
  | .vsub f => some f.g
  | .vmul f => some f.g
  | .vfma f => some f.g
  | .vfms f => some f.g
  | .vdiv f => some f.g
  | .vsqrt f => some f.g
  | .vmin f => some f.g
  | .vmax f => some f.g
  | .vabs f => some f.g
  | .vneg f => some f.g
  | .vexp2 f => some f.g
  | .vlog2 f => some f.g
  | .vrcp f => some f.g
  | .vrsq f => some f.g
  | .vcmp f => some f.g
  | .vsel f => some f.g
  | .vany f => some f.g
  | .vanyMask f => some f.g
  | .vall f => some f.g
  | .vallMask f => some f.g
  | .vkop f => some f.g
  | .vand f => some f.g
  | .vor f => some f.g
  | .vxor f => some f.g
  | .vshl f => some f.g
  | .vshr f => some f.g
  | .vsar f => some f.g
  | .vbcst f => some f.g
  | .vxtr f => some f.g
  | .viota f => some f.g
  | .vperm f => some f.g
  | .vbfly f => some f.g
  | .vrotl f => some f.g
  | .vreda f => some f.g
  | .vredm f => some f.g
  | .vcvt f => some f.g
  | .vpck f => some f.g
  | .vupk f => some f.g
  | .vcmul f => some f.g
  | .vcmac f => some f.g
  | .vtws f => some f.g
  | .vcadd f => some f.g
  | .vhad f => some f.g
  | .vsgn f => some f.g
  | .vqnt f => some f.g
  | .vdq f => some f.g
  | .vcrt f => some f.g
  | .vres f => some f.g
  | .vsett f => some f.g
  | .vmovkToMask f => some f.g
  | .vmovkToReg f => some f.g
  | .vcls f => some f.g
  | .vround f => some f.g
  | .vmulh f => some f.g
  | .vabsd f => some f.g
  | .vclz f => some f.g
  | .vpopc f => some f.g
  | .vsatn f => some f.g
  | .vscl f => some f.g
  | .vmix f => some f.g
  | .vsplt f => some f.g
  | .vzero f => some f.g
  | .ltset f => some f.g
  | .ltget f => some f.g
  | .ltcpy f => some f.g
  | .vld f => some f.g
  | .vldRaw f => some f.g
  | .vst f => some f.g
  | .vstRaw f => some f.g
  | .sld f => some f.g
  | .sst f => some f.g
  | .vgth f => some f.g
  | .vsct f => some f.g
  | .cpy f => some f.g
  | .cpya f => some f.g
  | .pub f => some f.g
  | .dclm f => some f.g
  | .drel f => some f.g
  | .dwr f => some f.g
  | .lscl f => some f.g
  | .aadd f => some f.g
  | .aaddf f => some f.g
  | .aaddk f => some f.g
  | .amin f => some f.g
  | .amax f => some f.g
  | .aminu f => some f.g
  | .amaxu f => some f.g
  | .axch f => some f.g
  | .acas f => some f.g
  | .aand f => some f.g
  | .aor f => some f.g
  | .axor f => some f.g
  | .tdec f => some f.g
  | .bind f => some f.g
  | .unbd f => some f.g
  | .acq f => some f.g
  | .rel f => some f.g
  | .acqt f => some f.g
  | .fnc f => some f.g
  | .fni f => some f.g
  | .fnw f => some f.g
  | .sflg f => some f.g
  | .scnt f => some f.g
  | .sbeq f => some f.g
  | .redp f => some f.g
  | .redw f => some f.g
  | .qpop f => some f.g
  | .qpsh f => some f.g
  | .qlev f => some f.g
  | .walw f => some f.g
  | .mona f => some f.g
  | .digq f => some f.g
  | .hgset f => some f.g
  | .hgget f => some f.g
  | .manr f => some f.g
  | .pref f => some f.g
  | .bld f => some f.g
  | .bst f => some f.g
  | .bzero f => some f.g
  | .cpyw f => some f.g
  | .lthdr f => some f.g
  | .sprb f => some f.g
  | .mnop f => some f.g
  | .mshb f => some f.g
  | .mshr f => some f.g
  | .mswp f => some f.g
  | .mpsa f => some f.g
  | .mpss f => some f.g
  | .mpra f => some f.g
  | .mprs f => some f.g
  | .mdrd f => some f.g
  | .mdrv f => some f.g
  | .mdrb f => some f.g
  | .mbas f => some f.g
  | .mbasKeep f => some f.g
  | .mzro f => some f.g
  | .mkst f => some f.g
  | .mkrd f => some f.g
  | .mtsr f => some f.g
  | .mbld f => some f.g
  | .mbst f => some f.g
  | .msyn f => some f.g
  | .mpoi f => some f.g
  | .jqPush _ => none
  | .jqPull _ => none
  | .jqPullLev _ => none
  | .jCpy _ _ _ => none
  | .jWtc _ _ => none
  | .jDclm _ _ _ => none
  | .jLte _ _ => none
  | .jLteW _ _ => none
  | .jFlag _ => none
  | .jCyc _ => none
  | .jPub _ _ => none
  | .jAcq _ _ => none
  | .jRel _ _ => none
  | .jSbeq _ _ _ => none
  | .sideCoreRv64Instruction _ => none
  | .sideCoreException _ _ => none
  | .scfltWrite _ _ _ => none
  | .resultLand _ => none
  | .pushLand _ => none
  | .icacheFill _ => none
  | .outerLoadArrival _ _ => none
  | .remoteTimeout _ _ => none
  | .remoteRefusal _ _ => none
  | .postedWritePerform _ => none
  | .releasePerform _ => none
  | .armedGranuleCopy _ _ _ => none
  | .pageWalk _ => none
  | .pageWalkComplete _ _ => none
  | .copyComplete _ _ => none
  | .copyFault _ _ => none
  | .drawerRowFilled _ _ => none
  | .tlbiComplete _ => none
  | .promiseReached _ _ => none
  | .stationFlagSet _ => none
  | .flagTimeout _ _ => none
  | .monitorFire _ _ => none
  | .monitorTimeout _ _ => none
  | .wmonTimeout _ _ => none
  | .parkWake _ _ => none
  | .parkTimeoutWake _ _ => none
  | .acqtReread _ _ => none
  | .leaveGrant _ => none
  | .reductionPacketArrival _ _ => none
  | .reductionRouterTimeout _ _ => none
  | .reductionWaitTimeout _ _ => none
  | .spanWatchdog _ => none
  | .taskRelease _ _ _ => none
  | .issueSelect _ => none
  | .sluiceBind _ => none
  | .dispatchComplete _ _ => none
  | .scratchFillComplete _ _ => none
  | .seatRestoreComplete _ _ => none
  | .preemptRequest _ _ _ => none
  | .forcedSave _ _ => none
  | .seatSaveComplete _ _ => none
  | .taskEndSuccessors _ _ => none
  | .reuseLookup _ _ => none
  | .reuseHitComplete _ _ => none
  | .hostFetchaddResv _ _ => none
  | .queueTailWrite _ _ => none
  | .hostPostedWrite _ _ => none
  | .flagClassWritePerform _ => none
  | .hostRead _ _ => none
  | .hostAtomic _ _ _ _ _ => none
  | .hostBar4Access _ _ _ => none
  | .launchQueuePoll _ => none
  | .taskCreation _ _ => none
  | .launchCompletion _ => none
  | .streamCloseFollowup _ => none
  | .gatePass _ => none
  | .gateLoad _ => none
  | .gateCopy _ => none
  | .gateAdd _ => none
  | .gateTake _ => none
  | .gateEmpty _ => none
  | .station0ClassChange _ => none
  | .station0EmptyStale _ => none
  | .beTakeSlot _ => none
  | .beHold _ => none
  | .beResend _ => none
  | .beWrite _ => none
  | .beReadRequest _ => none
  | .beReadResponse _ => none
  | .beCounterDecrement _ => none
  | .beAtomicRequest _ => none
  | .beAtomicResponse _ => none
  | .beSbeqMessage _ => none
  | .beReservedKind _ => none
  | .ladeBringUp _ _ _ => none
  | .canalInject _ => none
  | .canalTrim _ _ => none
  | .canalReadRequest _ => none
  | .canalReadResponse _ => none
  | .canalPostedWrite _ => none
  | .canalAadd _ => none
  | .canalAaddf _ => none
  | .canalAaddk _ => none
  | .canalAmin _ => none
  | .canalAmax _ => none
  | .canalAminu _ => none
  | .canalAmaxu _ => none
  | .canalAxch _ => none
  | .canalAcas _ => none
  | .canalAand _ => none
  | .canalAor _ => none
  | .canalAxor _ => none
  | .canalAcquireRead _ => none
  | .canalTaskDecrement _ => none
  | .canalPublication _ => none
  | .canalReservedAop _ => none
  | .canalAtomicResponse _ => none
  | .canalReRequest _ => none
  | .canalAcknowledgement _ => none
  | .canalSnapshotMarker _ => none
  | .canalRefusal _ => none
  | .canalReservedType _ => none
  | .canalPacketPerform _ _ => none
  | .canalHoleRerequest _ _ => none
  | .canalTokenRefill _ => none
  | .canalAckSend _ => none
  | .responderWatchdog _ _ => none
  | .linkIdle _ _ => none
  | .linkResync _ _ _ => none
  | .linkAdv _ _ => none
  | .linkRkreq _ _ => none
  | .linkRkmsg _ _ => none
  | .linkKeysw _ => none
  | .linkAdvTimer _ => none
  | .linkResyncTimer _ => none
  | .linkReplayRequest _ _ => none
  | .linkRetire _ => none
  | .rekeyStart _ => none
  | .rekeyStop _ => none
  | .rekeyTimeout _ => none
  | .keyLoad _ => none
  | .keyRetire => none
  | .keyQuery => none
  | .keyBadRequest => none
  | .keyDoorbellInvalid => none
  | .wallowWrite _ _ => none
  | .pcapWrite _ => none
  | .powerClassChange => none
  | .managementRegisterWrite _ _ => none
  | .throttle _ _ => none
  | .thermalShutdown => none
  | .dieReset _ => none
  | .dieReadmit _ => none
  | .tdispMessage _ _ => none
  | .spdmRequest _ _ => none
  | .portReset _ => none
  | .boot _ _ => none
  | .coreOwnerChange _ _ => none
  | .scrubComplete _ => none
  | .jobRegister _ _ _ _ => none
  | .jobDeregister _ => none
  | .snapshotRequestReceipt _ _ => none
  | .snapshotSaved _ _ => none
  | .snapshotResume _ => none
  | .snapshotSweepComplete _ => none
  | .manifestCommit _ _ => none
  | .uncorrectableRead _ _ _ => none
  | .flumeHopFailure _ _ => none
  | .rollback _ _ _ => none
  | .illegalBundle _ => none
  | .reuseInsertComplete _ _ => none
  | .acquireReadPerformed _ _ => none
  | .prefetchReadArrival _ _ => none
  | .rpnAcknowledgement _ _ => none

end Sys2Proof
end

