-- ==== Sys2Proof/Decode.lean ====
section
/-! DEFINITION. Decoding: the fields of a slot, the opcode map, the legality of slots and bundles with the reasons of 09 R250,
the side cores' words (16 R414), and after them the encoders written from the same tables. -/

namespace Sys2Proof

/-! ### Fields of a slot (09 R237) -/

/-- The fields of one slot as numbers: X, G, D, A and B (09 R237). -/
structure Fields where
  x : Nat
  g : Nat
  d : Nat
  a : Nat
  b : Nat
deriving DecidableEq, Repr

/-- Bits `lo + w - 1` to `lo` of a number. -/
def bitsAt (n lo w : Nat) : Nat := n / 2 ^ lo % 2 ^ w

/-- The fields of a slot word (09 R237). -/
def fieldsOf (w : Nat) : Fields :=
  ⟨bitsAt w 22 1, bitsAt w 18 4, bitsAt w 12 6, bitsAt w 6 6, bitsAt w 0 6⟩

/-- The OP field of a slot word (09 R237). -/
def opOf (w : Nat) : Nat := bitsAt w 23 8

/-- The stop bit of a slot word (09 R237). -/
def stopOf (w : Nat) : Bool := bitsAt w 31 1 == 1

/-- The word of an opcode and its fields, stop bit 0 (09 R237). -/
def wordOf (op : Nat) (f : Fields) : Nat :=
  op * 2 ^ 23 + f.x * 2 ^ 22 + f.g * 2 ^ 18 + f.d * 2 ^ 12 + f.a * 2 ^ 6 + f.b

/-- A decoded value, the reasons of 09 R250 that make its slot illegal, and the selector codes it reads. -/
structure Chk (α : Type) where
  bad : List Nat
  srcs : List Nat
  val : α
deriving Repr

/-- Reason 33 unless a field is zero (09 R237). -/
def zeroBad (n : Nat) : List Nat := if n = 0 then [] else [33]

/-- Reason 36 unless a limit holds (09 R249). -/
def limBad (p : Bool) : List Nat := if p then [] else [36]

/-- Reason 35 unless a pair is 1-5 (09 R239). -/
def pairBad (j : Nat) : List Nat := if 1 ≤ j ∧ j ≤ 5 then [] else [35]

/-- Reason 34 when W = 1 and the index is not 0 (09 R239). -/
def dstBad (d : Nat) : List Nat := if d / 32 = 1 ∧ d % 32 ≠ 0 then [34] else []

/-! ### Operands -/

/-- Index of a unit among the latch selectors (09 R240). -/
def UnitId.ix : UnitId → Nat
  | .b => 0 | .s0 => 1 | .s1 => 2 | .v => 3 | .l0 => 4 | .l1 => 5 | .m => 6

/-- The unit of an index. -/
def UnitId.ofIx : Nat → UnitId
  | 0 => .b | 1 => .s0 | 2 => .s1 | 3 => .v | 4 => .l0 | 5 => .l1 | _ => .m

/-- The code of a source (09 R240). -/
def Src.code : Src → Nat
  | .main n => n.val
  | .opnd n => 24 + n.val
  | .latch u o => 32 + 2 * u.ix + (if o then 1 else 0)
  | .gp i => 48 + i.val
  | .imm => 52
  | .const k => 54 + k.val

/-- The source of a code (09 R240); reserved codes are refused by `srcBad`. -/
def Src.ofCode (c : Nat) : Src :=
  if c < 24 then .main (Fin.ofNat 24 c)
  else if c < 32 then .opnd (Fin.ofNat 8 (c - 24))
  else if c < 46 then .latch (UnitId.ofIx ((c - 32) / 2)) (c % 2 == 1)
  else if c < 52 then .gp (Fin.ofNat 4 (c - 48))
  else if c < 54 then .imm
  else .const (Fin.ofNat 10 (c - 54))

/-- Reasons 10, 12 and 13 of a selector (09 R240, R250). -/
def srcBad (k : SrcKind) (c : Nat) : List Nat :=
  (if c = 46 ∨ c = 47 ∨ c = 53 then [10] else []) ++
  (if c = 58 ∧ k ≠ .fp then [12] else []) ++
  (if c < 32 ∧ k = .branch then [13] else [])

/-- The code of a destination (09 R239). -/
def Dst.code : Dst → Nat
  | .main n => n.val
  | .opnd n => 24 + n.val
  | .latch => 32

/-- The destination of a code (09 R239). -/
def Dst.ofCode (c : Nat) : Dst :=
  if c < 24 then .main (Fin.ofNat 24 c) else if c < 32 then .opnd (Fin.ofNat 8 (c - 24)) else .latch

/-- A decoded S, V, L or B slot with its A selector. -/
def selA (k : SrcKind) (f : Fields) (bad : List Nat) (v : α) : Chk α := ⟨bad ++ srcBad k f.a, [f.a], v⟩
/-- With its B selector. -/
def selB (k : SrcKind) (f : Fields) (bad : List Nat) (v : α) : Chk α := ⟨bad ++ srcBad k f.b, [f.b], v⟩
/-- With both selectors. -/
def selAB (ka kb : SrcKind) (f : Fields) (bad : List Nat) (v : α) : Chk α :=
  ⟨bad ++ srcBad ka f.a ++ srcBad kb f.b, [f.a, f.b], v⟩
/-- With no selector. -/
def selN (bad : List Nat) (v : α) : Chk α := ⟨bad, [], v⟩

/-- The guard field. -/
def gOf (f : Fields) : Guard := Fin.ofNat 16 f.g
/-- The X field. -/
def xOf (f : Fields) : Bool := f.x == 1
/-- A Boolean as a bit. -/
def bit (b : Bool) : Nat := if b then 1 else 0

/-! ### Names of conditions, operations, formats -/

def Rm.code : Rm → Nat
  | .rne => 0 | .rtz => 1 | .rdn => 2 | .rup => 3
def Rm.ofCode : Nat → Rm
  | 0 => .rne | 1 => .rtz | 2 => .rdn | _ => .rup
def CmpCond.code : CmpCond → Nat
  | .eq => 0 | .ne => 1 | .lt => 2 | .ge => 3 | .ltu => 4 | .geu => 5 | .le => 6 | .tst => 7
def CmpCond.ofCode : Nat → CmpCond
  | 0 => .eq | 1 => .ne | 2 => .lt | 3 => .ge | 4 => .ltu | 5 => .geu | 6 => .le | _ => .tst
def FcmpCond.code : FcmpCond → Nat
  | .eqS => 0 | .ltS => 1 | .leS => 2 | .unS => 3 | .eqD => 4 | .ltD => 5 | .leD => 6 | .unD => 7
def FcmpCond.ofCode : Nat → FcmpCond
  | 0 => .eqS | 1 => .ltS | 2 => .leS | 3 => .unS | 4 => .eqD | 5 => .ltD | 6 => .leD | _ => .unD
def VCond.code : VCond → Nat
  | .eq => 0 | .ne => 1 | .lt => 2 | .le => 3 | .gt => 4 | .ge => 5 | .ltuUn => 6 | .geuOr => 7
def VCond.ofCode : Nat → VCond
  | 0 => .eq | 1 => .ne | 2 => .lt | 3 => .le | 4 => .gt | 5 => .ge | 6 => .ltuUn | _ => .geuOr
def PredOp.code : PredOp → Nat
  | .and => 0 | .or => 1 | .xor => 2 | .andn => 3 | .orn => 4 | .mov => 5
def PredOp.ofCode : Nat → PredOp
  | 0 => .and | 1 => .or | 2 => .xor | 3 => .andn | 4 => .orn | _ => .mov
def MaskOp.code : MaskOp → Nat
  | .and => 0 | .or => 1 | .xor => 2 | .andn => 3 | .orn => 4 | .not => 5 | .mov => 6 | .set => 7
def MaskOp.ofCode : Nat → MaskOp
  | 0 => .and | 1 => .or | 2 => .xor | 3 => .andn | 4 => .orn | 5 => .not | 6 => .mov | _ => .set
def MFmt.ofCode : Nat → MFmt
  | 0 => .rx8 | 1 => .b16 | 2 => .fp16 | _ => .fp32
def LidxField.code : LidxField → Nat
  | .idx => 0 | .cnt => 1 | .rem => 2
def LidxField.ofCode : Nat → LidxField
  | 0 => .idx | 1 => .cnt | _ => .rem
def MovxTarget.code : MovxTarget → Nat
  | .s0 => 0 | .s1 => 1 | .l0 => 2 | .l1 => 3 | .v => 4
def MovxTarget.ofCode : Nat → MovxTarget
  | 0 => .s0 | 1 => .s1 | 2 => .l0 | 3 => .l1 | _ => .v
def FclsFmt.code : FclsFmt → Nat
  | .fp32 => 0 | .fp64 => 1 | .fp16 => 2 | .b16 => 3
def FclsFmt.ofCode : Nat → FclsFmt
  | 0 => .fp32 | 1 => .fp64 | 2 => .fp16 | _ => .b16
def DrainSrc.code : DrainSrc → Nat
  | .k27 => 0 | .f32 => 3
def DrainSrc.ofCode : Nat → DrainSrc
  | 0 => .k27 | _ => .f32
/-- D[16:12] of a pair destination, width in D[12]; W = 1 for the latch alone (11 R281). -/
def PairDst.code (p : PairDst) (wide : Bool) : Nat :=
  match p with
  | .regs i => 2 * i.val + bit wide
  | .latch => 32
def PairDst.ofCode (d : Nat) : PairDst :=
  if d < 32 then .regs (Fin.ofNat 16 (d / 2)) else .latch

/-! ### Shapes: `toF` gives the fields of a shape, `of` reads them back. -/

/-- The number in bits [22:0] of a P slot. -/
def Fields.low23 (f : Fields) : Nat := f.x * 2 ^ 22 + f.g * 2 ^ 18 + f.d * 2 ^ 12 + f.a * 2 ^ 6 + f.b
/-- The fields that hold a number in bits [22:0]. -/
def Fields.ofLow23 (n : Nat) : Fields := ⟨bitsAt n 22 1, bitsAt n 18 4, bitsAt n 12 6, bitsAt n 6 6, bitsAt n 0 6⟩
/-- The g register of a port field, 31 for none (09 R244). -/
def portCode : Option (Fin 31) → Nat
  | some n => n.val
  | none => 31
def portOf (n : Nat) : Option (Fin 31) := if n < 31 then some (Fin.ofNat 31 n) else none

def Ppsc.toF (p : Ppsc) : Fields :=
  .ofLow23 (p.scope.val * 2 ^ 20 + portCode p.gp0 * 2 ^ 15 + portCode p.gp1 * 2 ^ 10 + portCode p.gp2 * 2 ^ 5 + portCode p.gp3)
def Ppsc.of (f : Fields) : Chk Ppsc :=
  let n := f.low23
  selN (if bitsAt n 20 3 < 5 then [] else [8])
    ⟨Fin.ofNat 8 (bitsAt n 20 3), portOf (bitsAt n 15 5), portOf (bitsAt n 10 5), portOf (bitsAt n 5 5), portOf (bitsAt n 0 5)⟩
def Pimm.toF (p : Pimm) : Fields := .ofLow23 p.val.toNat
def Pimm.of (f : Fields) : Chk Pimm := selN [] ⟨BitVec.ofNat 23 f.low23⟩

def Bn.toF (s : Bn) (x : Nat) : Fields := ⟨x, s.g.val, 0, 0, 0⟩
def Bn.of (f : Fields) : Chk Bn := selN (zeroBad f.d ++ zeroBad f.a ++ zeroBad f.b) ⟨gOf f⟩
def Bpt.toF (s : Bpt) : Fields := ⟨0, s.g.val, s.t.val, bitsAt s.off.toNat 6 6, bitsAt s.off.toNat 0 6⟩
def Bpt.of (f : Fields) : Chk Bpt :=
  selN (zeroBad f.x ++ zeroBad (f.d / 4)) ⟨gOf f, Fin.ofNat 4 f.d, BitVec.ofNat 12 (f.a * 64 + f.b)⟩
def Bba.toF (s : Bba) (x : Nat) : Fields := ⟨x, s.g.val, s.t.val, s.a.code, 0⟩
def Bba.of (f : Fields) : Chk Bba :=
  selA .branch f (zeroBad (f.d / 4) ++ zeroBad f.b) ⟨gOf f, Fin.ofNat 4 f.d, .ofCode f.a⟩
def Bb.toF (s : Bb) : Fields := ⟨0, s.g.val, s.t.val, 0, 0⟩
def Bb.of (f : Fields) : Chk Bb :=
  selN (zeroBad (f.d / 4) ++ zeroBad f.a ++ zeroBad f.b) ⟨gOf f, Fin.ofNat 4 f.d⟩
def Ba.toF (s : Ba) (x : Nat) : Fields := ⟨x, s.g.val, 0, s.a.code, 0⟩
def Ba.of (f : Fields) : Chk Ba := selA .branch f (zeroBad f.d ++ zeroBad f.b) ⟨gOf f, .ofCode f.a⟩
def Bab.toF (s : Bab) (x : Nat) : Fields := ⟨x, s.g.val, 0, s.a.code, s.b.code⟩
def Bab.of (f : Fields) : Chk Bab :=
  selAB .branch .branch f (zeroBad f.d) ⟨gOf f, .ofCode f.a, .ofCode f.b⟩
def Blset.toF (s : Blset) : Fields := ⟨0, s.g.val, s.len.val, s.a.code, 0⟩
def Blset.of (f : Fields) : Chk Blset := selA .branch f (zeroBad f.b) ⟨gOf f, Fin.ofNat 64 f.d, .ofCode f.a⟩
def Blstr.toF (s : Blstr) : Fields := ⟨0, s.g.val, s.n.val, s.a.code, s.level.val⟩
def Blstr.of (f : Fields) : Chk Blstr :=
  selA .branch f (zeroBad f.x ++ zeroBad (f.d / 32) ++ zeroBad (f.b / 8) ++ limBad (f.d % 32 != 31) ++ limBad (f.b % 8 != 6))
    ⟨gOf f, Fin.ofNat 32 f.d, .ofCode f.a, Fin.ofNat 8 f.b⟩
def Blbrk.toF (s : Blbrk) : Fields := ⟨0, s.g.val, s.n.val, 0, 0⟩
def Blbrk.of (f : Fields) : Chk Blbrk :=
  selN (zeroBad f.x ++ zeroBad (f.d / 8) ++ zeroBad f.a ++ zeroBad f.b ++ limBad (f.d % 8 != 0 && f.d % 8 != 7))
    ⟨gOf f, Fin.ofNat 8 f.d⟩
def Bwfl.toF (s : Bwfl) : Fields := ⟨0, s.g.val, s.flag.val, s.a.code, 0⟩
def Bwfl.of (f : Fields) : Chk Bwfl :=
  selA .branch f (zeroBad f.x ++ zeroBad (f.d / 32) ++ zeroBad f.b) ⟨gOf f, Fin.ofNat 32 f.d, .ofCode f.a⟩

def S3.toF (s : S3) : Fields := ⟨bit s.x, s.g.val, s.d.code, s.a.code, s.b.code⟩
def S3.of (k : SrcKind) (f : Fields) : Chk S3 :=
  selAB k k f (dstBad f.d) ⟨gOf f, xOf f, .ofCode f.d, .ofCode f.a, .ofCode f.b⟩
/-- The form whose destination is also a source: W = 1 is reason 36 (11 R274, R278). -/
def S3.ofRd (k : SrcKind) (f : Fields) : Chk S3 :=
  selAB k k f (dstBad f.d ++ limBad (f.d < 32)) ⟨gOf f, xOf f, .ofCode f.d, .ofCode f.a, .ofCode f.b⟩
def S2.toF (s : S2) : Fields := ⟨bit s.x, s.g.val, s.d.code, s.a.code, 0⟩
def S2.of (k : SrcKind) (f : Fields) : Chk S2 :=
  selA k f (dstBad f.d ++ zeroBad f.b) ⟨gOf f, xOf f, .ofCode f.d, .ofCode f.a⟩
def S1.toF (s : S1) : Fields := ⟨bit s.x, s.g.val, s.d.code, 0, 0⟩
def S1.of (f : Fields) : Chk S1 :=
  selN (dstBad f.d ++ zeroBad f.a ++ zeroBad f.b) ⟨gOf f, xOf f, .ofCode f.d⟩
def Smovi.toF (s : Smovi) : Fields := ⟨bit s.x, s.g.val, s.d.code, bitsAt s.imm.toNat 6 6, bitsAt s.imm.toNat 0 6⟩
def Smovi.of (f : Fields) : Chk Smovi :=
  selN (dstBad f.d) ⟨gOf f, xOf f, .ofCode f.d, BitVec.ofNat 12 (f.a * 64 + f.b)⟩
def Scmp.toF (s : Scmp) : Fields := ⟨bit s.x, s.g.val, s.cond.code * 8 + s.j.val, s.a.code, s.b.code⟩
def Scmp.of (f : Fields) : Chk Scmp :=
  selAB .int .int f (pairBad (f.d % 8)) ⟨gOf f, xOf f, .ofCode (f.d / 8), Fin.ofNat 8 f.d, .ofCode f.a, .ofCode f.b⟩
def Sfcmp.toF (s : Sfcmp) : Fields := ⟨bit s.x, s.g.val, s.cond.code * 8 + s.j.val, s.a.code, s.b.code⟩
def Sfcmp.of (f : Fields) : Chk Sfcmp :=
  selAB .fp .fp f (pairBad (f.d % 8)) ⟨gOf f, xOf f, .ofCode (f.d / 8), Fin.ofNat 8 f.d, .ofCode f.a, .ofCode f.b⟩
def Sqop.toF (s : Sqop) : Fields := ⟨bit s.x, s.g.val, s.op.code * 8 + s.j.val, s.p.val, s.r.val⟩
def Sqop.of (f : Fields) : Chk Sqop :=
  selN (pairBad (f.d % 8) ++ zeroBad (f.a / 16) ++ zeroBad (f.b / 16) ++ limBad (f.d / 8 < 6) ++
      (if f.d / 8 = 5 then zeroBad (f.b % 16) else []))
    ⟨gOf f, xOf f, .ofCode (f.d / 8), Fin.ofNat 8 f.d, Fin.ofNat 16 f.a, Fin.ofNat 16 f.b⟩
def Smovx.toF (s : Smovx) : Fields := ⟨bit s.x, s.g.val, s.d.code, s.a.code, s.target.code⟩
def Smovx.of (f : Fields) : Chk Smovx :=
  selA .int f (dstBad f.d ++ zeroBad (f.b / 8) ++ limBad (f.b % 8 < 5) ++ (if f.d / 32 = 1 then zeroBad f.b else []))
    ⟨gOf f, xOf f, .ofCode f.d, .ofCode f.a, .ofCode (f.b % 8)⟩
def Sfcvt.toF (s : Sfcvt) : Fields := ⟨bit s.x, s.g.val, s.d.code, s.a.code, s.code.val * 4 + s.rm.code⟩

def Sfcvt.of (f : Fields) : Chk Sfcvt :=
  selA (fcvtKind (f.b / 4)) f (dstBad f.d) ⟨gOf f, xOf f, .ofCode f.d, .ofCode f.a, Fin.ofNat 16 (f.b / 4), .ofCode (f.b % 4)⟩
def Sfcls.toF (s : Sfcls) : Fields := ⟨bit s.x, s.g.val, s.d.code, s.a.code, s.fmt.code⟩
def Sfcls.of (f : Fields) : Chk Sfcls :=
  selA .fp f (dstBad f.d ++ limBad (f.b < 4)) ⟨gOf f, xOf f, .ofCode f.d, .ofCode f.a, .ofCode f.b⟩
def Spair.toF (s : Spair) : Fields := ⟨bit s.x, s.g.val, s.p.code s.wide, s.a.code, s.b.code⟩
def Spair.of (f : Fields) : Chk Spair :=
  selAB .fp .fp f (dstBad f.d) ⟨gOf f, xOf f, .ofCode f.d, f.d % 2 == 1, .ofCode f.a, .ofCode f.b⟩


def Scsrr.toF (s : Scsrr) : Fields := ⟨bit s.x, s.g.val, s.d.code, s.csr.val, 0⟩
def Scsrr.of (f : Fields) : Chk Scsrr :=
  selN (dstBad f.d ++ zeroBad f.b ++ limBad (csrValid f.a)) ⟨gOf f, xOf f, .ofCode f.d, Fin.ofNat 64 f.a⟩
def Scsrw.toF (s : Scsrw) : Fields := ⟨bit s.x, s.g.val, 0, s.csr.val, s.b.code⟩
def Scsrw.of (f : Fields) : Chk Scsrw :=
  selB .int f (zeroBad f.d ++ limBad (csrWritable f.a)) ⟨gOf f, xOf f, Fin.ofNat 64 f.a, .ofCode f.b⟩
def Sgset.toF (s : Sgset) : Fields := ⟨bit s.x, s.g.val, s.n.val, s.a.code, 0⟩
def Sgset.of (f : Fields) : Chk Sgset :=
  selA .int f (zeroBad f.b ++ limBad (f.d < 31)) ⟨gOf f, xOf f, Fin.ofNat 32 f.d, .ofCode f.a⟩
def Slidx.toF (s : Slidx) : Fields := ⟨bit s.x, s.g.val, s.d.code, s.level.val, s.field.code⟩
def Slidx.of (f : Fields) : Chk Slidx :=
  selN (dstBad f.d ++ zeroBad (f.a / 8) ++ zeroBad (f.b / 4) ++ limBad (f.a % 8 < 6) ++ limBad (f.b % 4 < 3))
    ⟨gOf f, xOf f, .ofCode f.d, Fin.ofNat 8 f.a, .ofCode (f.b % 4)⟩
def Stsrd.toF (s : Stsrd) : Fields := ⟨bit s.x, s.g.val, s.d.code, s.n.val, 0⟩
def Stsrd.of (f : Fields) : Chk Stsrd :=
  selN (dstBad f.d ++ zeroBad (f.a / 16) ++ zeroBad f.b) ⟨gOf f, xOf f, .ofCode f.d, Fin.ofNat 16 f.a⟩
def Sab.toF (s : Sab) : Fields := ⟨bit s.x, s.g.val, 0, s.a.code, s.b.code⟩
def Sab.of (f : Fields) : Chk Sab := selAB .int .int f (zeroBad f.d) ⟨gOf f, xOf f, .ofCode f.a, .ofCode f.b⟩

def V3.toF (s : V3) : Fields := ⟨0, s.g.val, s.d.code, s.a.code, s.b.code⟩
def V3.of (ka kb : SrcKind) (f : Fields) : Chk V3 :=
  selAB ka kb f (zeroBad f.x ++ dstBad f.d) ⟨gOf f, .ofCode f.d, .ofCode f.a, .ofCode f.b⟩
/-- W = 1 is reason 36 (12 R313, R324). -/
def V3.ofRd (f : Fields) : Chk V3 :=
  selAB .fp .fp f (zeroBad f.x ++ dstBad f.d ++ limBad (f.d < 32)) ⟨gOf f, .ofCode f.d, .ofCode f.a, .ofCode f.b⟩
def V3x.toF (s : V3x) : Fields := ⟨bit s.x, s.g.val, s.d.code, s.a.code, s.b.code⟩
def V3x.of (k : SrcKind) (f : Fields) : Chk V3x :=
  selAB k k f (dstBad f.d) ⟨gOf f, xOf f, .ofCode f.d, .ofCode f.a, .ofCode f.b⟩
def V2.toF (s : V2) : Fields := ⟨0, s.g.val, s.d.code, s.a.code, 0⟩
def V2.of (k : SrcKind) (f : Fields) : Chk V2 :=
  selA k f (zeroBad f.x ++ dstBad f.d ++ zeroBad f.b) ⟨gOf f, .ofCode f.d, .ofCode f.a⟩
def V1.toF (s : V1) : Fields := ⟨0, s.g.val, s.d.code, 0, 0⟩
def V1.of (f : Fields) : Chk V1 :=
  selN (zeroBad f.x ++ dstBad f.d ++ zeroBad f.a ++ zeroBad f.b) ⟨gOf f, .ofCode f.d⟩
def Vcmp.toF (s : Vcmp) : Fields := ⟨0, s.g.val, s.cond.code * 8 + s.k.val, s.a.code, s.b.code⟩
def Vcmp.of (f : Fields) : Chk Vcmp :=
  selAB .fp .fp f (zeroBad f.x) ⟨gOf f, .ofCode (f.d / 8), Fin.ofNat 8 f.d, .ofCode f.a, .ofCode f.b⟩
/-- VANY and VALL over a compare name a pair (12 R316). -/
def Vcmp.ofPair (f : Fields) : Chk Vcmp :=
  selAB .fp .fp f (pairBad (f.d % 8)) ⟨gOf f, .ofCode (f.d / 8), Fin.ofNat 8 f.d, .ofCode f.a, .ofCode f.b⟩
def Vvotm.toF (s : Vvotm) : Fields := ⟨1, s.g.val, s.k.val * 8 + s.j.val, 0, 0⟩
def Vvotm.of (f : Fields) : Chk Vvotm :=
  selN (pairBad (f.d % 8) ++ zeroBad f.a ++ zeroBad f.b) ⟨gOf f, Fin.ofNat 8 (f.d / 8), Fin.ofNat 8 f.d⟩
def Vkop.toF (s : Vkop) : Fields := ⟨0, s.g.val, s.op.code * 8 + s.d.val, s.a.val, s.b.val⟩
def Vkop.of (f : Fields) : Chk Vkop :=
  selN (zeroBad f.x ++ zeroBad (f.a / 8) ++ zeroBad (f.b / 8) ++ (if 5 ≤ f.d / 8 then zeroBad (f.b % 8) else []) ++
      (if f.d / 8 = 7 then zeroBad (f.a % 8) else []))
    ⟨gOf f, .ofCode (f.d / 8), Fin.ofNat 8 f.d, Fin.ofNat 8 f.a, Fin.ofNat 8 f.b⟩
def Vmkto.toF (s : Vmkto) : Fields := ⟨0, s.g.val, s.k.val, s.a.code, 0⟩
def Vmkto.of (f : Fields) : Chk Vmkto :=
  selA .int f (zeroBad (f.d / 8) ++ zeroBad f.b) ⟨gOf f, Fin.ofNat 8 f.d, .ofCode f.a⟩
def Vmkfr.toF (s : Vmkfr) : Fields := ⟨1, s.g.val, s.d.code, s.k.val, 0⟩
def Vmkfr.of (f : Fields) : Chk Vmkfr :=
  selN (dstBad f.d ++ zeroBad (f.a / 8) ++ zeroBad f.b) ⟨gOf f, .ofCode f.d, Fin.ofNat 8 f.a⟩
def Vredm.toF (s : Vredm) : Fields := ⟨bit s.x, s.g.val, s.d.code, s.a.code, bit s.min⟩
def Vredm.of (f : Fields) : Chk Vredm :=
  selA .fp f (dstBad f.d ++ zeroBad (f.b / 2)) ⟨gOf f, xOf f, .ofCode f.d, .ofCode f.a, f.b % 2 == 1⟩

def Vcvt.toF (s : Vcvt) : Fields := ⟨bit s.x, s.g.val, s.d.code, s.a.code, s.toTy.val * 4 + s.rm.code⟩
def Vcvt.of (f : Fields) : Chk Vcvt :=
  selA .fp f (dstBad f.d ++ limBad (vcvtTo (f.b / 4)))
    ⟨gOf f, xOf f, .ofCode f.d, .ofCode f.a, Fin.ofNat 16 (f.b / 4), .ofCode (f.b % 4)⟩
def Vpart.toF (s : Vpart) : Fields := ⟨0, s.g.val, s.d.code, s.a.code, s.p.val⟩
def Vpart.of (k : SrcKind) (lim : Nat) (f : Fields) : Chk Vpart :=
  selA k f (zeroBad f.x ++ dstBad f.d ++ zeroBad (f.b / 4) ++ limBad (f.b % 4 < lim))
    ⟨gOf f, .ofCode f.d, .ofCode f.a, Fin.ofNat 4 f.b⟩
def Vtws.toF (s : Vtws) : Fields := ⟨0, s.g.val, s.p.code false, s.a.code, s.b.code⟩
def Vtws.of (f : Fields) : Chk Vtws :=
  selAB .fp .fp f (zeroBad f.x ++ zeroBad (f.d % 2) ++ dstBad f.d)
    ⟨gOf f, .ofCode f.d, .ofCode f.a, .ofCode f.b⟩
def Vsett.toF (s : Vsett) : Fields := ⟨0, s.g.val, 0, bit s.men * 8 + s.ksel.val, s.et.val⟩
def Vsett.of (f : Fields) : Chk Vsett :=
  selN (zeroBad f.x ++ zeroBad f.d ++ zeroBad (f.a / 16) ++ zeroBad (f.b / 16) ++ limBad (f.b % 16 < 10))
    ⟨gOf f, bitsAt f.a 3 1 == 1, Fin.ofNat 8 f.a, Fin.ofNat 16 f.b⟩
def Vround.toF (s : Vround) : Fields := ⟨0, s.g.val, s.d.code, s.a.code, s.rm.code⟩
def Vround.of (f : Fields) : Chk Vround :=
  selA .fp f (zeroBad f.x ++ dstBad f.d ++ zeroBad (f.b / 4)) ⟨gOf f, .ofCode f.d, .ofCode f.a, .ofCode (f.b % 4)⟩


def Ltset.toF (s : Ltset) : Fields := ⟨bit s.x, s.g.val, s.e.val, s.a.code, s.code.val⟩
def Ltset.of (f : Fields) : Chk Ltset :=
  selA .int f (zeroBad (f.d / 32) ++ limBad (lteCodeValid f.b)) ⟨gOf f, xOf f, Fin.ofNat 32 f.d, .ofCode f.a, Fin.ofNat 64 f.b⟩
def Ltget.toF (s : Ltget) : Fields := ⟨bit s.x, s.g.val, s.d.code, s.e.val, s.code.val⟩
def Ltget.of (f : Fields) : Chk Ltget :=
  selN (dstBad f.d ++ zeroBad (f.a / 32) ++ limBad (lteCodeValid f.b))
    ⟨gOf f, xOf f, .ofCode f.d, Fin.ofNat 32 f.a, Fin.ofNat 64 f.b⟩
def Ltcpy.toF (s : Ltcpy) : Fields := ⟨bit s.x, s.g.val, s.ed.val, s.es.val, 0⟩
def Ltcpy.of (f : Fields) : Chk Ltcpy :=
  selN (zeroBad (f.d / 32) ++ zeroBad (f.a / 32) ++ zeroBad f.b) ⟨gOf f, xOf f, Fin.ofNat 32 f.d, Fin.ofNat 32 f.a⟩
/-- `raw` is B[5] (14 R356). -/
def Ldae.toF (s : Ldae) (raw : Nat) : Fields := ⟨bit s.x, s.g.val, s.d.code, s.a.code, raw * 32 + s.e.val⟩
/-- VLD and VLD.raw, told apart by B[5]. -/
def Ldae.ofRaw (f : Fields) : Chk Ldae :=
  selA .int f (dstBad f.d) ⟨gOf f, xOf f, .ofCode f.d, .ofCode f.a, Fin.ofNat 32 f.b⟩
def Ldae.of (f : Fields) : Chk Ldae :=
  selA .int f (dstBad f.d ++ zeroBad (f.b / 32)) ⟨gOf f, xOf f, .ofCode f.d, .ofCode f.a, Fin.ofNat 32 f.b⟩
/-- `raw` is D[17] (14 R356). -/
def Leab.toF (s : Leab) (raw : Nat) : Fields := ⟨bit s.x, s.g.val, raw * 32 + s.e.val, s.a.code, s.b.code⟩
/-- VST and VST.raw, told apart by D[17]. -/
def Leab.ofRaw (f : Fields) : Chk Leab :=
  selAB .fp .int f [] ⟨gOf f, xOf f, Fin.ofNat 32 f.d, .ofCode f.a, .ofCode f.b⟩
def Leab.of (ka kb : SrcKind) (f : Fields) : Chk Leab :=
  selAB ka kb f (zeroBad (f.d / 32)) ⟨gOf f, xOf f, Fin.ofNat 32 f.d, .ofCode f.a, .ofCode f.b⟩
def Lsld.toF (s : Lsld) : Fields := ⟨bit s.x, s.g.val, s.d.code, s.a.code, bit s.sx * 32 + s.e.val⟩
def Lsld.of (f : Fields) : Chk Lsld :=
  selA .int f (dstBad f.d) ⟨gOf f, xOf f, .ofCode f.d, .ofCode f.a, Fin.ofNat 32 f.b, f.b / 32 == 1⟩
def Ldab.toF (s : Ldab) : Fields := ⟨bit s.x, s.g.val, s.d.code, s.a.code, s.b.code⟩
def Ldab.of (f : Fields) : Chk Ldab :=
  selAB .int .int f (dstBad f.d) ⟨gOf f, xOf f, .ofCode f.d, .ofCode f.a, .ofCode f.b⟩
/-- Entry in A. -/
def Le.toFA (s : Le) : Fields := ⟨bit s.x, s.g.val, 0, s.e.val, 0⟩
def Le.ofA (f : Fields) : Chk Le :=
  selN (zeroBad f.d ++ zeroBad (f.a / 32) ++ zeroBad f.b) ⟨gOf f, xOf f, Fin.ofNat 32 f.a⟩
/-- Entry in D. -/
def Le.toFD (s : Le) : Fields := ⟨bit s.x, s.g.val, s.e.val, 0, 0⟩
def Le.ofD (f : Fields) : Chk Le :=
  selN (zeroBad (f.d / 32) ++ zeroBad f.a ++ zeroBad f.b) ⟨gOf f, xOf f, Fin.ofNat 32 f.d⟩
def Lde.toF (s : Lde) : Fields := ⟨bit s.x, s.g.val, s.d.code, s.e.val, 0⟩
def Lde.of (f : Fields) : Chk Lde :=
  selN (dstBad f.d ++ zeroBad (f.a / 32) ++ zeroBad f.b) ⟨gOf f, xOf f, .ofCode f.d, Fin.ofNat 32 f.a⟩
def La.toF (s : La) : Fields := ⟨bit s.x, s.g.val, 0, s.a.code, 0⟩
def La.of (f : Fields) : Chk La := selA .int f (zeroBad f.d ++ zeroBad f.b) ⟨gOf f, xOf f, .ofCode f.a⟩
def Ldwr.toF (s : Ldwr) : Fields := ⟨bit s.x, s.g.val, s.row.val, s.a.code, bit s.hi * 32 + s.drawer.val⟩
def Ldwr.of (f : Fields) : Chk Ldwr :=
  selA .int f [] ⟨gOf f, xOf f, Fin.ofNat 64 f.d, .ofCode f.a, Fin.ofNat 32 f.b, f.b / 32 == 1⟩
def Llscl.toF (s : Llscl) : Fields := ⟨bit s.x, s.g.val, bit s.sb, s.a.code, s.e.val⟩
def Llscl.of (f : Fields) : Chk Llscl :=
  selA .int f (zeroBad (f.d / 2) ++ zeroBad (f.b / 32)) ⟨gOf f, xOf f, f.d % 2 == 1, .ofCode f.a, Fin.ofNat 32 f.b⟩
def Lacas.toF (s : Lacas) : Fields := ⟨bit s.x, s.g.val, s.e.val, s.a.code, s.pair.val⟩
def Lacas.of (f : Fields) : Chk Lacas :=
  selA .int f (zeroBad (f.d / 32) ++ limBad (f.b % 2 == 0 && f.b ≤ 30)) ⟨gOf f, xOf f, Fin.ofNat 32 f.d, .ofCode f.a, Fin.ofNat 64 f.b⟩
def Lab.toF (s : Lab) : Fields := ⟨bit s.x, s.g.val, 0, s.a.code, s.b.code⟩
def Lab.of (ka kb : SrcKind) (f : Fields) : Chk Lab :=
  selAB ka kb f (zeroBad f.d) ⟨gOf f, xOf f, .ofCode f.a, .ofCode f.b⟩
/-- Entry in D, source in A (BIND). -/
def Lea.toFDA (s : Lea) : Fields := ⟨bit s.x, s.g.val, s.e.val, s.a.code, 0⟩
def Lea.ofDA (f : Fields) : Chk Lea :=
  selA .int f (zeroBad (f.d / 32) ++ zeroBad f.b) ⟨gOf f, xOf f, Fin.ofNat 32 f.d, .ofCode f.a⟩
/-- Entry in A, source in B (ACQT). -/
def Lea.toFAB (s : Lea) : Fields := ⟨bit s.x, s.g.val, 0, s.e.val, s.a.code⟩
def Lea.ofAB (f : Fields) : Chk Lea :=
  selB .int f (zeroBad f.d ++ zeroBad (f.a / 32)) ⟨gOf f, xOf f, Fin.ofNat 32 f.a, .ofCode f.b⟩
/-- Source in A, entry in B (MONA, PREF). -/
def Lea.toFBA (s : Lea) : Fields := ⟨bit s.x, s.g.val, 0, s.a.code, s.e.val⟩
def Lea.ofBA (f : Fields) : Chk Lea :=
  selA .int f (zeroBad f.d ++ zeroBad (f.b / 32)) ⟨gOf f, xOf f, Fin.ofNat 32 f.b, .ofCode f.a⟩
def Ln.toF (s : Ln) : Fields := ⟨bit s.x, s.g.val, 0, 0, 0⟩
def Ln.of (f : Fields) : Chk Ln := selN (zeroBad f.d ++ zeroBad f.a ++ zeroBad f.b) ⟨gOf f, xOf f⟩
def Ld.toF (s : Ld) : Fields := ⟨bit s.x, s.g.val, s.d.code, 0, 0⟩
def Ld.of (f : Fields) : Chk Ld := selN (dstBad f.d ++ zeroBad f.a ++ zeroBad f.b) ⟨gOf f, xOf f, .ofCode f.d⟩
def Lsflg.toF (s : Lsflg) : Fields := ⟨bit s.x, s.g.val, s.flag.val, s.a.code, 0⟩
def Lsflg.of (f : Fields) : Chk Lsflg :=
  selA .int f (zeroBad (f.d / 32) ++ zeroBad f.b) ⟨gOf f, xOf f, Fin.ofNat 32 f.d, .ofCode f.a⟩
def Lscnt.toF (s : Lscnt) : Fields := ⟨bit s.x, s.g.val, 0, s.c.val, 0⟩
def Lscnt.of (f : Fields) : Chk Lscnt :=
  selN (zeroBad f.d ++ zeroBad (f.a / 32) ++ zeroBad f.b) ⟨gOf f, xOf f, Fin.ofNat 32 f.a⟩
def Lredp.toF (s : Lredp) : Fields := ⟨bit s.x, s.g.val, s.fmt.val, s.a.code, s.b.code⟩
def Lredp.of (f : Fields) : Chk Lredp :=
  selAB (redKind (f.d % 8)) .int f (zeroBad (f.d / 8) ++ limBad (1 ≤ f.d % 8 && f.d % 8 ≤ 4)) ⟨gOf f, xOf f, Fin.ofNat 8 f.d, .ofCode f.a, .ofCode f.b⟩
def Lda.toF (s : Lda) : Fields := ⟨bit s.x, s.g.val, s.d.code, s.a.code, 0⟩
def Lda.of (f : Fields) : Chk Lda :=
  selA .int f (dstBad f.d ++ zeroBad f.b) ⟨gOf f, xOf f, .ofCode f.d, .ofCode f.a⟩
def Ldeb.toF (s : Ldeb) : Fields := ⟨bit s.x, s.g.val, s.d.code, s.e.val, s.b.code⟩
def Ldeb.of (f : Fields) : Chk Ldeb :=
  selB .int f (dstBad f.d ++ zeroBad (f.a / 32)) ⟨gOf f, xOf f, .ofCode f.d, Fin.ofNat 32 f.a, .ofCode f.b⟩

/-- FMT of an M slot (09 R247). -/
def Fields.mFmt (f : Fields) : Nat := f.d / 16
/-- DRAWER. -/
def Fields.mDrawer (f : Fields) : Nat := f.d % 16 * 2 + f.a / 32
/-- ROW. -/
def Fields.mRow (f : Fields) : Nat := f.a % 32 * 2 + f.b / 32
/-- KB. -/
def Fields.mKb (f : Fields) : Nat := f.b % 32 / 8
/-- Bits [2:0]. -/
def Fields.mLow (f : Fields) : Nat := f.b % 8
/-- DRAWER and ROW as one 11-bit number. -/
def Fields.mWide (f : Fields) : Nat := f.mDrawer * 64 + f.mRow
/-- The fields of an M slot (09 R247). -/
def mF (mode g fmt drawer row kb : Nat) : Fields :=
  ⟨mode, g, fmt * 16 + drawer / 2, drawer % 2 * 32 + row / 2, row % 2 * 32 + kb * 8⟩

/-- Legal drain sources (13 R340). -/
def drainSrcLegal (n : Nat) : Bool := n == 0 || n == 3

def Mn.toF (s : Mn) : Fields := mF 0 s.g.val 0 0 0 0
def Mn.of (f : Fields) : Chk Mn := selN (zeroBad f.x ++ zeroBad f.d ++ zeroBad f.a ++ zeroBad f.b) ⟨gOf f⟩
def Mblk.toF (s : Mblk) : Fields := mF 0 s.g.val s.fmt.code s.drawer.val s.row.val s.kb.val
def Mblk.of (f : Fields) : Chk Mblk :=
  selN (zeroBad f.x ++ zeroBad f.mLow ++ limBad (kbLegal f.mFmt f.mKb))
    ⟨gOf f, .ofCode f.mFmt, Fin.ofNat 32 f.mDrawer, Fin.ofNat 64 f.mRow, Fin.ofNat 4 f.mKb⟩
def Mshr.toF (s : Mshr) : Fields := mF (bit s.half) s.g.val s.fmt.code 0 0 0
def Mshr.of (f : Fields) : Chk Mshr :=
  selN (zeroBad f.mDrawer ++ zeroBad f.mRow ++ zeroBad (f.b % 32)) ⟨gOf f, xOf f, .ofCode f.mFmt⟩
def Mdrd.toF (s : Mdrd) : Fields := mF (bit s.half) s.g.val s.src.code s.drawer.val s.row.val s.out.val
def Mdrd.of (f : Fields) : Chk Mdrd :=
  selN (zeroBad f.mLow ++ limBad (drainSrcLegal f.mFmt) ++ limBad (f.mKb != 3) ++ limBad (!(f.mKb == 0 && f.x == 1)))
    ⟨gOf f, xOf f, .ofCode f.mFmt, Fin.ofNat 32 f.mDrawer, Fin.ofNat 64 f.mRow, Fin.ofNat 4 f.mKb⟩
def Mdrv.toF (s : Mdrv) : Fields := mF (bit s.half) s.g.val s.src.code 0 s.o.val s.out.val
def Mdrv.of (f : Fields) : Chk Mdrv :=
  selN (zeroBad f.mLow ++ zeroBad f.mDrawer ++ zeroBad (f.mRow / 8) ++ limBad (drainSrcLegal f.mFmt) ++ limBad (f.mKb != 3))
    ⟨gOf f, xOf f, .ofCode f.mFmt, Fin.ofNat 8 f.mRow, Fin.ofNat 4 f.mKb⟩
def Mdrb.toF (s : Mdrb) : Fields := mF 0 s.g.val s.src.code (s.brow.val / 64) (s.brow.val % 64) s.out.val
def Mdrb.of (f : Fields) : Chk Mdrb :=
  selN (zeroBad f.x ++ zeroBad f.mLow ++ limBad (drainSrcLegal f.mFmt) ++ limBad (f.mKb != 3) ++
      limBad (!(f.mKb == 2 && f.mFmt != 0)) ++ limBad (!(f.mKb == 1 && f.mRow % 2 == 1)))
    ⟨gOf f, .ofCode f.mFmt, Fin.ofNat 2048 f.mWide, Fin.ofNat 4 f.mKb⟩
def Mbas.toF (s : Mbas) (mode : Nat) : Fields :=
  mF mode s.g.val (s.stride.val / 4) (s.cursor.val / 64) (s.cursor.val % 64) (s.stride.val % 4)
def Mbas.of (f : Fields) : Chk Mbas :=
  selN (zeroBad f.mLow) ⟨gOf f, Fin.ofNat 2048 f.mWide, Fin.ofNat 16 (f.mFmt * 4 + f.mKb)⟩
def Mkst.toF (s : Mkst) : Fields := mF 0 s.g.val 0 (s.val.val / 64) (s.val.val % 64) 0
def Mkst.of (f : Fields) : Chk Mkst :=
  selN (zeroBad f.x ++ zeroBad f.mFmt ++ zeroBad (f.b % 32)) ⟨gOf f, Fin.ofNat 2048 f.mWide⟩
def Mtsr.toF (s : Mtsr) : Fields := mF (bit s.all) s.g.val 0 0 s.n.val 0
def Mtsr.of (f : Fields) : Chk Mtsr :=
  selN (zeroBad f.mFmt ++ zeroBad f.mDrawer ++ zeroBad (f.mRow / 16) ++ zeroBad (f.b % 32) ++
      limBad (!(f.x == 1 && f.mRow % 16 != 0)))
    ⟨gOf f, xOf f, Fin.ofNat 16 f.mRow⟩
def Mrow.toF (s : Mrow) : Fields := mF 0 s.g.val 0 s.drawer.val s.row.val 0
def Mrow.of (f : Fields) : Chk Mrow :=
  selN (zeroBad f.x ++ zeroBad f.mFmt ++ zeroBad (f.b % 32)) ⟨gOf f, Fin.ofNat 32 f.mDrawer, Fin.ofNat 64 f.mRow⟩
def Mpoi.toF (s : Mpoi) : Fields := mF 0 s.g.val s.fmt.code 0 0 0
def Mpoi.of (f : Fields) : Chk Mpoi :=
  selN (zeroBad f.x ++ zeroBad f.mDrawer ++ zeroBad f.mRow ++ zeroBad (f.b % 32)) ⟨gOf f, .ofCode f.mFmt⟩

/-! ### The opcode map (10 R260) -/

/-- An unassigned opcode is reason 32 (10 R261). -/
def unassigned : Chk Instr := ⟨[32], [], .nopb ⟨0⟩⟩

/-- A slot with X = 1 where the entry gives X no meaning (09 R237). -/
def x0 (f : Fields) (c : Chk α) : Chk α := { c with bad := c.bad ++ zeroBad f.x }

/-- The instruction a checked shape stands for. -/
def Chk.map (mk : α → Instr) (c : Chk α) : Chk Instr := ⟨c.bad, c.srcs, mk c.val⟩

/-- The P class of the map. -/
def decodeP (op : Nat) (f : Fields) : Chk Instr :=
  match op with
  | 0x00 => (Ppsc.of f).map .psc
  | 0x01 => (Pimm.of f).map .pim
  | 0x02 => (Pimm.of f).map .pimh
  | _ => unassigned

/-- The B class of the map. -/
def decodeB (op : Nat) (f : Fields) : Chk Instr :=
  match op with
  | 0x04 => ((x0 f (Bn.of f))).map .nopb
  | 0x05 => (Bpt.of f).map .bpt
  | 0x06 => if f.x = 0 then (Bba.of f).map .bptr else (Bba.of f).map .bptrRel
  | 0x07 => ((x0 f (Bb.of f))).map .btr
  | 0x08 => if f.x = 0 then (Bb.of f).map .bcl else (Ba.of f).map .bclA
  | 0x09 => if f.x = 0 then (Bn.of f).map .brtn else (Ba.of f).map .brtnA
  | 0x0A => if f.x = 0 then (Blset.of f).map .lset else (Bab.of f).map .lsetReg
  | 0x0B => (Blstr.of f).map .lstr
  | 0x0C => (Blbrk.of f).map .lbrk
  | 0x0D => ((x0 f (Ba.of f))).map .lrrb
  | 0x0E => ((x0 f (Bn.of f))).map .yld
  | 0x0F => ((x0 f (Bn.of f))).map .yldp
  | 0x10 => ((x0 f (Ba.of f))).map .wtc
  | 0x11 => (Bwfl.of f).map .wfl
  | 0x12 => ((x0 f (Ba.of f))).map .wmon
  | 0x13 => ((x0 f (Bab.of f))).map .tspn
  | 0x14 => ((x0 f (Bn.of f))).map .tend
  | 0x15 => if f.x = 0 then (Ba.of f).map .trap else (Ba.of f).map .trapSv
  | 0x16 => ((x0 f (Bn.of f))).map .rtt
  | 0x17 => ((x0 f (Ba.of f))).map .ask
  | 0x18 => ((x0 f (Ba.of f))).map .askr
  | 0x19 => ((x0 f (Ba.of f))).map .snap
  | 0x1A => ((x0 f (Ba.of f))).map .snapw
  | _ => unassigned

/-- The S class of the map. -/
def decodeS (op : Nat) (f : Fields) : Chk Instr :=
  match op with
  | 0x20 => (S3.of .int f).map .add
  | 0x21 => (S3.of .int f).map .sub
  | 0x22 => (S3.of .int f).map .mul
  | 0x23 => (S3.of .int f).map .mulh
  | 0x24 => (S3.of .int f).map .mulhu
  | 0x25 => (S3.of .int f).map .div
  | 0x26 => (S3.of .int f).map .divu
  | 0x27 => (S3.of .int f).map .rem
  | 0x28 => (S3.of .int f).map .remu
  | 0x29 => (S3.of .int f).map .and
  | 0x2A => (S3.of .int f).map .or
  | 0x2B => (S3.of .int f).map .xor
  | 0x2C => (S3.of .int f).map .andn
  | 0x2D => (S3.of .int f).map .shl
  | 0x2E => (S3.of .int f).map .shr
  | 0x2F => (S3.of .int f).map .sar
  | 0x30 => (S3.of .int f).map .rotl
  | 0x31 => (S2.of .int f).map .clz
  | 0x32 => (S2.of .int f).map .ctz
  | 0x33 => (S2.of .int f).map .popc
  | 0x34 => (S3.of .int f).map .min
  | 0x35 => (S3.of .int f).map .max
  | 0x36 => (S3.of .int f).map .minu
  | 0x37 => (S3.of .int f).map .maxu
  | 0x38 => (S3.ofRd .int f).map .sel
  | 0x39 => (S3.of .int f).map .bext
  | 0x3A => (S3.ofRd .int f).map .bins
  | 0x3B => (S3.of .int f).map .addw
  | 0x3C => (Scmp.of f).map .cmp
  | 0x3D => (Sfcmp.of f).map .fcmp
  | 0x3E => (Sqop.of f).map .qop
  | 0x3F => (Smovx.of f).map .movx
  | 0x40 => (S3.of .fp f).map .fadds
  | 0x41 => (S3.of .fp f).map .faddd
  | 0x42 => (S3.of .fp f).map .fsubs
  | 0x43 => (S3.of .fp f).map .fsubd
  | 0x44 => (S3.of .fp f).map .fmuls
  | 0x45 => (S3.of .fp f).map .fmuld
  | 0x46 => (S3.ofRd .fp f).map .fmas
  | 0x47 => (S3.ofRd .fp f).map .fmad
  | 0x48 => (S3.of .fp f).map .fdivs
  | 0x49 => (S3.of .fp f).map .fdivd
  | 0x4A => (S2.of .fp f).map .fsqrs
  | 0x4B => (S2.of .fp f).map .fsqrd
  | 0x4C => (S3.of .fp f).map .fmins
  | 0x4D => (S3.of .fp f).map .fmaxs
  | 0x4E => (S3.of .fp f).map .fmind
  | 0x4F => (S3.of .fp f).map .fmaxd
  | 0x50 => (Sfcvt.of f).map .fcvt
  | 0x51 => (Sfcls.of f).map .fcls
  | 0x52 => (Spair.of f).map .twos
  | 0x53 => (Spair.of f).map .twop
  | 0x54 => (Scsrr.of f).map .csrr
  | 0x55 => (Scsrw.of f).map .csrw
  | 0x56 => (Sgset.of f).map .gset
  | 0x57 => (Slidx.of f).map .lidx
  | 0x58 => (S1.of f).map .cycr
  | 0x59 => (Smovi.of f).map .movi
  | 0x5A => (Stsrd.of f).map .tsrd
  | 0x5B => (Sab.of f).map .tlbi
  | _ => unassigned

/-- The V class of the map. -/
def decodeV (op : Nat) (f : Fields) : Chk Instr :=
  match op with
  | 0x60 => (V3.of .fp .fp f).map .vadd
  | 0x61 => (V3.of .fp .fp f).map .vsub
  | 0x62 => (V3.of .fp .fp f).map .vmul
  | 0x63 => (V3.ofRd f).map .vfma
  | 0x64 => (V3.ofRd f).map .vfms
  | 0x65 => (V3.of .fp .fp f).map .vdiv
  | 0x66 => (V2.of .fp f).map .vsqrt
  | 0x67 => (V3x.of .fp f).map .vmin
  | 0x68 => (V3x.of .fp f).map .vmax
  | 0x69 => (V2.of .fp f).map .vabs
  | 0x6A => (V2.of .fp f).map .vneg
  | 0x6B => (V2.of .fp f).map .vexp2
  | 0x6C => (V2.of .fp f).map .vlog2
  | 0x6D => (V2.of .fp f).map .vrcp
  | 0x6E => (V2.of .fp f).map .vrsq
  | 0x6F => (Vcmp.of f).map .vcmp
  | 0x70 => (V3.of .fp .fp f).map .vsel
  | 0x71 => if f.x = 0 then (Vcmp.ofPair f).map .vany else (Vvotm.of f).map .vanyMask
  | 0x72 => if f.x = 0 then (Vcmp.ofPair f).map .vall else (Vvotm.of f).map .vallMask
  | 0x73 => (Vkop.of f).map .vkop
  | 0x74 => (V3.of .int .int f).map .vand
  | 0x75 => (V3.of .int .int f).map .vor
  | 0x76 => (V3.of .int .int f).map .vxor
  | 0x77 => (V3.of .int .int f).map .vshl
  | 0x78 => (V3.of .int .int f).map .vshr
  | 0x79 => (V3.of .int .int f).map .vsar
  | 0x7A => (V3.of .fp .int f).map .vbcst
  | 0x7B => (V3.of .fp .int f).map .vxtr
  | 0x7C => (V3.of .fp .fp f).map .viota
  | 0x7D => (V3.of .fp .int f).map .vperm
  | 0x7E => (V3.of .fp .int f).map .vbfly
  | 0x7F => (V3.of .fp .int f).map .vrotl
  | 0x80 => (V2.of .fp f).map .vreda
  | 0x81 => (Vredm.of f).map .vredm
  | 0x82 => (Vcvt.of f).map .vcvt
  | 0x83 => (Vpart.of .fp 4 f).map .vpck
  | 0x84 => (Vpart.of .fp 4 f).map .vupk
  | 0x85 => (V3.of .fp .fp f).map .vcmul
  | 0x86 => (V3.ofRd f).map .vcmac
  | 0x87 => (Vtws.of f).map .vtws
  | 0x88 => (V3.of .fp .fp f).map .vcadd
  | 0x89 => (V2.of .fp f).map .vhad
  | 0x8A => (V3.of .fp .int f).map .vsgn
  | 0x8B => (V3.of .fp .int f).map .vqnt
  | 0x8C => (V2.of .fp f).map .vdq
  | 0x8D => (V2.of .int f).map .vcrt
  | 0x8E => (V2.of .int f).map .vres
  | 0x8F => (Vsett.of f).map .vsett
  | 0x90 => if f.x = 0 then (Vmkto.of f).map .vmovkToMask else (Vmkfr.of f).map .vmovkToReg
  | 0x91 => (V2.of .fp f).map .vcls
  | 0x92 => (Vround.of f).map .vround
  | 0x93 => (V3x.of .int f).map .vmulh
  | 0x94 => (V3x.of .fp f).map .vabsd
  | 0x95 => (V2.of .int f).map .vclz
  | 0x96 => (V2.of .int f).map .vpopc
  | 0x97 => (Vpart.of .int 3 f).map .vsatn
  | 0x98 => (V3.of .fp .int f).map .vscl
  | 0x99 => (V3.of .int .int f).map .vmix
  | 0x9A => (V3.of .fp .int f).map .vsplt
  | 0x9B => (V1.of f).map .vzero
  | _ => unassigned

/-- The L class of the map. -/
def decodeL (op : Nat) (f : Fields) : Chk Instr :=
  match op with
  | 0xA0 => (Ltset.of f).map .ltset
  | 0xA1 => (Ltget.of f).map .ltget
  | 0xA2 => (Ltcpy.of f).map .ltcpy
  | 0xA3 => if f.b / 32 = 0 then (Ldae.ofRaw f).map .vld else (Ldae.ofRaw f).map .vldRaw
  | 0xA4 => if f.d / 32 = 0 then (Leab.ofRaw f).map .vst else (Leab.ofRaw f).map .vstRaw
  | 0xA5 => (Lsld.of f).map .sld
  | 0xA6 => (Leab.of .fp .int f).map .sst
  | 0xA7 => (Ldae.of f).map .vgth
  | 0xA8 => (Leab.of .fp .int f).map .vsct
  | 0xA9 => (Ldab.of f).map .cpy
  | 0xAA => (Ldab.of f).map .cpya
  | 0xAB => (Le.ofA f).map .pub
  | 0xAC => (Ldab.of f).map .dclm
  | 0xAD => (La.of f).map .drel
  | 0xAE => (Ldwr.of f).map .dwr
  | 0xAF => (Llscl.of f).map .lscl
  | 0xB0 => (Leab.of .int .int f).map .aadd
  | 0xB1 => (Leab.of .int .fp f).map .aaddf
  | 0xB2 => (Leab.of .int .int f).map .aaddk
  | 0xB3 => (Leab.of .int .int f).map .amin
  | 0xB4 => (Leab.of .int .int f).map .amax
  | 0xB5 => (Leab.of .int .int f).map .aminu
  | 0xB6 => (Leab.of .int .int f).map .amaxu
  | 0xB7 => (Leab.of .int .fp f).map .axch
  | 0xB8 => (Lacas.of f).map .acas
  | 0xB9 => (Leab.of .int .int f).map .aand
  | 0xBA => (Leab.of .int .int f).map .aor
  | 0xBB => (Leab.of .int .int f).map .axor
  | 0xBC => (Lab.of .int .int f).map .tdec
  | 0xBD => (Lea.ofDA f).map .bind
  | 0xBE => (Le.ofD f).map .unbd
  | 0xBF => (Le.ofA f).map .acq
  | 0xC0 => (Le.ofA f).map .rel
  | 0xC1 => (Lea.ofAB f).map .acqt
  | 0xC2 => (Ln.of f).map .fnc
  | 0xC3 => (Ld.of f).map .fni
  | 0xC4 => (La.of f).map .fnw
  | 0xC5 => (Lsflg.of f).map .sflg
  | 0xC6 => (Lscnt.of f).map .scnt
  | 0xC7 => (Leab.of .fp .int f).map .sbeq
  | 0xC8 => (Lredp.of f).map .redp
  | 0xC9 => (Ldae.of f).map .redw
  | 0xCA => (Ld.of f).map .qpop
  | 0xCB => (La.of f).map .qpsh
  | 0xCC => (Ld.of f).map .qlev
  | 0xCD => (Lda.of f).map .walw
  | 0xCE => (Lea.ofBA f).map .mona
  | 0xCF => (Lde.of f).map .digq
  | 0xD0 => (Lab.of .int .int f).map .hgset
  | 0xD1 => (Lda.of f).map .hgget
  | 0xD2 => (Lda.of f).map .manr
  | 0xD3 => (Lea.ofBA f).map .pref
  | 0xD4 => (Lda.of f).map .bld
  | 0xD5 => (Lab.of .int .int f).map .bst
  | 0xD6 => (La.of f).map .bzero
  | 0xD7 => (Lda.of f).map .cpyw
  | 0xD8 => (Ldeb.of f).map .lthdr
  | 0xD9 => (Ldae.of f).map .sprb
  | _ => unassigned

/-- The M class of the map. -/
def decodeM (op : Nat) (f : Fields) : Chk Instr :=
  match op with
  | 0xE0 => (Mn.of f).map .mnop
  | 0xE1 => (Mblk.of f).map .mshb
  | 0xE2 => (Mshr.of f).map .mshr
  | 0xE3 => (Mn.of f).map .mswp
  | 0xE4 => (Mblk.of f).map .mpsa
  | 0xE5 => (Mblk.of f).map .mpss
  | 0xE6 => (Mblk.of f).map .mpra
  | 0xE7 => (Mblk.of f).map .mprs
  | 0xE8 => (Mdrd.of f).map .mdrd
  | 0xE9 => (Mdrv.of f).map .mdrv
  | 0xEA => (Mdrb.of f).map .mdrb
  | 0xEB => if f.x = 0 then (Mbas.of f).map .mbas else (Mbas.of f).map .mbasKeep
  | 0xEC => (Mn.of f).map .mzro
  | 0xED => (Mkst.of f).map .mkst
  | 0xEE => (Mn.of f).map .mkrd
  | 0xEF => (Mtsr.of f).map .mtsr
  | 0xF0 => (Mrow.of f).map .mbld
  | 0xF1 => (Mrow.of f).map .mbst
  | 0xF2 => (Mn.of f).map .msyn
  | 0xF3 => (Mpoi.of f).map .mpoi
  | _ => unassigned

/-- The instruction of a slot word with the reasons that make it illegal (09 R249, 10 R260). -/
def slotChk (w : Nat) : Chk Instr :=
  let op := opOf w
  let f := fieldsOf w
  if op < 0x04 then decodeP op f
  else if op < 0x20 then decodeB op f
  else if op < 0x60 then decodeS op f
  else if op < 0xA0 then decodeV op f
  else if op < 0xE0 then decodeL op f
  else decodeM op f

/-- The instruction of a slot word, none where the slot alone is illegal (09 R249). -/
def decodeSlot (w : SlotWord) : Option Instr :=
  let c := slotChk w.toNat
  if c.bad.isEmpty then some c.val else none

/-- The slot word of an instruction, stop bit 0, none for a side-core word or an event (09 R237). -/
def encodeSlot : Instr → Option SlotWord
  | .psc f => some (BitVec.ofNat 32 (wordOf 0x00 (f.toF)))
  | .pim f => some (BitVec.ofNat 32 (wordOf 0x01 (f.toF)))
  | .pimh f => some (BitVec.ofNat 32 (wordOf 0x02 (f.toF)))
  | .nopb f => some (BitVec.ofNat 32 (wordOf 0x04 (f.toF 0)))
  | .bpt f => some (BitVec.ofNat 32 (wordOf 0x05 (f.toF)))
  | .bptr f => some (BitVec.ofNat 32 (wordOf 0x06 (f.toF 0)))
  | .bptrRel f => some (BitVec.ofNat 32 (wordOf 0x06 (f.toF 1)))
  | .btr f => some (BitVec.ofNat 32 (wordOf 0x07 (f.toF)))
  | .bcl f => some (BitVec.ofNat 32 (wordOf 0x08 (f.toF)))
  | .bclA f => some (BitVec.ofNat 32 (wordOf 0x08 (f.toF 1)))
  | .brtn f => some (BitVec.ofNat 32 (wordOf 0x09 (f.toF 0)))
  | .brtnA f => some (BitVec.ofNat 32 (wordOf 0x09 (f.toF 1)))
  | .lset f => some (BitVec.ofNat 32 (wordOf 0x0A (f.toF)))
  | .lsetReg f => some (BitVec.ofNat 32 (wordOf 0x0A (f.toF 1)))
  | .lstr f => some (BitVec.ofNat 32 (wordOf 0x0B (f.toF)))
  | .lbrk f => some (BitVec.ofNat 32 (wordOf 0x0C (f.toF)))
  | .lrrb f => some (BitVec.ofNat 32 (wordOf 0x0D (f.toF 0)))
  | .yld f => some (BitVec.ofNat 32 (wordOf 0x0E (f.toF 0)))
  | .yldp f => some (BitVec.ofNat 32 (wordOf 0x0F (f.toF 0)))
  | .wtc f => some (BitVec.ofNat 32 (wordOf 0x10 (f.toF 0)))
  | .wfl f => some (BitVec.ofNat 32 (wordOf 0x11 (f.toF)))
  | .wmon f => some (BitVec.ofNat 32 (wordOf 0x12 (f.toF 0)))
  | .tspn f => some (BitVec.ofNat 32 (wordOf 0x13 (f.toF 0)))
  | .tend f => some (BitVec.ofNat 32 (wordOf 0x14 (f.toF 0)))
  | .trap f => some (BitVec.ofNat 32 (wordOf 0x15 (f.toF 0)))
  | .trapSv f => some (BitVec.ofNat 32 (wordOf 0x15 (f.toF 1)))
  | .rtt f => some (BitVec.ofNat 32 (wordOf 0x16 (f.toF 0)))
  | .ask f => some (BitVec.ofNat 32 (wordOf 0x17 (f.toF 0)))
  | .askr f => some (BitVec.ofNat 32 (wordOf 0x18 (f.toF 0)))
  | .snap f => some (BitVec.ofNat 32 (wordOf 0x19 (f.toF 0)))
  | .snapw f => some (BitVec.ofNat 32 (wordOf 0x1A (f.toF 0)))
  | .add f => some (BitVec.ofNat 32 (wordOf 0x20 (f.toF)))
  | .sub f => some (BitVec.ofNat 32 (wordOf 0x21 (f.toF)))
  | .mul f => some (BitVec.ofNat 32 (wordOf 0x22 (f.toF)))
  | .mulh f => some (BitVec.ofNat 32 (wordOf 0x23 (f.toF)))
  | .mulhu f => some (BitVec.ofNat 32 (wordOf 0x24 (f.toF)))
  | .div f => some (BitVec.ofNat 32 (wordOf 0x25 (f.toF)))
  | .divu f => some (BitVec.ofNat 32 (wordOf 0x26 (f.toF)))
  | .rem f => some (BitVec.ofNat 32 (wordOf 0x27 (f.toF)))
  | .remu f => some (BitVec.ofNat 32 (wordOf 0x28 (f.toF)))
  | .and f => some (BitVec.ofNat 32 (wordOf 0x29 (f.toF)))
  | .or f => some (BitVec.ofNat 32 (wordOf 0x2A (f.toF)))
  | .xor f => some (BitVec.ofNat 32 (wordOf 0x2B (f.toF)))
  | .andn f => some (BitVec.ofNat 32 (wordOf 0x2C (f.toF)))
  | .shl f => some (BitVec.ofNat 32 (wordOf 0x2D (f.toF)))
  | .shr f => some (BitVec.ofNat 32 (wordOf 0x2E (f.toF)))
  | .sar f => some (BitVec.ofNat 32 (wordOf 0x2F (f.toF)))
  | .rotl f => some (BitVec.ofNat 32 (wordOf 0x30 (f.toF)))
  | .clz f => some (BitVec.ofNat 32 (wordOf 0x31 (f.toF)))
  | .ctz f => some (BitVec.ofNat 32 (wordOf 0x32 (f.toF)))
  | .popc f => some (BitVec.ofNat 32 (wordOf 0x33 (f.toF)))
  | .min f => some (BitVec.ofNat 32 (wordOf 0x34 (f.toF)))
  | .max f => some (BitVec.ofNat 32 (wordOf 0x35 (f.toF)))
  | .minu f => some (BitVec.ofNat 32 (wordOf 0x36 (f.toF)))
  | .maxu f => some (BitVec.ofNat 32 (wordOf 0x37 (f.toF)))
  | .sel f => some (BitVec.ofNat 32 (wordOf 0x38 (f.toF)))
  | .bext f => some (BitVec.ofNat 32 (wordOf 0x39 (f.toF)))
  | .bins f => some (BitVec.ofNat 32 (wordOf 0x3A (f.toF)))
  | .addw f => some (BitVec.ofNat 32 (wordOf 0x3B (f.toF)))
  | .cmp f => some (BitVec.ofNat 32 (wordOf 0x3C (f.toF)))
  | .fcmp f => some (BitVec.ofNat 32 (wordOf 0x3D (f.toF)))
  | .qop f => some (BitVec.ofNat 32 (wordOf 0x3E (f.toF)))
  | .movx f => some (BitVec.ofNat 32 (wordOf 0x3F (f.toF)))
  | .fadds f => some (BitVec.ofNat 32 (wordOf 0x40 (f.toF)))
  | .faddd f => some (BitVec.ofNat 32 (wordOf 0x41 (f.toF)))
  | .fsubs f => some (BitVec.ofNat 32 (wordOf 0x42 (f.toF)))
  | .fsubd f => some (BitVec.ofNat 32 (wordOf 0x43 (f.toF)))
  | .fmuls f => some (BitVec.ofNat 32 (wordOf 0x44 (f.toF)))
  | .fmuld f => some (BitVec.ofNat 32 (wordOf 0x45 (f.toF)))
  | .fmas f => some (BitVec.ofNat 32 (wordOf 0x46 (f.toF)))
  | .fmad f => some (BitVec.ofNat 32 (wordOf 0x47 (f.toF)))
  | .fdivs f => some (BitVec.ofNat 32 (wordOf 0x48 (f.toF)))
  | .fdivd f => some (BitVec.ofNat 32 (wordOf 0x49 (f.toF)))
  | .fsqrs f => some (BitVec.ofNat 32 (wordOf 0x4A (f.toF)))
  | .fsqrd f => some (BitVec.ofNat 32 (wordOf 0x4B (f.toF)))
  | .fmins f => some (BitVec.ofNat 32 (wordOf 0x4C (f.toF)))
  | .fmaxs f => some (BitVec.ofNat 32 (wordOf 0x4D (f.toF)))
  | .fmind f => some (BitVec.ofNat 32 (wordOf 0x4E (f.toF)))
  | .fmaxd f => some (BitVec.ofNat 32 (wordOf 0x4F (f.toF)))
  | .fcvt f => some (BitVec.ofNat 32 (wordOf 0x50 (f.toF)))
  | .fcls f => some (BitVec.ofNat 32 (wordOf 0x51 (f.toF)))
  | .twos f => some (BitVec.ofNat 32 (wordOf 0x52 (f.toF)))
  | .twop f => some (BitVec.ofNat 32 (wordOf 0x53 (f.toF)))
  | .csrr f => some (BitVec.ofNat 32 (wordOf 0x54 (f.toF)))
  | .csrw f => some (BitVec.ofNat 32 (wordOf 0x55 (f.toF)))
  | .gset f => some (BitVec.ofNat 32 (wordOf 0x56 (f.toF)))
  | .lidx f => some (BitVec.ofNat 32 (wordOf 0x57 (f.toF)))
  | .cycr f => some (BitVec.ofNat 32 (wordOf 0x58 (f.toF)))
  | .movi f => some (BitVec.ofNat 32 (wordOf 0x59 (f.toF)))
  | .tsrd f => some (BitVec.ofNat 32 (wordOf 0x5A (f.toF)))
  | .tlbi f => some (BitVec.ofNat 32 (wordOf 0x5B (f.toF)))
  | .vadd f => some (BitVec.ofNat 32 (wordOf 0x60 (f.toF)))
  | .vsub f => some (BitVec.ofNat 32 (wordOf 0x61 (f.toF)))
  | .vmul f => some (BitVec.ofNat 32 (wordOf 0x62 (f.toF)))
  | .vfma f => some (BitVec.ofNat 32 (wordOf 0x63 (f.toF)))
  | .vfms f => some (BitVec.ofNat 32 (wordOf 0x64 (f.toF)))
  | .vdiv f => some (BitVec.ofNat 32 (wordOf 0x65 (f.toF)))
  | .vsqrt f => some (BitVec.ofNat 32 (wordOf 0x66 (f.toF)))
  | .vmin f => some (BitVec.ofNat 32 (wordOf 0x67 (f.toF)))
  | .vmax f => some (BitVec.ofNat 32 (wordOf 0x68 (f.toF)))
  | .vabs f => some (BitVec.ofNat 32 (wordOf 0x69 (f.toF)))
  | .vneg f => some (BitVec.ofNat 32 (wordOf 0x6A (f.toF)))
  | .vexp2 f => some (BitVec.ofNat 32 (wordOf 0x6B (f.toF)))
  | .vlog2 f => some (BitVec.ofNat 32 (wordOf 0x6C (f.toF)))
  | .vrcp f => some (BitVec.ofNat 32 (wordOf 0x6D (f.toF)))
  | .vrsq f => some (BitVec.ofNat 32 (wordOf 0x6E (f.toF)))
  | .vcmp f => some (BitVec.ofNat 32 (wordOf 0x6F (f.toF)))
  | .vsel f => some (BitVec.ofNat 32 (wordOf 0x70 (f.toF)))
  | .vany f => some (BitVec.ofNat 32 (wordOf 0x71 (f.toF)))
  | .vanyMask f => some (BitVec.ofNat 32 (wordOf 0x71 (f.toF)))
  | .vall f => some (BitVec.ofNat 32 (wordOf 0x72 (f.toF)))
  | .vallMask f => some (BitVec.ofNat 32 (wordOf 0x72 (f.toF)))
  | .vkop f => some (BitVec.ofNat 32 (wordOf 0x73 (f.toF)))
  | .vand f => some (BitVec.ofNat 32 (wordOf 0x74 (f.toF)))
  | .vor f => some (BitVec.ofNat 32 (wordOf 0x75 (f.toF)))
  | .vxor f => some (BitVec.ofNat 32 (wordOf 0x76 (f.toF)))
  | .vshl f => some (BitVec.ofNat 32 (wordOf 0x77 (f.toF)))
  | .vshr f => some (BitVec.ofNat 32 (wordOf 0x78 (f.toF)))
  | .vsar f => some (BitVec.ofNat 32 (wordOf 0x79 (f.toF)))
  | .vbcst f => some (BitVec.ofNat 32 (wordOf 0x7A (f.toF)))
  | .vxtr f => some (BitVec.ofNat 32 (wordOf 0x7B (f.toF)))
  | .viota f => some (BitVec.ofNat 32 (wordOf 0x7C (f.toF)))
  | .vperm f => some (BitVec.ofNat 32 (wordOf 0x7D (f.toF)))
  | .vbfly f => some (BitVec.ofNat 32 (wordOf 0x7E (f.toF)))
  | .vrotl f => some (BitVec.ofNat 32 (wordOf 0x7F (f.toF)))
  | .vreda f => some (BitVec.ofNat 32 (wordOf 0x80 (f.toF)))
  | .vredm f => some (BitVec.ofNat 32 (wordOf 0x81 (f.toF)))
  | .vcvt f => some (BitVec.ofNat 32 (wordOf 0x82 (f.toF)))
  | .vpck f => some (BitVec.ofNat 32 (wordOf 0x83 (f.toF)))
  | .vupk f => some (BitVec.ofNat 32 (wordOf 0x84 (f.toF)))
  | .vcmul f => some (BitVec.ofNat 32 (wordOf 0x85 (f.toF)))
  | .vcmac f => some (BitVec.ofNat 32 (wordOf 0x86 (f.toF)))
  | .vtws f => some (BitVec.ofNat 32 (wordOf 0x87 (f.toF)))
  | .vcadd f => some (BitVec.ofNat 32 (wordOf 0x88 (f.toF)))
  | .vhad f => some (BitVec.ofNat 32 (wordOf 0x89 (f.toF)))
  | .vsgn f => some (BitVec.ofNat 32 (wordOf 0x8A (f.toF)))
  | .vqnt f => some (BitVec.ofNat 32 (wordOf 0x8B (f.toF)))
  | .vdq f => some (BitVec.ofNat 32 (wordOf 0x8C (f.toF)))
  | .vcrt f => some (BitVec.ofNat 32 (wordOf 0x8D (f.toF)))
  | .vres f => some (BitVec.ofNat 32 (wordOf 0x8E (f.toF)))
  | .vsett f => some (BitVec.ofNat 32 (wordOf 0x8F (f.toF)))
  | .vmovkToMask f => some (BitVec.ofNat 32 (wordOf 0x90 (f.toF)))
  | .vmovkToReg f => some (BitVec.ofNat 32 (wordOf 0x90 (f.toF)))
  | .vcls f => some (BitVec.ofNat 32 (wordOf 0x91 (f.toF)))
  | .vround f => some (BitVec.ofNat 32 (wordOf 0x92 (f.toF)))
  | .vmulh f => some (BitVec.ofNat 32 (wordOf 0x93 (f.toF)))
  | .vabsd f => some (BitVec.ofNat 32 (wordOf 0x94 (f.toF)))
  | .vclz f => some (BitVec.ofNat 32 (wordOf 0x95 (f.toF)))
  | .vpopc f => some (BitVec.ofNat 32 (wordOf 0x96 (f.toF)))
  | .vsatn f => some (BitVec.ofNat 32 (wordOf 0x97 (f.toF)))
  | .vscl f => some (BitVec.ofNat 32 (wordOf 0x98 (f.toF)))
  | .vmix f => some (BitVec.ofNat 32 (wordOf 0x99 (f.toF)))
  | .vsplt f => some (BitVec.ofNat 32 (wordOf 0x9A (f.toF)))
  | .vzero f => some (BitVec.ofNat 32 (wordOf 0x9B (f.toF)))
  | .ltset f => some (BitVec.ofNat 32 (wordOf 0xA0 (f.toF)))
  | .ltget f => some (BitVec.ofNat 32 (wordOf 0xA1 (f.toF)))
  | .ltcpy f => some (BitVec.ofNat 32 (wordOf 0xA2 (f.toF)))
  | .vld f => some (BitVec.ofNat 32 (wordOf 0xA3 (f.toF 0)))
  | .vldRaw f => some (BitVec.ofNat 32 (wordOf 0xA3 (f.toF 1)))
  | .vst f => some (BitVec.ofNat 32 (wordOf 0xA4 (f.toF 0)))
  | .vstRaw f => some (BitVec.ofNat 32 (wordOf 0xA4 (f.toF 1)))
  | .sld f => some (BitVec.ofNat 32 (wordOf 0xA5 (f.toF)))
  | .sst f => some (BitVec.ofNat 32 (wordOf 0xA6 (f.toF 0)))
  | .vgth f => some (BitVec.ofNat 32 (wordOf 0xA7 (f.toF 0)))
  | .vsct f => some (BitVec.ofNat 32 (wordOf 0xA8 (f.toF 0)))
  | .cpy f => some (BitVec.ofNat 32 (wordOf 0xA9 (f.toF)))
  | .cpya f => some (BitVec.ofNat 32 (wordOf 0xAA (f.toF)))
  | .pub f => some (BitVec.ofNat 32 (wordOf 0xAB (f.toFA)))
  | .dclm f => some (BitVec.ofNat 32 (wordOf 0xAC (f.toF)))
  | .drel f => some (BitVec.ofNat 32 (wordOf 0xAD (f.toF)))
  | .dwr f => some (BitVec.ofNat 32 (wordOf 0xAE (f.toF)))
  | .lscl f => some (BitVec.ofNat 32 (wordOf 0xAF (f.toF)))
  | .aadd f => some (BitVec.ofNat 32 (wordOf 0xB0 (f.toF 0)))
  | .aaddf f => some (BitVec.ofNat 32 (wordOf 0xB1 (f.toF 0)))
  | .aaddk f => some (BitVec.ofNat 32 (wordOf 0xB2 (f.toF 0)))
  | .amin f => some (BitVec.ofNat 32 (wordOf 0xB3 (f.toF 0)))
  | .amax f => some (BitVec.ofNat 32 (wordOf 0xB4 (f.toF 0)))
  | .aminu f => some (BitVec.ofNat 32 (wordOf 0xB5 (f.toF 0)))
  | .amaxu f => some (BitVec.ofNat 32 (wordOf 0xB6 (f.toF 0)))
  | .axch f => some (BitVec.ofNat 32 (wordOf 0xB7 (f.toF 0)))
  | .acas f => some (BitVec.ofNat 32 (wordOf 0xB8 (f.toF)))
  | .aand f => some (BitVec.ofNat 32 (wordOf 0xB9 (f.toF 0)))
  | .aor f => some (BitVec.ofNat 32 (wordOf 0xBA (f.toF 0)))
  | .axor f => some (BitVec.ofNat 32 (wordOf 0xBB (f.toF 0)))
  | .tdec f => some (BitVec.ofNat 32 (wordOf 0xBC (f.toF)))
  | .bind f => some (BitVec.ofNat 32 (wordOf 0xBD (f.toFDA)))
  | .unbd f => some (BitVec.ofNat 32 (wordOf 0xBE (f.toFD)))
  | .acq f => some (BitVec.ofNat 32 (wordOf 0xBF (f.toFA)))
  | .rel f => some (BitVec.ofNat 32 (wordOf 0xC0 (f.toFA)))
  | .acqt f => some (BitVec.ofNat 32 (wordOf 0xC1 (f.toFAB)))
  | .fnc f => some (BitVec.ofNat 32 (wordOf 0xC2 (f.toF)))
  | .fni f => some (BitVec.ofNat 32 (wordOf 0xC3 (f.toF)))
  | .fnw f => some (BitVec.ofNat 32 (wordOf 0xC4 (f.toF)))
  | .sflg f => some (BitVec.ofNat 32 (wordOf 0xC5 (f.toF)))
  | .scnt f => some (BitVec.ofNat 32 (wordOf 0xC6 (f.toF)))
  | .sbeq f => some (BitVec.ofNat 32 (wordOf 0xC7 (f.toF 0)))
  | .redp f => some (BitVec.ofNat 32 (wordOf 0xC8 (f.toF)))
  | .redw f => some (BitVec.ofNat 32 (wordOf 0xC9 (f.toF 0)))
  | .qpop f => some (BitVec.ofNat 32 (wordOf 0xCA (f.toF)))
  | .qpsh f => some (BitVec.ofNat 32 (wordOf 0xCB (f.toF)))
  | .qlev f => some (BitVec.ofNat 32 (wordOf 0xCC (f.toF)))
  | .walw f => some (BitVec.ofNat 32 (wordOf 0xCD (f.toF)))
  | .mona f => some (BitVec.ofNat 32 (wordOf 0xCE (f.toFBA)))
  | .digq f => some (BitVec.ofNat 32 (wordOf 0xCF (f.toF)))
  | .hgset f => some (BitVec.ofNat 32 (wordOf 0xD0 (f.toF)))
  | .hgget f => some (BitVec.ofNat 32 (wordOf 0xD1 (f.toF)))
  | .manr f => some (BitVec.ofNat 32 (wordOf 0xD2 (f.toF)))
  | .pref f => some (BitVec.ofNat 32 (wordOf 0xD3 (f.toFBA)))
  | .bld f => some (BitVec.ofNat 32 (wordOf 0xD4 (f.toF)))
  | .bst f => some (BitVec.ofNat 32 (wordOf 0xD5 (f.toF)))
  | .bzero f => some (BitVec.ofNat 32 (wordOf 0xD6 (f.toF)))
  | .cpyw f => some (BitVec.ofNat 32 (wordOf 0xD7 (f.toF)))
  | .lthdr f => some (BitVec.ofNat 32 (wordOf 0xD8 (f.toF)))
  | .sprb f => some (BitVec.ofNat 32 (wordOf 0xD9 (f.toF 0)))
  | .mnop f => some (BitVec.ofNat 32 (wordOf 0xE0 (f.toF)))
  | .mshb f => some (BitVec.ofNat 32 (wordOf 0xE1 (f.toF)))
  | .mshr f => some (BitVec.ofNat 32 (wordOf 0xE2 (f.toF)))
  | .mswp f => some (BitVec.ofNat 32 (wordOf 0xE3 (f.toF)))
  | .mpsa f => some (BitVec.ofNat 32 (wordOf 0xE4 (f.toF)))
  | .mpss f => some (BitVec.ofNat 32 (wordOf 0xE5 (f.toF)))
  | .mpra f => some (BitVec.ofNat 32 (wordOf 0xE6 (f.toF)))
  | .mprs f => some (BitVec.ofNat 32 (wordOf 0xE7 (f.toF)))
  | .mdrd f => some (BitVec.ofNat 32 (wordOf 0xE8 (f.toF)))
  | .mdrv f => some (BitVec.ofNat 32 (wordOf 0xE9 (f.toF)))
  | .mdrb f => some (BitVec.ofNat 32 (wordOf 0xEA (f.toF)))
  | .mbas f => some (BitVec.ofNat 32 (wordOf 0xEB (f.toF 0)))
  | .mbasKeep f => some (BitVec.ofNat 32 (wordOf 0xEB (f.toF 1)))
  | .mzro f => some (BitVec.ofNat 32 (wordOf 0xEC (f.toF)))
  | .mkst f => some (BitVec.ofNat 32 (wordOf 0xED (f.toF)))
  | .mkrd f => some (BitVec.ofNat 32 (wordOf 0xEE (f.toF)))
  | .mtsr f => some (BitVec.ofNat 32 (wordOf 0xEF (f.toF)))
  | .mbld f => some (BitVec.ofNat 32 (wordOf 0xF0 (f.toF)))
  | .mbst f => some (BitVec.ofNat 32 (wordOf 0xF1 (f.toF)))
  | .msyn f => some (BitVec.ofNat 32 (wordOf 0xF2 (f.toF)))
  | .mpoi f => some (BitVec.ofNat 32 (wordOf 0xF3 (f.toF)))
  | .jqPush _ => none
  | .jqPull _ => none
  | .jqPullLev _ => none
  | .jCpy _ _ _ => none
  | .jWtc _ _ => none
  | .jDclm _ _ _ => none
  | .jLte _ _ => none
  | .jLteW _ _ => none
  | .jFlag _ => none
  | .jCyc _ => none
  | .jPub _ _ => none
  | .jAcq _ _ => none
  | .jRel _ _ => none
  | .jSbeq _ _ _ => none
  | .sideCoreRv64Instruction _ => none
  | .sideCoreException _ _ => none
  | .scfltWrite _ _ _ => none
  | .resultLand _ => none
  | .pushLand _ => none
  | .icacheFill _ => none
  | .outerLoadArrival _ _ => none
  | .remoteTimeout _ _ => none
  | .remoteRefusal _ _ => none
  | .postedWritePerform _ => none
  | .releasePerform _ => none
  | .armedGranuleCopy _ _ _ => none
  | .pageWalk _ => none
  | .pageWalkComplete _ _ => none
  | .copyComplete _ _ => none
  | .copyFault _ _ => none
  | .drawerRowFilled _ _ => none
  | .tlbiComplete _ => none
  | .promiseReached _ _ => none
  | .stationFlagSet _ => none
  | .flagTimeout _ _ => none
  | .monitorFire _ _ => none
  | .monitorTimeout _ _ => none
  | .wmonTimeout _ _ => none
  | .parkWake _ _ => none
  | .parkTimeoutWake _ _ => none
  | .acqtReread _ _ => none
  | .leaveGrant _ => none
  | .reductionPacketArrival _ _ => none
  | .reductionRouterTimeout _ _ => none
  | .reductionWaitTimeout _ _ => none
  | .spanWatchdog _ => none
  | .taskRelease _ _ _ => none
  | .issueSelect _ => none
  | .sluiceBind _ => none
  | .dispatchComplete _ _ => none
  | .scratchFillComplete _ _ => none
  | .seatRestoreComplete _ _ => none
  | .preemptRequest _ _ _ => none
  | .forcedSave _ _ => none
  | .seatSaveComplete _ _ => none
  | .taskEndSuccessors _ _ => none
  | .reuseLookup _ _ => none
  | .reuseHitComplete _ _ => none
  | .hostFetchaddResv _ _ => none
  | .queueTailWrite _ _ => none
  | .hostPostedWrite _ _ => none
  | .flagClassWritePerform _ => none
  | .hostRead _ _ => none
  | .hostAtomic _ _ _ _ _ => none
  | .hostBar4Access _ _ _ => none
  | .launchQueuePoll _ => none
  | .taskCreation _ _ => none
  | .launchCompletion _ => none
  | .streamCloseFollowup _ => none
  | .gatePass _ => none
  | .gateLoad _ => none
  | .gateCopy _ => none
  | .gateAdd _ => none
  | .gateTake _ => none
  | .gateEmpty _ => none
  | .station0ClassChange _ => none
  | .station0EmptyStale _ => none
  | .beTakeSlot _ => none
  | .beHold _ => none
  | .beResend _ => none
  | .beWrite _ => none
  | .beReadRequest _ => none
  | .beReadResponse _ => none
  | .beCounterDecrement _ => none
  | .beAtomicRequest _ => none
  | .beAtomicResponse _ => none
  | .beSbeqMessage _ => none
  | .beReservedKind _ => none
  | .ladeBringUp _ _ _ => none
  | .canalInject _ => none
  | .canalTrim _ _ => none
  | .canalReadRequest _ => none
  | .canalReadResponse _ => none
  | .canalPostedWrite _ => none
  | .canalAadd _ => none
  | .canalAaddf _ => none
  | .canalAaddk _ => none
  | .canalAmin _ => none
  | .canalAmax _ => none
  | .canalAminu _ => none
  | .canalAmaxu _ => none
  | .canalAxch _ => none
  | .canalAcas _ => none
  | .canalAand _ => none
  | .canalAor _ => none
  | .canalAxor _ => none
  | .canalAcquireRead _ => none
  | .canalTaskDecrement _ => none
  | .canalPublication _ => none
  | .canalReservedAop _ => none
  | .canalAtomicResponse _ => none
  | .canalReRequest _ => none
  | .canalAcknowledgement _ => none
  | .canalSnapshotMarker _ => none
  | .canalRefusal _ => none
  | .canalReservedType _ => none
  | .canalPacketPerform _ _ => none
  | .canalHoleRerequest _ _ => none
  | .canalTokenRefill _ => none
  | .canalAckSend _ => none
  | .responderWatchdog _ _ => none
  | .linkIdle _ _ => none
  | .linkResync _ _ _ => none
  | .linkAdv _ _ => none
  | .linkRkreq _ _ => none
  | .linkRkmsg _ _ => none
  | .linkKeysw _ => none
  | .linkAdvTimer _ => none
  | .linkResyncTimer _ => none
  | .linkReplayRequest _ _ => none
  | .linkRetire _ => none
  | .rekeyStart _ => none
  | .rekeyStop _ => none
  | .rekeyTimeout _ => none
  | .keyLoad _ => none
  | .keyRetire => none
  | .keyQuery => none
  | .keyBadRequest => none
  | .keyDoorbellInvalid => none
  | .wallowWrite _ _ => none
  | .pcapWrite _ => none
  | .powerClassChange => none
  | .managementRegisterWrite _ _ => none
  | .throttle _ _ => none
  | .thermalShutdown => none
  | .dieReset _ => none
  | .dieReadmit _ => none
  | .tdispMessage _ _ => none
  | .spdmRequest _ _ => none
  | .portReset _ => none
  | .boot _ _ => none
  | .coreOwnerChange _ _ => none
  | .scrubComplete _ => none
  | .jobRegister _ _ _ _ => none
  | .jobDeregister _ => none
  | .snapshotRequestReceipt _ _ => none
  | .snapshotSaved _ _ => none
  | .snapshotResume _ => none
  | .snapshotSweepComplete _ => none
  | .manifestCommit _ _ => none
  | .uncorrectableRead _ _ _ => none
  | .flumeHopFailure _ _ => none
  | .rollback _ _ _ => none
  | .illegalBundle _ => none
  | .reuseInsertComplete _ _ => none
  | .acquireReadPerformed _ _ => none
  | .prefetchReadArrival _ _ => none
  | .rpnAcknowledgement _ _ => none

/-! ### Bundles (09 R248-R250) -/

/-- Order of the classes P, B, S, V, L, M (09 R238, R248). -/
def classRank (op : Nat) : Nat :=
  if op < 0x04 then 0 else if op < 0x20 then 1 else if op < 0x60 then 2
  else if op < 0xA0 then 3 else if op < 0xE0 then 4 else 5

/-- Slots of a class a bundle may hold (09 R238). -/
def classLimit (rank : Nat) : Nat := if rank = 0 ∨ rank = 2 ∨ rank = 4 then 2 else 1

/-- The g register a PSC of the bundle gives port `i`, 31 for none (09 R245). -/
def portAt (ws : List Nat) (i : Nat) : Nat :=
  match ws.find? (fun w => opOf w == 0) with
  | some w => bitsAt w (15 - 5 * i) 5
  | none => 31

/-- A word of opcode `op` stands in the list. -/
def hasOp (ws : List Nat) (op : Nat) : Bool := ws.any (fun w => opOf w == op)

/-- Reasons 9 and 11 of the selectors a slot reads in its bundle (09 R250). -/
def contextBad (ws : List Nat) (srcs : List Nat) : List Nat :=
  (if srcs.any (fun c => 48 ≤ c && c < 52 && portAt ws (c - 48) == 31) then [9] else []) ++
  (if srcs.any (fun c => c == 52) && !hasOp ws 1 then [11] else [])

/-- The slots of the list in the class of `w`. -/
def sameClass (w : Nat) (ws : List Nat) : List Nat := ws.filter (fun v => classRank (opOf v) == classRank (opOf w))

/-- Every reason that slot `w` breaks, `before` the slots ahead of it in bundle `all` (09 R250). -/
def slotReasons (all before : List Nat) (w : Nat) : List Nat :=
  let rank := classRank (opOf w)
  let peers := sameClass w before
  let c := slotChk w
  (match before.getLast? with
    | some p => if rank < classRank (opOf p) then [3] else []
    | none => []) ++
  (if classLimit rank ≤ peers.length then [4] else []) ++
  (match peers with
    | [p] => if (rank = 2 ∨ rank = 4) ∧ ¬(bitsAt p 22 1 = 0 ∧ bitsAt w 22 1 = 1) then [5] else []
    | _ => []) ++
  (if opOf w < 3 ∧ hasOp before (opOf w) then [6] else []) ++
  (if opOf w = 2 ∧ !hasOp all 1 then [7] else []) ++
  contextBad all c.srcs ++ c.bad

/-- The lowest of a list of reasons. -/
def lowest : List Nat → Option Nat
  | [] => none
  | r :: rs => some (rs.foldl Nat.min r)

/-- The first slot of a bundle that breaks a rule: its position, word and reason (09 R250). -/
def firstBad (all : List Nat) : List Nat → List Nat → Option (Nat × Nat × Nat)
  | _, [] => none
  | before, w :: ws =>
    match lowest (slotReasons all before w) with
    | some r => some (before.length, w, r)
    | none => firstBad all (before ++ [w]) ws

/-- TVAL of an illegal bundle or opcode (09 R250). -/
def illegalTval (word slot reason : Nat) : Word := BitVec.ofNat 64 (word * 2 ^ 32 + slot * 2 ^ 8 + reason)

/-- A legal bundle: its instructions in slot order and its length in slots. -/
structure Bundle where
  slots : List Instr
  length : Nat
deriving DecidableEq, Repr

/-- The words of a bundle: up to and including the first stop bit, at most eight (09 R248). -/
def takeBundle : Nat → List Nat → List Nat
  | 0, _ => []
  | _, [] => []
  | n + 1, w :: ws => if stopOf w then [w] else w :: takeBundle n ws

/-- The illegal-bundle or illegal-opcode cause (1 or 2) and its TVAL, or the bundle at the head of the words (09 R248-R250). -/
def decodeBundle (words : List Nat) : Except (Nat × Word) Bundle :=
  let ws := takeBundle 8 words
  match ws.getLast? with
  | none => .error (1, illegalTval 0 7 1)
  | some l =>
    if !stopOf l then .error (1, illegalTval l 7 1)
    else if ws.length < 4 then .error (1, illegalTval l (ws.length - 1) 2)
    else
      match firstBad ws [] ws with
      | some (pos, w, r) => .error (if r < 32 then 1 else 2, illegalTval w pos r)
      | none => .ok ⟨ws.map (fun w => (slotChk w).val), ws.length⟩

/-! ### Side-core words (16 R411, R414) -/

/-- Opcode, funct3 and funct7 of a register-register operation. -/
def RvOp.key : RvOp → Nat × Nat × Nat
  | .add => (0x33, 0, 0x00) | .sub => (0x33, 0, 0x20) | .sll => (0x33, 1, 0x00) | .slt => (0x33, 2, 0x00)
  | .sltu => (0x33, 3, 0x00) | .xor => (0x33, 4, 0x00) | .srl => (0x33, 5, 0x00) | .sra => (0x33, 5, 0x20)
  | .or => (0x33, 6, 0x00) | .and => (0x33, 7, 0x00)
  | .addw => (0x3B, 0, 0x00) | .subw => (0x3B, 0, 0x20) | .sllw => (0x3B, 1, 0x00) | .srlw => (0x3B, 5, 0x00)
  | .sraw => (0x3B, 5, 0x20)
  | .mul => (0x33, 0, 1) | .mulh => (0x33, 1, 1) | .mulhsu => (0x33, 2, 1) | .mulhu => (0x33, 3, 1)
  | .div => (0x33, 4, 1) | .divu => (0x33, 5, 1) | .rem => (0x33, 6, 1) | .remu => (0x33, 7, 1)
  | .mulw => (0x3B, 0, 1) | .divw => (0x3B, 4, 1) | .divuw => (0x3B, 5, 1) | .remw => (0x3B, 6, 1) | .remuw => (0x3B, 7, 1)
  | .sh1add => (0x33, 2, 0x10) | .sh2add => (0x33, 4, 0x10) | .sh3add => (0x33, 6, 0x10) | .adduw => (0x3B, 0, 0x04)
  | .sh1adduw => (0x3B, 2, 0x10) | .sh2adduw => (0x3B, 4, 0x10) | .sh3adduw => (0x3B, 6, 0x10)
  | .andn => (0x33, 7, 0x20) | .orn => (0x33, 6, 0x20) | .xnor => (0x33, 4, 0x20)
  | .max => (0x33, 6, 0x05) | .maxu => (0x33, 7, 0x05) | .min => (0x33, 4, 0x05) | .minu => (0x33, 5, 0x05)
  | .rol => (0x33, 1, 0x30) | .ror => (0x33, 5, 0x30) | .rolw => (0x3B, 1, 0x30) | .rorw => (0x3B, 5, 0x30)

/-- Every register-register operation. -/
def RvOp.all : List RvOp :=
  [.add, .sub, .sll, .slt, .sltu, .xor, .srl, .sra, .or, .and, .addw, .subw, .sllw, .srlw, .sraw,
   .mul, .mulh, .mulhsu, .mulhu, .div, .divu, .rem, .remu, .mulw, .divw, .divuw, .remw, .remuw] ++
  [.sh1add, .sh2add, .sh3add, .adduw, .sh1adduw, .sh2adduw, .sh3adduw,
   .andn, .orn, .xnor, .max, .maxu, .min, .minu, .rol, .ror, .rolw, .rorw]

/-- Opcode and funct3 of an operation with an immediate. -/
def RvOpImm.key : RvOpImm → Nat × Nat
  | .addi => (0x13, 0) | .slti => (0x13, 2) | .sltiu => (0x13, 3) | .xori => (0x13, 4)
  | .ori => (0x13, 6) | .andi => (0x13, 7) | .addiw => (0x1B, 0)
def RvOpImm.all : List RvOpImm := [.addi, .slti, .sltiu, .xori, .ori, .andi, .addiw]

/-- Opcode, funct3 and bits [31:26] of a shift by an immediate. -/
def RvShImm.key : RvShImm → Nat × Nat × Nat
  | .slli => (0x13, 1, 0x00) | .srli => (0x13, 5, 0x00) | .srai => (0x13, 5, 0x10) | .rori => (0x13, 5, 0x18)
  | .slliuw => (0x1B, 1, 0x02) | .slliw => (0x1B, 1, 0x00) | .srliw => (0x1B, 5, 0x00) | .sraiw => (0x1B, 5, 0x10)
  | .roriw => (0x1B, 5, 0x18)
def RvShImm.all : List RvShImm := [.slli, .srli, .srai, .rori, .slliuw, .slliw, .srliw, .sraiw, .roriw]
/-- Shift amounts an encoding takes. -/
def RvShImm.limit : RvShImm → Nat
  | .slliw => 32 | .srliw => 32 | .sraiw => 32 | .roriw => 32 | _ => 64

/-- Opcode, funct3 and bits [31:20] of a one-source operation. -/
def RvUnary.key : RvUnary → Nat × Nat × Nat
  | .clz => (0x13, 1, 0x600) | .ctz => (0x13, 1, 0x601) | .cpop => (0x13, 1, 0x602)
  | .clzw => (0x1B, 1, 0x600) | .ctzw => (0x1B, 1, 0x601) | .cpopw => (0x1B, 1, 0x602)
  | .sextb => (0x13, 1, 0x604) | .sexth => (0x13, 1, 0x605) | .zexth => (0x3B, 4, 0x080)
  | .orcb => (0x13, 5, 0x287) | .rev8 => (0x13, 5, 0x6B8)
def RvUnary.all : List RvUnary := [.clz, .ctz, .cpop, .clzw, .ctzw, .cpopw, .sextb, .sexth, .zexth, .orcb, .rev8]

def RvBranch.f3 : RvBranch → Nat
  | .beq => 0 | .bne => 1 | .blt => 4 | .bge => 5 | .bltu => 6 | .bgeu => 7
def RvBranch.all : List RvBranch := [.beq, .bne, .blt, .bge, .bltu, .bgeu]
def RvLoad.f3 : RvLoad → Nat
  | .lb => 0 | .lh => 1 | .lw => 2 | .ld => 3 | .lbu => 4 | .lhu => 5 | .lwu => 6
def RvLoad.all : List RvLoad := [.lb, .lh, .lw, .ld, .lbu, .lhu, .lwu]
def RvStore.f3 : RvStore → Nat
  | .sb => 0 | .sh => 1 | .sw => 2 | .sd => 3
def RvStore.all : List RvStore := [.sb, .sh, .sw, .sd]
def RvCsrOp.f3 : RvCsrOp → Nat
  | .rw => 1 | .rs => 2 | .rc => 3
def RvCsrOp.all : List RvCsrOp := [.rw, .rs, .rc]

/-- A 5-bit register field. -/
def regAt (w lo : Nat) : Reg5 := Fin.ofNat 32 (bitsAt w lo 5)

/-- The RV64 instruction of a word, none for an encoding the profile lacks (16 R411). -/
def decodeRv (w : Nat) : Option RvInstr :=
  let opc := bitsAt w 0 7
  let rd := regAt w 7
  let f3 := bitsAt w 12 3
  let rs1 := regAt w 15
  let rs2 := regAt w 20
  let imm := BitVec.ofNat 12 (bitsAt w 20 12)
  if opc = 0x37 then some (.lui rd (BitVec.ofNat 20 (bitsAt w 12 20)))
  else if opc = 0x17 then some (.auipc rd (BitVec.ofNat 20 (bitsAt w 12 20)))
  else if opc = 0x6F then
    some (.jal rd (BitVec.ofNat 20
      (bitsAt w 31 1 * 2 ^ 19 + bitsAt w 12 8 * 2 ^ 11 + bitsAt w 20 1 * 2 ^ 10 + bitsAt w 21 10)))
  else if opc = 0x67 then (if f3 = 0 then some (.jalr rd rs1 imm) else none)
  else if opc = 0x63 then
    (RvBranch.all.find? (fun k => k.f3 == f3)).map (fun k => .branch k rs1 rs2 (BitVec.ofNat 12
      (bitsAt w 31 1 * 2 ^ 11 + bitsAt w 7 1 * 2 ^ 10 + bitsAt w 25 6 * 2 ^ 4 + bitsAt w 8 4)))
  else if opc = 0x03 then (RvLoad.all.find? (fun k => k.f3 == f3)).map (fun k => .load k rd rs1 imm)
  else if opc = 0x23 then
    (RvStore.all.find? (fun k => k.f3 == f3)).map (fun k => .store k rs1 rs2 (BitVec.ofNat 12 (bitsAt w 25 7 * 2 ^ 5 + bitsAt w 7 5)))
  else if opc = 0x0F then (if f3 = 0 then some .fence else if f3 = 1 then some .fenceI else none)
  else if opc = 0x73 then
    if f3 = 0 then
      if w = 0x73 then some .ecall else if w = 0x100073 then some .ebreak else if w = 0x10500073 then some .wfi else none
    else if f3 = 4 then none
    else
      (RvCsrOp.all.find? (fun k => k.f3 == f3 % 4)).map (fun k =>
        if f3 < 4 then .csr k rd rs1 imm else .csrImm k rd (Fin.ofNat 32 (bitsAt w 15 5)) imm)
  else
    match RvUnary.all.find? (fun k => k.key == (opc, f3, bitsAt w 20 12)) with
    | some k => some (.unary k rd rs1)
    | none =>
    match RvOpImm.all.find? (fun k => k.key == (opc, f3)) with
    | some k => some (.opImm k rd rs1 imm)
    | none =>
    match RvShImm.all.find? (fun k => k.key == (opc, f3, bitsAt w 26 6) && bitsAt w 20 6 < k.limit) with
    | some k => some (.shImm k rd rs1 (Fin.ofNat 64 (bitsAt w 20 6)))
    | none => (RvOp.all.find? (fun k => k.key == (opc, f3, bitsAt w 25 7))).map (fun k => .op k rd rs1 rs2)

/-- An R-type word. -/
def rType (opc rd f3 rs1 rs2 f7 : Nat) : Nat :=
  f7 * 2 ^ 25 + rs2 * 2 ^ 20 + rs1 * 2 ^ 15 + f3 * 2 ^ 12 + rd * 2 ^ 7 + opc

/-- An I-type word. -/
def iType (opc rd f3 rs1 imm : Nat) : Nat := imm * 2 ^ 20 + rs1 * 2 ^ 15 + f3 * 2 ^ 12 + rd * 2 ^ 7 + opc

/-- The word of an RV64 instruction (16 R411). -/
def encodeRv : RvInstr → Nat
  | .lui rd imm => imm.toNat * 2 ^ 12 + rd.val * 2 ^ 7 + 0x37
  | .auipc rd imm => imm.toNat * 2 ^ 12 + rd.val * 2 ^ 7 + 0x17
  | .jal rd off =>
    bitsAt off.toNat 19 1 * 2 ^ 31 + bitsAt off.toNat 0 10 * 2 ^ 21 + bitsAt off.toNat 10 1 * 2 ^ 20 +
      bitsAt off.toNat 11 8 * 2 ^ 12 + rd.val * 2 ^ 7 + 0x6F
  | .jalr rd rs1 imm => iType 0x67 rd.val 0 rs1.val imm.toNat
  | .branch k rs1 rs2 off =>
    bitsAt off.toNat 11 1 * 2 ^ 31 + bitsAt off.toNat 4 6 * 2 ^ 25 + rs2.val * 2 ^ 20 + rs1.val * 2 ^ 15 +
      k.f3 * 2 ^ 12 + bitsAt off.toNat 0 4 * 2 ^ 8 + bitsAt off.toNat 10 1 * 2 ^ 7 + 0x63
  | .load k rd rs1 imm => iType 0x03 rd.val k.f3 rs1.val imm.toNat
  | .store k rs1 rs2 imm =>
    rType 0x23 (bitsAt imm.toNat 0 5) k.f3 rs1.val rs2.val (bitsAt imm.toNat 5 7)
  | .opImm k rd rs1 imm => iType k.key.1 rd.val k.key.2 rs1.val imm.toNat
  | .shImm k rd rs1 sh => iType k.key.1 rd.val k.key.2.1 rs1.val (k.key.2.2 * 2 ^ 6 + sh.val)
  | .op k rd rs1 rs2 => rType k.key.1 rd.val k.key.2.1 rs1.val rs2.val k.key.2.2
  | .unary k rd rs1 => iType k.key.1 rd.val k.key.2.1 rs1.val k.key.2.2
  | .csr k rd rs1 csr => iType 0x73 rd.val k.f3 rs1.val csr.toNat
  | .csrImm k rd uimm csr => iType 0x73 rd.val (k.f3 + 4) uimm.val csr.toNat
  | .fence => 0x0FF0000F
  | .fenceI => 0x0000100F
  | .wfi => 0x10500073
  | .ecall => 0x73
  | .ebreak => 0x100073

/-- Whether a custom-0 or custom-1 word is assigned, with every field that the table marks 0 zero (16 R414). -/
def xjaindOk (w : Nat) : Bool :=
  let d := bitsAt w 7 5
  let f3 := bitsAt w 12 3
  let s := bitsAt w 15 5
  let t := bitsAt w 20 5
  let f7 := bitsAt w 25 7
  if bitsAt w 0 7 = 0x0B then
    match f3 with
    | 0 => d == 0 && t == 0 && f7 == 0
    | 1 => s == 0 && t == 0 && f7 < 2
    | 2 => f7 == 0
    | 3 => t == 0 && f7 == 0
    | 4 => f7 == 0
    | 5 => (f7 == 0 && t == 0) || (f7 == 1 && d == 0)
    | 6 => d == 0 && t == 0 && f7 == 0
    | _ => s == 0 && t == 0 && f7 == 0
  else d == 0 && f7 < 32 && (f3 == 3 || (f3 < 3 && t == 0))

/-- The Xjaind instruction of a custom-0 or custom-1 word, none for an illegal instruction (16 R414). -/
noncomputable def decodeXjaind (w : Nat) : Option Instr :=
  let d := regAt w 7
  let s := regAt w 15
  let t := regAt w 20
  let e := regAt w 25
  let f7 := bitsAt w 25 7
  if !xjaindOk w then none
  else if bitsAt w 0 7 = 0x0B then
    match bitsAt w 12 3 with
    | 0 => some (.jqPush s)
    | 1 => some (if f7 = 0 then .jqPull d else .jqPullLev d)
    | 2 => some (.jCpy d s t)
    | 3 => some (.jWtc d s)
    | 4 => some (.jDclm d s t)
    | 5 => some (if f7 = 0 then .jLte d s else .jLteW s t)
    | 6 => some (.jFlag s)
    | _ => some (.jCyc d)
  else
    match bitsAt w 12 3 with
    | 0 => some (.jPub e s)
    | 1 => some (.jAcq e s)
    | 2 => some (.jRel e s)
    | _ => some (.jSbeq e s t)

/-- Whether a word is an instruction of a side core (16 R411, R414). -/
def sideLegal (w : Nat) : Bool :=
  if bitsAt w 0 7 = 0x0B ∨ bitsAt w 0 7 = 0x2B then xjaindOk w else (decodeRv w).isSome

/-- The instruction of a side-core word, none for an illegal instruction (16 R411, R414). -/
noncomputable def decodeSide (w : Nat) : Option Instr :=
  if bitsAt w 0 7 = 0x0B ∨ bitsAt w 0 7 = 0x2B then decodeXjaind w
  else (decodeRv w).map .sideCoreRv64Instruction

/-- The word of a side-core instruction, none for a slot or an event (16 R411, R414). -/
def encodeSide : Instr → Option Nat
  | .jqPush s => some (rType 0x0B 0 0 s.val 0 0)
  | .jqPull d => some (rType 0x0B d.val 1 0 0 0)
  | .jqPullLev d => some (rType 0x0B d.val 1 0 0 1)
  | .jCpy d s t => some (rType 0x0B d.val 2 s.val t.val 0)
  | .jWtc d s => some (rType 0x0B d.val 3 s.val 0 0)
  | .jDclm d s t => some (rType 0x0B d.val 4 s.val t.val 0)
  | .jLte d s => some (rType 0x0B d.val 5 s.val 0 0)
  | .jLteW s t => some (rType 0x0B 0 5 s.val t.val 1)
  | .jFlag s => some (rType 0x0B 0 6 s.val 0 0)
  | .jCyc d => some (rType 0x0B d.val 7 0 0 0)
  | .jPub e s => some (rType 0x2B 0 0 s.val 0 e.val)
  | .jAcq e s => some (rType 0x2B 0 1 s.val 0 e.val)
  | .jRel e s => some (rType 0x2B 0 2 s.val 0 e.val)
  | .jSbeq e s t => some (rType 0x2B 0 3 s.val t.val e.val)
  | .sideCoreRv64Instruction i => some (encodeRv i)
  | _ => none

/-- The words of a well-formed instruction: its slot or its side-core word; an event has none. -/
def encode (i : Instr) : Option SlotWord :=
  match encodeSide i with
  | some w => some (BitVec.ofNat 32 w)
  | none => encodeSlot i

/-- The instruction read from the word `w`: a side-core word first, since only those have a row of bits in the table, then
a slot of a bundle (see the assumption log). -/
noncomputable def decodeTableWord (nbits w : Nat) : Option Instr :=
  if nbits ≤ 32 ∧ w < 2 ^ 32 then
    match decodeSide w with
    | some i => some i
    | none => decodeSlot (BitVec.ofNat 32 w)
  else none

end Sys2Proof
end

