-- ==== Sys2Proof/Machine/State.lean ====
section
/-! DEFINITION. The state of one package as plain data: cores with their seats, latches and engines, the dies, the XI, the
links, and one flat memory of bytes. Every piece of state that a rule of the spec names stands here; INVENTORY.md lists
each with its rule and its reset value. -/

namespace Sys2Proof.Machine

/-- A sparse table in canonical form: keys rising, no entry equal to the table's default. -/
abbrev Tab (α : Type) := List (Nat × α)

/-- A 55-bit virtual address (03 R59), also a PC. -/
abbrev VA := BitVec 55

/-- One 256 B basin row, drawer row or half V register. -/
abbrev Row := BitVec 2048

/-- A leaf of the translation tree: entry, level, flat address of the entry (03 R61), and the tenant of the context's record as the walk
found it (03 R60). -/
structure Leaf where
  entry : Word
  level : Nat
  home : Nat
  tenant : Nat
deriving DecidableEq, Repr

/-- Ways a run of the machine stops. -/
inductive Fault where
  /-- Raised by `step` for any turn but a boot while the package is powered down (19 R475): nothing of it runs. Safe: the
  run stops. -/
  | poweredDown
deriving DecidableEq, Repr

/-- Ways a step is refused. -/
inductive Refusal where
  /-- Raised by an arm of `exec` for an instruction without a meaning. Safe: the run stops. -/
  | notModelled (mnemonic : String)
  /-- Raised by an event whose condition does not hold in the state, so that it cannot come about there. Safe: no
  behaviour of the part is lost, since the part has no such step in that state. -/
  | notEnabled (event : String)
deriving DecidableEq, Repr

/-! ### Seats -/

/-- One active level of the loop sequencer (11 R293). -/
structure Level where
  start : VA
  stop : VA
  count : BitVec 32
  idx : BitVec 32
  strides : List (Nat × Word)
deriving DecidableEq, Repr

/-- The state of a seat (07 R185). A SAVED task holds no seat. -/
inductive SeatState where
  | free | loading | runnable | running | parked
deriving DecidableEq, Repr

/-- The two results of one 64-bit unit, newest first (02 R40). -/
structure Latch where
  age0 : Word
  age1 : Word
deriving DecidableEq, Repr

/-- The seven latch pairs of a core (02 R40). -/
structure Latches where
  b : Latch
  s0 : Latch
  s1 : Latch
  l0 : Latch
  l1 : Latch
  m : Latch
  v0 : Vec
  v1 : Vec
deriving DecidableEq, Repr

/-- What a result changes when it lands (07 R192, 10 R264). -/
inductive Effect where
  /-- A register of a scalar or memory unit, by physical index: 0-23 main, 24-31 operand. -/
  | file (u : UnitId) (ix : Nat) (v : Word)
  | vfile (ix : Nat) (v : Vec)
  /-- Half of a V operand register (13 R350, MDRV). -/
  | vhalf (ix : Nat) (hi : Bool) (v : Row)
  | pair (j : Nat) (c : Bool)
  | mask (k : Nat) (m : Mask)
  | greg (n : Nat) (v : Word)
  | target (t : Nat) (v : Word)
  | link (v : Word)
  | lteField (e code : Nat) (v : Word)
  | lteAll (e : Nat) (bits : LteBits)
  | lteBind (e sync off : Nat)
  | csr (n : Nat) (v : Word)
  | loopOpen (l : Level)
  /-- A stride for the level of a depth, the outermost having 0, or for the staged set (11 R295). -/
  | loopStride (depth : Option Nat) (g : Nat) (v : Word)
  | loopBreak (n : Nat)
  /-- A close at the bundle's address (11 R296): the RRB and the strided g registers as the commit computed them, and the levels. -/
  | loopClose (addr : VA) (rrb : BitVec 3) (gs : List (Nat × Word))
  | loopEnd
  /-- Control has passed to a target: levels that do not contain it end (11 R298). -/
  | passTo (t : VA)
  | rrb (v : BitVec 3)
  | scales (sb : Bool) (v : BitVec 512)
  | shift (plane : Bool) (row : Row)
  | swap
  | cursor (c : Nat)
  | basinCtl (c stride : Nat) (keep : Bool)
  | kstep (v : Nat)
  /-- A push with its complete column sums (13 R343). -/
  | push (row : Nat) (add : Bool) (fmt : MFmt) (sums : Row)
  /-- MZRO, MPOI: a basin row written as a push writes it (10 R269, 13 R351). -/
  | arrayRow (row : Nat) (v : Row)
  | basinRow (row : Nat) (v : Row)
  /-- Bytes of a drawer row, from byte `lo` (13 R350, 14 R368). -/
  | drawerBytes (key lo : Nat) (bytes : List Byte)
  | tileOr (n : Nat) (bits : BitVec 3)
  | tileClear (all : Bool) (n : Nat)
  /-- TSRD: the entry as it stands at the landing (11 R285, 13 R352). -/
  | tileRead (u : UnitId) (ix : Option Nat) (n : Nat)
  /-- A result that enters only the latches, or nothing. -/
  | nothing
deriving DecidableEq, Repr

/-- How the bytes of a load become a value (14 R359, R360). -/
inductive LoadForm where
  | scalar (size : Nat) (sx : Bool)
  | lanes (size : Nat)
  | raw
  /-- Element size and the active elements, in order, with their lane. -/
  | gather (size : Nat) (lanes : List Nat)
  /-- The old word of an atomic: width in bytes and ETYPE (14 R370). -/
  | old (size etype : Nat)
  /-- A SHA-256 digest over the bytes (14 R384). -/
  | digest
deriving DecidableEq, Repr

/-- Names of the twelve atomics in the order of their opcodes (14 R370) and of the Canal codes (05 R125). -/
inductive AtomicOp where
  | add | addf | addk | min | max | minu | maxu | xch | cas | and | or | xor
deriving DecidableEq, Repr

/-- An atomic on its way to its home: width, element type, operand and the compare value of ACAS (14 R370). -/
structure Atomic where
  op : AtomicOp
  size : Nat
  etype : Nat
  operand : Word
  compare : Word
deriving DecidableEq, Repr

/-- What a value asked for under a horizon is, other than bytes of a memory: a doubleword of a gate entry by HGGET's address word, a
doubleword of a job's manifest, or the digest of a region by its entry, in the half sampled at issue, for an agent's context (14 R384,
R385). -/
inductive Query where
  | gate (a : Word)
  | manifest (job off : Nat)
  | digest (entry : Nat) (bits : LteBits) (half : Bool) (ctx : Nat) (sup : Bool)
deriving DecidableEq, Repr

/-- How a load's or an atomic's request travels (02 R49, 14 R532). -/
inductive Route where
  /-- Over the die mesh or the package's own paths. -/
  | direct
  /-- Not sent yet: the entry it goes through, while its selector read travels (01 R531). -/
  | waiting (entry : LteBits)
  /-- A question to the headgate, the job's firmware or the die's digest engine. -/
  | asking (q : Query)
  /-- Best-effort messages: tag, flat address and length of each read still unanswered (04 R110). -/
  | flume (tags : List (Nat × Nat × Nat))
  /-- Canal packets to a peer: their requests still unanswered, as request numbers (05 R147). -/
  | canal (peer : Nat) (requests : List Nat)
deriving DecidableEq, Repr

/-- A value that travels from an outer home (02 R49): the flat addresses of its bytes (for a Canal load, addresses at the target),
how they become a value, the bytes already returned, the key material of each flat granule that is read under one, the route, the issuing
tenant, the object its entry was bound to, the smallest scope whose extent holds its farthest home, an atomic's number among the seat's
writes, and the items it waits for. -/
structure Trip where
  /-- Its place in the issue order of posted work. -/
  id : Nat
  addrs : List Nat
  bytes : List (Nat × Byte)
  form : LoadForm
  atomic : Option Atomic
  material : Tab (BitVec 512)
  route : Route
  tenant : Nat
  bound : Option Nat
  reach : Nat
  num : Nat
  after : List Nat
  /-- Its entry names its target core, which checks the tenant again (01 R24, 03 R83). -/
  named : Bool
deriving DecidableEq, Repr

/-- Where a result in flight stands. -/
inductive Travel where
  | here
  | away (t : Trip)
  /-- Refused or timed out: the cause and TVAL raised at the held bundle (02 R50). -/
  | lost (cause : Nat) (tval : Word)
deriving DecidableEq, Repr

/-- One result in flight (07 R192, 18 R448). `due` is the first counted index that sees it; in a latch bank frame, DIST. -/
structure Landing where
  seat : Nat
  due : Nat
  ord : Nat
  slot : Nat
  unit : UnitId
  effect : Effect
  /-- The value that enters the unit's latch pair as it lands. -/
  latch : Option Vec
  travel : Travel
  /-- An SLD: the granule it read (07 R198). -/
  load : Option Nat
  /-- Issued in the current iteration of the spin detector, or in the one before it (07 R198). -/
  spin : Bool
  past : Bool
deriving DecidableEq, Repr

/-- A latch bank frame (18 R448), with what the pending transfer that the trap saved in TSTAT is (11 R292): an RTT, or the BTR at an
address. -/
structure Frame where
  entries : List Landing
  latches : Latches
  rtt : Bool
  btr : Option VA
deriving DecidableEq, Repr

/-- The user frame kept while a supervisor trap is serviced (18 R449), with TSTAT as it stood, whose DLY and PTGT are the user
trap's (11 R292). -/
structure UserFrame where
  frame : Option Frame
  tpc : Word
  tcause : Word
  tval : Word
  tstat : Word
deriving DecidableEq, Repr

/-- One outstanding read of a remote operand stream (13 R346, 05 R148): its row, its place in the issue order of posted work, the byte
addresses of each 64-element block it brings, by KB, the key material of their flat granules, its Canal requests and messages unanswered
(tag, flat address, length), the bytes returned, and a refusal or a loss: cause and TVAL. -/
structure StreamRead where
  row : Nat
  id : Nat
  blocks : List (Nat × List Nat)
  material : Tab (BitVec 512)
  /-- It reads by the die mesh, or the package's own paths. -/
  direct : Bool
  /-- Selector reads it waits for (01 R531). -/
  after : List Nat
  /-- Requests that have not left: first address and bytes of each. -/
  todo : List (Nat × Nat)
  /-- Requests that have left and are read in their place. -/
  going : List (Nat × Nat)
  asked : List Nat
  tags : List (Nat × Nat × Nat)
  got : List (Nat × Byte)
  lost : Option (Nat × Word)
deriving DecidableEq, Repr

/-- The remote operand stream of a seat (13 R346): the captured entry and its index, P, the latest row offset, the 64-element blocks
read ahead, by 4·row + KB, and the reads outstanding. -/
structure Stream where
  entry : Nat
  bits : LteBits
  count : Nat
  offset : Nat
  ahead : List (Nat × Row)
  /-- No push of it has committed yet. -/
  fresh : Bool
  reads : List StreamRead
deriving DecidableEq, Repr

/-- The monitor of a seat (11 R302, 14 R383): the flat granule, whether its home is on the die, the CYC at which it fires otherwise,
whether a write to the granule has been performed, and whether it has fired. -/
structure Monitor where
  granule : Nat
  local_ : Bool
  deadline : Nat
  hit : Bool
  fired : Bool
deriving DecidableEq, Repr

/-- What a stalled bundle waits for (07 R195). -/
inductive WaitKind where
  | promise | flag | monitor | token | leave | queue | window | drawer | stream | array
  /-- A write to an ARMED granule, by a virtual address in it (03 R70). -/
  | armed (va : Nat)
  | reduction (tree : Nat)
  /-- The acquire read of a sync object, by its flat address (06 R163). -/
  | acquire (addr : Nat)
  /-- ACQT: the object, and whether its home is on the seat's die (14 R373). -/
  | target (addr : Nat) (local_ : Bool)
deriving DecidableEq, Repr

/-- One slot's wait at the bundle the PC names: its position, the CYC at which it began, the CYC at which its condition gives up,
whether an event has ended it, and the word an acquire read took. -/
structure Wait where
  pos : Nat
  kind : WaitKind
  since : Nat
  deadline : Nat
  ended : Bool
  got : Option Word
deriving DecidableEq, Repr

/-- The spin detector of a seat (07 R198). -/
structure Spin where
  /-- The BTR whose iteration runs or ran last, whether one runs, and whether the iteration before it was complete. -/
  btr : Option VA
  live : Bool
  whole : Bool
  idle : Bool
  /-- Granule and value of the last SLD of this iteration that has landed, with its issue order, and of the last one of the
  iteration before. -/
  last : Option (Nat × Word)
  lastOrd : Nat
  prev : Option (Nat × Word)
  prevOrd : Nat
  /-- Issue order and granule of the last SLD performed (07 R200), and whether a write to that granule has been performed since. -/
  armed : Option (Nat × Nat)
  hit : Bool
deriving DecidableEq, Repr

/-- A parked seat's wait (07 R200): granule, whether its home is on the die, whether a write to it has been performed, and the CYC
of the wake otherwise. -/
structure Park where
  granule : Nat
  local_ : Bool
  hit : Bool
  wakeAt : Nat
deriving DecidableEq, Repr

/-- The replay buffer of a seat (02 R56): the range of the loop level whose body it holds, the bundles that have issued with their
addresses, and whether an iteration has been recorded. -/
structure Replay where
  start : VA
  stop : VA
  bundles : List (VA × List Nat)
  ready : Bool
deriving DecidableEq, Repr

/-- An END scan under way (11 R294): the address and the count of its bundles, the bundle it has come to, and how many are left. -/
structure Scan where
  start : Nat
  len : Nat
  pos : Nat
  left : Nat
deriving DecidableEq, Repr

/-- A trap that waits for loads and atomics of its seat still travelling (18 R443): cause, TVAL, slot, and the address RTT resumes. -/
structure Trapping where
  cause : Nat
  tval : Word
  slot : Nat
  tpc : VA
deriving DecidableEq, Repr

/-- One seat (07 R187, 11, 13 R334, 18 R446). -/
structure Seat where
  st : SeatState
  pc : VA
  sup : Bool
  s0 : Tab Word
  s1 : Tab Word
  l0 : Tab Word
  l1 : Tab Word
  v : Tab Vec
  g : Tab Word
  /-- q2j of pair j; q2j+1 is its complement (11 R276). -/
  preds : Tab Bool
  k : Tab Mask
  b : Tab Word
  link : Word
  rrb : BitVec 3
  vtype : BitVec 8
  /-- Active levels, innermost first (11 R293). -/
  levels : List Level
  staged : List (Nat × Word)
  /-- Target of a taken transfer and delay bundles still to issue (11 R292). -/
  pend : Option (VA × Nat)
  /-- Address of the transfer that is pending, for the spin detector, and whether it is an RTT. -/
  pendFrom : Option VA
  pendRtt : Bool
  lte : Tab LteBits
  p0 : Tab Row
  p1 : Tab Row
  act : Bool
  sa : Tab Byte
  sb : Tab Byte
  cursor : Nat
  stride : Nat
  kstep : BitVec 32
  tiles : Tab (BitVec 3)
  stream : Option Stream
  /-- The stream that an MPR slot of another entry, which has not committed, has set aside. -/
  aside : Option Stream
  flags : BitVec 32
  missing : Tab (BitVec 21)
  flagErr : BitVec 32
  tpc : Word
  tcause : Word
  tval : Word
  tstat : Word
  tvec : Word
  frame : Option Frame
  userFrame : Option UserFrame
  /-- The frame whose entries and latches return as the seat's next bundle issues (18 R443, R449). -/
  drained : Option Frame
  spinc : BitVec 32
  redto : BitVec 32
  pfd : Word
  trimc : Word
  monitor : Option Monitor
  leave : Nat
  /-- Writes issued since dispatch (14 R375). -/
  writes : Nat
  inq : List Word
  outq : List Word
  /-- Values of QPSH whose push waits for earlier accesses of the seat to its own core (06 R175): the items, and the issue orders of the
  array's results, that come first. -/
  pushing : List (Word × List Nat × List Nat)
  spin : Spin
  body : Option Replay
  scan : Option Scan
  span : Nat
  /-- Waits of the bundle at the PC (07 R195). -/
  waits : List Wait
  /-- A fence in L1 that covers its own bundle's L0 (06 R153, R165): the first item after the bundle, and the scope. -/
  fence : Option (Nat × Nat)
  /-- REDP slots acted to each tree since dispatch (14 R380). -/
  rounds : Tab Nat
  /-- Trap that the next bundle of the seat is held for (02 R50): cause, TVAL, issue order of the load. -/
  held : Option (Nat × Word × Nat)
  trapping : Option Trapping
  park : Option Park
  /-- The seat stands at the die firmware vector, and firmware has yet to act (18 R447). -/
  firmware : Bool
  /-- PASS and BOOST of the issue selector (17 R434). -/
  passed : Nat
  boost : Bool
  /-- The bound task: record, coordinate, tenant, context, job, pure, keyed, priority. -/
  record : Nat
  coord : Nat
  tenant : Nat
  ctx : Nat
  job : Nat
  pure : Bool
  prio : Nat
  lid : Nat
  /-- Core cycles of dispatch left (07 R186), or of the scratch fill. -/
  loading : Nat
  /-- Index before which the seat is not bound again (15 R392). -/
  lastDue : Nat
  /-- A pending pre-emption: its cause and the CYC at which the save is forced (17 R437, R438). -/
  saving : Option (Preempt × Nat)
  /-- The save or the restore of the seat is under way (17 R433, R439). -/
  leaving : Bool
  restoring : Bool
  /-- The scratch fill of a pure task is under way (07 R186). -/
  filling : Bool
deriving DecidableEq, Repr

/-! ### Cores -/

/-- State of a drawer row (13 R336). -/
inductive RowState where
  | ready
  | pending (cmd : Nat)
  | faulted (cmd : Nat) (tval : Word)
deriving DecidableEq, Repr

/-- Who issued an engine command (14 R362, 16 R417). -/
inductive Issuer where
  | seat (n : Nat)
  | loader
  | storer
deriving DecidableEq, Repr

/-- Kinds of engine commands (14 R362-R367). -/
inductive CmdKind where
  | cpy
  | cpya (scope : Nat)
  | dclm (drawer row : Nat)
deriving DecidableEq, Repr

/-- One command of a copy engine (14 R362-R364). -/
structure Cmd where
  id : Nat
  issuer : Issuer
  kind : CmdKind
  /-- The captured entries (01 R36). -/
  src : LteBits
  dst : LteBits
  /-- Front half of the source, and half the destination writes (01 R28). -/
  srcHalf : Bool
  dstHalf : Bool
  /-- Source coordinates c0-c3 and destination coordinates c0, c1. -/
  sc : List Nat
  dc : List Nat
  /-- Elements per row and rows. -/
  ne : Nat
  nr : Nat
  promise : Nat
  /-- Elements moved so far, row by row; for a drawer claim, the rows still to fill, counted from its first. -/
  moved : Nat
  rows : List Nat
  complete : Bool
  faulted : Option Word
  /-- Cause delivered at WTC when faulted: 15, or 24 (18 R451). -/
  faultCause : Nat
  tenant : Nat
  ctx : Nat
  sup : Bool
  job : Nat
  /-- Posted work of the issuer that comes first (06 R168, 01 R531), and issue orders of its array results that do. -/
  after : List Nat
  landings : List Nat
  /-- Posted writes of the command still to be performed or acknowledged. -/
  unacked : List Nat
  /-- Entry indices, and the issuing task's record. -/
  srcEntry : Nat
  dstEntry : Nat
  task : Option (Nat × Nat)
  /-- The object the destination was bound to at acceptance (06 R159). -/
  bound : Option Nat
  /-- Issue number among the seat's writes (14 R375), and the smallest scope whose extent holds the destination (06 R160). -/
  num : Nat
  reach : Nat
  /-- Reads that have left as Canal requests (05 R147) or as best-effort messages (04 R110: tag, flat address, length) and are
  unanswered, and bytes returned. -/
  asked : List Nat
  tags : List (Nat × Nat × Nat)
  got : List (Nat × Byte)
  /-- Canal writes of the row that wait for room in their window (05 R139): address and bytes of each. -/
  going : List (Nat × List Byte)
  /-- Leaves of pages of the source, and of the destination, looked up ahead of the transfer (03 R75). -/
  ahead : List (Nat × Leaf)
  aheadTo : List (Nat × Leaf)
deriving DecidableEq, Repr

/-- A packet of the reduction mesh (14 R380). -/
structure RedPacket where
  tree : Nat
  turns : Nat
  fmt : Nat
  mask : Word
  payload : BitVec 1024
  limit : Nat
  round : Nat
deriving DecidableEq, Repr

/-- A packet that waits to arrive at a router: core, port it comes by, heading it carries (0 east, 1 north, 2 west, 3 south), whether
its leg begins here, and turns consumed (14 R378). -/
structure RedMove where
  core : Nat
  port : Nat
  heading : Nat
  used : Nat
  packet : RedPacket
deriving DecidableEq, Repr

/-- What a router holds for one tree (14 R380): the packet, its port, and the mesh cycle of its arrival. -/
structure RedHeld where
  packet : RedPacket
  port : Nat
  since : Nat
deriving DecidableEq, Repr

/-- The reduction router and collector of one core (14 R379-R381). -/
structure Router where
  nodes : Tab (BitVec 23)
  held : List (Nat × RedHeld)
  closed : List (Nat × Nat)
  queues : List (Nat × List RedPacket)
  accepted : List (Nat × Nat)
deriving DecidableEq, Repr

/-- A cached translation (03 R72, R73): context, page number at the leaf's level (0 or 1), and the leaf. -/
structure TlbEntry where
  ctx : Nat
  page : Nat
  leaf : Leaf
deriving DecidableEq, Repr

/-- A miss of the last-level TLB (03 R74): core, context, 64 KiB page, CYC at entry, and rank (0 L0, 1 L1, 2 copy engine). -/
structure Miss where
  core : Nat
  ctx : Nat
  page : Nat
  since : Nat
  rank : Nat
deriving DecidableEq, Repr

/-- A cached digest (15 R402): tenant, context and entry fields of its tag, the 64 KiB pages it covers, the digest, and the CYC
of its last use. -/
structure Digest where
  tenant : Nat
  ctx : Nat
  tag : LteBits
  pages : List Nat
  digest : BitVec 256
  used : Nat
deriving DecidableEq, Repr

/-- A loader or storer (16 R411-R422). -/
structure Side where
  loaded : Bool
  regs : Tab Word
  pc : Word
  jseat : Nat
  cycle : Word
  instret : Word
  scflt : Word
  /-- Digest of the installed program (16 R421). -/
  program : Nat
  /-- Commands whose completion j.wtc has reported (16 R419, R420). -/
  seen : List Nat
  /-- An acquire read, a wait for a promise or for a queue holds the side core. -/
  waiting : Bool
  /-- The Canal request of an acquire read under way (16 R419). -/
  acquiring : Option Nat
deriving DecidableEq, Repr

/-- A side core's write of an entry's field on its way (16 R418): seat, entry, field code, value, and whether a core cycle has begun since. -/
structure LteWrite where
  seat : Nat
  entry : Nat
  code : Nat
  value : Nat
  aged : Bool
deriving DecidableEq, Repr

/-- One core (07, 13, 14, 16, 17). -/
structure Core where
  /-- Counted index of the next counted cycle (07 R192). -/
  idx : Nat
  running : Option Nat
  /-- Core cycles of freeze left (02 R43, R46, R55). -/
  freeze : Nat
  /-- The bubble of a yield is due (07 R190), and the seat that YLDP withholds. -/
  bubble : Bool
  withheld : Option Nat
  latches : Latches
  flight : List Landing
  seats : Tab Seat
  rows : Tab RowState
  /-- Grid busy until this counted index (13 R344). -/
  gridUntil : Nat
  /-- CYC at which a freeze of 02 R49 began. -/
  frozenSince : Option Nat
  cmds : List Cmd
  nextCmd : Nat
  /-- Lines of the instruction cache by context and line address (02 R54), and the line a fetch waits for, with the CYC at which the
  wait began (02 R55). -/
  icache : List ((Nat × Nat) × BitVec 512)
  fetching : Option (Nat × Nat)
  fetchSince : Nat
  /-- First-level TLB (03 R72). -/
  tlb : List TlbEntry
  router : Router
  loader : Side
  storer : Side
  lteDue : List LteWrite
  /-- Ready FIFOs, by 64·priority + launch slot, of task records, with PTR[p] and RR[p] (17 R433, R434). -/
  fifos : Tab (List Nat)
  ptr : Tab Nat
  rr : Tab Nat
  /-- Records that became ready, with CYC (17 R432), and CYC of the last binding (17 R433). -/
  readied : List (Nat × Nat)
  boundAt : Option Nat
  dcnt : Tab (BitVec 32)
  /-- A scrub is under way or due (03 R84). -/
  scrubbing : Bool
  /-- Marked for map-out after a lasting fault of its memories (18 R451). -/
  mapOut : Bool
deriving DecidableEq, Repr

/-! ### The issue context of a bundle -/

/-- What acting slots of the bundle have asked for so far. -/
inductive Out where
  | go
  /-- A trap taken at the bundle: cause, TVAL, slot (18 R443). -/
  | trap (cause : Nat) (tval : Word) (slot : Nat)
  /-- A wait of 07 R195. -/
  | stall
  /-- The bundle has committed already: a yield, an end, or a trap after it (07 R190, 15 R392, R394). -/
  | after
deriving DecidableEq, Repr

/-- The bundle that issues: its core, seat, address and slots so far (09 R241-R252). -/
structure Context where
  core : Nat
  seat : Nat
  /-- The storer, else the loader, of the core executes a side-core instruction. -/
  storer : Bool
  pos : Nat
  /-- The slot word at that position. -/
  word : Nat
  length : Nat
  addr : VA
  /-- Number of the first item that the bundle posts: those below come before the bundle (06 R165). -/
  firstId : Nat
  scope : Nat
  ports : List Nat
  pim : Option (BitVec 23)
  pimh : Option (BitVec 23)
  out : Out
  /-- Scratchpad lines and basin rows touched by the L slots (02 R43, R46). -/
  banks : List Nat
  rows : List Nat
  /-- Freeze cycles asked by FNC or a scan. -/
  hold : Nat
  taken : Bool
  broke : Bool
  /-- Entries of the seat's inflow and outflow queues as the bundle began (14 R382). -/
  inLevel : Nat
  outLevel : Nat
deriving DecidableEq, Repr

/-! ### Posted work on its way to its home (06 R152, R162) -/

/-- A best-effort message (04 R110): the item it belongs to, its kind, tag, destination station, target word, and data. -/
structure BeMsg where
  id : Nat
  kind : Nat
  tag : Nat
  dest : Nat
  tgt : BitVec 52
  len : Nat
  data : BitVec 2048
  key : Nat
  job : Nat
deriving DecidableEq, Repr

/-- The agents of 06 R151. -/
inductive Agent where
  | seat (core n : Nat)
  | engine (core : Nat)
  | side (core : Nat) (storer : Bool)
  | station (s : Nat)
  | xi
  /-- An agent of another package, by the SRC place of its Canal packets (06 R151). -/
  | remote (place : Nat)
  | host (port : Nat)
deriving DecidableEq, Repr

/-- What a best-effort message does at the die it has been drained to (04 R110): a write under key material, a read with the bytes taken
so far, or an atomic. -/
inductive Visit where
  | write (bytes : List (Nat × Byte)) (material : Option (BitVec 512))
  | read (addr len : Nat) (material : Option (BitVec 512)) (got : List Byte)
  | act (addr : Nat) (a : Atomic)
deriving DecidableEq, Repr

/-- What a posted item does when it is performed. -/
inductive PostKind where
  /-- Bytes written at flat addresses (06 R154), under key material. -/
  | write (bytes : List (Nat × Byte)) (material : Option (BitVec 512))
  /-- An increment of RCOUNT and an inversion of a selector bit (06 R158, R170). -/
  | release (addr : Nat) (flip : Option Nat)
  /-- A decrement of a task record: die, record, amount (14 R374). -/
  | decrement (die record amount : Nat)
  /-- A station flag set or cleared: core, seat, flag (14 R376). -/
  | flag (core seat flag : Nat) (clear : Bool)
  /-- A station counter bumped at the end of the slot time (14 R376). -/
  | counter (key : Nat)
  /-- A TLB invalidation (15 R398): kind, key, context, virtual address, and, once the dies have dropped the entries, the number of the next
  item then. -/
  | tlbi (kind key ctx va : Nat) (since : Option Nat)
  /-- A best-effort message not yet delivered (04 R110). -/
  | message (m : BeMsg)
  /-- A write message that has not joined its queue, while a selector read travels (01 R531): station it leaves from. -/
  | heldMessage (station : Nat) (m : BeMsg)
  /-- A message drained to the die of a station (04 R112): its arrival number, the station, its slot, and what it does. -/
  | visit (n station : Nat) (h : Slot) (v : Visit)
  /-- A Canal packet not yet acknowledged (05 R138): peer, its SEQ once taken, and whether it is a write. -/
  | packet (peer : Nat) (seq : Option Nat) (write : Bool)
  /-- A selector read that travels to its object's home (01 R531); for an object of another package the FSI and the bit that the access
  took, which the answer brings. -/
  | selector (expect : Option (Nat × Bool))
  /-- A write into a flag-class window, held at the ordering point (06 R179). -/
  | flagClass (bytes : List (Nat × Byte))
  /-- A write to TAIL of a launch queue (17 R425). -/
  | tail (queue : Nat) (value : Word)
deriving DecidableEq, Repr

/-- One posted item: its agent, issue number, task, the smallest scope whose extent holds its home (06 R160), the object its entry
was bound to, the items it waits for, and the engine command it belongs to. -/
structure Posted where
  id : Nat
  agent : Agent
  /-- Die whose context records and TLBs the agent uses (03 R60). -/
  die : Nat
  num : Nat
  kind : PostKind
  tenant : Nat
  ctx : Nat
  job : Nat
  /-- Die and record of the issuing task (06 R176). -/
  task : Option (Nat × Nat)
  reach : Nat
  bound : Option Nat
  after : List Nat
  cmd : Option Nat
  /-- Virtual address of the write's first byte when it goes through translation (03 R68-R70), and the leaf that translated it. -/
  va : Option Nat
  leaf : Option Leaf
  /-- Its entry names its target core, which checks the tenant again (01 R24, 03 R83). -/
  named : Bool
  /-- An engine write to a shadow pair, of which no granule is torn (01 R30). -/
  pair : Bool
  /-- Issue orders of array results of its core that come first (06 R174, R176). -/
  lands : List Nat
deriving DecidableEq, Repr

/-- An item of an agent on a die, for a tenant, a context and a job, whose home lies in the extent of `reach`; what else it is, its maker
says. -/
def Posted.of (agent : Agent) (die tenant ctx job reach : Nat) : Posted where
  id := 0
  agent := agent
  die := die
  num := 0
  kind := .counter 0
  tenant := tenant
  ctx := ctx
  job := job
  task := none
  reach := reach
  bound := none
  after := []
  cmd := none
  va := none
  leaf := none
  named := false
  pair := false
  lands := []

/-! ### Flume and Lade (04) -/

/-- A flag, and a counter, that wait for a gate action's or a message's writes to be performed (04 R99, 14 R377). -/
structure FlagDue where
  after : List Nat
  /-- Core, seat and flag, and whether the flag is set with the error status (04 R109). -/
  flag : Option (Nat × Nat × Nat)
  err : Bool
  counter : Option Nat
deriving DecidableEq, Repr

/-- A stream (04 R105): id, ring, slots, origin table, launch slot, and whether it is closing. -/
structure StreamRec where
  id : Nat
  ring : Nat
  slots : List Nat
  origin : Nat
  launch : Nat
  job : Nat
  key : Nat
  closing : Option Nat
deriving DecidableEq, Repr

/-- A Lade after bring-up (04 R118, R119): stations on the ring, slot windows per hop, flit times from one reserved window to the next,
and the windows by which this XI delays each hop, in the order of the hops from station 0 on. -/
structure Lade where
  n : Nat
  h : Nat
  p : Nat
  pads : List Nat
deriving DecidableEq, Repr

/-- The Flume's and the Lades' state. A ring's slot n has key 2,048·ring + n; station 0-20 is a Flume station, 21 and 22 are this XI
on its row and its column Lade. -/
structure Flume where
  /-- Slot times counted (04 R90). -/
  time : Nat
  stopped : Bool
  slots : Tab Slot
  /-- Gate entries by 2,048·station + slot (04 R94), and doublewords HGSET has staged by 4·that + DW. -/
  gates : Tab (BitVec 256)
  staged : Tab Word
  /-- Entries the headgate has written in this slot time (04 R96), oldest first. -/
  gatesDue : List (Nat × BitVec 256)
  /-- Station counters by 32·station + counter, and increments of this slot time (04 R97, R98). -/
  counters : Tab (BitVec 32)
  bumps : List Nat
  /-- Passes of this slot time already made: slot key and station. -/
  done : List (Nat × Nat)
  /-- Slots whose CRC failed at station 0's input and that have not passed its output yet (04 R93). -/
  spoiled : List Nat
  /-- Best-effort queues by 16·station + 8·direction + lane (04 R111), their eligible counts (R113) and placed holds. -/
  queues : Tab (List BeMsg)
  waits : Tab Nat
  held : List Nat
  /-- Credits in use, and credits to return, by 32·station + other station (04 R111). -/
  used : Tab Nat
  owed : Tab Nat
  /-- Station that returns the credits a slot carries, by slot key: the header has no field for it. -/
  creditFrom : Tab Nat
  /-- Copies of messages sent, by slot key (04 R116). -/
  sent : Tab BeMsg
  /-- Station, origin and slot of messages refused and not yet delivered, in the order in which they first arrived (04 R116). -/
  refused : List (Nat × Nat × Nat)
  /-- Station and job whose epoch parity is 1 (04 R108). -/
  parity : List (Nat × Nat)
  bypass : List Nat
  /-- Slots with a pending class change (04 R107), and whether they become owned. -/
  classes : Tab Bool
  /-- Lade slots that have passed this XI and wait for their window on the next link (04 R118), by slot key, oldest first. -/
  leaving : List (Nat × Slot)
  flagsDue : List FlagDue
  streams : List StreamRec
  lades : Tab Lade
  /-- BEST of the stations without cores (04 R114). -/
  bests : Tab Nat
deriving DecidableEq, Repr

/-! ### Canal (05) -/

/-- A packet in the retransmit store (05 R137): peer, SEQ, packet, 64 B units, allowance window, item. -/
structure StoreEntry where
  peer : Nat
  seq : Nat
  packet : Packet
  units : Nat
  win : Option Nat
  id : Nat
  /-- It has been sent again (R133). -/
  resent : Bool
deriving DecidableEq, Repr

/-- Where a packet of a peer stands at this package (05 R127, R132, R135). -/
inductive Arrival where
  /-- A hole: re-requests sent, whether a trimmed header has come since, and the Canal cycle it came. -/
  | hole (sent : Nat) (again : Bool) (since : Nat)
  | waiting
  /-- A read whose bytes are being taken: those taken so far (06 R154). -/
  | taking (got : List Byte)
  /-- A read or an atomic whose request has left for a die as a message (04 R110): its tag, the first address it asks for, and the bytes taken
  so far. -/
  | asking (tag addr : Nat) (got : List Byte)
  /-- Refused at its home, for a reason (R146). -/
  | refused (reason : Nat)
  /-- On its way to its home: the items that perform it. -/
  | released (items : List Nat)
  | performed
deriving DecidableEq, Repr

/-- A SEQ above LOW that has arrived. -/
structure RecvEntry where
  seq : Nat
  packet : Packet
  state : Arrival
  /-- Canal cycle at which a request arrived, for RWDOG (05 R134). -/
  since : Nat
deriving DecidableEq, Repr

/-- Receive state of one peer (05 R127, R132, R140): LOW, entries, tokens, Canal cycle of the last acknowledgement, LOW it carried,
the marker SEQs by job, and the Canal cycle of the last refill. -/
structure Recv where
  low : Nat
  entries : List RecvEntry
  tokens : Nat
  ackAt : Nat
  acked : Nat
  markers : List (Nat × Nat)
  refillAt : Nat
deriving DecidableEq, Repr

/-- A link-control flit (05 R141); the replay request of R143 has no kind in R141's table. -/
inductive Control where
  | idle (freed : List (BitVec 16))
  | resync (freed received : List (BitVec 16))
  | adv (occupancy : List Byte)
  | rkreq (generation : Nat)
  | rkmsg (fragment : List Byte)
  | keysw
  | replay (rpn : BitVec 16)
deriving DecidableEq, Repr

/-- What a link sends as one message (05 R122, R144): a packet, a control flit, or a slot of a Lade (04 R118). -/
inductive Sent where
  | packet (p : Packet)
  /-- With the RPN up to which this end has received (R143). -/
  | control (k : Control) (ack : BitVec 16)
  | lade (h : Slot)
deriving DecidableEq, Repr

/-- A flit as it is sent, with the fields of its framing word (05 R122). -/
structure Flit where
  bits : BitVec 512
  crc : BitVec 32
  rpn : BitVec 16
  kind : BitVec 2
  last : Bool
  tag : BitVec 64
deriving DecidableEq, Repr

/-- A message in a link's replay buffer (05 R143): the RPN of its first flit, what it is, and its flits. -/
structure Framed where
  rpn : BitVec 16
  sent : Sent
  flits : List Flit
deriving DecidableEq, Repr

/-- One link (05 R141-R145). Counts are by 3·VC + hop class. -/
structure Link where
  sent : Tab (BitVec 16)
  peerFreed : Tab (BitVec 16)
  received : Tab (BitVec 16)
  freed : Tab (BitVec 16)
  /-- Occupancies the peer last advertised, in units of 16 flits. -/
  adv : List Byte
  rpn : BitVec 16
  replay : List Framed
  /-- Flit counter, key generation, key and salt (R144). -/
  flits : Nat
  generation : Nat
  key : BitVec 256
  salt : BitVec 48
  /-- A rekey has been asked for here, or by the peer, and the key and salt of the next generation here once they are agreed (R145). -/
  asked : Bool
  peerAsked : Bool
  agreed : Option (BitVec 256 × BitVec 48)
  /-- Canal cycle at which encrypted sending stopped (R145). -/
  stopped : Option Nat
  /-- Unencrypted control flits of a rekey still to be sent. -/
  rekeying : List Control
  /-- Retraining after a failed replay, and retirement. -/
  retraining : Bool
  retired : Bool
  cycles : Nat
  /-- Key-agreement fragments received, and the generation of the key the peer sends under. -/
  fragments : List (List Byte)
  peerGeneration : Nat
  /-- The channel of VC1 to VC3 served last (R130); link cycles of the last ADV and RESYNC sent; replay requests since the last
  acknowledgement of an RPN (R143). -/
  served : Nat
  advAt : Nat
  resyncAt : Nat
  replays : Nat
  /-- RPN of the next flit the receiver looks for (R143), and the link cycle at which the last Lade window was due (04 R118). -/
  rpnIn : BitVec 16
  windowAt : Nat
  /-- Packets in the input buffers, in the order of their arrival (R136). -/
  buffer : List Packet
deriving DecidableEq, Repr

/-- A packet at the injection point with the item, or the trip, it serves. -/
structure Inject where
  peer : Nat
  packet : Packet
  win : Option Nat
  id : Nat
  /-- Release-class: acknowledgements it is held for (05 R178). -/
  after : List Nat
  /-- It has come from its die to the XI; the payload of a posted write is in the retransmit store (05 R137, R138). -/
  stored : Bool
  /-- It has found no route, which is logged once (05 R129). -/
  noRoute : Bool
deriving DecidableEq, Repr

/-- What a request to a peer was sent for: a trip, an engine command, a seat's operand stream, or a wait of a seat. -/
inductive Asker where
  | trip
  | cmd (id : Nat)
  | stream (seat : Nat)
  | acquire (seat : Nat)
  | side (storer : Bool)
  /-- A selector read, by its posted item (01 R531). -/
  | selector (id : Nat)
  /-- The decrement of a task record of the peer's, for a seat's TDEC (14 R374). -/
  | decrement (seat : Nat)
deriving DecidableEq, Repr

/-- A request sent to a peer (05 R147): number, peer, SEQ once taken, issuing core, landing order. -/
structure Request where
  num : Nat
  peer : Nat
  seq : Option Nat
  core : Nat
  /-- Address at the target of the first byte asked for. -/
  addr : Nat
  len : Nat
  asker : Asker
  /-- CYC of the core's die when it was sent. -/
  since : Nat
deriving DecidableEq, Repr

/-- The Canal side of the XI. -/
structure Canal where
  rows : Nat
  cols : Nat
  cycles : Nat
  sendSeq : Tab Nat
  store : List StoreEntry
  recv : Tab Recv
  inject : List Inject
  /-- Output queues of the ports (05 R130), and what has left on links, newest last: port and message as it was framed. -/
  out : Tab (List Packet)
  gone : List (Nat × Framed)
  /-- Packets that have taken their SEQ and wait at the injection point for a route, and whether they may take a detour (05 R129, R133,
  R143, R150). -/
  waiting : List (Packet × Bool)
  links : Tab Link
  requests : List Request
  fabctl : Word
  rrctl : Word
  hsalt : Word
  rwdog : Word
  tctx : Tab Word
  trims : Tab (BitVec 32)
  dropped : Nat
deriving DecidableEq, Repr

/-! ### Launches and jobs (17, 18) -/

/-- An occupied slot of the launch table (17 R429-R436). -/
structure Launch where
  queue : Nat
  lid : Nat
  /-- Slots of spawned successor launches, by K (17 R430). -/
  spawned : Tab Nat
  parent : Option Nat
  /-- Spawned successors of this launch and of those below it that are still to be accepted: the slot of the parent, K, and the offset of
  the record (17 R430). -/
  spawnLeft : List (Nat × Nat × Nat)
  /-- Once the launch has completed, the offsets of the successor records still to be started (17 R436). -/
  starting : Option (List Nat)
  /-- Dies whose records are still to be created (17 R431). -/
  diesLeft : List Nat
  /-- Save slots in use, and the tasks made: die and record. -/
  saves : List Nat
  tasks : List (Nat × Nat)
  total : Nat
  done : Nat
  failed : Nat
  hits : Nat
  digest : BitVec 256
  ldDigest : BitVec 256
  stDigest : BitVec 256
  /-- Lines of the text of its code object as they stood at the launch, by line number (02 R54). -/
  code : Tab (BitVec 512)
deriving DecidableEq, Repr

/-- A result on its way into the reuse table (15 R406): die, entry, core, tenant, context of the task, and its output entries. -/
structure Insertion where
  die : Nat
  record : Nat
  entry : Nat
  core : Nat
  tenant : Nat
  ctx : Nat
  outputs : List (Nat × LteBits)
deriving DecidableEq, Repr

/-- Phase of a snapshot (18 R454). -/
inductive SnapPhase where
  | idle | saving | arming | running | committing
deriving DecidableEq, Repr

/-- A SAVED task (17 R439): its record, core, seat image, leave units to ask for again, and why it was saved. -/
structure SavedTask where
  die : Nat
  record : Nat
  core : Nat
  image : Seat
  leave : Nat
  /-- None for a task that firmware holds for service (18 R447). -/
  why : Option Preempt
  /-- Number of the seat it was saved from. -/
  seat : Nat
  /-- Epoch of the snapshot that saved it, for rollback. -/
  epoch : Option (Nat × Nat)
deriving DecidableEq, Repr

/-- A delivery as it came: a packet, or a slot at a station. -/
inductive Delivery where
  | packet (p : Packet)
  | slot (station : Nat) (h : Slot)
deriving DecidableEq, Repr

/-- A channel-state record (18 R455): the epoch, the die that performed it, the delivery, and what it wrote. -/
structure ChannelRecord where
  epoch : Nat
  die : Nat
  msg : Delivery
  bytes : List (Nat × Byte)
  flag : Option (Nat × Nat × Nat)
  counter : Option Nat
  /-- The gate entry that made an owned slot's delivery. -/
  gate : Option Nat
deriving DecidableEq, Repr

/-- A granule copied for a snapshot (18 R456): virtual address, flat address, key id, epoch, bytes. -/
structure Copied where
  va : Nat
  home : Nat
  key : Nat
  epoch : Nat
  bytes : List Byte
deriving DecidableEq, Repr

/-- State saved of one die for a snapshot (18 R454, R457, R458): memory ranges by flat address and length with their bytes that are not
blank, gate entries and counters; of its tasks the records, the seats, and the launches' counts. -/
structure Saved where
  epoch : Nat
  place : Nat
  ranges : List (Nat × Nat)
  cells : List (Nat × Byte)
  gates : Tab (BitVec 256)
  counters : Tab (BitVec 32)
  records : List (Nat × List Byte)
  tasks : List SavedTask
  launches : Tab Launch
deriving DecidableEq, Repr

/-- A job (18 R453). -/
structure Job where
  tenant : Nat
  ctx : Nat
  packages : List Nat
  limit : Nat
  phase : SnapPhase
  epoch : Nat
  committed : Option Nat
  /-- Dies that have received the request, and dies that have armed. -/
  asked : List Nat
  armed : List Nat
  /-- CYC of each die as it received the request, and the forced save limit of the snapshot under way (15 R397). -/
  received : Tab Nat
  shot : Nat
  /-- Offset of the status object that is released at commit. -/
  status : Nat
  channel : List ChannelRecord
  copies : List Copied
  saved : List Saved
  manifest : List Byte
  abandoned : Bool
deriving DecidableEq, Repr

/-! ### Host, keys and management (03, 19) -/

/-- A key slot (03 R77). -/
structure KeySlot where
  valid : Bool
  tenant : Nat
  material : BitVec 512
deriving DecidableEq, Repr

/-- What the host sees come back (19): data of a read or an atomic, a completion without data, Unsupported Request, a link that went
down, or an answer of a mailbox. -/
inductive HostReply where
  | data (bytes : List Byte)
  | done
  | unsupported
  | linkDown
  /-- The package is reported failed (18 R451). -/
  | packageFailed
  | answer (words : List Nat)
deriving DecidableEq, Repr

/-- A read, or an atomic, of a host that is under way (19 R459, R463): port, number and tenant; for each byte still to be taken a value of its
own or its address, key material and key id; the bytes taken; the tag and the first address of a message that has left for a
die (04 R110); the atomic. -/
structure HostRead where
  port : Nat
  id : Nat
  tenant : Nat
  left : List ((Byte ⊕ Nat) × Option (BitVec 512) × Nat)
  got : List Byte
  asked : Option (Nat × Nat)
  atomic : Option Atomic
deriving DecidableEq, Repr

/-- The XI's host side (19). -/
structure HostSide where
  replies : List (Nat × HostReply)
  reads : List HostRead
  /-- Ports in CXL mode, as boot selects them (19 R460). -/
  cxl : List Nat
  fmap : Word
  /-- FMAP as the last conventional reset of each port applied it. -/
  applied : Word
  classes : BitVec 512
  mreq : Tab Word
  rqt : Tab Word
  pcap : Word
  xmwin : Tab Word
  doorbells : List Nat
  /-- The highest sequence number of a wrapped key used in a session with the root of trust, by session (19 R470). -/
  wraps : Tab Nat
  /-- Digests of the firmware stages and of the fuse state, by measurement index (19 R471). -/
  measured : Tab (BitVec 256)
  booted : Bool
  /-- The package is powered. -/
  power : Bool
deriving DecidableEq, Repr

/-! ### Dies and the package -/

/-- One entry of an error log (18 R452). -/
structure LogEntry where
  cyc : Nat
  cls : Nat
  unit : Nat
  lost : Nat
  info : Nat
  loc : Nat
  tenant : Nat
  coord : Nat
deriving DecidableEq, Repr

/-- An error log (18 R452): the head counter, the entries lost since the last one was written, and the ring's entries, the oldest first. -/
structure ErrorLog where
  head : Nat
  lost : Nat
  entries : List LogEntry
deriving DecidableEq, Repr

/-- Owner of a core (03 R83). -/
inductive Owner where
  | owned (tenant : Nat)
  | transit
deriving DecidableEq, Repr

/-- A request for leave units (17 R441): core, seat, units, CYC of entry. -/
structure LeaveAsk where
  core : Nat
  seat : Nat
  units : Nat
  since : Nat
deriving DecidableEq, Repr

/-- One XC die. -/
structure Die where
  cyc : Nat
  /-- Mesh cycles counted (14 R380). -/
  meshCyc : Nat
  wdog : Nat
  xto : Nat
  best : Word
  /-- CLASS and THR of PWRCLS, and the leave units granted (17 R440, R441). -/
  memBound : Bool
  throttled : Bool
  grant : Nat
  orient : Word
  slctl : Word
  /-- Owner of each logical core of the package as this die holds it (01 R24). -/
  owners : Tab Owner
  /-- Tenant tag of each 64 KiB block of the cistern (02 R48). -/
  tags : Tab Nat
  /-- Bases, in the die's cistern, of the context table (03 R60), the task records (15 R388), the reuse table (15 R404) and the
  quota records (15 R405). -/
  ctxBase : Nat
  taskBase : Nat
  reuseBase : Nat
  quotaBase : Nat
  log : ErrorLog
  asks : List LeaveAsk
  /-- Last-level TLB (03 R73). -/
  tlb : List TlbEntry
  /-- Queued misses, oldest first, walks in progress, misses attached to one of those, and misses that wait in their requester for room
  in the core's queue (03 R74). -/
  misses : List Miss
  walks : List Miss
  attached : List Miss
  waiting : List Miss
  /-- Digest cache (15 R402). -/
  digests : List Digest
  /-- DFCTL (19 R464) and the TDI's key list (19 R469). -/
  dfctl : Word
  keyList : List Nat
  /-- A die reset has taken the die out (19 R467); its station is in bypass until re-admission (R468). -/
  inReset : Bool
deriving DecidableEq, Repr

/-- Whose turn the schedule gives next. -/
inductive Turn where
  /-- One core cycle of a core. -/
  | core (c : Nat)
  /-- One side-core cycle of a loader, or of a storer. -/
  | side (c : Nat) (storer : Bool)
  /-- CYC of a die counts one core cycle. -/
  | tick (d : Nat)
  /-- One mesh cycle of a die. -/
  | mesh (d : Nat)
  /-- A copy engine moves the next row of a command. -/
  | engine (c id : Nat)
  /-- One slot time: every pass not yet made, then the counters. -/
  | slotTime
  /-- One link cycle of a port. -/
  | link (port : Nat)
  /-- One cycle of the Canal clock. -/
  | canalCycle
  /-- An event of the part. -/
  | event (i : Instr)
  /-- An event that comes about if it can. -/
  | chance (i : Instr)
deriving DecidableEq, Repr

/-- One allowance window (05 R139) with its trim counter (05 R149). -/
structure Wallow where
  tenant : Nat
  limit : Nat
  out : Nat
  trims : BitVec 32
deriving DecidableEq, Repr

/-- A window after reset (05 R139). -/
def Wallow.reset : Wallow := ⟨0, 16384, 0, 0⟩

/-- One package. -/
structure State where
  cores : Tab Core
  dies : Tab Die
  /-- Every memory of the package and the host memory behind its ports, as flat addresses: `Home.at` of an offset. -/
  mem : List Host.Cell
  /-- Key material each HBM or second-tier granule was last written under, by flat granule (03 R78). -/
  sealed : Tab (BitVec 512)
  /-- Granules whose contents are lost (18 R451). -/
  poison : List Nat
  /-- 64 KiB blocks, by flat address / 65,536, that firmware has retired (18 R451, 25 R525). -/
  retired : List Nat
  posted : List Posted
  nextPost : Nat
  agenda : List Turn
  cx : Context
  /-- Packets of the reduction mesh on their way to a router. -/
  mesh : List RedMove
  flume : Flume
  canal : Canal
  wallow : Tab Wallow
  launches : Tab Launch
  /-- Queues that are awake, the queue served last, and slot times counted when each was last looked at (17 R426). -/
  awake : List Nat
  lastQueue : Nat
  polled : Tab Nat
  /-- Keys of pure tasks that missed: die, record, key (15 R406); and insertions under way. -/
  taskKeys : List (Nat × Nat × BitVec 256)
  inserting : List Insertion
  /-- Hits whose copy is under way: die, record, entry. -/
  hitting : List (Nat × Nat × Nat)
  jobs : Tab Job
  savedTasks : List SavedTask
  /-- Tasks made by TSPN: die, record, and the posted work that comes before their dispatch (15 R391). -/
  spawned : List (Nat × Nat × List Nat)
  keys : Tab KeySlot
  hostSide : HostSide
  /-- The management log (18 R452). -/
  mgmtLog : ErrorLog
  /-- Tenant tag of each 64 KiB block of the I/O cistern (02 R48). -/
  iocTags : Tab Nat
  /-- DOM, PROW and PCOL of DIEID (11 R287). -/
  dom : Nat
  prow : Nat
  pcol : Nat
deriving DecidableEq, Repr

/-! ### Reset -/

/-- Empty latches (02 R40). -/
def Latch.zero : Latch := ⟨0, 0⟩
def Latches.zero : Latches := ⟨.zero, .zero, .zero, .zero, .zero, .zero, 0, 0⟩

/-- A cleared spin detector (07 R198). -/
def Spin.clear : Spin := ⟨none, false, false, true, none, 0, none, 0, none, false⟩

/-- A FREE seat with the values of the dispatch clear (07 R187). -/
def Seat.reset : Seat where
  st := .free
  pc := 0
  sup := false
  s0 := []
  s1 := []
  l0 := []
  l1 := []
  v := []
  g := []
  preds := []
  k := []
  b := []
  link := 0
  rrb := 0
  vtype := 0
  levels := []
  staged := []
  pend := none
  pendFrom := none
  pendRtt := false
  lte := []
  p0 := []
  p1 := []
  act := false
  sa := []
  sb := []
  cursor := 0
  stride := 0
  kstep := 0
  tiles := []
  stream := none
  aside := none
  flags := 0
  missing := []
  flagErr := 0
  tpc := 0
  tcause := 0
  tval := 0
  tstat := 0
  tvec := 0
  frame := none
  userFrame := none
  drained := none
  spinc := 0
  redto := 0x00100000
  pfd := 8
  trimc := 0
  monitor := none
  leave := 0
  writes := 0
  inq := []
  outq := []
  pushing := []
  spin := .clear
  body := none
  scan := none
  span := 0
  waits := []
  fence := none
  rounds := []
  held := none
  trapping := none
  park := none
  firmware := false
  passed := 0
  boost := false
  record := 0
  coord := 0
  tenant := 0
  ctx := 0
  job := 0
  pure := false
  prio := 0
  lid := 0
  loading := 0
  lastDue := 0
  saving := none
  leaving := false
  restoring := false
  filling := false

/-- A stopped side core (16 R421). -/
def Side.reset : Side where
  loaded := false
  regs := []
  pc := 0
  jseat := 0
  cycle := 0
  instret := 0
  scflt := 0
  program := 0
  seen := []
  waiting := false
  acquiring := none

/-- A router without nodes or packets (14 R379). -/
def Router.reset : Router := ⟨[], [], [], [], []⟩

/-- An idle core. -/
def Core.reset : Core where
  idx := 0
  running := none
  freeze := 0
  bubble := false
  withheld := none
  latches := .zero
  flight := []
  seats := []
  rows := []
  gridUntil := 0
  frozenSince := none
  cmds := []
  nextCmd := 0
  icache := []
  fetching := none
  fetchSince := 0
  tlb := []
  router := .reset
  loader := .reset
  storer := .reset
  lteDue := []
  fifos := []
  ptr := []
  rr := []
  readied := []
  boundAt := none
  dcnt := []
  scrubbing := false
  mapOut := false

/-- A die after reset (02 R57, 07 R197, 18 R450). -/
def Die.reset : Die where
  cyc := 0
  meshCyc := 0
  wdog := 0x00400000
  xto := 0x01000000
  best := 4
  memBound := false
  throttled := false
  grant := 0
  orient := 0
  slctl := 0x00100000
  owners := []
  tags := []
  ctxBase := 0xA00000
  taskBase := 0
  reuseBase := 0x800000
  quotaBase := 0xA20000
  log := ⟨0, 0, []⟩
  asks := []
  tlb := []
  misses := []
  walks := []
  attached := []
  waiting := []
  digests := []
  dfctl := 0
  keyList := []
  inReset := false

/-- The issue context of an empty bundle at core 0, seat 0. -/
def Context.reset : Context where
  core := 0
  seat := 0
  storer := false
  pos := 0
  word := 0
  length := 4
  addr := 0
  firstId := 0
  scope := 0
  ports := [31, 31, 31, 31]
  pim := none
  pimh := none
  out := .go
  banks := []
  rows := []
  hold := 0
  taken := false
  broke := false
  inLevel := 0
  outLevel := 0

/-- The Flume when training ends (04 R91, R94, R114). -/
def Flume.reset : Flume where
  time := 0
  stopped := false
  slots := []
  gates := []
  staged := []
  gatesDue := []
  counters := []
  bumps := []
  done := []
  spoiled := []
  queues := []
  waits := []
  held := []
  used := []
  owed := []
  creditFrom := []
  sent := []
  refused := []
  parity := []
  bypass := []
  classes := []
  leaving := []
  flagsDue := []
  streams := []
  lades := []
  bests := []

/-- A free best-effort slot (04 R91). -/
def Slot.reset : Slot where
  state := .free
  owned := false
  epar := false
  fmt := 0
  hold := 0
  origin := 0
  stream := 0
  len := 0
  dest := 0
  cseq := 0
  key := 0
  inc := false
  job := 0
  miss := 0
  credit := none
  tgt := 0
  payload := 0

/-- A peer of which nothing has arrived; its bucket is full (05 R132). -/
def Recv.reset : Recv := ⟨0, [], 32, 0, 0, [], 0⟩

/-- A link that has carried nothing (05 R141-R145). -/
def Link.reset : Link where
  sent := []
  peerFreed := []
  received := []
  freed := []
  adv := []
  rpn := 0
  replay := []
  flits := 0
  generation := 0
  key := 0
  salt := 0
  asked := false
  peerAsked := false
  agreed := none
  stopped := none
  rekeying := []
  retraining := false
  retired := false
  cycles := 0
  fragments := []
  peerGeneration := 0
  served := 0
  advAt := 0
  resyncAt := 0
  replays := 0
  rpnIn := 0
  windowAt := 0
  buffer := []

/-- The Canal registers at reset (05 R134), in a domain of one package. -/
def Canal.reset : Canal where
  rows := 1
  cols := 1
  cycles := 0
  sendSeq := []
  store := []
  recv := []
  inject := []
  out := []
  gone := []
  waiting := []
  links := []
  requests := []
  fabctl := 0x01000C00
  rrctl := 0x0000010000400020
  hsalt := 0
  rwdog := 0x00100000
  tctx := []
  trims := []
  dropped := 0

/-- A job with nothing saved (18 R453, 15 R397). -/
def Job.reset : Job where
  tenant := 0
  ctx := 0
  packages := []
  limit := 0x00100000
  phase := .idle
  epoch := 0
  committed := some 0
  asked := []
  armed := []
  received := []
  shot := 0
  status := 0
  channel := []
  copies := []
  saved := []
  manifest := []
  abandoned := false

/-- A launch slot without tasks. -/
def Launch.reset : Launch where
  queue := 0
  lid := 0
  spawned := []
  parent := none
  spawnLeft := []
  starting := none
  diesLeft := []
  saves := []
  tasks := []
  total := 0
  done := 0
  failed := 0
  hits := 0
  digest := 0
  ldDigest := 0
  stDigest := 0
  code := []

/-- An empty key slot (03 R77). -/
def KeySlot.reset : KeySlot := ⟨false, 0, 0⟩

/-- The host side at reset (19 R462, R474). -/
def HostSide.reset : HostSide where
  replies := []
  reads := []
  cxl := []
  fmap := 0xFFAA5500
  applied := 0xFFAA5500
  classes := 0
  mreq := []
  rqt := []
  pcap := 10000
  xmwin := []
  doorbells := []
  wraps := []
  measured := []
  booted := false
  power := true

/-- The package right after reset. -/
def State.reset : State where
  cores := []
  dies := []
  mem := []
  sealed := []
  poison := []
  retired := []
  posted := []
  nextPost := 0
  agenda := []
  cx := .reset
  mesh := []
  flume := .reset
  canal := .reset
  wallow := []
  launches := []
  awake := []
  lastQueue := 63
  polled := []
  taskKeys := []
  inserting := []
  hitting := []
  jobs := []
  savedTasks := []
  spawned := []
  keys := []
  hostSide := .reset
  mgmtLog := ⟨0, 0, []⟩
  iocTags := []
  dom := 0
  prow := 0
  pcol := 0

end Sys2Proof.Machine
end

