-- ==== Sys2Proof/Machine/Ops.lean ====
section
/-! DEFINITION. The named operations over tables, memory, registers and results in flight that the meanings share, and the
taking of a trap with the return from one (18 R443, R449). -/

namespace Sys2Proof.Machine

/-! ### Sparse tables -/

/-- The entry of a key, or the default. -/
def tget (d : α) : Tab α → Nat → α
  | [], _ => d
  | (k', v) :: t, k => if k' = k then v else tget d t k

/-- The table with an entry put in its place. -/
def tput : Tab α → Nat → α → Tab α
  | [], k, v => [(k, v)]
  | (k', v') :: t, k, v =>
    if k' < k then (k', v') :: tput t k v else if k' = k then (k, v) :: t else (k, v) :: (k', v') :: t

/-- The table without a key. -/
def tdel (t : Tab α) (k : Nat) : Tab α := t.filter fun p => p.1 != k

/-- The table with an entry put, a default value leaving no entry. -/
def tset [DecidableEq α] (d : α) (t : Tab α) (k : Nat) (v : α) : Tab α := if v = d then tdel t k else tput t k v

/-- Entries of a list changed where a test holds. -/
def adjust (p : α → Bool) (f : α → α) (l : List α) : List α := l.map fun x => if p x then f x else x

/-! ### Memory -/

/-- The memories of the package and what lies behind its host ports (01 R10, 02 R39, 16 R412). -/
inductive Home where
  | ioc
  | tier2
  | host (p : Nat)
  | cist (d : Nat)
  | hbm (d : Nat)
  | spad (c : Nat)
  | basin (c : Nat)
  | drawer (c : Nat)
  | instr (c : Nat) (storer : Bool)
  | data (c : Nat) (storer : Bool)
deriving DecidableEq, Repr

/-- Size of one window of flat addresses. -/
def window : Nat := 2 ^ 64

/-- Number of a home among the windows. -/
def Home.number : Home → Nat
  | .ioc => 0
  | .tier2 => 1
  | .host p => 2 + p % 4
  | .cist d => 16 + d % 16
  | .hbm d => 32 + d % 16
  | .spad c => 1024 + c % 1024
  | .basin c => 2048 + c % 1024
  | .drawer c => 3072 + c % 1024
  | .instr c st => 4096 + 2 * (c % 1024) + (if st then 1 else 0)
  | .data c st => 8192 + 2 * (c % 1024) + (if st then 1 else 0)

/-- The home of a window. -/
def Home.ofNumber (n : Nat) : Home :=
  if n = 0 then .ioc else if n = 1 then .tier2 else if n < 6 then .host (n - 2)
  else if n < 32 then .cist (n - 16) else if n < 48 then .hbm (n - 32)
  else if n < 2048 then .spad (n - 1024) else if n < 3072 then .basin (n - 2048) else if n < 4096 then .drawer (n - 3072)
  else if n < 8192 then .instr ((n - 4096) / 2) (n % 2 == 1) else .data ((n - 8192) / 2) (n % 2 == 1)

/-- The flat address of an offset in a home. -/
def Home.at (h : Home) (off : Nat) : Nat := h.number * window + off

/-- The home a flat address lies in, and the offset. -/
def homeOf (a : Nat) : Home := .ofNumber (a / window)
def offsetOf (a : Nat) : Nat := a % window

/-- Bytes of a home (02 R39, 16 R412); host memory is as large as its bus (03 R63). -/
def Home.size : Home → Nat
  | .ioc => 32 * 2 ^ 20
  | .tier2 => 8 * 2 ^ 40
  | .host _ => 2 ^ 64
  | .cist _ => 16 * 2 ^ 20
  | .hbm _ => 64 * 2 ^ 30
  | .spad _ => 2 * 2 ^ 20
  | .basin _ => 512 * 2 ^ 10
  | .drawer _ => 512 * 2 ^ 10
  | .instr _ _ => 32 * 2 ^ 10
  | .data _ _ => 16 * 2 ^ 10

/-- What a byte that nothing has written reads as. -/
def blank : Byte := 0

/-- The byte at a flat address. -/
def State.byte (s : State) (a : Nat) : Byte := tget blank s.mem a

/-- A byte written; the memory keeps its canonical form. -/
def memPut (m : List Host.Cell) (a : Nat) (b : Byte) : List Host.Cell := tset blank m a b

/-- Bytes written one after another. -/
def memPuts (m : List Host.Cell) (bs : List (Nat × Byte)) : List Host.Cell := bs.foldl (fun m p => memPut m p.1 p.2) m

/-- The canonical form of memory: addresses strictly rising, no byte equal to `blank`. -/
def Memory.wf (m : List Host.Cell) : Bool :=
  match m with
  | [] => true
  | (a, b) :: t => b != blank && t.all (fun p => a < p.1) && Memory.wf t

/-- Bytes stored. -/
def State.store (s : State) (bs : List (Nat × Byte)) : State := { s with mem := memPuts s.mem bs }

/-- `n` bytes from a flat address. -/
def State.load (s : State) (a n : Nat) : List Byte := (List.range n).map fun i => s.byte (a + i)

/-- A number from its bytes, lowest first. -/
def leNat : List Byte → Nat
  | [] => 0
  | b :: bs => b.toNat + 256 * leNat bs

/-- The `n` low bytes of a number, lowest first. -/
def leBytes : Nat → Nat → List Byte
  | 0, _ => []
  | n + 1, x => BitVec.ofNat 8 x :: leBytes n (x / 256)

/-- Consecutive addresses for bytes. -/
def placed (a : Nat) (bs : List Byte) : List (Nat × Byte) := (List.range bs.length).map fun i => (a + i, bs.getD i 0)

/-- `n` bytes at a flat address as a number. -/
def State.loadNat (s : State) (a n : Nat) : Nat := leNat (s.load a n)
/-- A number stored as `n` bytes. -/
def State.storeNat (s : State) (a n x : Nat) : State := s.store (placed a (leBytes n x))

/-! ### Cores, seats, dies -/

/-- A core by its number d·64 + y·8 + x. -/
def State.core (s : State) (c : Nat) : Core := tget .reset s.cores c
def State.setCore (s : State) (c : Nat) (k : Core) : State := { s with cores := tput s.cores c k }
def State.onCore (s : State) (c : Nat) (f : Core → Core) : State := s.setCore c (f (s.core c))
def Core.seat (k : Core) (n : Nat) : Seat := tget .reset k.seats n
def Core.setSeat (k : Core) (n : Nat) (st : Seat) : Core := { k with seats := tput k.seats n st }
def State.seatAt (s : State) (c n : Nat) : Seat := (s.core c).seat n
def State.onSeat (s : State) (c n : Nat) (f : Seat → Seat) : State :=
  s.onCore c fun k => k.setSeat n (f (k.seat n))
def State.die (s : State) (d : Nat) : Die := tget .reset s.dies d
def State.onDie (s : State) (d : Nat) (f : Die → Die) : State := { s with dies := tput s.dies d (f (s.die d)) }

/-- The die of a core. -/
def dieOf (c : Nat) : Nat := c / 64
/-- The core of the issuing bundle, and its seat. -/
def State.me (s : State) : Core := s.core s.cx.core
def State.seat (s : State) : Seat := s.me.seat s.cx.seat
def State.onMe (s : State) (f : Seat → Seat) : State := s.onSeat s.cx.core s.cx.seat f
/-- CYC as the issuing core reads it (02 R57). -/
def State.cycOf (s : State) (c : Nat) : Nat := (s.die (dieOf c)).cyc
def State.cyc (s : State) : Nat := s.cycOf s.cx.core

/-- An entry written to a log (18 R452): a full ring overwrites its oldest entry, and the next entry counts that loss. -/
def ErrorLog.add (k : ErrorLog) (e : LogEntry) : ErrorLog :=
  let full := decide (2 ^ 16 ≤ k.entries.length)
  ⟨k.head + 1, if full then 1 else 0, (if full then k.entries.drop 1 else k.entries) ++ [{ e with lost := k.lost }]⟩

/-- Place in the ring of the next entry. -/
def ErrorLog.place (k : ErrorLog) : Nat := k.head % 2 ^ 16

/-- An event written to a die's error log (18 R452). -/
def State.logAt (s : State) (d cls unit info loc tenant coord : Nat) : State :=
  s.onDie d fun k => { k with log := k.log.add ⟨k.cyc, cls, unit, 0, info, loc, tenant, coord⟩ }

/-- An event in the management log (18 R452). -/
def State.logMgmt (s : State) (cls unit info loc tenant : Nat) : State :=
  { s with mgmtLog := s.mgmtLog.add ⟨0, cls, unit, 0, info, loc, tenant, 0⟩ }

/-- The die of a home on an XC die. -/
def homeDie (a : Nat) : Option Nat :=
  match homeOf a with
  | .spad c => some (dieOf c)
  | .basin c => some (dieOf c)
  | .cist d => some d
  | .hbm d => some d
  | _ => none

/-- Whether some byte lies on another die that is in reset or bypass: a load or atomic of core `c` there is not answered (19 R468). -/
def State.cutOff (s : State) (c : Nat) (addrs : List Nat) : Bool :=
  addrs.any fun a => match homeDie a with
    | some d => d != dieOf c && (s.die d).inReset
    | none => false

/-- A refusal is logged at its target with the requester's place (18 R452); the class of a refused read or atomic, which the table does not
list, is the model's: that of a refused write. -/
def State.logRefusalAt (s : State) (a who tenant : Nat) : State :=
  match homeDie a with
  | some d => s.logAt d 9 8 1 who tenant 0
  | none => s.logMgmt 9 8 1 who tenant

/-! ### Layout table entries (01 R13) -/

/-- Bits [hi:lo] of doubleword `dw`. -/
def lteGet (b : LteBits) (dw hi lo : Nat) : Nat := b.toNat / 2 ^ (64 * dw + lo) % 2 ^ (hi + 1 - lo)

/-- The entry with bits [hi:lo] of doubleword `dw` replaced. -/
def ltePut (b : LteBits) (dw hi lo v : Nat) : LteBits :=
  let k := 2 ^ (64 * dw + lo)
  let w := 2 ^ (hi + 1 - lo)
  BitVec.ofNat 512 (b.toNat - lteGet b dw hi lo * k + v % w * k)

/-- Doubleword, high and low bit of a field code (14 R357). -/
def lteField : Nat → Nat × Nat × Nat
  | 0 => (0, 54, 0) | 1 => (0, 59, 55)
  | 2 => (1, 15, 0) | 3 => (1, 31, 16) | 4 => (1, 47, 32) | 5 => (1, 63, 48)
  | 6 => (2, 31, 0) | 7 => (2, 63, 32) | 8 => (3, 31, 0) | 9 => (3, 63, 32)
  | 10 => (4, 5, 4) | 11 => (4, 3, 0) | 12 => (7, 63, 0) | 13 => (0, 63, 60)
  | 14 => (4, 63, 40) | 15 => (4, 39, 20) | 16 => (4, 19, 16) | 17 => (4, 15, 15)
  | 18 => (4, 14, 9) | 19 => (4, 8, 8) | 20 => (4, 7, 6) | 21 => (5, 23, 20)
  | 22 => (5, 19, 18) | 23 => (5, 17, 14) | 24 => (5, 13, 10) | 25 => (5, 9, 7)
  | 26 => (5, 6, 4) | 27 => (5, 3, 0)
  | c => (c - 32, 63, 0)

/-- Fields a user LTSET may write (01 R13, R34). -/
def lteUserField (code : Nat) : Bool := code < 13

/-- A field by its code. -/
def lteRead (b : LteBits) (code : Nat) : Nat := let (dw, hi, lo) := lteField code; lteGet b dw hi lo

/-- The entry with a field written; RZ bits of DW5 and DW6 keep reading zero (01 R34). -/
def lteWrite (b : LteBits) (code v : Nat) : LteBits :=
  let (dw, hi, lo) := lteField code
  if code = 37 then ltePut b 5 23 0 v else if code = 38 then b else ltePut b dw hi lo v

/-- A signed 32-bit stride. -/
def stride32 (n : Nat) : Int := sint 32 n

def Seat.entry (st : Seat) (e : Nat) : LteBits := tget 0 st.lte e

/-! ### Registers -/

/-- The physical index of a destination (09 R239, 11 R288). -/
def rotated (rrb : BitVec 3) (n : Nat) : Nat := if 16 ≤ n ∧ n < 24 then 16 + (n - 16 + 8 - rrb.toNat) % 8 else n

/-- A register number under the rotating base, none for the latch alone. -/
def dstPhys (rrb : BitVec 3) : Dst → Option Nat
  | .main n => some (rotated rrb n.val)
  | .opnd n => some (24 + n.val)
  | .latch => none

/-- The file of a scalar or memory unit. -/
def Seat.file (st : Seat) : UnitId → Tab Word
  | .s0 => st.s0 | .s1 => st.s1 | .l0 => st.l0 | .l1 => st.l1 | _ => []

/-- A physical register of a unit. -/
def Seat.reg (st : Seat) (u : UnitId) (ix : Nat) : Word := tget 0 (st.file u) ix

/-- A register of a unit's file written. -/
def Seat.setReg (st : Seat) (u : UnitId) (ix : Nat) (v : Word) : Seat :=
  match u with
  | .s0 => { st with s0 := tset 0 st.s0 ix v }
  | .s1 => { st with s1 := tset 0 st.s1 ix v }
  | .l0 => { st with l0 := tset 0 st.l0 ix v }
  | .l1 => { st with l1 := tset 0 st.l1 ix v }
  | _ => st

def Seat.vreg (st : Seat) (ix : Nat) : Vec := tget 0 st.v ix

/-- A predicate q0-q15 (07 R187, 11 R276, R297). -/
def Seat.pred (st : Seat) (n : Nat) : Bool :=
  if n = 0 then true
  else if n = 1 then false
  else if n < 12 then (if n % 2 = 0 then tget false st.preds (n / 2) else !tget false st.preds (n / 2))
  else
    match st.levels[(n - 12) / 2]? with
    | none => false
    | some l => if n % 2 = 0 then l.idx == 0 else l.idx + 1 == l.count

/-- A latch value of a unit (02 R40), a V latch read as bits [63:0] (09 R242). -/
def Latches.word (l : Latches) (u : UnitId) (older : Bool) : Word :=
  let pick (p : Latch) := if older then p.age1 else p.age0
  match u with
  | .b => pick l.b | .s0 => pick l.s0 | .s1 => pick l.s1 | .l0 => pick l.l0 | .l1 => pick l.l1 | .m => pick l.m
  | .v => (if older then l.v1 else l.v0).setWidth 64

/-- A result enters a unit's latch pair (09 R241). -/
def Latches.push (l : Latches) (u : UnitId) (v : Vec) : Latches :=
  let put (p : Latch) : Latch := ⟨v.setWidth 64, p.age0⟩
  match u with
  | .b => { l with b := put l.b }
  | .s0 => { l with s0 := put l.s0 }
  | .s1 => { l with s1 := put l.s1 }
  | .l0 => { l with l0 := put l.l0 }
  | .l1 => { l with l1 := put l.l1 }
  | .m => { l with m := put l.m }
  | .v => { l with v0 := v, v1 := l.v0 }

/-! ### Control and status registers (11 R286) -/

/-- Bits [hi:lo] of a word. -/
def field (w : Word) (hi lo : Nat) : Nat := w.toNat / 2 ^ lo % 2 ^ (hi + 1 - lo)
/-- The word with bits [hi:lo] replaced. -/
def putField (w : Word) (hi lo v : Nat) : Word :=
  BitVec.ofNat 64 (w.toNat - field w hi lo * 2 ^ lo + v % 2 ^ (hi + 1 - lo) * 2 ^ lo)

/-- Bits of TSTAT (18 R446). -/
def tstatRB : Nat := 63
def tstatUIP : Nat := 62
def tstatSIP : Nat := 61
def tstatPMODE : Nat := 60
def tstatFORCED : Nat := 57
/-- One bit of a word. -/
def bitOf (w : Word) (n : Nat) : Bool := w.getLsbD n
def setBit (w : Word) (n : Nat) (v : Bool) : Word := putField w n n (if v then 1 else 0)

/-- A register whose writes below 65,536 store 65,536 (07 R197, 18 R450). -/
def atLeast64K (v : Word) : Nat := max 65536 (v.toNat % 2 ^ 32)

/-- The sum of every LIMIT but one (05 R139). -/
def otherLimits (t : Tab Wallow) (i : Nat) : Nat :=
  ((List.range 16).filter (fun j => j != i)).foldl (fun n j => n + (tget .reset t j).limit) 0

/-- POOL of a die of a power class (17 R440, 19 R474): ⌊4,096 · share / 8.4 kW⌋, the share scaled by CAP / 10,000. -/
def State.pool (s : State) (memBound : Bool) : Nat :=
  4096 * (if memBound then 7000 else 8400) * field s.hostSide.pcap 15 0 / (8400 * 10000)

/-- The value a CSR read gives the seat `n` of core `c` (11 R286). -/
def State.csrRead (s : State) (c n i : Nat) : Word :=
  let st := s.seatAt c n
  let d := s.die (dieOf c)
  match i with
  | 0 => BitVec.ofNat 64 d.cyc
  | 1 => BitVec.ofNat 64 (s.dom % 64 * 2 ^ 12 + s.prow % 16 * 2 ^ 8 + s.pcol % 16 * 2 ^ 4 + dieOf c % 16)
  | 2 => d.orient
  | 3 => st.tpc
  | 4 => st.tcause
  | 5 => st.tval
  | 6 => st.tstat
  | 7 => st.tvec
  | 8 => st.rrb.setWidth 64
  | 9 => st.vtype.setWidth 64
  | 10 => BitVec.ofNat 64 d.wdog
  | 11 => BitVec.ofNat 64 d.xto
  | 12 => st.redto.setWidth 64
  | 13 => d.best
  | 14 => st.pfd
  | 15 => st.spinc.setWidth 64
  | 16 =>
    let w := tget .reset s.wallow (field st.trimc 63 60)
    BitVec.ofNat 64 (field st.trimc 63 60 * 2 ^ 60 + (if w.tenant = st.tenant then w.trims.toNat else 0))
  | 17 =>
    BitVec.ofNat 64 (d.grant % 2 ^ 16 * 2 ^ 48 + s.pool d.memBound % 2 ^ 16 * 2 ^ 32 + d.asks.length % 2 ^ 16 * 2 ^ 16 +
      (if d.throttled then 2 else 0) + (if d.memBound then 1 else 0))
  | j =>
    let w := tget .reset s.wallow (j - 32)
    BitVec.ofNat 64 (w.tenant % 1024 * 2 ^ 54 + w.limit * 2 ^ 32 + w.out % 2 ^ 20)

/-- TVEC written in user mode, as CSR code 64 + 7 (18 R446). -/
def tvecUser : Nat := 71

/-- A CSR written: RO and RZ bits keep their value (00 R7, 11 R286). -/
def State.csrWrite (s : State) (c n i : Nat) (v : Word) : State :=
  let onSeat f := s.onSeat c n f
  let onDie f := s.onDie (dieOf c) f
  match i with
  | 3 => onSeat fun st => { st with tpc := BitVec.ofNat 64 (field v 54 2 * 4) }
  | 5 => onSeat fun st => { st with tval := v }
  | 6 => onSeat fun st => { st with tstat := putField (putField st.tstat 63 58 (field v 63 58)) 54 4 (field v 54 4) }
  | 7 => onSeat fun st => { st with tvec := BitVec.ofNat 64 (field v 63 62 * 2 ^ 62 + field v 54 4 * 16) }
  | 8 => onSeat fun st => { st with rrb := v.setWidth 3 }
  | 9 => onSeat fun st => { st with vtype := v.setWidth 8 }
  | 10 => onDie fun d => { d with wdog := atLeast64K v }
  | 11 => onDie fun d => { d with xto := atLeast64K v }
  | 12 => onSeat fun st => { st with redto := v.setWidth 32 }
  | 13 => onDie fun d => { d with best := BitVec.ofNat 64 (max 1 (field v 3 0)) }
  | 14 => onSeat fun st => { st with pfd := BitVec.ofNat 64 (max 1 (min 32 (field v 5 0))) }
  | 16 => onSeat fun st => { st with trimc := BitVec.ofNat 64 (field v 63 60 * 2 ^ 60) }
  | 17 => onDie fun d => { d with memBound := bitOf v 0 }
  | 71 => onSeat fun st =>
      if bitOf st.tvec 62 then st
      else { st with tvec := BitVec.ofNat 64 (field v 63 63 * 2 ^ 63 + field v 54 4 * 16) }
  | j =>
    if 32 ≤ j ∧ j < 48 then
      let w := tget .reset s.wallow (j - 32)
      let l := min (max 8 (field v 51 32)) (786432 - otherLimits s.wallow (j - 32))
      { s with wallow := tput s.wallow (j - 32) { w with tenant := field v 63 54, limit := l } }
    else s

/-! ### Rows of basin and drawers -/

def rowBytes (r : Row) : List Byte := leBytes 256 r.toNat
def rowOf (bs : List Byte) : Row := BitVec.ofNat 2048 (leNat bs)
def State.basinRow (s : State) (c r : Nat) : Row := BitVec.ofNat 2048 (s.loadNat ((Home.basin c).at (r * 256)) 256)
def State.setBasinRow (s : State) (c r : Nat) (v : Row) : State := s.store (placed ((Home.basin c).at (r * 256)) (rowBytes v))
/-- A drawer row by its key drawer·64 + row. -/
def State.drawerRow (s : State) (c key : Nat) : Row := BitVec.ofNat 2048 (s.loadNat ((Home.drawer c).at (key * 256)) 256)
/-- The 32-bit words of a row. -/
def rowWord (r : Row) (j : Nat) : Nat := r.toNat / 2 ^ (32 * j) % 2 ^ 32
def rowOfWords (ws : List Nat) : Row := BitVec.ofNat 2048 (ws.foldr (fun w n => w % 2 ^ 32 + n * 2 ^ 32) 0)

/-! ### Landings (07 R191-R193) -/

/-- The close of level 0, again for each enclosing level that ends at the same address (11 R296); `n` bounds the levels. -/
def closeLevels (addr : VA) : Nat → Seat → Seat
  | 0, st => st
  | n + 1, st =>
    match st.levels with
    | [] => st
    | l :: rest =>
      let g := l.strides.foldl (fun g p => tset 0 g p.1 (tget 0 g p.1 + p.2)) st.g
      if l.idx + 1 = l.count then
        let st' := { st with g := g, levels := rest }
        match rest with
        | l' :: _ => if l'.stop = addr then closeLevels addr n st' else st'
        | [] => st'
      else { st with g := g, levels := { l with idx := l.idx + 1 } :: rest }

/-- The outer levels that stay when control passes to `t` (11 R298): those that contain it and are nested in none that ends. -/
def keepLevels (t : VA) : List Level → List Level
  | [] => []
  | l :: rest =>
    let kept := keepLevels t rest
    if kept.length = rest.length ∧ l.start ≤ t ∧ t ≤ l.stop then l :: kept else kept

/-- A pair (g, stride) attached to a set: a g already there takes the new stride (11 R295). -/
def attach (l : List (Nat × Word)) (g : Nat) (v : Word) : List (Nat × Word) :=
  if l.any fun p => p.1 == g then l.map fun p => if p.1 = g then (g, v) else p else l ++ [(g, v)]

/-- A plane shifted up by one k-row with a new last row (13 R341). -/
def shiftPlane (p : Tab Row) (row : Row) : Tab Row :=
  tset 0 ((p.filter fun e => e.1 != 0).map fun e => (e.1 - 1, e.2)) 63 row

/-- The g registers that the closed levels stride, with their new values: `st'` is the seat after the close. -/
def closedStrides (addr : VA) (st' : Seat) : List Level → List (Nat × Word)
  | [] => []
  | l :: rest =>
    l.strides.map (fun p => (p.1, tget 0 st'.g p.1)) ++
      (if l.idx + 1 = l.count then
        match rest with
        | l' :: _ => if l'.stop = addr then closedStrides addr st' rest else []
        | [] => []
      else [])

/-- What the close of the bundle at `addr` will land (11 R296): RRB and g registers as the bundle's commit computes them. -/
def Seat.closing (st : Seat) (addr : VA) : Effect :=
  .loopClose addr (st.rrb + 1) (closedStrides addr (closeLevels addr 6 st) st.levels)

/-- The effect of a landing on its seat alone. -/
def Effect.onSeat (e : Effect) (st : Seat) : Seat :=
  match e with
  | .file u ix v => st.setReg u ix v
  | .vfile ix v => { st with v := tset 0 st.v ix v }
  | .vhalf ix hi v =>
    let old := (st.vreg ix).toNat
    let n := if hi then old % 2 ^ 2048 + v.toNat * 2 ^ 2048 else old / 2 ^ 2048 * 2 ^ 2048 + v.toNat
    { st with v := tset 0 st.v ix (BitVec.ofNat 4096 n) }
  | .pair j c => { st with preds := tset false st.preds j c }
  | .mask k m => { st with k := tset 0 st.k k m }
  | .greg n v => { st with g := tset 0 st.g n v }
  | .target t v => { st with b := tset 0 st.b t v }
  | .link v => { st with link := v }
  | .lteField n code v => { st with lte := tset 0 st.lte n (lteWrite (st.entry n) code v.toNat) }
  | .lteAll n b => { st with lte := tset 0 st.lte n b }
  | .lteBind n sync off =>
    { st with lte := tset 0 st.lte n (lteWrite (lteWrite (st.entry n) 16 sync) 15 off) }
  | .loopOpen l => { st with levels := { l with strides := st.staged } :: st.levels, staged := [], body := none }
  | .loopStride depth g v =>
    match depth with
    | none => { st with staged := attach st.staged g v }
    | some n =>
      { st with levels := st.levels.mapIdx fun i l =>
          if i + n + 1 = st.levels.length then { l with strides := attach l.strides g v } else l }
  | .loopBreak n => { st with levels := st.levels.drop n }
  | .loopClose addr base gs =>
    { closeLevels addr 6 st with rrb := base, g := gs.foldl (fun t p => tset 0 t p.1 p.2) st.g }
  | .loopEnd => { st with levels := st.levels.drop 1 }
  | .passTo t => { st with levels := keepLevels t st.levels }
  | .rrb v => { st with rrb := v }
  | .scales sb v =>
    let t : Tab Byte := ((List.range 64).map fun i => (i, BitVec.ofNat 8 (v.toNat / 2 ^ (8 * i)))).filter fun p => p.2 != 0
    if sb then { st with sb := t } else { st with sa := t }
  | .shift plane row => if plane then { st with p1 := shiftPlane st.p1 row } else { st with p0 := shiftPlane st.p0 row }
  | .swap => { st with act := !st.act }
  | .cursor c => { st with cursor := c }
  | .basinCtl c stride keep =>
    if keep then { st with cursor := c, stride := stride }
    else { st with cursor := c, stride := stride, kstep := 0, stream := none, aside := none }
  | .kstep v => { st with kstep := BitVec.ofNat 32 v }
  | .push _ _ _ _ => { st with kstep := st.kstep + 1 }
  | .tileOr n b => { st with tiles := tset 0 st.tiles n (tget 0 st.tiles n ||| b) }
  | .tileClear all n => if all then { st with tiles := [] } else { st with tiles := tdel st.tiles n }
  | .tileRead u ix n =>
    match ix with
    | some i => st.setReg u i ((tget 0 st.tiles n).setWidth 64)
    | none => st
  | .arrayRow _ _ => st
  | .basinRow _ _ => st
  | .drawerBytes _ _ _ => st
  | .csr _ _ => st
  | .nothing => st

/-- A push at the array write port (13 R343). -/
def pushRow (add : Bool) (fmt : MFmt) (old sums : Row) : Row :=
  if !add then sums
  else rowOfWords ((List.range 64).map fun j =>
    if fmt = .rx8 then k27Add (rowWord old j) (rowWord sums j) else FpFmt.f32.add (rowWord old j) (rowWord sums j))

/-- Monitors, parks and spin detectors see a write performed to granules (07 R198, R200, 14 R383). -/
def Seat.notified (gs : List Nat) (st : Seat) : Seat :=
  let seen (g : Nat) : Bool := gs.contains g
  { st with
    monitor := match st.monitor with
      | some m => some (if m.local_ && seen m.granule then { m with hit := true } else m)
      | none => none
    park := match st.park with
      | some p => some (if p.local_ && seen p.granule then { p with hit := true } else p)
      | none => none
    spin := match st.spin.armed with
      | some l => if seen l.2 then { st.spin with hit := true } else st.spin
      | none => st.spin }

def State.notify (s : State) (gs : List Nat) : State :=
  { s with cores := s.cores.map fun p => (p.1, { p.2 with seats := p.2.seats.map fun q => (q.1, q.2.notified gs) }) }

/-- An array write or a drain performs a basin row (06 R174): monitors see it as they see any write (07 R200). -/
def State.performRow (s : State) (c row : Nat) (v : Row) : State :=
  (s.setBasinRow c row v).notify ((List.range 4).map fun i => (Home.basin c).at (row * 256) / 64 + i)

/-- The effect of a landing on what the core shares: basin, drawers, CSRs. -/
def Effect.onState (e : Effect) (s : State) (c n : Nat) : State :=
  match e with
  | .push row add fmt sums => s.performRow c row (pushRow add fmt (s.basinRow c row) sums)
  | .arrayRow row v => s.performRow c row v
  | .basinRow row v => s.performRow c row v
  | .drawerBytes key lo bs =>
    (s.store (placed ((Home.drawer c).at (key * 256 + lo)) bs)).onCore c fun k => { k with rows := tdel k.rows key }
  | .csr i v => s.csrWrite c n i v
  | _ => s

/-- The value that enters the latch: an MDRV's is the whole register as it then stands (13 R350). -/
def Landing.latchValue (l : Landing) (st : Seat) : Option Vec :=
  match l.effect, l.latch with
  | .vhalf ix _ _, some _ => some (st.vreg ix)
  | .tileRead _ _ n, some _ => some ((tget 0 st.tiles n).setWidth 4096)
  | _, v => v

/-- What the spin detector of a seat notes of a landing (07 R198): a change of the seat makes the iteration busy, and a value that an SLD of
it, or of the iteration before, brings is kept; `before` is the seat without the landing. -/
def Landing.noted (l : Landing) (before after : Seat) : Seat :=
  let after := if l.spin ∧ after ≠ before then { after with spin := { after.spin with idle := false } } else after
  match l.load, l.latch with
  | some g, some v =>
    if l.spin ∧ after.spin.lastOrd ≤ l.ord then
      { after with spin := { after.spin with last := some (g, v.setWidth 64), lastOrd := l.ord } }
    else if l.past ∧ after.spin.prevOrd ≤ l.ord then
      { after with spin := { after.spin with prev := some (g, v.setWidth 64), prevOrd := l.ord } }
    else after
  | _, _ => after

/-- A core as a landing leaves its seat, with the latches if the seat runs. -/
def Core.landed (k : Core) (l : Landing) (after : Seat) : Core :=
  let k := k.setSeat l.seat after
  if k.running = some l.seat then
    match l.latchValue after with
    | some v => { k with latches := k.latches.push l.unit v }
    | none => k
  else k

/-- One result lands in core `c` (07 R191-R193, 09 R241): in its seat's state, and in the latches if its seat runs. That of an ended task
(seat 8) changes only what the core shares (15 R392). -/
def State.landOne (s : State) (c : Nat) (l : Landing) : State :=
  let shared := l.effect.onState s c l.seat
  if 8 ≤ l.seat then shared
  else shared.onCore c fun k =>
    k.landed l (l.noted (s.seatAt c l.seat) (l.effect.onSeat (shared.seatAt c l.seat)))

/-- Class of a landing among those due together: the counts that MBAS and MKST set stand before the pushes that increment them
(13 R347, R349), step 1 of the array write port before step 2 (13 R351), a clear of tile status before the bits of drains, and both before
a read of the entry (13 R352); register results come after, by issue (07 R193, 09 R241), a write of a g register prevailing over any stride
update (11 R283). -/
def Effect.class (e : Effect) : Nat :=
  match e with
  | .basinCtl _ _ _ => 0
  | .kstep _ => 0
  | .push _ _ _ _ => 1
  | .arrayRow _ _ => 1
  | .basinRow _ _ => 2
  | .tileClear _ _ => 3
  | .tileOr _ _ => 4
  | .greg _ _ => 6
  | _ => 5

/-- Place of a landing within its bundle: the sequencer's updates come ahead of every slot (07 R193), and control passes last. -/
def Effect.within (e : Effect) : Nat :=
  match e with
  | .loopClose _ _ _ => 0
  | .loopEnd => 0
  | .passTo _ => 2
  | _ => 1

/-- Order of landings: by the index they are due at, by class, then by issue (07 R193, 09 R241). -/
def landsBefore (a b : Landing) : Bool :=
  if a.due != b.due then a.due < b.due
  else if a.effect.class != b.effect.class then a.effect.class < b.effect.class
  else if a.ord / 16 != b.ord / 16 then a.ord / 16 < b.ord / 16
  else if a.effect.within != b.effect.within then a.effect.within < b.effect.within
  else a.ord < b.ord

/-- A landing put in order. -/
def insertLanding (l : Landing) : List Landing → List Landing
  | [] => [l]
  | m :: t => if landsBefore l m then l :: m :: t else m :: insertLanding l t

/-- Landings in order. -/
def sortLandings (ls : List Landing) : List Landing := ls.foldl (fun t l => insertLanding l t) []

/-- A landing that is due at index `i` and present. -/
def Landing.ripe (i : Nat) (l : Landing) : Bool := l.due ≤ i && l.travel == .here

/-- The side cores' writes of entries that land now (16 R418): those before the last core cycle began, or, `all`, as one ends. -/
def State.landLte (s : State) (c : Nat) (all : Bool) : State :=
  let due := (s.core c).lteDue
  if due.isEmpty then s
  else
    let s := (due.filter fun w => all || w.aged).foldl (fun s w =>
      s.onSeat c w.seat fun st => { st with lte := tset 0 st.lte w.entry (lteWrite (st.entry w.entry) w.code w.value) }) s
    s.onCore c fun k => { k with lteDue := (due.filter fun w => !(all || w.aged)).map fun w => { w with aged := true } }

/-- Every present result due at index `i` lands (07 R192). -/
def State.landDue (s : State) (c i : Nat) : State :=
  let k := s.core c
  let s := s.onCore c fun k => { k with flight := k.flight.filter fun l => !l.ripe i }
  (sortLandings (k.flight.filter fun l => l.ripe i)).foldl (fun s l => s.landOne c l) s

/-- A result of the issuing slot takes flight: it is seen from `lat` counted cycles on (07 R192). -/
def State.fly (s : State) (u : UnitId) (lat : Nat) (e : Effect) (latch : Option Vec) : State :=
  s.onCore s.cx.core fun k => { k with flight := k.flight ++
    [⟨s.cx.seat, k.idx + lat, k.idx * 16 + s.cx.pos, s.cx.pos, u, e, latch, .here, none, (k.seat s.cx.seat).spin.live, false⟩] }

/-- A 64-bit result of unit `u` for destination `d` (09 R239, 11 R271). -/
def State.result (s : State) (u : UnitId) (d : Dst) (lat : Nat) (v : Word) : State :=
  s.fly u lat (match dstPhys s.seat.rrb d with
    | some ix => .file u ix v
    | none => .nothing) (some (v.setWidth 4096))

/-- A 4,096-bit result of the V file (12 R309). -/
def State.vresult (s : State) (d : Dst) (lat : Nat) (v : Vec) : State :=
  s.fly .v lat (match dstPhys s.seat.rrb d with
    | some ix => .vfile ix v
    | none => .nothing) (some v)

/-! ### Task records (15 R388) -/

/-- Flat address of a task record. -/
def State.recAt (s : State) (d rec : Nat) : Nat := (Home.cist d).at ((s.die d).taskBase + rec % 65536 * 128)
/-- Doubleword `i` of a record. -/
def State.recDw (s : State) (d rec i : Nat) : Word := BitVec.ofNat 64 (s.loadNat (s.recAt d rec + 8 * i) 8)
def State.setRecDw (s : State) (d rec i : Nat) (v : Word) : State :=
  (s.storeNat (s.recAt d rec + 8 * i) 8 v.toNat).notify [(s.recAt d rec + 8 * i) / 64]
/-- STATE of a record: 0 FREE, 1 WAITING, 2 READY, 3 RESIDENT, 4 SAVED, 5 ENDING, 6 DONE, 7 FAILED. -/
def State.recState (s : State) (d rec : Nat) : Nat := field (s.recDw d rec 0) 31 29
def State.setRecState (s : State) (d rec v : Nat) : State := s.setRecDw d rec 0 (putField (s.recDw d rec 0) 31 29 v)

/-- Offset of launch slot `k`'s copy of its record in the I/O cistern (19 R465; the spacing is the model's). -/
def launchOff (k : Nat) : Nat := 0x100000 + k % 64 * 0x4000
/-- Launch slot that a record's LREC names. -/
def State.recSlot (s : State) (d rec : Nat) : Nat := (field (s.recDw d rec 1) 16 0 * 256 - 0x100000) / 0x4000
/-- Doubleword `i` of the launch record of a slot (17 R427). -/
def State.launchDw (s : State) (k i : Nat) : Word := BitVec.ofNat 64 (s.loadNat (Home.ioc.at (launchOff k + 8 * i)) 8)
/-- Tenant, context and job of a launch slot (17 R427). -/
def State.slotTenant (s : State) (k : Nat) : Nat := field (s.launchDw k 2) 45 36
def State.slotCtx (s : State) (k : Nat) : Nat := field (s.launchDw k 2) 57 46
def State.slotJob (s : State) (k : Nat) : Nat := if bitOf (s.launchDw k 23) 63 then field (s.launchDw k 23) 9 0 else 0
def State.recTenant (s : State) (d rec : Nat) : Nat := s.slotTenant (s.recSlot d rec)

/-- Whether a request of a tenant for a record in use is a partition fault: the record is another tenant's (14 R534). -/
def State.recordRefused (s : State) (d rec tenant : Nat) : Bool := s.recState d rec != 0 && s.recTenant d rec != tenant

def State.launch (s : State) (k : Nat) : Launch := tget .reset s.launches k
def State.onLaunch (s : State) (k : Nat) (f : Launch → Launch) : State := { s with launches := tput s.launches k (f (s.launch k)) }

/-- A task reaches DONE or FAILED (15 R388): its record, its launch's counts, and its save slot back in the pool (17 R431). -/
def State.settle (s : State) (d rec : Nat) (failed hit : Bool) : State :=
  let k := s.recSlot d rec
  let slot := (field (s.recDw d rec 3) 54 0 - field (s.launchDw k 11) 54 0) / 65536
  let s := s.setRecState d rec (if failed then 7 else 6)
  s.onLaunch k fun l =>
    { l with
      saves := l.saves.filter (fun n => n != slot)
      failed := if failed then l.failed + 1 else l.failed
      done := if failed then l.done else l.done + 1
      hits := if hit then l.hits + 1 else l.hits }

/-! ### Posted work -/

/-- An item handed over to be performed. -/
def State.post (s : State) (p : Posted) : State := { s with posted := s.posted ++ [{ p with id := s.nextPost }], nextPost := s.nextPost + 1 }

/-- The trip of a landing that is still away. -/
def Landing.trip (l : Landing) : Option Trip :=
  match l.travel with
  | .away t => some t
  | _ => none

/-- Results in flight of a core, those in the frames of its seats included, with their seats. -/
def Core.landings (k : Core) : List Landing :=
  k.flight ++ k.seats.flatMap fun q =>
    (match q.2.drained with
      | some f => f.entries
      | none => []) ++
    (match q.2.frame with
      | some f => f.entries
      | none => []) ++
    (match q.2.userFrame with
      | some u => (match u.frame with
        | some f => f.entries
        | none => [])
      | none => [])

/-- Trips of a seat still away. -/
def State.tripsOf (s : State) (c n : Nat) : List Trip :=
  ((s.core c).landings.filter fun l => l.seat == n).filterMap Landing.trip

/-- Whether every item of a list, posted or on a trip, has been performed. -/
def State.performed (s : State) (ids : List Nat) : Bool :=
  ids.all fun i => (s.posted.all fun p => p.id != i) &&
    s.cores.all fun k => k.2.landings.all fun l => match l.trip with
      | some t => t.id != i
      | none => true

/-- A posted item goes on with another kind. -/
def State.onPosted (s : State) (id : Nat) (k : PostKind) : State :=
  { s with posted := adjust (fun q => q.id == id) (fun q => { q with kind := k }) s.posted }

/-- An item leaves the posted work. -/
def State.unpost (s : State) (id : Nat) : State := { s with posted := s.posted.filter fun p => p.id != id }

/-! ### Ending a seat's task (15 R392, R410; 18 R447) -/

/-- Effects of the array that continue after a task's end (15 R392). -/
def Effect.survives : Effect → Bool
  | .push _ _ _ _ => true
  | .arrayRow _ _ => true
  | .basinRow _ _ => true
  | .drawerBytes _ _ _ => true
  | _ => false

/-- The waits of a seat are given up: a leave request not granted is withdrawn, one granted is given back (11 R303), and the answer to an
acquire read on its way will find nobody. -/
def State.dropWaits (s : State) (c n : Nat) : State :=
  let given := ((s.seatAt c n).waits.filter fun w => w.kind == .leave && w.ended).foldl (fun m w => m + w.deadline) 0
  let s := s.onDie (dieOf c) fun d =>
    { d with grant := d.grant - given, asks := d.asks.filter fun a => !(a.core == c && a.seat == n) }
  let s := { s with canal := { s.canal with requests := s.canal.requests.filter fun r =>
    !(r.core == c && (r.asker == Asker.acquire n || r.asker == Asker.decrement n)) } }
  s.onSeat c n fun st => { st with waits := [] }

/-- The seat becomes FREE: flags, missing registers, monitor and inflow queue are discarded, held leave returns, and register
landings after this point are dropped. Writes of the array, and an atomic on its way, are still performed, as no seat's (8). -/
def State.freeSeat (s : State) (c n : Nat) : State :=
  let st := s.seatAt c n
  let s := (s.dropWaits c n).onDie (dieOf c) fun d => { d with grant := d.grant - st.leave }
  s.onCore c fun k =>
    let last := (k.flight.filter fun l => l.seat == n).foldl (fun m l => max m l.due) k.idx
    let kept (l : Landing) : Option Landing :=
      if l.seat ≠ n then some l
      else if l.effect.survives then some { l with seat := 8, latch := none, spin := false, past := false }
      else match l.travel with
        | .away t => if t.atomic.isSome then some { l with seat := 8, effect := .nothing, latch := none } else none
        | _ => none
    let k := { k with
      flight := k.flight.filterMap kept
      running := if k.running = some n then none else k.running
      latches := if k.running = some n then .zero else k.latches }
    k.setSeat n { k.seat n with
      st := .free, flags := 0, missing := [], flagErr := 0, monitor := none, inq := [], leave := 0, waits := [], held := none,
      trapping := none, park := none, saving := none, leaving := false, firmware := false, frame := none, userFrame := none, drained := none, pend := none,
      pendFrom := none, pendRtt := false, stream := none, aside := none, body := none, scan := none, lastDue := last }

/-- TCAUSE as the 32 bits of INFO hold it (18 R452): its low bits, SLOT and CODE among them, and USER in bit 31, where TCAUSE has none. -/
def causeInfo (tcause : Word) : Nat := tcause.toNat % 2 ^ 31 + (if bitOf tcause 63 then 2 ^ 31 else 0)

/-- TCAUSE of a cause at a slot (18 R445). -/
def causeWord (user : Bool) (cause slot : Nat) : Word := BitVec.ofNat 64 ((if user then 2 ^ 63 else 0) + slot % 8 * 256 + cause % 256)

/-- The task ends FAILED, and the event is logged with its TCAUSE (18 R447, R452 CLASS 13). -/
def State.failTask (s : State) (c n : Nat) (tcause tval : Word) : State :=
  let st := s.seatAt c n
  let d := dieOf c
  let s := s.logAt d 13 0 (causeInfo tcause) tval.toNat st.tenant st.coord
  (s.settle d st.record true false).freeSeat c n

/-! ### Taking a trap and returning from it (18 R443, R449) -/

/-- Causes of the user class (18 R447). -/
def userCause (cause : Nat) : Bool := 32 ≤ cause && cause ≤ 36

/-- Landings in ascending issue order, each after those of its own that stood before it. -/
def byOrd (ls : List Landing) : List Landing :=
  let rec put (l : Landing) : List Landing → List Landing
    | [] => [l]
    | m :: t => if l.ord < m.ord then l :: m :: t else m :: put l t
  ls.foldl (fun t l => put l t) []

/-- The latch bank of a seat, in ascending issue order: its results in flight with DIST for `due`, those of a frame not yet replayed, and, if it runs, the
latch pairs (18 R448). -/
def Core.bank (k : Core) (n : Nat) : Frame :=
  let flying := (k.flight.filter fun l => l.seat == n).map fun l => { l with due := l.due - k.idx, spin := false, past := false }
  let st := k.seat n
  match st.drained with
  | some f => ⟨byOrd (flying ++ f.entries), f.latches, st.pendRtt, st.pendFrom⟩
  | none => ⟨byOrd flying, if k.running = some n then k.latches else .zero, st.pendRtt, st.pendFrom⟩

/-- The pipelines emptied of a seat's results, and its latches lost (02 R40). -/
def Core.drain (k : Core) (n : Nat) : Core :=
  { k with flight := k.flight.filter (fun l => l.seat != n), latches := if k.running = some n then .zero else k.latches }

/-- A frame's results take flight again, and its latches return, as the seat's next bundle issues at the core's index (18 R449). -/
def Core.replay (k : Core) (n : Nat) : Core :=
  match (k.seat n).drained with
  | none => k
  | some f =>
    let back := f.entries.map fun (l : Landing) => { l with due := k.idx + l.due, seat := n }
    ({ k with flight := k.flight ++ back, latches := f.latches }).setSeat n { k.seat n with drained := none }

/-- TSTAT with the pending transfer recorded (18 R446, 11 R292). -/
def withPending (t : Word) (p : Option (VA × Nat)) : Word :=
  match p with
  | some (a, n) => putField (putField t 59 58 n) 54 4 (a.toNat / 16)
  | none => putField t 59 58 0

/-- A stream whose refused reads are asked for again: what the refusal was for has been reported (13 R346). -/
def Stream.reread (t : Stream) : Stream := { t with reads := t.reads.filter fun r => r.lost.isNone }

/-- Cause and TVAL of a trap as the supervisor class takes it: a user trap within a user trap is a nested one (18 R443, R447). -/
def Seat.nested (st : Seat) (cause : Nat) (tval : Word) : Nat × Word :=
  if userCause cause && bitOf st.tstat tstatUIP then (40, BitVec.ofNat 64 cause) else (cause, tval)

/-- What the trap writes in the seat: the four trap registers, mode, PC, and the frame in its place (18 R443). -/
def Seat.trapped (st : Seat) (f : Frame) (cause : Nat) (tval : Word) (slot : Nat) (tpc : VA) : Seat :=
  let user := userCause cause
  let old := st.tstat
  let st := { st with pend := none, pendFrom := none, pendRtt := false, waits := [], held := none, trapping := none, fence := none, spin := .clear
                      body := none, scan := none, drained := none,
                      stream := ((st.stream.filter fun (t : Stream) => !t.fresh).or st.aside).map Stream.reread, aside := none
                      tstat := setBit (withPending st.tstat st.pend) tstatFORCED false }
  let (code, tv) := st.nested cause tval
  let tcause := causeWord (userCause code) code slot
  if user ∧ bitOf st.tvec 63 ∧ !bitOf st.tstat tstatUIP then
    { st with
      tstat := setBit st.tstat tstatUIP true, pc := BitVec.ofNat 55 (field st.tvec 54 4 * 16), frame := some f,
      tpc := tpc.setWidth 64, tcause := tcause, tval := tv }
  else
    { st with
      userFrame := if bitOf st.tstat tstatUIP then some ⟨st.frame, st.tpc, st.tcause, st.tval, old⟩ else st.userFrame
      tstat := setBit (setBit st.tstat tstatSIP true) tstatPMODE st.sup
      sup := true, firmware := true, pc := Config.firmwareVector, frame := some f,
      tpc := tpc.setWidth 64, tcause := tcause, tval := tv }

/-- A trap of seat `n` of core `c`, taken: cause, TVAL, slot position, and the address RTT resumes (18 R443, R444). Loads and atomics of the
seat that still travel come back first, and the core waits for them. What the trapping bundle's index has seen stands in the seat, not in the
bank. A trap that needs a third level ends the task. -/
def State.takeTrap (s : State) (c n : Nat) (cause : Nat) (tval : Word) (slot : Nat) (tpc : VA) : State :=
  let s := s.landDue c (s.core c).idx
  let st := s.seatAt c n
  let toUser := userCause cause && bitOf st.tvec 63 && !bitOf st.tstat tstatUIP
  if !(s.tripsOf c n).isEmpty then s.onSeat c n fun st => { st with trapping := some ⟨cause, tval, slot, tpc⟩ }
  else if bitOf st.tstat tstatSIP ∧ !toUser then
    let code := (st.nested cause tval).1
    s.failTask c n (causeWord (userCause code) code slot) (st.nested cause tval).2
  else
    let s := s.dropWaits c n
    s.onCore c fun k => (k.drain n).setSeat n ((k.seat n).trapped (k.bank n) cause tval slot tpc)

/-- A cycle in which a seat traps is counted (07 R192), once the trap is taken. -/
def State.countTrap (s : State) (c n : Nat) : State :=
  if (s.seatAt c n).trapping.isSome then s else s.onCore c fun k => { k with idx := k.idx + 1 }

/-- The seat as control passes to TPC (18 R449, 15 R395): the spin detector is cleared, and mode, pending transfer and frame return. -/
def Seat.resumed (st : Seat) : Seat :=
  let dly := field st.tstat 59 58
  let pend := if dly = 0 then none else some (BitVec.ofNat 55 (field st.tstat 54 4 * 16), dly)
  let f := st.frame.getD ⟨[], .zero, false, none⟩
  let st1 := { st with
    pc := st.tpc.setWidth 55, pend := pend, frame := none, drained := some f, body := none, scan := none, spin := .clear
    pendFrom := if dly = 0 then none else f.btr, pendRtt := dly != 0 && f.rtt }
  if bitOf st.tstat tstatSIP then
    let st2 := { st1 with sup := bitOf st.tstat tstatPMODE, tstat := setBit st.tstat tstatSIP false, firmware := false }
    match st.userFrame with
    | some u =>
      if bitOf st.tstat tstatUIP then
        { st2 with
          frame := u.frame, tpc := u.tpc, tcause := u.tcause, tval := u.tval, userFrame := none
          tstat := putField (putField st2.tstat 59 58 (field u.tstat 59 58)) 54 4 (field u.tstat 54 4) }
      else st2
    | none => st2
  else { st1 with sup := st.sup && bitOf st.tstat tstatPMODE, tstat := setBit st.tstat tstatUIP false }

/-- The seat returned with nothing of its own in flight: levels that do not contain TPC have ended (11 R298). -/
def Seat.returned (st : Seat) : Seat := { st.resumed with levels := keepLevels (st.tpc.setWidth 55) st.levels }

/-- Control passes to TPC; results of the seat still in flight enter no latch from then on. -/
def Core.resume (k : Core) (n : Nat) (st : Seat) : Core :=
  let old := k.flight.map fun l => if l.seat = n then { l with latch := none, spin := false, past := false } else l
  ({ k with flight := old }).setSeat n st

/-- Control passes to TPC at a firmware's hand. -/
def Core.returned (k : Core) (n : Nat) : Core := k.resume n (k.seat n).returned

/-! ### What a slot answers -/

/-- The slot acts and its bundle goes on. -/
abbrev Res := Host.Outcome State Fault Refusal

/-- The flag, its error status and its missing register cleared. -/
def Seat.clearFlag (st : Seat) (n : Nat) : Seat :=
  let bit := BitVec.ofNat 32 (2 ^ n)
  { st with flags := st.flags &&& ~~~bit, flagErr := st.flagErr &&& ~~~bit, missing := tdel st.missing n }

/-- The flag and its error status cleared, its missing register kept (11 R301). -/
def Seat.dropFlag (st : Seat) (n : Nat) : Seat :=
  let bit := BitVec.ofNat 32 (2 ^ n)
  { st with flags := st.flags &&& ~~~bit, flagErr := st.flagErr &&& ~~~bit }

/-- The seat past a bundle of `len` words that does not commit and is not issued again (18 R447). -/
def Seat.past (st : Seat) (len : Nat) : Seat :=
  let after := st.pc + BitVec.ofNat 55 (4 * len)
  match st.pend with
  | none => { st with pc := after }
  | some (t, d) =>
    if st.pendRtt then { st with pc := after, pend := some (t, max 1 (d - 1)) }
    else if d ≤ 1 then { st with pc := t, pend := none, pendFrom := none }
    else { st with pc := after, pend := some (t, d - 1) }

/-- A trap that a bundle of `len` words raises before it commits (09 R252, 18 R443, R444). A stream error clears its flag, and
execution continues past the bundle (11 R301, 18 R447). -/
def State.trapAt (s : State) (c n pos cause : Nat) (tval : Word) (len : Nat) : State :=
  let s := if cause = 22 then s.onSeat c n fun st => (st.dropFlag (field tval 28 24)).past len else s
  s.takeTrap c n cause tval pos (s.seatAt c n).pc

/-- A slot raises a trap at its bundle (09 R252, 18 R443). -/
def State.raise (s : State) (cause : Nat) (tval : Word) : State :=
  let s := s.trapAt s.cx.core s.cx.seat s.cx.pos cause tval s.cx.length
  { s with cx := { s.cx with out := .trap cause tval s.cx.pos } }

/-- TVAL of the causes that report their slot by the layout of 09 R250 with REASON 0: the word is not known to a meaning, so the step
supplies it; SLOT is the position. -/
def State.slotTval (s : State) : Word := BitVec.ofNat 64 (s.cx.word * 2 ^ 32 + s.cx.pos % 8 * 256)

/-- A purity violation of a pure task (15 R409, R410). -/
def State.impure (s : State) : State := s.raise 18 s.slotTval

/-- The wait of the issuing slot, if it has one. -/
def State.myWait (s : State) : Option Wait := s.seat.waits.find? fun w => w.pos == s.cx.pos

/-- A slot stalls its bundle; a wait already begun goes on (07 R195). -/
def State.stall (s : State) (w : Wait) : State :=
  let s := s.onMe fun st => if st.waits.any (fun v => v.pos == s.cx.pos) then st else { st with waits := st.waits ++ [w] }
  { s with cx := { s.cx with out := if s.cx.out = .go then .stall else s.cx.out } }

/-- A wait of the issuing slot that begins now, without a time-out. -/
def State.waitFor (s : State) (k : WaitKind) : Wait := ⟨s.cx.pos, k, s.cyc, 0, false, none⟩

/-- A slot with a guard: a false guard disables it (09 R251). -/
def State.guarded (s : State) (g : Guard) (act : State → State) : Res :=
  .next (if s.seat.pred g.val then act s else s)

/-- A guarded slot of a privileged opcode (10 R270). -/
def State.privileged (s : State) (g : Guard) (act : State → State) : Res :=
  s.guarded g fun s => if s.seat.sup then act s else s.raise 3 s.slotTval

/-- A guarded slot that a pure task may not use (15 R409). -/
def State.effectful (s : State) (g : Guard) (act : State → State) : Res :=
  s.guarded g fun s => if s.seat.pure then s.impure else act s

/-- The issuing seat's iteration is not idle. -/
def State.busy (s : State) : State :=
  s.onMe fun st => { st with spin := { st.spin with idle := false } }

/-- An event that has come about, or one whose condition does not hold. -/
def event (name : String) (ok : Bool) (s : State) : Res := if ok then .next s else .refused (.notEnabled name)

end Sys2Proof.Machine
end

