-- ==== Sys2Proof/Machine/Operands.lean ====
section
/-! DEFINITION. The operand forms of the slots (09 R240-R246, R530): registers of the slot's unit, latches, g ports, the long
immediate, and constants in the form their operand takes. -/

namespace Sys2Proof.Machine

/-- How an operand takes a constant (09 R243). -/
inductive ConstForm where
  /-- The two's-complement integer at a width. -/
  | int (w : Nat)
  /-- The value in a floating-point format. -/
  | fp (f : FpFmt)
  | k27
  /-- The pair (value, +0). -/
  | c32
deriving DecidableEq, Repr

/-- Twice the value of constant code 54 + k (09 R240): 0, 1, -1, 2, 0.5, 4, 8, 16, 64, 128. -/
def constTwice (k : Fin 10) : Int := [0, 2, -2, 4, 1, 8, 16, 32, 128, 256].getD k.val 0

/-- Code 58, which an integer or K27 operand does not take (09 R243, R530). -/
def isHalf (k : Fin 10) : Bool := k.val == 4

/-- A constant in the form its operand takes, in the low bits of a word. -/
def constWord (form : ConstForm) (k : Fin 10) : Word :=
  match form with
  | .int w => BitVec.ofNat 64 (uint w (constTwice k / 2))
  | .fp f => BitVec.ofNat 64 (f.round .rne ((FpVal.ofInt (constTwice k)).scale (-1)))
  | .k27 => BitVec.ofNat 64 (k27OfInt false (constTwice k / 2))
  | .c32 => BitVec.ofNat 64 (FpFmt.f32.round .rne ((FpVal.ofInt (constTwice k)).scale (-1)))

/-- The long immediate of the bundle (09 R246). -/
def Context.imm (x : Context) : Word :=
  match x.pim, x.pimh with
  | some l, none => l.signExtend 64
  | some l, some h => (h ++ l : BitVec 46).signExtend 64
  | none, _ => 0

/-- A g port: the g register PSC allots to it (09 R245). -/
def State.port (s : State) (i : Fin 4) : Word := tget 0 s.seat.g (s.cx.ports.getD i.val 31)

/-- A 64-bit source of a slot of unit `u`, as it stood at the start of the bundle (09 R240-R243). -/
def State.src (s : State) (u : UnitId) (form : ConstForm) (x : Src) : Word :=
  match x with
  | .main n => s.seat.reg u (rotated s.seat.rrb n.val)
  | .opnd n => s.seat.reg u (24 + n.val)
  | .latch v older => s.me.latches.word v older
  | .gp i => s.port i
  | .imm => s.cx.imm
  | .const k => constWord form k

/-- A source taken as a 64-bit integer, a coordinate, an address or a bit mask. -/
def State.srcInt (s : State) (u : UnitId) (x : Src) : Word := s.src u (.int 64) x

/-- A register of the issuing unit that the slot also reads: its destination as it stood (11 R274, R278). -/
def State.dstOld (s : State) (u : UnitId) (d : Dst) : Word :=
  match dstPhys s.seat.rrb d with
  | some ix => s.seat.reg u ix
  | none => 0

/-- The scalar unit of an S slot, and the memory unit of an L slot. -/
def sUnit (x : Bool) : UnitId := if x then .s1 else .s0
def lUnit (x : Bool) : UnitId := if x then .l1 else .l0

end Sys2Proof.Machine
end

