-- ==== Sys2Proof/Machine/Flags.lean ====
section
/-! DEFINITION. The conditions that comparisons write into predicate pairs and lane masks (11 R276, R277; 12 R314, R316, R317). -/

namespace Sys2Proof.Machine

/-- CMP (11 R276). -/
def cmpHolds (c : CmpCond) (a b : Word) : Bool :=
  match c with
  | .eq => a == b
  | .ne => a != b
  | .lt => a.toInt < b.toInt
  | .ge => b.toInt ≤ a.toInt
  | .ltu => a.toNat < b.toNat
  | .geu => b.toNat ≤ a.toNat
  | .le => a.toInt ≤ b.toInt
  | .tst => (a &&& b) != 0

/-- Width of an FCMP condition. -/
def fcmpFmt : FcmpCond → FpFmt
  | .eqS | .ltS | .leS | .unS => .f32
  | .eqD | .ltD | .leD | .unD => .f64

/-- FCMP (11 R276): a NaN makes the relations false and UN true; -0 equals +0. -/
def fcmpHolds (c : FcmpCond) (a b : Word) : Bool :=
  let x := (fcmpFmt c).val (a.toNat % 2 ^ (fcmpFmt c).width)
  let y := (fcmpFmt c).val (b.toNat % 2 ^ (fcmpFmt c).width)
  match c with
  | .eqS | .eqD => x.eq y
  | .ltS | .ltD => x.lt y
  | .leS | .leD => x.lt y || x.eq y
  | .unS | .unD => x.isNan || y.isNan

/-- QOP (11 R277). -/
def predApply (o : PredOp) (p r : Bool) : Bool :=
  match o with
  | .and => p && r
  | .or => p || r
  | .xor => p != r
  | .andn => p && !r
  | .orn => p || !r
  | .mov => p

/-- VKOP (12 R317). -/
def maskApply (o : MaskOp) (a b : Mask) : Mask :=
  match o with
  | .and => a &&& b
  | .or => a ||| b
  | .xor => a ^^^ b
  | .andn => a &&& ~~~b
  | .orn => a ||| ~~~b
  | .not => ~~~a
  | .mov => a
  | .set => BitVec.allOnes 128

end Sys2Proof.Machine
end

