-- ==== Sys2Proof/Machine/Translate.lean ====
section
/-! DEFINITION. Translation, keys and snapshot states of pages (03 R59-R79), encrypted stores (03 R78), and the instruction
cache's view of code (02 R54, R55). -/

namespace Sys2Proof.Machine

/-! ### Encrypted homes (03 R78) -/

/-- Whether a flat address lies in HBM or the second tier. -/
def encrypted (a : Nat) : Bool := match homeOf a with
  | .hbm _ => true
  | .tier2 => true
  | _ => false

/-- A granule's bytes as one number. -/
def State.granule (s : State) (g : Nat) : BitVec 512 := BitVec.ofNat 512 (s.loadNat (64 * g) 64)

/-- Key material a granule was last written under, none when it has never been written under a key. -/
def State.sealOf (s : State) (g : Nat) : Option (BitVec 512) := (s.sealed.find? fun p => p.1 == g).map (·.2)

/-- A granule as decrypted under key material. -/
def State.unsealed (s : State) (m : BitVec 512) (g : Nat) : BitVec 512 :=
  match s.sealOf g with
  | none => s.granule g
  | some old => if old = m then s.granule g else Config.recipher old m g (s.granule g)

/-- A byte read under key material; none for a home that is not encrypted. -/
def State.byteKeyed (s : State) (m : Option (BitVec 512)) (a : Nat) : Byte :=
  match m with
  | none => s.byte a
  | some m => if encrypted a then BitVec.ofNat 8 ((s.unsealed m (a / 64)).toNat / 2 ^ (8 * (a % 64))) else s.byte a

/-- A granule is put under key material: bytes of another key read as that key's ciphertext decrypts. -/
def State.reseal (s : State) (m : BitVec 512) (g : Nat) : State :=
  if s.sealOf g = some m then s
  else { s.store (placed (64 * g) (leBytes 64 (s.unsealed m g).toNat)) with sealed := tput s.sealed g m }

/-- Bytes written under key material (03 R78). -/
def State.storeKeyed (s : State) (m : Option (BitVec 512)) (bs : List (Nat × Byte)) : State :=
  match m with
  | none => s.store bs
  | some m =>
    let s := bs.foldl (fun s p => if encrypted p.1 then s.reseal m (p.1 / 64) else s) s
    s.store bs

/-- A number of `n` bytes read under key material. -/
def State.loadKeyed (s : State) (m : Option (BitVec 512)) (a n : Nat) : Nat :=
  leNat ((List.range n).map fun i => s.byteKeyed m (a + i))

/-- A key slot, and its material. -/
def State.key (s : State) (k : Nat) : KeySlot := tget .reset s.keys k

/-! ### Walks (03 R59-R63) -/

/-- Fields of a translation entry (03 R61). -/
def entryFrame (e : Word) : Nat := field e 63 32
def entryStamp (e : Word) : Nat := field e 31 28
def entryKey (e : Word) : Nat := field e 27 16
def entryDie (e : Word) : Nat := field e 15 12
def entryKind (e : Word) : Nat := field e 11 10
def entrySnap (e : Word) : Nat := field e 9 8

/-- The home a frame of KIND lies in (03 R63). -/
def entryHome (e : Word) : Home :=
  match entryKind e with
  | 0 => .hbm (entryDie e)
  | 1 => .tier2
  | _ => .host (entryDie e % 4)

/-- Causes of a translation fault (03 R66). -/
def whyAbsent : Nat := 0
def whyPermission : Nat := 1
def whyFormat : Nat := 2
def whyKey : Nat := 3
def whyRange : Nat := 4

/-- Whether a frame of `size` bytes passes its memory's end (03 R62). -/
def pastEnd (e : Word) (size : Nat) : Bool :=
  match entryKind e with
  | 0 => entryFrame e * 65536 + size > (Home.hbm 0).size
  | 1 => entryFrame e * 65536 + size > Home.tier2.size
  | _ => false

/-- What the walker finds wrong with an entry read at a level (3 for ROOT), in the order of 03 R65: WHY, or none. -/
def entryFault (level : Nat) (e : Word) : Option Nat :=
  if !bitOf e 0 then some whyAbsent
  else
    let leaf := bitOf e 1
    let format :=
      (leaf && 2 ≤ level) || (!leaf && level == 0) ||
      (leaf && level == 1 && entryFrame e % 8192 != 0) ||
      entryKind e == 3 ||
      (leaf && (entrySnap e == 3 || (bitOf e 3 && !bitOf e 2) || (entryKind e == 2 && entryDie e ≥ 4))) ||
      (!leaf && (entryKind e == 2 || entryKey e != 0))
    if format then some whyFormat
    else if pastEnd e (if leaf && level == 1 then 2 ^ 29 else 2 ^ 16) then some whyRange
    else none

/-- Flat address of a context's record on a die (03 R60). -/
def State.ctxAt (s : State) (d ctx : Nat) : Nat := (Home.cist d).at ((s.die d).ctxBase + ctx % 4096 * 32)
def State.ctxRoot (s : State) (d ctx : Nat) : Word := BitVec.ofNat 64 (s.loadNat (s.ctxAt d ctx) 8)
def State.ctxEpoch (s : State) (d ctx : Nat) : Nat := s.loadNat (s.ctxAt d ctx + 8) 8
def State.ctxMap (s : State) (d ctx : Nat) : Nat := s.loadNat (s.ctxAt d ctx + 16) 8 % 2 ^ 55
def State.ctxTenant (s : State) (d ctx : Nat) : Nat := s.loadNat (s.ctxAt d ctx + 24) 2 % 1024

/-- Index of an address at a level (03 R59). -/
def vaIndex (va level : Nat) : Nat := va / 2 ^ (16 + 13 * level) % 8192

/-- The walk below a table entry of `level + 1`; the fault's WHY and LEVEL, or the leaf (03 R62). -/
def State.walkFrom (s : State) (va : Nat) : Nat → Word → Except (Nat × Nat) Leaf
  | level, table =>
    let at_ := (entryHome table).at (entryFrame table * 65536 + vaIndex va level * 8)
    let e : Word := BitVec.ofNat 64 (s.loadKeyed (some (s.key 0).material) at_ 8)
    match entryFault level e with
    | some why => .error (why, level)
    | none =>
      if bitOf e 1 then .ok ⟨e, level, at_, 0⟩
      else
        match level with
        | 0 => .error (whyFormat, 0)
        | n + 1 => s.walkFrom va n e

/-- The whole walk of a context on a die (03 R62). -/
def State.walk (s : State) (d ctx va : Nat) : Except (Nat × Nat) Leaf :=
  let root := s.ctxRoot d ctx
  match entryFault 3 root with
  | some why => .error (why, 3)
  | none =>
    match s.walkFrom va 2 root with
    | .error x => .error x
    | .ok l => .ok { l with tenant := s.ctxTenant d ctx }

/-- Whether a cached translation covers an address (03 R72, R73). -/
def TlbEntry.covers (t : TlbEntry) (ctx va : Nat) : Bool :=
  t.ctx == ctx && t.page == va / 2 ^ (if t.leaf.level = 1 then 29 else 16)

/-- An entry without the bits that hardware updates: A, D, SNAP and ESTAMP (03 R67, R69, R76). -/
def stable (e : Word) : Word := putField (putField e 31 28 0) 9 6 0

/-- A leaf as an access that began with it goes on using it (03 R76): with the hardware's updates while memory still holds that entry;
an entry that has been written since keeps standing as it stood, as a whole. -/
def State.current (s : State) (l : Leaf) : Leaf :=
  let now : Word := BitVec.ofNat 64 (s.loadKeyed (some (s.key 0).material) l.home 8)
  if stable now = stable l.entry then { l with entry := now } else l

/-- The cached leaf of a core or its die (03 R72, R73, R76). -/
def State.tlbHit (s : State) (c ctx va : Nat) : Option Leaf :=
  let all := (s.core c).tlb ++ (s.die (dieOf c)).tlb
  match all.find? fun t => t.covers ctx va with
  | none => none
  | some t => some (s.current t.leaf)

/-- The leaf an access of core `c` uses: a cached one, or the walk's (03 R76). -/
def State.leafFor (s : State) (c ctx va : Nat) : Except (Nat × Nat) Leaf :=
  match s.tlbHit c ctx va with
  | some l => .ok l
  | none => s.walk (dieOf c) ctx va

/-- What an access asks of a page (03 R65). -/
inductive Want where
  | read | write | fetch
deriving DecidableEq, Repr

/-- TVAL of a translation fault (03 R66). -/
def transTval (want : Want) (why level va : Nat) : Word :=
  BitVec.ofNat 64 ((if want = .fetch then 2 ^ 61 else 0) + (if want = .write then 2 ^ 60 else 0) +
    why % 8 * 2 ^ 57 + level % 4 * 2 ^ 55 + va % 2 ^ 55)

/-- A translated byte address: flat address, leaf, key material. -/
structure Mapped where
  flat : Nat
  leaf : Leaf
  material : Option (BitVec 512)
deriving DecidableEq, Repr

/-- The key and permission checks of a leaf (03 R65, R79), for the tenant whose context the walk read (03 R60). -/
def State.leafFault (s : State) (sup : Bool) (want : Want) (l : Leaf) : Option Nat :=
  let k := s.key (entryKey l.entry)
  let host := entryKind l.entry == 2
  if !host && !(k.valid && (k.tenant == l.tenant || k.tenant == 0)) then some whyKey
  else if !host && entryKey l.entry == 0 && !sup then some whyPermission
  else
    let allowed := match want with
      | .read => bitOf l.entry 2
      | .write => bitOf l.entry 3
      | .fetch => bitOf l.entry 4
    if allowed then none else some whyPermission

/-- Byte `va` through a leaf (03 R63). -/
def State.through (s : State) (l : Leaf) (va : Nat) : Mapped :=
  let off := va % 2 ^ (if l.level = 1 then 29 else 16)
  ⟨(entryHome l.entry).at (entryFrame l.entry * 65536 + off), l,
    if entryKind l.entry = 2 then none else some (s.key (entryKey l.entry)).material⟩

/-- Translation of a virtual address for an access issued on core `c` (03 R59-R79): the TVAL of the fault, or the byte. -/
def State.translate (s : State) (c ctx : Nat) (sup : Bool) (want : Want) (va : Nat) : Except Word Mapped :=
  match s.leafFor c ctx va with
  | .error (why, level) => .error (transTval want why level va)
  | .ok l =>
    match s.leafFault sup want l with
    | some why => .error (transTval want why l.level va)
    | none => .ok (s.through l va)

/-- A cached translation becomes its TLB's most recently used one; a hit in the die's fills the core's (03 R72, R73). -/
def State.touchTlb (s : State) (c ctx va : Nat) : State :=
  let d := dieOf c
  let mine := (s.core c).tlb
  match mine.find? fun t => t.covers ctx va with
  | some t => s.onCore c fun k => { k with tlb := t :: k.tlb.filter fun u => u != t }
  | none =>
    match (s.die d).tlb.find? fun t => t.covers ctx va with
    | some t =>
      (s.onCore c fun k => { k with tlb := (t :: k.tlb).take 384 }).onDie d fun k =>
        { k with tlb := t :: k.tlb.filter fun u => u != t }
    | none => s

/-- A lookup in the TLBs: a hit is used; a miss attaches to a walk of its page in progress, else joins its core's queue of 32, or waits in
its requester while the queue is full (03 R72-R74). -/
def State.noteMiss (s : State) (c ctx va rank : Nat) : State :=
  if (s.tlbHit c ctx va).isSome then s.touchTlb c ctx va
  else
    let d := dieOf c
    let k := s.die d
    let m : Miss := ⟨c, ctx, va / 65536, k.cyc, rank⟩
    if k.walks.any fun w => w.ctx == ctx && w.page == va / 65536 then s.onDie d fun k => { k with attached := k.attached ++ [m] }
    else if (k.misses.filter fun w => w.core == c).length < 32 then s.onDie d fun k => { k with misses := k.misses ++ [m] }
    else s.onDie d fun k => { k with waiting := k.waiting ++ [m] }

/-- Misses that wait in their requesters look again: a queue may have room, or a TLB the entry. -/
def State.admitMisses (s : State) (d : Nat) : State :=
  (s.die d).waiting.foldl (fun s m => s.noteMiss m.core m.ctx (m.page * 65536) m.rank) (s.onDie d fun k => { k with waiting := [] })

/-- A byte as a unit of a die that is no core translates it: by the walk alone. -/
def State.mapOn (s : State) (d ctx : Nat) (sup : Bool) (want : Want) (va : Nat) : Except Word Mapped :=
  match s.walk d ctx va with
  | .error (why, level) => .error (transTval want why level va)
  | .ok l =>
    match s.leafFault sup want l with
    | some why => .error (transTval want why l.level va)
    | none => .ok (s.through l va)

/-- A range of virtual addresses cut at 64 KiB pages: first address and length of each piece. -/
def pagesOf (va n : Nat) : List (Nat × Nat) :=
  if n = 0 then []
  else (List.range ((va + n - 1) / 65536 + 1 - va / 65536)).map fun i =>
    let lo := max va ((va / 65536 + i) * 65536)
    (lo, min (va + n) ((va / 65536 + i + 1) * 65536) - lo)

/-- `n` bytes at a virtual address of a context, or the TVAL of the first fault. -/
def State.readVirt (s : State) (d ctx : Nat) (sup : Bool) (va n : Nat) : Except Word (List Byte) :=
  (pagesOf va n).foldr (fun p acc =>
    match s.mapOn d ctx sup .read p.1 with
    | .error t => .error t
    | .ok m =>
      match acc with
      | .error t => .error t
      | .ok bs => .ok ((List.range p.2).map (fun i => s.byteKeyed m.material (m.flat + i)) ++ bs)) (.ok [])

/-! ### Snapshot state (03 R69-R71) -/

/-- Virtual address of a sub-granule's byte in the granule map (03 R71). -/
def State.mapByte (s : State) (d ctx va : Nat) : Nat := s.ctxMap d ctx + va / 2 ^ 29 * 8192 + va / 2 ^ 16 % 8192

/-- The granule map's byte as memory holds it, and where it lies, or the TVAL of the fault in reading it; a page that is not
supervisor-only is refused as a permission (03 R71). -/
def State.mapEntry (s : State) (d ctx va : Nat) : Except Word (Nat × Mapped) :=
  let at_ := s.mapByte d ctx va
  match s.mapOn d ctx true .read at_ with
  | .error t => .error t
  | .ok m =>
    if entryKind m.leaf.entry = 2 ∨ entryKey m.leaf.entry ≠ 0 then .error (transTval .read whyPermission m.leaf.level at_)
    else .ok ((s.byteKeyed m.material m.flat).toNat, m)

/-- Whether the state of a leaf's granules stands in the granule map (03 R71). -/
def Leaf.mapped (l : Leaf) : Bool := l.level == 1 && entrySnap l.entry != 0

/-- A launch of a context that holds the snapshot capability: SNAPH (17 R427, 03 R69). -/
def State.capable (s : State) (ctx : Nat) : Option Nat :=
  (s.launches.find? fun k => k.2.starting.isNone && bitOf (s.launchDw k.1 2) 61 && field (s.launchDw k.1 2) 57 46 == ctx).map (·.1)

/-- The fault of a write in reading the granule map (03 R71). -/
def State.mapFault (s : State) (d ctx va : Nat) (l : Leaf) : Option Word :=
  if (s.capable ctx).isSome && l.mapped then
    match s.mapEntry d ctx va with
    | .error t => some t
    | .ok _ => none
  else none

/-- Whether the effective state of a granule is ARMED (03 R69, R71). -/
def State.armed (s : State) (d ctx va : Nat) (l : Leaf) : Bool :=
  let e := s.ctxEpoch d ctx % 16
  if (s.capable ctx).isNone then false
  else if l.mapped then
    match s.mapEntry d ctx va with
    | .error _ => false
    | .ok (b, _) => b / 4 % 2 == 1 || (b / 16 != e && b / 8 % 2 == 1)
  else
    match entrySnap l.entry with
    | 1 => true
    | 2 => entryStamp l.entry != e && bitOf l.entry 7
    | _ => false

/-- A translation entry changed in memory by the home's controller (03 R67). -/
def State.onEntry (s : State) (at_ : Nat) (f : Word → Word) : State :=
  let m := some (s.key 0).material
  (s.storeKeyed m (placed at_ (leBytes 8 (f (BitVec.ofNat 64 (s.loadKeyed m at_ 8))).toNat))).notify [at_ / 64]

/-- A leaf changed by hardware: in memory while memory still holds its entry, and wherever accesses or caches keep it (03 R67, R76). -/
def State.onLeaf (s : State) (l : Leaf) (f : Word → Word) : State :=
  let now : Word := BitVec.ofNat 64 (s.loadKeyed (some (s.key 0).material) l.home 8)
  let s := if stable now = stable l.entry then s.onEntry l.home f else s
  let kept (k : Leaf) : Leaf := if k.home = l.home ∧ stable k.entry = stable l.entry then { k with entry := f k.entry } else k
  let cached (t : TlbEntry) : TlbEntry := { t with leaf := kept t.leaf }
  let aheads (x : List (Nat × Leaf)) : List (Nat × Leaf) := x.map fun p => (p.1, kept p.2)
  { s with
    posted := s.posted.map fun p => { p with leaf := p.leaf.map kept }
    cores := s.cores.map fun p => (p.1, { p.2 with
      tlb := p.2.tlb.map cached, cmds := p.2.cmds.map fun k => { k with ahead := aheads k.ahead, aheadTo := aheads k.aheadTo } })
    dies := s.dies.map fun p => (p.1, { p.2 with tlb := p.2.tlb.map cached }) }

/-- A granule becomes SAVED in the epoch with D = `dirty` (03 R69, R70). -/
def State.markSaved (s : State) (d ctx va : Nat) (l : Leaf) (dirty : Bool) : State :=
  let e := s.ctxEpoch d ctx % 16
  if l.level = 1 then
    match s.mapEntry d ctx va with
    | .error _ => s
    | .ok (_, m) => (s.storeKeyed m.material [(m.flat, BitVec.ofNat 8 (e * 16 + (if dirty then 8 else 0)))]).notify [m.flat / 64]
  else s.onLeaf l fun w => putField (setBit (putField w 31 28 e) 7 dirty) 9 8 2

/-- The first write of a granule sets D: in the entry, and under 03 R71 in the granule map. -/
def State.setDirty (s : State) (d ctx va : Nat) (l : Leaf) : State :=
  let s := s.onLeaf l fun w => setBit w 7 true
  if l.mapped then
    match s.mapEntry d ctx va with
    | .error _ => s
    | .ok (b, m) => (s.storeKeyed m.material [(m.flat, BitVec.ofNat 8 (if b / 8 % 2 = 1 then b else b + 8))]).notify [m.flat / 64]
  else s

/-! ### Code (02 R54, R55) -/

/-- The line of the instruction cache that holds a code word, if cached. -/
def Core.line (k : Core) (ctx va : Nat) : Option (BitVec 512) :=
  (k.icache.find? fun e => e.1 == (ctx, va / 64)).map (·.2)

/-- A word of a line. -/
def lineWord (l : BitVec 512) (va : Nat) : Nat := l.toNat / 2 ^ (8 * (va % 64)) % 2 ^ 32

/-- A code line as memory holds it, with its flat address, or the TVAL of the fetch fault (03 R65). -/
def State.codeLine (s : State) (c ctx : Nat) (sup : Bool) (va : Nat) : Except Word (BitVec 512 × Nat) :=
  match s.translate c ctx sup .fetch (va / 64 * 64) with
  | .error t => .error (transTval .fetch (field t 59 57) (field t 56 55) va)
  | .ok m => .ok (BitVec.ofNat 512 (s.loadKeyed m.material m.flat 64), m.flat)

/-- What a fetch of one word gives: the word, a fetch fault, or a line that is not cached. -/
inductive Fetch where
  | word (w : Nat)
  | fault (tval : Word)
  | miss (va : Nat)
deriving DecidableEq, Repr

/-- The word at `va` through the instruction cache (02 R55). -/
def State.fetchWord (s : State) (c ctx : Nat) (sup : Bool) (va : Nat) : Fetch :=
  match (s.core c).line ctx va with
  | some l => .word (lineWord l va)
  | none =>
    match s.codeLine c ctx sup va with
    | .error t => .fault t
    | .ok _ => .miss va

/-- The word at `va` as memory holds it. -/
def State.memoryWord (s : State) (c ctx : Nat) (sup : Bool) (va : Nat) : Fetch :=
  match s.codeLine c ctx sup va with
  | .error t => .fault t
  | .ok (l, _) => .word (lineWord l va)

/-- The words of the bundle at `va`, at most `n` (09 R248), or the fault or miss that stops the fetch. -/
def bundleOf (word : Nat → Fetch) : Nat → Nat → Except Fetch (List Nat)
  | 0, _ => .ok []
  | n + 1, va =>
    match word va with
    | .word w =>
      if stopOf w then .ok [w]
      else
        match bundleOf word n (va + 4) with
        | .ok ws => .ok (w :: ws)
        | .error f => .error f
    | f => .error f

def State.fetchBundle (s : State) (c ctx : Nat) (sup : Bool) (n va : Nat) : Except Fetch (List Nat) := bundleOf (s.fetchWord c ctx sup) n va
def State.memoryBundle (s : State) (c ctx : Nat) (sup : Bool) (n va : Nat) : Except Fetch (List Nat) := bundleOf (s.memoryWord c ctx sup) n va

/-- The address of the bundle after the `k`-th from `va` (11 R294): bundles are delimited by their stop bits alone. -/
def State.skipBundles (s : State) (c ctx : Nat) (sup : Bool) : Nat → Nat → Except Fetch Nat
  | 0, va => .ok va
  | k + 1, va =>
    match s.fetchBundle c ctx sup 8 va with
    | .ok ws => s.skipBundles c ctx sup k (va + 4 * ws.length)
    | .error f => .error f

end Sys2Proof.Machine
end

