-- ==== Sys2Proof/Machine/Issue.lean ====
section
/-! DEFINITION. What the commit of a bundle does besides its slots (09 R252): the next PC, loop closes (11 R296), delay bundles and
the passing of control (11 R291, R292), the spin detector and the park (07 R198, R200), and the yield (07 R190). -/

namespace Sys2Proof.Machine

/-- The seat gives up the core: latches and pending latch entries go, span counter and spin detector clear, and a bubble is due
(07 R190). -/
def State.giveUp (s : State) (c n : Nat) (st' : SeatState) : State :=
  s.onCore c fun k =>
    let st := k.seat n
    let k := { k with
      latches := .zero
      flight := k.flight.map (fun (l : Landing) => if l.seat = n then { l with latch := none, spin := false, past := false } else l)
      running := none
      bubble := true }
    k.setSeat n { st with
      st := st', span := 0, spin := .clear, body := none, scan := none, boost := false, tstat := setBit st.tstat tstatFORCED false
      leaving := st.saving.isSome }

/-- YLD and YLDP at commit (11 R299). -/
def State.yield (s : State) (withhold : Bool) : State :=
  let s := s.giveUp s.cx.core s.cx.seat .runnable
  s.onCore s.cx.core fun k => { k with withheld := if withhold then some s.cx.seat else none }

/-- Where control goes when the bundle at `addr` closes level 0 (11 R296): START of the level that continues. -/
def closeTarget (addr : VA) : List Level → Option VA
  | [] => none
  | l :: rest =>
    if l.idx + 1 = l.count then
      match rest with
      | [] => none
      | l' :: _ => if l'.stop = addr then closeTarget addr rest else none
    else some l.start

/-- The bundle at the PC closes a level when its address is END of the innermost one, unless an acting LBRK forbids it
(11 R296, R298). -/
def State.closes (s : State) : Bool :=
  match s.seat.levels with
  | l :: _ => l.stop == s.cx.addr && !s.cx.broke
  | [] => false

/-- The package as the counted cycle of the issuing bundle ends: what lands at its end has landed (07 R192), a seat's
write of an entry after a side core's (16 R418). -/
def State.cycleEnd (s : State) : State := (s.landLte s.cx.core true).landDue s.cx.core (s.me.idx + 1)

/-- The iteration of the spin detector that ends with the control transfer of the BTR at `a` (07 R198): whether the seat parks. `t` is
the state as the cycle ends. -/
def State.spins (t : State) (a : VA) : Bool :=
  let sp := t.seat.spin
  sp.btr == some a && sp.live && sp.whole && sp.idle && sp.last.isSome && sp.last == sp.prev &&
    t.me.flight.all fun l => !(l.seat == t.cx.seat && l.spin)

/-- The spin detector as the next iteration of the BTR at `a` begins (07 R198); a forward BTR clears it. -/
def Spin.next (sp : Spin) (a : VA) (backward : Bool) : Spin :=
  if !backward then .clear
  else if sp.btr = some a then ⟨some a, true, true, true, none, 0, sp.last, sp.lastOrd, none, false⟩
  else ⟨some a, true, false, true, none, 0, none, 0, none, false⟩

/-- Whether a flat address lies on a die: the own-die homes of 07 R200 and 14 R383. -/
def onDieHome (d a : Nat) : Bool :=
  match homeOf a with
  | .cist e => e == d
  | .hbm e => e == d
  | .spad c => dieOf c == d
  | .basin c => dieOf c == d
  | _ => false

/-- The seat parks at the transfer of its BTR (07 R198, R200), its detector being `sp`. -/
def State.park (s : State) (sp : Spin) : State :=
  let g := match sp.last with
    | some p => p.1
    | none => 0
  let cyc := s.cyc
  let s := s.giveUp s.cx.core s.cx.seat .parked
  s.onMe fun st =>
    { st with spinc := st.spinc + 1, park := some ⟨g, onDieHome (dieOf s.cx.core) (64 * g), sp.hit, cyc + 4096⟩ }

/-- The issuing seat's spin detector as an iteration begins; results in flight belong from then on to the iteration before, if that was of
the same BTR. -/
def State.endIteration (s : State) (sp : Spin) : State :=
  let older (l : Landing) : Landing := if l.seat = s.cx.seat then { l with spin := false, past := l.spin && sp.whole } else l
  s.onCore s.cx.core fun k => ({ k with flight := k.flight.map older }).setSeat s.cx.seat { k.seat s.cx.seat with spin := sp }

/-- Control passes to the target of a taken transfer (11 R291): for RTT as 18 R449 gives; for a BTR the seat may park. -/
def State.passControl (s : State) (t : VA) : State :=
  let st := s.seat
  if st.pendRtt then
    (s.fly .b 1 (.passTo (st.tpc.setWidth 55)) none).onCore s.cx.core fun k => k.resume s.cx.seat (k.seat s.cx.seat).resumed
  else
    let s1 := s.fly .b 1 (.passTo t) none
    let s2 := s1.onMe fun st => { st with pc := t, pend := none, pendFrom := none }
    match st.pendFrom with
    | none => s2
    | some a =>
      let e := s.cycleEnd
      if e.spins a then s2.park e.seat.spin
      else s2.endIteration (e.seat.spin.next a (t ≤ a))

/-- A BTR that commits without a transfer ends its iteration (07 R198). -/
def State.missedBtr (s : State) : State :=
  if s.seat.spin.btr = some s.cx.addr ∧ !s.cx.taken then s.onMe fun st => { st with spin := { st.spin with live := false } } else s

/-- The commit of the issuing bundle: closes, then the next PC, and one counted cycle (07 R192). -/
def State.commit (s : State) : State :=
  let st := s.seat
  let after := s.cx.addr + BitVec.ofNat 55 (4 * s.cx.length)
  let pending := st.pend.isSome
  let s1 := if !s.closes then s else if pending then s.fly .b 1 .loopEnd none else s.fly .b 1 (st.closing s.cx.addr) none
  let s2 := s1.missedBtr.onMe fun st => { st with waits := [], scan := none }
  let s3 :=
    match st.pend with
    | none =>
      let target := if s.closes then (closeTarget s.cx.addr st.levels).getD after else after
      s2.onMe fun st => { st with pc := target }
    | some (t, d) =>
      if s.cx.taken then s2.onMe fun st => { st with pc := after }
      else if d ≤ 1 then s2.passControl t
      else s2.onMe fun st => { st with pc := after, pend := some (t, d - 1) }
  s3.onCore s.cx.core fun k => { k with idx := k.idx + 1 }

/-- The bundle commits, and then a trap is taken; TPC is the address of the bundle that would have issued next (15 R394). What that
bundle would have seen is written to the seat, not to the latch bank (18 R443). -/
def State.trapAfter (s : State) (cause : Nat) (tval : Word) : State :=
  let s0 := s.commit
  let s1 := s0.landDue s.cx.core (s0.core s.cx.core).idx
  let s2 := s1.takeTrap s.cx.core s.cx.seat cause tval s.cx.pos (s1.seat.pc)
  { s2 with cx := { s2.cx with out := .after } }

/-- A taken transfer: two delay bundles, then control passes to `t` (11 R291). The spin detector learns of a BTR as its control passes. -/
def State.transfer (s : State) (t : VA) (btr rtt : Bool) : State :=
  let s := s.onMe fun st =>
    { st with pend := some (t, 2), pendFrom := if btr then some s.cx.addr else none, pendRtt := rtt }
  { s with cx := { s.cx with taken := true } }

/-- A B instruction that a delay bundle may not hold (11 R292). -/
def State.noDelay (s : State) (act : State → State) : State :=
  if s.seat.pend.isSome then s.raise 4 s.slotTval else act s

/-- The core waits for a line of its instruction cache: a wait already begun goes on (02 R55). -/
def State.awaitLine (s : State) (c ctx va : Nat) : State :=
  s.onCore c fun k =>
    if k.fetching = some (ctx, va / 64) then k else { k with fetching := some (ctx, va / 64), fetchSince := s.cycOf c }

/-- A line that is not cached holds the bundle (02 R55). -/
def State.missLine (s : State) (va : Nat) : State :=
  let s := s.awaitLine s.cx.core s.seat.ctx va
  { s with cx := { s.cx with out := if s.cx.out = .go then .stall else s.cx.out } }

end Sys2Proof.Machine
end

