-- ==== Sys2Proof/Machine/Access.lean ====
section
/-! DEFINITION. The formation and the checks of an access (01 R13-R32), its home, its latency (02 R39, R49, 10 R268), and the
performing of writes at their home (06 R152) with what observes them: monitors, parks, spin detectors, digests and snapshot
state. -/

namespace Sys2Proof.Machine

/-! ### Fields of an entry -/

def lteSpace (b : LteBits) : Nat := lteRead b 13
def lteSub (b : LteBits) : Nat := lteRead b 22
def lteShadow (b : LteBits) : Bool := lteRead b 19 == 1
def lteSync (b : LteBits) : Nat := lteRead b 16
/-- Core (TY, TX) of die `d`. -/
def lteCore (b : LteBits) (d : Nat) : Nat := d * 64 + lteRead b 26 * 8 + lteRead b 25
def lteDie (b : LteBits) : Nat := lteRead b 27
/-- Package (PROW, PCOL) as 16·row + column. -/
def ltePackage (b : LteBits) : Nat := lteRead b 24 * 16 + lteRead b 23

/-- Bytes of an element (01 R14). -/
def elemSize (etype : Nat) : Nat :=
  if etype ≤ 2 then 1 else if etype ≤ 5 then 2 else if etype ≤ 8 then 4 else 8

def lteSize (b : LteBits) : Nat := elemSize (lteRead b 11)

/-! ### Homes of an entry (01 R10, R11, R27) -/

/-- The memory of a core that SUB names. -/
def subHome (c sub : Nat) : Home := if sub = 0 then .spad c else .basin c

/-- The home of an entry of a core's seat; none for VIRT and CANAL. -/
def entryPlace (c : Nat) (b : LteBits) : Option Home :=
  match lteSpace b with
  | 1 => some (.spad c)
  | 2 => some (.basin c)
  | 3 => some (.cist (dieOf c))
  | 4 => some (subHome (lteCore b (dieOf c)) (lteSub b))
  | 5 => some (subHome (lteCore b (lteDie b)) (lteSub b))
  | 8 => some .ioc
  | _ => none

/-- Whether an access of the entry goes through the core's L port. -/
def throughPort (b : LteBits) : Bool := lteSpace b == 1 || lteSpace b == 2

/-- Whether it travels to another die as best-effort messages (01 R11). -/
def overFlume (c : Nat) (b : LteBits) : Bool := lteSpace b == 5 && lteDie b != dieOf c

/-- SPACE_LIMIT (01 R18). -/
def spaceLimit (b : LteBits) : Nat :=
  let bySub := match lteSub b with
    | 0 => 2 * 2 ^ 20
    | 1 => 512 * 2 ^ 10
    | 2 => 16 * 2 ^ 20
    | _ => 2 ^ 55
  match lteSpace b with
  | 1 => 2 * 2 ^ 20
  | 2 => 512 * 2 ^ 10
  | 3 => 16 * 2 ^ 20
  | 6 => 2 ^ 55
  | 8 => 32 * 2 ^ 20
  | _ => bySub

/-- The memory of the bound sync object (01 R27); none on another package, or unbound. TY, TX and TDIE locate it whatever the entry's
space. -/
def syncHome (c : Nat) (b : LteBits) : Option Home :=
  let d := if lteSpace b = 4 then dieOf c else lteDie b
  match lteSync b with
  | 1 => some (.basin c)
  | 2 => some (.cist (dieOf c))
  | 3 => some .ioc
  | 4 => some (.basin (lteCore b d))
  | 5 => some (.cist (lteDie b))
  | 8 => some .ioc
  | _ => none

/-- Offset of the object in its memory, and that memory's size. -/
def syncOffset (b : LteBits) : Nat := lteRead b 15 * 16 + (if lteSync b = 8 then 16 * 2 ^ 20 else 0)
def syncLimit (b : LteBits) : Nat :=
  match lteSync b with
  | 1 | 4 | 7 => 512 * 2 ^ 10
  | 3 | 8 => 32 * 2 ^ 20
  | _ => 16 * 2 ^ 20

/-- A number that names the bound object: its flat address, or a number beyond all flat addresses for another package's. -/
def syncObject (c : Nat) (b : LteBits) : Option Nat :=
  match syncHome c b with
  | some h => some (h.at (syncOffset b))
  | none =>
    if lteSync b = 6 ∨ lteSync b = 7 then
      some (2 ^ 100 + (ltePackage b * 2048 + lteSync b % 2 * 1024 + lteCore b (lteDie b)) * window + syncOffset b)
    else none

/-- Smallest scope whose extent holds a home, for an agent of core `c` (06 R160): 0 core, 1 die, 2 package, 3 domain, 4 system. The
scratchpads and basins of other dies stand in no extent below the domain's. The extents nest: the row of .pkg does not list the scratchpads
and basins of the agent's own die, and the model counts them at .pkg as at .die. -/
def homeReach (c : Nat) (h : Home) : Nat :=
  match h with
  | .spad k | .basin k => if k = c then 0 else if dieOf k = dieOf c then 1 else 3
  | .cist d | .hbm d => if d = dieOf c then 1 else 2
  | .host _ => 4
  | _ => 2

/-- Horizon of the level of a home (02 R39). -/
def homeHorizon (c : Nat) (h : Home) : Nat :=
  match h with
  | .spad k | .basin k => if dieOf k = dieOf c then 48 else 800
  | .cist d => if d = dieOf c then 48 else 800
  | .hbm d => if d = dieOf c then 480 else 800
  | .ioc => 800
  | .tier2 => 1200
  | .host _ => 8000
  | _ => 0

/-- Horizon that a selector read adds (01 R531). -/
def selectorHorizon (c : Nat) (b : LteBits) : Nat :=
  if !lteShadow b || lteSync b == 1 then 0
  else match syncHome c b with
    | some h => homeHorizon c h
    | none => 8000

/-! ### Checks (01 R16-R21, R24, R32) -/

/-- What an access does. -/
inductive Use where
  | load | store | atomic
deriving DecidableEq, Repr

/-- A fault of an access: cause and TVAL. -/
structure Fail where
  cause : Nat
  tval : Word
deriving DecidableEq, Repr

/-- TVAL of 01 R21. -/
def accessTval (lte lane dim coord : Nat) : Word :=
  BitVec.ofNat 64 (coord % 2 ^ 16 * 2 ^ 48 + lane % 128 * 2 ^ 33 + dim % 8 * 2 ^ 30 + lte % 32)

/-- An access as formed: entry, its element size, the offset of each element, and which half. -/
structure Formed where
  lte : Nat
  bits : LteBits
  size : Nat
  offs : List Nat
deriving DecidableEq, Repr

/-- The four coordinates of a coordinate register (01 R17). -/
def coords (w : Word) : List Nat := [field w 15 0, field w 31 16, field w 47 32, field w 63 48]

/-- FORMAT_FAULT (01 R10, R14, R16, R27). -/
def formatFault (b : LteBits) (binds : Bool) : Bool :=
  lteSpace b ≥ 9 || lteRead b 11 ≥ 12 || ((lteSpace b == 4 || lteSpace b == 5) && lteSub b ≥ 2) ||
    (lteShadow b && lteSync b == 0) || ((lteShadow b || binds) && lteSync b ≥ 9)

/-- ROLE_FAULT of a pure task (01 R32). -/
def roleFault (b : LteBits) (u : Use) : Bool :=
  let space := lteSpace b
  match lteRead b 20 with
  | 1 => u != .load || !(space == 1 || space == 2 || space == 6)
  | 2 => u == .atomic || !(space == 1 || space == 2 || space == 6)
  | 3 => u == .atomic || !(space == 1 || space == 2)
  | _ => true

/-- The first dimension that a coordinate breaks, with `n` elements along dimension 0 (01 R18). -/
def boundsDim (b : LteBits) (cs : List Nat) (n : Nat) : Option Nat :=
  (List.range 4).find? fun i =>
    let c := cs.getD i 0
    if i ≤ lteRead b 10 then c + (if i = 0 then n - 1 else 0) ≥ lteRead b (2 + i) + 1 else c != 0

/-- The front selector F of a shadow entry, read at its home (01 R28). -/
def State.front (s : State) (c : Nat) (b : LteBits) (stamp : Nat) : Bool :=
  if !lteShadow b then false
  else match syncHome c b with
    | some h => (s.loadNat (h.at (syncOffset b) + 8) 8).testBit (lteRead b 18)
    | none => Config.peerSelector stamp

/-- Whether the bit as its home holds it stands inverted by publications of a seat that are still posted: a read of the seat never
returns less than its own earlier writes (06 R155). -/
def State.pendingFlips (s : State) (c n : Nat) (b : LteBits) : Bool :=
  match syncHome c b with
  | some h => ((s.posted.filter fun p => p.agent == .seat c n && (match p.kind with
      | .release a (some i) => a == h.at (syncOffset b) && i % 64 == lteRead b 18
      | _ => false)).length % 2) == 1
  | none => false

/-- The front selector as an access of a seat samples it. -/
def State.sampled (s : State) (c n : Nat) (b : LteBits) (stamp : Nat) : Bool := s.front c b stamp != s.pendingFlips c n b

/-- The number that names a selector read of the issuing slot. -/
def State.stamp (s : State) : Nat := (s.me.idx * 16 + s.cx.pos) * 1024 + s.cx.core

/-- Address of coordinates, before the half is added (01 R18). -/
def address (b : LteBits) (cs : List Nat) : Int :=
  ((List.range 4).filter fun i => i ≤ lteRead b 10).foldl
    (fun a i => a + (cs.getD i 0 : Int) * stride32 (lteRead b (6 + i))) (lteRead b 0 : Int)

/-- Owner of a core, as a die's table holds it. -/
def State.ownerOf (s : State) (d c : Nat) : Owner := tget (.owned 0) (s.die d).owners c

/-- Tenant tag of the block of a cistern or of the I/O cistern. -/
def State.tagOf (s : State) (h : Home) (off : Nat) : Option Nat :=
  match h with
  | .cist d => some (tget 0 (s.die d).tags (off / 65536))
  | .ioc => some (tget 0 s.iocTags (off / 65536))
  | _ => none

/-- PARTITION fault of a home, as the requester's die finds it (01 R12, R24, 02 R48). A core is checked where the entry names it as a
PEER or DIE target. -/
def State.foreign (s : State) (c tenant : Nat) (named : Bool) (h : Home) (offs : List Nat) : Bool :=
  match h with
  | .spad k | .basin k => named && s.ownerOf (dieOf c) k != .owned tenant
  | .cist _ => offs.any fun o => s.tagOf h o != some tenant
  | .ioc => offs.any fun o => s.tagOf h o != some tenant
  | _ => false

/-- Whether an entry's space names a core of the package, and whether its binding does. -/
def namesCore (b : LteBits) : Bool := lteSpace b == 4 || lteSpace b == 5
def bindsCore (b : LteBits) : Bool := lteSync b == 4

/-- What the checks need to know of the issuing agent. -/
structure Issuing where
  core : Nat
  /-- The seat whose access it is; 8 for an engine or a side core. -/
  seat : Nat
  tenant : Nat
  ctx : Nat
  sup : Bool
  pure : Bool
  stamp : Nat
  /-- Engine writes act on the back half (01 R28). -/
  back : Bool
  /-- The access uses the binding for itself (01 R27). -/
  binds : Bool
  /-- The instruction's own conditions for the LTE format fault, and for the atomic-space fault (02 R53). -/
  bad : Bool
  noAtomic : Bool
  /-- The access is that of a region, which has no alignment (15 R401). -/
  region : Bool
deriving DecidableEq, Repr

/-- The issuing slot's agent. -/
def State.issuing (s : State) : Issuing :=
  ⟨s.cx.core, s.cx.seat, s.seat.tenant, s.seat.ctx, s.seat.sup, s.seat.pure, s.stamp, false, false, false, false, false⟩

/-- Formation and checks of `n` consecutive elements at coordinates (01 R18, R19), up to the partition fault. The atomic-space fault
of 02 R53, which R19 does not place, comes after the conditions of R18: an atomic through a PEER or DIE entry with SUB = 3, which 01 R16
and R53 both name, raises the LTE format fault. -/
def State.form (s : State) (w : Issuing) (u : Use) (e lane : Nat) (b : LteBits) (cs : List Nat) (n : Nat) : Except Fail Formed :=
  let at_ := accessTval e lane
  if lteSpace b = 0 then .error ⟨8, at_ 0 0⟩
  else if formatFault b w.binds || w.bad then .error ⟨9, at_ 0 0⟩
  else if w.pure && roleFault b u then .error ⟨18, at_ 0 0⟩
  else
    match boundsDim b cs n with
    | some i => .error ⟨11, at_ i (cs.getD i 0)⟩
    | none =>
      let size := lteSize b
      let step := stride32 (lteRead b 6)
      let f := s.sampled w.core w.seat b w.stamp != w.back
      let half := if lteShadow b && f then lteRead b 14 * 64 else 0
      let a := address b cs + half
      let last := a + ((n : Int) - 1) * step
      if min a last < 0 ∨ max a last + size > spaceLimit b then .error ⟨11, at_ 4 0⟩
      else if (lteShadow b || w.binds) && syncOffset b ≥ syncLimit b then .error ⟨11, at_ 4 0⟩
      else if !w.region ∧ (a % size ≠ 0 ∨ step % size ≠ 0) then .error ⟨12, at_ 0 0⟩
      else if w.noAtomic then .error ⟨14, at_ 0 0⟩
      else
        let offs := (List.range n).map fun (j : Nat) => (a + (j : Int) * step).toNat
        let here := match entryPlace w.core b with
          | some h => s.foreign w.core w.tenant (namesCore b) h offs
          | none => false
        let window := lteSpace b == 7 && (tget Wallow.reset s.wallow (lteRead b 21)).tenant != w.tenant
        let sync := (lteShadow b || w.binds) && (match syncHome w.core b with
          | some h => s.foreign w.core w.tenant (bindsCore b) h [syncOffset b]
          | none => false)
        if here || sync || window then .error ⟨13, at_ 0 0⟩ else .ok ⟨e, b, size, offs⟩

/-- The selected elements of an access. -/
def Formed.pick (f : Formed) (active : Nat → Bool) : List Nat :=
  (List.range f.offs.length).filter active

/-! ### Places of elements -/

/-- PM permutation (01 R22). -/
def permute (pm a : Nat) : Nat := a ^^^ ((a / 2048 &&& pm) * 64)

/-- One element at its home: lane, flat address, key material, the leaf that translated it, and its virtual address. -/
structure Spot where
  lane : Nat
  flat : Nat
  material : Option (BitVec 512)
  leaf : Option Leaf
  va : Option Nat
deriving DecidableEq, Repr

/-- Where the elements `lanes` of an access lie (01 R22, 03 R63), or the translation fault of the lowest lane that has one: lanes go in
ascending order (06 R153), and 03 R65 does not say which of several faulting pages reports. CANAL elements lie at the target and keep their
offset. -/
def State.spots (s : State) (w : Issuing) (u : Use) (f : Formed) (lanes : List Nat) : Except Fail (List Spot) :=
  let want := if u = .load then Want.read else .write
  lanes.foldr (fun i acc =>
    let off := f.offs.getD i 0
    let one : Except Fail Spot :=
      match entryPlace w.core f.bits with
      | some h =>
        let o := match h with
          | .spad _ => permute (lteRead f.bits 1) off
          | _ => off
        .ok ⟨i, h.at o, none, none, none⟩
      | none =>
        if lteSpace f.bits = 6 then
          match s.translate w.core w.ctx w.sup want off with
          | .error t => .error ⟨15, t⟩
          | .ok m => .ok ⟨i, m.flat, m.material, some m.leaf, some off⟩
        else .ok ⟨i, if lteSub f.bits = 0 then permute (lteRead f.bits 1) off else off, none, none, none⟩
    match one with
    | .error e => .error e
    | .ok x =>
      match acc with
      | .error e => .error e
      | .ok xs => .ok (x :: xs)) (.ok [])

/-- Misses of the TLBs that a VIRT access meets, one per page, join the core's queue (03 R74). -/
def State.noteMisses (s : State) (w : Issuing) (rank : Nat) (spots : List Spot) : State :=
  let pages : Tab Unit := spots.foldl (fun t x => match x.va with
    | some va => tput t (va / 65536) ()
    | none => t) []
  pages.foldl (fun s p => s.noteMiss w.core w.ctx (p.1 * 65536) rank) s

/-- Key material of the flat granules of spots. -/
def spotKeys (spots : List Spot) : Tab (BitVec 512) :=
  spots.foldl (fun t x => match x.material with
    | some m => tput t (x.flat / 64) m
    | none => t) []

/-- The 64 B granules of spots, each once, ascending. -/
def granules (spots : List Spot) : List Nat :=
  let all := spots.map fun x => x.flat / 64
  (all.foldl (fun (t : Tab Unit) g => tput t g ()) []).map (·.1)

/-- Latency of a value from the home of its entry (10 R268): own scratchpad and basin as given, else the horizon of the slowest home
reached, or of the entry's own home when no element is accessed; a selector away from the own basin adds its horizon (01 R531). -/
def accessLatency (c : Nat) (b : LteBits) (spad basin : Nat) (spots : List Spot) : Nat :=
  let data :=
    match lteSpace b with
    | 1 => spad
    | 2 => basin
    | 7 => 8000
    | _ =>
      if spots.isEmpty then
        match entryPlace c b with
        | some h => homeHorizon c h
        | none => homeHorizon c (.hbm (dieOf c))
      else spots.foldl (fun m x => max m (homeHorizon c (homeOf x.flat))) 0
  data + selectorHorizon c b

/-- Smallest scope whose extent holds every spot of an access (06 R160). -/
def accessReach (c : Nat) (b : LteBits) (spots : List Spot) : Nat :=
  if lteSpace b = 7 then 3 else spots.foldl (fun m x => max m (homeReach c (homeOf x.flat))) 0

/-! ### Performing writes (06 R152) -/

/-- Flat address of the key doorbell's mirror in the supervisor block (19 R469). -/
def doorbell : Nat := Home.ioc.at 0x0FF000

/-- A write of the key doorbell's mirror rings the root of trust. R469 gives an 8 B word: of a narrower write, one with byte 0 rings with the
missing bits of INDEX zero, and one without it rings nothing. -/
def State.ring (s : State) (bs : List (Nat × Byte)) : State :=
  let part (i : Nat) : Option Nat := (bs.find? fun p => p.1 == doorbell + i).map (·.2.toNat)
  match part 0 with
  | none => s
  | some b => { s with hostSide :=
      { s.hostSide with doorbells := s.hostSide.doorbells ++ [(b + 256 * (part 1).getD 0) % 8192] } }

/-- Bytes written at their home, by hardware as they are. -/
def State.performBytes (s : State) (m : Option (BitVec 512)) (bs : List (Nat × Byte)) : State :=
  (s.storeKeyed m bs).notify (bs.map fun p => p.1 / 64)

/-! Fields that software may write of the structures in the cisterns and the I/O cistern (00 R7): the doublewords' masks of a task record
(15 R388), a quota record (15 R405), a queue descriptor (17 R423), and a key request record (03 R80). No field of a reuse entry (15 R404)
is one. -/

def recordMasks : List Word := [0xFFFFFFFF1E200000, 0, 0x007FFFFFFFFFFFFF]
def quotaMasks : List Word := [0xFFFFFFFFFFFFFFFF, 0x007FFFFFFFFFFFFF, 0xFFF]
def queueMasks : List Word :=
  [0xFFFFFFFFFFFFFFFF, 0xFFFFFFFFFFFFFFFF, 0xFFFFFFFFFFFFFFFF, 0xFFFFE0000007FFFF, 0xFFFFFFFFFFFFFFFF]
def keyRequestMasks : List Word := [0x000003FF0FFF00FF, 0, 0xFFFFFFFFFFFFFFFF]

/-- Byte `i` of a list of masks. -/
def maskAt (masks : List Word) (i : Nat) : Byte := BitVec.ofNat 8 ((masks.getD (i / 8) 0).toNat / 2 ^ (8 * (i % 8)))

/-- Bits of the byte at a flat address that software may write. -/
def State.writable (s : State) (a : Nat) : Byte :=
  let o := offsetOf a
  match homeOf a with
  | .cist d =>
    let k := s.die d
    let within (base size : Nat) : Bool := base ≤ o && o < base + size
    if within k.taskBase 0x800000 then maskAt recordMasks ((o - k.taskBase) % 128)
    else if within k.reuseBase 0x200000 then 0
    else if within k.quotaBase 0x10000 then maskAt quotaMasks ((o - k.quotaBase) % 64)
    else 255
  | .ioc =>
    if o < 0x1000 then maskAt queueMasks (o % 64)
    else if 0x080000 ≤ o && o < 0x0FF000 then maskAt keyRequestMasks (o % 64)
    else if 0x0FF000 ≤ o && o < 0x0FF008 then 0
    else 255
  | _ => 255

/-- A byte as a software write leaves it. -/
def State.accepted (s : State) (p : Nat × Byte) : Nat × Byte :=
  let w := s.writable p.1
  if w = 255 then p else (p.1, (p.2 &&& w) ||| (s.byte p.1 &&& ~~~w))

/-- Whether a flat address lies in ENTRIES of a quota record, or in LOG2C of a queue descriptor. -/
def State.inQuota (s : State) (a : Nat) : Bool :=
  match homeOf a with
  | .cist d => let b := (s.die d).quotaBase; let o := offsetOf a; b ≤ o && o < b + 0x10000 && 6 ≤ (o - b) % 64 && (o - b) % 64 < 8
  | _ => false
def inLog2c (a : Nat) : Bool := homeOf a == .ioc && offsetOf a < 0x1000 && (offsetOf a % 64 == 29 || offsetOf a % 64 == 30)

/-- ENTRIES above 32,768 store 32,768 (15 R405), and LOG2C of 13 to 15 stores 12 (17 R423). -/
def State.clip (s : State) (a : Nat) : State :=
  let w := a / 8 * 8
  let v : Word := BitVec.ofNat 64 (s.loadNat w 8)
  if s.inQuota a && 32768 < field v 63 48 then s.store (placed w (leBytes 8 (putField v 63 48 32768).toNat))
  else if inLog2c a && 12 < field v 48 45 then s.store (placed w (leBytes 8 (putField v 48 45 12).toNat))
  else s

/-- Bytes written at their home by software: seats, engines, side cores, hosts and peers. -/
def State.writeBytes (s : State) (m : Option (BitVec 512)) (bs : List (Nat × Byte)) : State :=
  bs.foldl (fun s p => s.clip p.1) ((s.performBytes m (bs.map s.accepted)).ring bs)

/-- A write to a page with WATCH drops the digests that cover its granule on every die (03 R68). -/
def State.dropDigests (s : State) (pages : List Nat) : State :=
  { s with dies := s.dies.map fun p =>
      (p.1, { p.2 with digests := p.2.digests.filter fun g => !(g.pages.any fun q => pages.contains q) }) }

/-- What comes before a write through a leaf: D is set and digests that cover its pages are dropped (03 R67, R68). -/
def State.announce (s : State) (d ctx : Nat) (va : Nat) (l : Leaf) (bs : List (Nat × Byte)) : State :=
  let leaf := s.current l
  let s := if bitOf leaf.entry 5 then s.dropDigests (bs.map fun p => p.1 / 65536) else s
  if bitOf leaf.entry 7 && leaf.level == 0 then s else s.setDirty d ctx va leaf

/-- Bytes written through translation. -/
def State.performThrough (s : State) (d ctx : Nat) (va : Nat) (l : Leaf) (m : Option (BitVec 512)) (bs : List (Nat × Byte)) : State :=
  (s.announce d ctx va l bs).writeBytes m bs

/-- Whether a write through a leaf is held by an ARMED granule (03 R70). -/
def State.heldArmed (s : State) (d ctx va : Nat) (l : Leaf) : Bool := s.armed d ctx va (s.current l)

end Sys2Proof.Machine
end

