-- ==== Sys2Proof/Machine/Send.lean ====
section
/-! DEFINITION. Work handed over to travel: posted items of a seat, best-effort messages (04 R110, R111), Canal packets (05 R123, R124,
R139), and values that travel back (02 R49, 14 R532). -/

/-- Number of a Lade: 0 the row's, 1 the column's. -/
def Sys2Proof.Ring.index (r : Sys2Proof.Ring) : Nat := if r = .col then 1 else 0

/-- Whether a slot holds a message or an owned payload. -/
def Sys2Proof.SlotState.isBusy (t : Sys2Proof.SlotState) : Bool := t == .busy || t == .busyHeld

namespace Sys2Proof.Machine

/-! ### Stations (04 R88, R111) -/

/-- The station of an XC die. -/
def stationOf (d : Nat) : Nat := d + 2 + d / 4

/-- The die of a station; none for the XI and the XM dies. -/
def dieOfStation (n : Nat) : Option Nat := if n < 2 ∨ (n - 2) % 5 = 4 ∨ 20 < n then none else some (n - 2 - (n - 2) / 5)

/-- Queue of a message from a station to another: direction of fewer hops, forward when equal, and lane. -/
def queueKey (src dest : Nat) : Nat :=
  let fwd := (dest + 21 - src) % 21
  16 * src + (if fwd ≤ 21 - fwd then 0 else 8) + dest % 8

/-- A Lade as its bring-up left it. -/
def State.lade (s : State) (r : Ring) : Lade := tget ⟨0, 0, 0, []⟩ s.flume.lades r.index

/-- This package's station on a Lade (04 R117). -/
def State.ladeStation (s : State) (r : Ring) : Nat := if r = .row then s.pcol else s.prow

/-- Queue of a message from a station: by the Flume's geometry, or by that of the Lade whose station here is 21 or 22 (04 R111, R119). -/
def State.queueOf (s : State) (src dest : Nat) : Nat :=
  if src < 21 then queueKey src dest
  else
    let r := if src = 21 then Ring.row else .col
    let n := (s.lade r).n
    let fwd := (dest + n - s.ladeStation r) % n
    16 * src + (if fwd ≤ n - fwd then 0 else 8)

/-- A message joins its station's queue. -/
def State.enqueue (s : State) (src : Nat) (m : BeMsg) : State :=
  let k := s.queueOf src m.dest
  { s with flume := { s.flume with queues := tput s.flume.queues k (tget [] s.flume.queues k ++ [m]) } }

/-- TGT of a best-effort message: sub-space, core and offset (04 R91). -/
def tgtOf (sub core off : Nat) : BitVec 52 := BitVec.ofNat 52 (sub % 8 * 2 ^ 49 + core % 64 * 2 ^ 43 + off % 2 ^ 43)

/-- Tags of a station's requests and of the answers to them that are queued, in a slot, or at their target: such a tag is not free, though
nothing may wait for it any more. -/
def State.tagsOnWay (s : State) (station : Nat) : List Nat :=
  let asks (kind : Nat) : Bool := kind == 1 || kind == 4
  let answers (kind : Nat) : Bool := kind == 2 || kind == 5
  (s.flume.queues.flatMap fun q => q.2.filterMap fun m =>
    if (asks m.kind && q.1 / 16 == station) || (answers m.kind && m.dest == station) then some m.tag else none) ++
  (s.flume.slots.filterMap fun x =>
    let h := x.2
    let kind := h.stream.toNat / 256
    if !h.owned && h.state.isBusy && ((asks kind && h.origin.toNat == station) || (answers kind && h.dest.getLsbD station))
      then some (h.stream.toNat % 256) else none) ++
  s.posted.filterMap fun p => match p.kind with
    | .visit _ _ h _ => if asks (h.stream.toNat / 256) && h.origin.toNat == station then some (h.stream.toNat % 256) else none
    | _ => none

/-- Tags of unanswered reads and atomics of a die. -/
def State.tagsInUse (s : State) (d : Nat) : List Nat :=
  s.tagsOnWay (stationOf d) ++ (s.cores.filter fun p => dieOf p.1 == d).flatMap fun p =>
    (p.2.cmds.flatMap fun k => k.tags.map (·.1)) ++
    (p.2.seats.flatMap fun q => (q.2.stream.toList.flatMap fun t => t.reads).flatMap fun r => r.tags.map (·.1)) ++ p.2.landings.flatMap fun l =>
    match l.trip with
    | some t => (match t.route with
      | .flume ts => ts.map (·.1)
      | _ => [])
    | none => []

/-- The lowest tag not in use. -/
def freeTag (used : List Nat) : Nat := ((List.range 256).find? fun i => !used.contains i).getD 0

/-! ### Units of an access (06 R154) -/

/-- The unit in which the home of an address is accessed at one instant (06 R154): 8 B in basin-class memory, 64 B elsewhere. -/
def unitOf (a : Nat) : Nat :=
  match homeOf a with
  | .basin _ | .cist _ | .ioc => 8
  | _ => 64

/-! ### Runs of bytes (14 R532, 05 R522) -/

/-- Addresses ascending, each once. -/
def sortAddrs (l : List Nat) : List Nat := (l.foldl (fun (t : Tab Unit) a => tput t a ()) []).map (·.1)

/-- Of a list of addresses, those of the unit that is accessed next: the units of an access come in any order (06 R154, R156). -/
def pickUnit (stamp : Nat) (unit : Nat → Nat) (addrs : List Nat) : List Nat :=
  let first (a : Nat) : Nat := a / unit a * unit a
  match sortAddrs (addrs.map first) with
  | [] => []
  | [_] => addrs
  | us => let u := us.getD (Config.unitChoice stamp % us.length) 0; addrs.filter fun a => first a == u

/-- Maximal runs of ascending addresses: first address and length. -/
def runsGo : List Nat → List (Nat × Nat)
  | [] => []
  | a :: t =>
    match runsGo t with
    | [] => [(a, 1)]
    | (b, n) :: r => if b = a + 1 then (a, n + 1) :: r else (a, 1) :: (b, n) :: r

/-- Runs cut from their first byte on. -/
def cutRun (cut : Nat) : Nat → Nat × Nat → List (Nat × Nat)
  | 0, r => [r]
  | fuel + 1, (a, n) => if n ≤ cut then [(a, n)] else (a, cut) :: cutRun cut fuel (a + cut, n - cut)

def runs (cut : Nat) (addrs : List Nat) : List (Nat × Nat) :=
  (runsGo (sortAddrs addrs)).flatMap fun r => cutRun cut r.2 r

/-- Byte addresses of spots of `size` bytes, in order. -/
def spotBytes (size : Nat) (xs : List Spot) : List Nat := xs.flatMap fun x => (List.range size).map fun i => x.flat + i

/-! ### Posted items -/

/-- A posted item of the issuing seat without a kind yet. -/
def State.myItem (s : State) (reach : Nat) : Posted :=
  let st := s.seat
  { Posted.of (.seat s.cx.core s.cx.seat) (dieOf s.cx.core) st.tenant st.ctx st.job reach with
    num := st.writes, task := some (dieOf s.cx.core, st.record) }

/-- An item of the issuing seat. -/
def State.postMine (s : State) (kind : PostKind) (reach : Nat) (bound : Option Nat) (after : List Nat) : State :=
  s.post { s.myItem reach with kind := kind, bound := bound, after := after }

/-- One more write of the issuing seat (14 R375), which makes its spin iteration busy. -/
def State.countWrite (s : State) : State := s.onMe fun st => { st with writes := st.writes + 1, spin := { st.spin with idle := false } }

/-- Items a seat, or a core's agents, still have posted. -/
def State.postedOf (s : State) (c n : Nat) : List Posted := s.posted.filter fun p => p.agent == .seat c n
/-- Whether the agent belongs to core `c`. -/
def Agent.ofCore (a : Agent) (c : Nat) : Bool :=
  match a with
  | .seat k _ => k == c
  | .engine k => k == c
  | .side k _ => k == c
  | _ => false

/-! ### Order of one agent's accesses (06 R155, R156, R158) -/

/-- The memory a message's target names at a station, and the flat address. -/
def targetAt (station : Nat) (tgt : BitVec 52) : Option Nat :=
  let n := tgt.toNat
  let off := n % 2 ^ 43
  let core := n / 2 ^ 43 % 64
  let place : Option Home := match dieOfStation station, n / 2 ^ 49 with
    | some d, 0 => some (.spad (d * 64 + core))
    | some d, 1 => some (.basin (d * 64 + core))
    | some d, 2 => some (.cist d)
    | some d, 3 => some (.hbm d)
    | none, 2 => if station = 0 ∨ 20 < station then some .ioc else none
    | none, 3 => if station = 0 ∨ 20 < station then none else some .tier2
    | _, _ => none
  match place with
  | some h => if off < h.size then some (h.at off) else none
  | none => none

/-- Bytes that a write message has still to write. -/
def BeMsg.addrs (m : BeMsg) : List Nat :=
  if m.kind = 0 ∨ m.kind = 6 then
    match targetAt m.dest m.tgt with
    | some a => (List.range m.len).map (a + ·)
    | none => []
  else []

/-- The 16 B around an atomic's word, which are one location if they are a sync object; the model orders one agent's atomics so in any 16 B
(06 R158). -/
def objectBytes (addrs : List Nat) : List Nat :=
  match addrs with
  | [] => []
  | a :: _ => (List.range 16).map (a / 16 * 16 + ·)

/-- Bytes that a visit touches. -/
def Visit.addrs : Visit → List Nat
  | .write bs _ => bs.map (·.1)
  | .read a n _ got => (List.range (n - got.length)).map (a + got.length + ·)
  | .act a _ => objectBytes [a]

/-- Bytes that an item touches at their home. -/
def PostKind.addrs : PostKind → List Nat
  | .visit _ _ _ v => v.addrs
  | .write bs _ => bs.map (·.1)
  | .release a _ => (List.range 16).map (a + ·)
  | .flagClass bs => bs.map (·.1)
  | .message m => m.addrs
  | .heldMessage _ m => m.addrs
  | _ => []

/-- Whether two lists of addresses share one. -/
def meetsAny (a b : List Nat) : Bool := a.any fun x => b.contains x

/-- Addresses of a trip whose bytes have not been taken yet. -/
def Trip.left (t : Trip) : List Nat := t.addrs.filter fun a => !t.bytes.any fun b => b.1 == a

/-- Bytes of a trip that are ordered with other accesses. -/
def Trip.touches (t : Trip) : List Nat := if t.atomic.isSome then objectBytes t.left else t.left

/-- Whether the addresses of a trip are those of this package's memories. -/
def Trip.here (t : Trip) : Bool :=
  match t.route with
  | .canal _ _ => false
  | .waiting b => lteSpace b != 7
  | _ => true

/-- Whether some byte lies in the scratchpad or the basin of core `c`. -/
def ownMemory (c : Nat) (addrs : List Nat) : Bool := addrs.any fun a => homeOf a == .spad c || homeOf a == .basin c

/-- Whether two accesses of a seat of core `c` are performed in program order: at the same bytes (06 R155), or both to the core's own
scratchpad and basin (R156). -/
def inProgramOrder (c : Nat) (a b : List Nat) : Bool := meetsAny a b || (ownMemory c a && ownMemory c b)

/-- Whether an earlier item of a seat comes before an access of it: a release comes first at its object alone (06 R162). -/
def Posted.precedes (p : Posted) (c : Nat) (addrs : List Nat) : Bool :=
  match p.kind with
  | .release _ _ => meetsAny p.kind.addrs addrs
  | k => inProgramOrder c k.addrs addrs

/-- Bytes of a read of an operand stream that are not there yet; none of a refused one. -/
def StreamRead.lacks (r : StreamRead) : List Nat :=
  if r.lost.isSome then [] else (r.blocks.flatMap (·.2)).filter fun a => !r.got.any fun b => b.1 == a

/-- Whether an access `id` of a seat to bytes comes after everything earlier of the same seat that it is ordered with. -/
def State.firstThere (s : State) (c n id : Nat) (addrs : List Nat) : Bool :=
  ((s.postedOf c n).all fun p => !(p.id < id && p.precedes c addrs)) &&
    ((s.tripsOf c n).all fun t => !(t.id < id && t.here && inProgramOrder c t.touches addrs)) &&
    (s.seatAt c n).stream.toList.all fun t => t.reads.all fun r => !(r.id < id && r.direct && meetsAny r.lacks addrs)

/-- Whether a message `id` of a seat to bytes may join its queue: everything earlier of the seat there is performed, or is itself a message
on its way, which comes first in that queue and at the die (04 R110, R116). -/
def State.mayJoin (s : State) (c n id : Nat) (addrs : List Nat) : Bool :=
  ((s.postedOf c n).all fun p => match p.kind with
    | .message _ | .visit _ _ _ _ => true
    | k => !(p.id < id && meetsAny k.addrs addrs)) &&
    (s.tripsOf c n).all fun t => match t.route with
      | .flume _ => true
      | _ => !(t.id < id && t.here && meetsAny t.touches addrs)

/-! ### Refusals at the target (03 R83, 05 R146) -/

/-- Whether a core's memory is refused to a tenant at the target (03 R83). -/
def State.refusedAt (s : State) (c tenant : Nat) (addrs : List Nat) : Bool :=
  addrs.any fun a => match homeOf a with
    | .spad k => k != c && s.ownerOf (dieOf k) k != .owned tenant
    | .basin k => k != c && s.ownerOf (dieOf k) k != .owned tenant
    | _ => false

/-- TVAL of a refusal by reason (05 R146); the distance is added at the held bundle. -/
def refusalTval (reason seq : Nat) : Word := BitVec.ofNat 64 (seq % 2 ^ 40 * 256 + reason % 16)

/-- The cause a refused load or atomic raises (05 R146). -/
def refusalCause (reason : Nat) : Nat := if reason = 1 then 13 else if reason = 2 then 36 else 23

/-! ### Canal packets -/

/-- SRC or DST of a packet: package (16·row + column), die and core. -/
def canalPlace (package core : Nat) : BitVec 18 := BitVec.ofNat 18 (package % 256 * 2 ^ 10 + core % 1024)

/-- This package as 16·row + column. -/
def State.package (s : State) : Nat := s.prow % 16 * 16 + s.pcol % 16

/-- A packet of a core's agent to a target. -/
def State.packetTo (s : State) (type vc peer target core sub tenant job addr len : Nat) : Packet where
  type := BitVec.ofNat 4 type
  vc := BitVec.ofNat 2 vc
  trimmed := false
  rel := false
  det := false
  pfl := 0
  hop := 0
  src := canalPlace s.package core
  dst := canalPlace peer target
  sub := BitVec.ofNat 2 sub
  tenant := BitVec.ofNat 10 tenant
  seq := 0
  lenM1 := BitVec.ofNat 9 (len - 1)
  aop := 0
  job := BitVec.ofNat 10 job
  addr := BitVec.ofNat 55 addr
  opa := 0
  opb := 0
  payload := []
  via := 31
  counts := []

/-- Bytes at its target that a packet touches. -/
def packetSpan (p : Packet) : List Nat := (List.range (p.lenM1.toNat + 1)).map (p.addr.toNat + ·)

/-- Whether two packets of one core go to bytes of one memory of a peer that they share. -/
def packetsMeet (p q : Packet) : Bool := p.dst == q.dst && p.sub == q.sub && meetsAny (packetSpan p) (packetSpan q)

/-- Whether a trip that still waits for its selector read (01 R531) goes to bytes of a packet. -/
def Trip.awaits (t : Trip) (p : Packet) : Bool :=
  match t.route with
  | .waiting b => lteSpace b == 7 && canalPlace (ltePackage b) (lteCore b (lteDie b)) == p.dst && BitVec.ofNat 2 (lteSub b) == p.sub &&
      meetsAny t.addrs (packetSpan p)
  | _ => false

/-- Accesses of a seat numbered below `id` that have not left for a peer and go to bytes of a packet: the packet leaves after them
(06 R155). -/
def State.heldBefore (s : State) (c n id : Nat) (p : Packet) : List Nat :=
  let mine := (s.postedOf c n).map (·.id)
  ((s.canal.inject.filter fun j => j.id < id && mine.contains j.id && !s.performed j.after && packetsMeet j.packet p).map (·.id)) ++
    ((s.tripsOf c n).filter fun t => t.id < id && t.awaits p).map (·.id)

/-- A packet waits at the injection point. -/
def State.injectPacket (s : State) (peer : Nat) (p : Packet) (win : Option Nat) (id : Nat) (after : List Nat) : State :=
  { s with canal := { s.canal with inject := s.canal.inject ++ [⟨peer, p, win, id, after, false, false⟩] } }

/-- Whether the packet of an item has reached the XI: the local completion of a posted write (05 R137, R138). -/
def State.stored (s : State) (id : Nat) : Bool := s.canal.inject.all fun j => j.id != id || j.stored

/-- Units of a write (05 R139). -/
def units (len : Nat) : Nat := (len + 63) / 64

/-- A posted item leaves as a Canal packet: its window's OUT rises at once (05 R139). -/
def State.postPacket (s : State) (item : Posted) (peer : Nat) (p : Packet) (win : Option Nat) (after : List Nat) : State :=
  let id := s.nextPost
  let s := s.post { item with kind := .packet peer none (p.type == 2) }
  let s := match win with
    | some w =>
      let x := tget Wallow.reset s.wallow w
      { s with wallow := tput s.wallow w { x with out := x.out + units p.payload.length } }
    | none => s
  s.injectPacket peer p win id after

/-- Posted writes a store through a CANAL entry leaves as (05 R522): address and bytes of each. -/
def canalParts (bs : List (Nat × Byte)) : List (Nat × List Byte) :=
  let mem : Tab Byte := bs.foldl (fun t p => tput t p.1 p.2) []
  let addrs := mem.map (·.1)
  let cells (r : Nat × Nat) : Nat × List Byte := (r.1, (List.range r.2).map fun i => tget 0 mem (r.1 + i))
  let byGranule := (sortAddrs (addrs.map (· / 64))).flatMap fun g => (runsGo (addrs.filter fun a => a / 64 == g)).map cells
  match runsGo addrs with
  | [r] => if r.2 ≤ 512 then [cells r] else byGranule
  | _ => byGranule

/-! ### Values in flight -/

/-- An effect with its value. -/
def Effect.fill (e : Effect) (v : Vec) : Effect :=
  match e with
  | .file u ix _ => .file u ix (v.setWidth 64)
  | .vfile ix _ => .vfile ix v
  | .scales sb _ => .scales sb (v.setWidth 512)
  | e => e

/-- A load in flight: present already, or on a trip. -/
def State.flyLoad (s : State) (u : UnitId) (lat : Nat) (e : Effect) (latch : Bool) (load : Option Nat) (v : Trip ⊕ Vec) : State :=
  let spin := s.seat.spin.live
  let land (e : Effect) (x : Vec) (t : Travel) : Landing :=
    ⟨s.cx.seat, s.me.idx + lat, s.me.idx * 16 + s.cx.pos, s.cx.pos, u, e, if latch then some x else none, t, load, spin, false⟩
  let l := match v with
    | .inl t => land e 0 (.away t)
    | .inr x => land (e.fill x) x .here
  s.onCore s.cx.core fun k => { k with flight := k.flight ++ [l] }

/-- The last SLD of an iteration, of issue order `ord`, has been performed on granule `g`: the monitor of the spin detector is armed on it,
and sees writes from here on (07 R200). -/
def Spin.arm (sp : Spin) (ord g : Nat) : Spin :=
  let newest : Bool := match sp.armed with
    | some a => a.1 ≤ ord
    | none => true
  if sp.live && newest then { sp with armed := some (ord, g), hit := false } else sp

def State.armSpin (s : State) (c n ord : Nat) (g : Option Nat) : State :=
  match g with
  | some g => s.onSeat c n fun st => { st with spin := st.spin.arm ord g }
  | none => s

/-- A trip gets its number. -/
def State.newTrip (s : State) : Nat × State := (s.nextPost, { s with nextPost := s.nextPost + 1 })

/-! ### Selector reads that travel (01 R531) -/

/-- A request to a peer package leaves: its packet waits at the injection point, and its answer is looked for. -/
def State.askPeer (s : State) (c peer : Nat) (p : Packet) (asker : Asker) (addr len : Nat) : Nat × State :=
  let (num, s) := s.newTrip
  let q : Request := ⟨num, peer, none, c, addr, len, asker, s.cycOf c⟩
  let s := { s with canal := { s.canal with requests := s.canal.requests ++ [q] } }
  (num, s.injectPacket peer p none num [])

/-- The selector read of an access through an entry, by the agent of `item` on core `c`: nothing where the selector is read at the L port;
else an item that the data access waits for, with a Canal read of the object's second doubleword for another package's object. `stamp`
names the bit the access took there. -/
def State.askSelector (s : State) (item : Posted) (c : Nat) (b : LteBits) (stamp : Nat) : List Nat × State :=
  if selectorHorizon c b = 0 then ([], s)
  else
    let id := s.nextPost
    match syncHome c b with
    | some _ => ([id], s.post { item with kind := .selector none })
    | none =>
      let s := s.post { item with kind := .selector (some (lteRead b 18, Config.peerSelector stamp)) }
      let sub := if lteSync b = 6 then 2 else 1
      let p := s.packetTo 0 1 (ltePackage b) (lteCore b (lteDie b)) c sub item.tenant item.job (syncOffset b + 8) 8
      ([id], (s.askPeer c (ltePackage b) p (.selector id) (syncOffset b + 8) 8).2)

end Sys2Proof.Machine
end

