-- ==== Sys2Proof/Machine/Vector.lean ====
section
/-! DEFINITION. The V slots (12 R305-R333). -/

namespace Sys2Proof.Machine

/-! ### Element types (12 R305, R306) -/

/-- Classes of element types. -/
inductive ElemClass where
  | fp (f : FpFmt)
  | int
  | k27
  | c32
deriving DecidableEq, Repr

/-- An element type: class, width, and number of elements. -/
structure ElemTy where
  cls : ElemClass
  w : Nat
  n : Nat
deriving DecidableEq, Repr

/-- The element type of an ET code; none for a reserved one. -/
def elemTy : Nat → Option ElemTy
  | 0 => some ⟨.int, 32, 128⟩
  | 1 => some ⟨.fp .f32, 32, 128⟩
  | 2 => some ⟨.fp .f16, 16, 128⟩
  | 3 => some ⟨.fp .b16, 16, 128⟩
  | 4 => some ⟨.int, 16, 128⟩
  | 5 => some ⟨.int, 8, 128⟩
  | 6 => some ⟨.k27, 32, 128⟩
  | 7 => some ⟨.fp .f64, 64, 64⟩
  | 8 => some ⟨.int, 64, 64⟩
  | 9 => some ⟨.c32, 64, 64⟩
  | _ => none

/-- Bits of a lane. -/
def ElemTy.lane (t : ElemTy) : Nat := 4096 / t.n
def ElemTy.isF (t : ElemTy) : Bool := match t.cls with
  | .fp _ => true
  | _ => false
def ElemTy.isI (t : ElemTy) : Bool := t.cls == .int
def ElemTy.isK (t : ElemTy) : Bool := t.cls == .k27
def ElemTy.isC (t : ElemTy) : Bool := t.cls == .c32
def ElemTy.isF32 (t : ElemTy) : Bool := t.cls == .fp .f32

/-- Lane `i` of width `lw` of a vector, whole. -/
def laneGet (lw : Nat) (v : Vec) (i : Nat) : Nat := v.toNat / 2 ^ (lw * i) % 2 ^ lw
/-- A vector from its lanes. -/
def ofLanes (lw : Nat) (xs : List Nat) : Vec := BitVec.ofNat 4096 (xs.foldr (fun x a => x % 2 ^ lw + a * 2 ^ lw) 0)
/-- The elements of a vector. -/
def ElemTy.elems (t : ElemTy) (v : Vec) : List Nat := (List.range t.n).map fun i => laneGet t.lane v i % 2 ^ t.w

/-- ET of VTYPE, MEN, and the mask that KSEL names. -/
def Seat.et (st : Seat) : Nat := st.vtype.toNat % 16
def Seat.men (st : Seat) : Bool := st.vtype.getLsbD 7
def Seat.ksel (st : Seat) : Mask := tget 0 st.k (st.vtype.toNat / 16 % 8)
/-- MB(i) for `n` elements (12 R308). -/
def maskBit (n i : Nat) : Nat := if n = 64 then 2 * i else i
/-- Whether element `i` of `n` is active (12 R308). -/
def Seat.active (st : Seat) (n i : Nat) : Bool := !st.men || st.ksel.getLsbD (maskBit n i)

/-! ### Operands (09 R242, R243; 12 R307) -/

/-- A V register or V latch whole, or a 64-bit source. -/
def State.vraw (s : State) (form : ConstForm) (x : Src) : Vec ⊕ Word :=
  match x with
  | .main n => .inl (s.seat.vreg (rotated s.seat.rrb n.val))
  | .opnd n => .inl (s.seat.vreg (24 + n.val))
  | .latch .v older => .inl (if older then s.me.latches.v1 else s.me.latches.v0)
  | _ => .inr (s.src .v form x)

/-- A 64-bit source in every element of a type. -/
def ElemTy.spread (t : ElemTy) (w : Word) : Vec := ofLanes t.lane (List.replicate t.n (w.toNat % 2 ^ t.w))

/-- A source as a vector, a scalar replicated under a type. -/
def State.vsrcAs (s : State) (t : ElemTy) (form : ConstForm) (x : Src) : Vec :=
  match s.vraw form x with
  | .inl v => v
  | .inr w => t.spread w

/-- A source as a vector, a scalar replicated under the seat's VTYPE; nothing states how under a reserved type. -/
def State.vsrc (s : State) (form : ConstForm) (x : Src) : Vec :=
  match s.vraw form x with
  | .inl v => v
  | .inr w =>
    match elemTy s.seat.et with
    | some t => t.spread w
    | none => Config.reservedSpread s.seat.et w

/-- The form in which an element operand takes a constant. -/
def ElemTy.form (t : ElemTy) : ConstForm :=
  match t.cls with
  | .fp f => .fp f
  | .int => .int t.w
  | .k27 => .k27
  | .c32 => .c32

/-- The elements of an operand taken as element values. -/
def State.velems (s : State) (t : ElemTy) (x : Src) : List Nat := t.elems (s.vsrcAs t t.form x)
/-- The elements of an operand taken as integers: bits, indices, shift amounts. 09 R243 gives a constant as an integer in a bitwise operand and as
a K27 word in a V operand under VTYPE K27: in the bitwise operands of VAND, VOR and VXOR under K27 the model takes the integer. -/
def State.vints (s : State) (t : ElemTy) (x : Src) : List Nat := t.elems (s.vsrcAs t (.int t.w) x)
/-- The 64-bit scalar of VSGN and VQNT. -/
def State.vscalar (s : State) (x : Src) : Nat :=
  match s.vraw (.int 64) x with
  | .inl v => v.toNat % 2 ^ 64
  | .inr w => w.toNat

/-- A constant 0.5. -/
def srcIsHalf : Src → Bool
  | .const k => isHalf k
  | _ => false

/-- The vector-type fault (12 R310). -/
def State.vtypeFault (s : State) : State :=
  s.raise 7 (BitVec.ofNat 64 (s.cx.word / 2 ^ 23 % 256 * 256 + s.seat.et))

/-- A V slot that acts under a type its entry admits; `vals` are the operands taken as element values (09 R530). -/
def State.typed (s : State) (g : Guard) (ok : ElemTy → Bool) (vals : List Src) (act : ElemTy → State → State) : Res :=
  s.guarded g fun s =>
    match elemTy s.seat.et with
    | none => s.vtypeFault
    | some t =>
      if ok t && !((t.isI || t.isK) && vals.any srcIsHalf) then act t s else s.vtypeFault

/-- The destination as the bundle reads it. -/
def State.vdstOld (s : State) (d : Dst) : Vec :=
  match dstPhys s.seat.rrb d with
  | some ix => s.seat.vreg ix
  | none => 0

/-- Elements of a result merged with the old destination (12 R309). -/
def State.merged (s : State) (t : ElemTy) (old : Option Vec) (r : List Nat) : Vec :=
  ofLanes t.lane ((List.range t.n).map fun i =>
    if s.seat.active t.n i then r.getD i 0 % 2 ^ t.w
    else match old with
      | some o => laneGet t.lane o i
      | none => 0)

/-- The old destination of a register; none for the latch alone. -/
def State.oldOf (s : State) (d : Dst) : Option Vec :=
  match d with
  | .latch => none
  | _ => some (s.vdstOld d)

/-- An elementwise result under MEN. -/
def State.velementwise (s : State) (t : ElemTy) (d : Dst) (lat : Nat) (r : List Nat) : State :=
  s.vresult d lat (s.merged t (s.oldOf d) r)

/-- A result of every element. -/
def State.vwhole (s : State) (t : ElemTy) (d : Dst) (lat : Nat) (r : List Nat) : State :=
  s.vresult d lat (ofLanes t.lane (r.map fun x => x % 2 ^ t.w))

/-! ### Elementwise operations (12 R312, R313) -/

/-- Which classes an entry admits. -/
def tyF (t : ElemTy) : Bool := t.isF
def tyI (t : ElemTy) : Bool := t.isI
def tyFI (t : ElemTy) : Bool := t.isF || t.isI
def tyFIK (t : ElemTy) : Bool := t.isF || t.isI || t.isK
def tyAll (_ : ElemTy) : Bool := true

/-- A two-operand elementwise instruction over element values. -/
def vbin (lat : Nat) (ok : ElemTy → Bool) (op : ElemTy → Nat → Nat → Nat) (f : V3) (s : State) : Res :=
  s.typed f.g ok [f.a, f.b] fun t s =>
    s.velementwise t f.d lat (List.zipWith (op t) (s.velems t f.a) (s.velems t f.b))

/-- The same with the X field. -/
def vbinx (lat : Nat) (ok : ElemTy → Bool) (op : ElemTy → Nat → Nat → Nat) (f : V3x) (s : State) : Res :=
  s.typed f.g ok [f.a, f.b] fun t s =>
    s.velementwise t f.d lat (List.zipWith (op t) (s.velems t f.a) (s.velems t f.b))

/-- A one-operand elementwise instruction. -/
def vun (lat : Nat) (ok : ElemTy → Bool) (op : ElemTy → Nat → Nat) (f : V2) (s : State) : Res :=
  s.typed f.g ok [f.a] fun t s => s.velementwise t f.d lat ((s.velems t f.a).map (op t))

/-- A bitwise or shift instruction: operands as integers. -/
def vbits (ok : ElemTy → Bool) (op : Nat → Nat → Nat → Nat) (f : V3) (s : State) : Res :=
  s.typed f.g ok [] fun t s =>
    s.velementwise t f.d 2 (List.zipWith (op t.w) (s.vints t f.a) (s.vints t f.b))

/-- By class: an FP operation, an integer operation, a K27 operation. -/
def byClass (t : ElemTy) (fop : FpFmt → Nat) (iop : Nat) (kop : Nat) : Nat :=
  match t.cls with
  | .fp f => fop f
  | .k27 => kop
  | _ => iop

def vaddElem (t : ElemTy) (a b : Nat) : Nat := byClass t (fun f => f.add a b) (a + b) (k27Add a b)
def vsubElem (t : ElemTy) (a b : Nat) : Nat := byClass t (fun f => f.sub a b) (a + 2 ^ t.w - b) (k27Sub a b)
def vmulElem (t : ElemTy) (a b : Nat) : Nat := byClass t (fun f => f.mul a b) (a * b) (k27Mul a b)
def vminElem (x : Bool) (t : ElemTy) (a b : Nat) : Nat :=
  byClass t (fun f => f.min a b) (if x then min a b else if sint t.w a ≤ sint t.w b then a else b) 0
def vmaxElem (x : Bool) (t : ElemTy) (a b : Nat) : Nat :=
  byClass t (fun f => f.max a b) (if x then max a b else if sint t.w a ≤ sint t.w b then b else a) 0
def vabsElem (t : ElemTy) (a : Nat) : Nat :=
  byClass t (fun f => f.round .rne (f.val a).abs) (uint t.w (sint t.w a).natAbs) 0
def vnegElem (t : ElemTy) (a : Nat) : Nat :=
  byClass t (fun f => f.round .rne (f.val a).neg) (2 ^ t.w - a) 0
def vdivElem (t : ElemTy) (a b : Nat) : Nat := byClass t (fun f => f.div a b) 0 0
/-- A function of one value, correctly rounded (08 R212). -/
def vfunElem (g : FpVal → FpVal) (t : ElemTy) (a : Nat) : Nat := byClass t (fun f => f.round .rne (g (f.val a))) 0 0
def vmulhElem (x : Bool) (t : ElemTy) (a b : Nat) : Nat :=
  if x then a * b / 2 ^ t.w else uint t.w (sint t.w a * sint t.w b / 2 ^ t.w)
def vabsdElem (x : Bool) (t : ElemTy) (a b : Nat) : Nat :=
  byClass t (fun f => f.round .rne ((f.val a).sub (f.val b)).abs)
    (if x then (if a < b then b - a else a - b) else (sint t.w a - sint t.w b).natAbs) 0
/-- VSCL: exponents far beyond every format scale as the nearest bound does. -/
def vsclElem (t : ElemTy) (a b : Nat) : Nat :=
  byClass t (fun f => f.round .rne ((f.val a).scale (max (-8192) (min 8192 (sint t.w b))))) 0 0
def vfmaElem (t : ElemTy) (d a b : Nat) : Nat := byClass t (fun f => f.fma a b d) (a * b + d) 0
def vfmsElem (t : ElemTy) (d a b : Nat) : Nat := byClass t (fun f => f.fms a b d) (uint t.w ((d : Int) - a * b)) 0

def execVadd (f : V3) (s : State) : Res := vbin 4 tyFIK vaddElem f s
def execVsub (f : V3) (s : State) : Res := vbin 4 tyFIK vsubElem f s
def execVmul (f : V3) (s : State) : Res := vbin 4 tyFIK vmulElem f s
def execVdiv (f : V3) (s : State) : Res := vbin 20 tyF vdivElem f s
def execVsqrt (f : V2) (s : State) : Res := vun 20 tyF (vfunElem FpVal.sqrt) f s
def execVmin (f : V3x) (s : State) : Res := vbinx 2 tyFI (vminElem f.x) f s
def execVmax (f : V3x) (s : State) : Res := vbinx 2 tyFI (vmaxElem f.x) f s
def execVabs (f : V2) (s : State) : Res := vun 2 tyFI vabsElem f s
def execVneg (f : V2) (s : State) : Res := vun 2 tyFI vnegElem f s
def execVexp2 (f : V2) (s : State) : Res := vun 8 tyF (vfunElem FpVal.exp2) f s
def execVlog2 (f : V2) (s : State) : Res := vun 8 tyF (vfunElem FpVal.log2) f s
def execVrcp (f : V2) (s : State) : Res := vun 20 tyF (vfunElem FpVal.rcp) f s
def execVrsq (f : V2) (s : State) : Res := vun 20 tyF (vfunElem FpVal.rsq) f s
def execVand (f : V3) (s : State) : Res := vbits tyAll (fun _ a b => a &&& b) f s
def execVor (f : V3) (s : State) : Res := vbits tyAll (fun _ a b => a ||| b) f s
def execVxor (f : V3) (s : State) : Res := vbits tyAll (fun _ a b => a ^^^ b) f s
def execVshl (f : V3) (s : State) : Res := vbits tyI (fun w a b => a * 2 ^ (b % w)) f s
def execVshr (f : V3) (s : State) : Res := vbits tyI (fun w a b => a / 2 ^ (b % w)) f s
def execVsar (f : V3) (s : State) : Res := vbits tyI (fun w a b => uint w (sint w a / 2 ^ (b % w))) f s
def execVcls (f : V2) (s : State) : Res := vun 2 tyF (fun t a => byClass t (fun fm => fm.cls a) 0 0) f s
def execVround (f : Vround) (s : State) : Res :=
  vun 4 tyF (fun t a => byClass t (fun fm => fm.integral f.rm a) 0 0) ⟨f.g, f.d, f.a⟩ s
def execVmulh (f : V3x) (s : State) : Res := vbinx 4 tyI (vmulhElem f.x) f s
def execVabsd (f : V3x) (s : State) : Res := vbinx 4 tyFI (vabsdElem f.x) f s
def execVclz (f : V2) (s : State) : Res :=
  vun 2 tyI (fun t a => if a = 0 then t.w else t.w - 1 - Nat.log2 a) f s
def execVpopc (f : V2) (s : State) : Res :=
  vun 2 tyI (fun t a => ((List.range t.w).filter fun i => a.testBit i).length) f s
/-- VSCL: b is a scale exponent, taken as an integer. -/
def execVscl (f : V3) (s : State) : Res :=
  s.typed f.g tyF [] fun t s =>
    s.velementwise t f.d 4 (List.zipWith (vsclElem t) (s.velems t f.a) (s.vints t f.b))

/-- VFMA and VFMS also read their destination. -/
def vfused (op : ElemTy → Nat → Nat → Nat → Nat) (f : V3) (s : State) : Res :=
  s.typed f.g tyFI [f.a, f.b] fun t s =>
    let d := t.elems (s.vdstOld f.d)
    let a := s.velems t f.a
    let b := s.velems t f.b
    s.velementwise t f.d 4 ((List.range t.n).map fun i => op t (d.getD i 0) (a.getD i 0) (b.getD i 0))

def execVfma (f : V3) (s : State) : Res := vfused vfmaElem f s
def execVfms (f : V3) (s : State) : Res := vfused vfmsElem f s

/-! ### Compares, masks and votes (12 R314-R318) -/

/-- A condition of VCMP, VANY and VALL on two elements. -/
def vcond (t : ElemTy) (c : VCond) (a b : Nat) : Bool :=
  match t.cls with
  | .fp f =>
    let x := f.val a
    let y := f.val b
    match c with
    | .eq => x.eq y
    | .ne => !x.eq y
    | .lt => x.lt y
    | .le => x.lt y || x.eq y
    | .gt => y.lt x
    | .ge => y.lt x || x.eq y
    | .ltuUn => x.isNan || y.isNan
    | .geuOr => !(x.isNan || y.isNan)
  | _ =>
    let x := sint t.w a
    let y := sint t.w b
    match c with
    | .eq => a == b
    | .ne => a != b
    | .lt => x < y
    | .le => x ≤ y
    | .gt => y < x
    | .ge => y ≤ x
    | .ltuUn => a < b
    | .geuOr => b ≤ a

/-- Conditions that a type admits: K and C types take EQ and NE alone. -/
def vcondOk (c : VCond) (t : ElemTy) : Bool := t.isF || t.isI || c == .eq || c == .ne

/-- The condition of each element. -/
def State.vconds (s : State) (t : ElemTy) (c : VCond) (a b : Src) : List Bool :=
  List.zipWith (vcond t c) (s.velems t a) (s.velems t b)

def execVcmp (f : Vcmp) (s : State) : Res :=
  s.typed f.g (vcondOk f.cond) [f.a, f.b] fun t s =>
    let cs := s.vconds t f.cond f.a f.b
    let bit (j : Nat) : Bool :=
      let i := if t.n = 64 then j / 2 else j
      s.seat.active t.n i && cs.getD i false
    s.fly .v 3 (.mask f.k.val (BitVec.ofBoolListLE ((List.range 128).map bit)|>.setWidth 128)) none

def execVsel (f : V3) (s : State) : Res :=
  s.typed f.g tyAll [f.a, f.b] fun t s =>
    let a := s.velems t f.a
    let b := s.velems t f.b
    s.vwhole t f.d 2 ((List.range t.n).map fun i =>
      if s.seat.ksel.getLsbD (maskBit t.n i) then a.getD i 0 else b.getD i 0)

/-- A vote over the active elements, written to a pair. -/
def vote (all : Bool) (f : Vcmp) (s : State) : Res :=
  s.typed f.g (vcondOk f.cond) [f.a, f.b] fun t s =>
    let cs := s.vconds t f.cond f.a f.b
    let voters := ((List.range t.n).filter fun i => s.seat.active t.n i).map fun i => cs.getD i false
    s.fly .v 3 (.pair f.k.val (if all then voters.all id else voters.any id)) none

def execVany (f : Vcmp) (s : State) : Res := vote false f s
def execVall (f : Vcmp) (s : State) : Res := vote true f s
def execVanyMask (f : Vvotm) (s : State) : Res :=
  s.guarded f.g fun s => s.fly .v 3 (.pair f.j.val (tget 0 s.seat.k f.k.val != 0)) none
def execVallMask (f : Vvotm) (s : State) : Res :=
  s.guarded f.g fun s => s.fly .v 3 (.pair f.j.val (tget 0 s.seat.k f.k.val == BitVec.allOnes 128)) none

def execVkop (f : Vkop) (s : State) : Res :=
  s.guarded f.g fun s =>
    s.fly .v 2 (.mask f.d.val (maskApply f.op (tget 0 s.seat.k f.a.val) (tget 0 s.seat.k f.b.val))) none

def execVmovkToMask (f : Vmkto) (s : State) : Res :=
  s.guarded f.g fun s => s.fly .v 2 (.mask f.k.val ((s.vsrc (.int 64) f.a).setWidth 128)) none
def execVmovkToReg (f : Vmkfr) (s : State) : Res :=
  s.guarded f.g fun s => s.vresult f.d 2 ((tget 0 s.seat.k f.k.val).setWidth 4096)

/-! ### Lane movement (12 R319) -/

/-- A movement: element `i` of the result is element `src i` of a, where the index operand's elements are integers. -/
def vmove (src : ElemTy → List Nat → Nat → Nat) (f : V3) (s : State) : Res :=
  s.typed f.g tyAll [f.a] fun t s =>
    let a := s.velems t f.a
    let b := s.vints t f.b
    s.velementwise t f.d 2 ((List.range t.n).map fun i => a.getD (src t b i) 0)

def execVbcst (f : V3) (s : State) : Res := vmove (fun t b _ => b.getD 0 0 % t.n) f s
def execVxtr (f : V3) (s : State) : Res :=
  s.typed f.g tyAll [f.a] fun t s =>
    let a := s.velems t f.a
    s.vwhole t f.d 2 ((List.range t.n).map fun i => if i = 0 then a.getD ((s.vints t f.b).getD 0 0 % t.n) 0 else 0)
def execViota (f : V3) (s : State) : Res :=
  s.typed f.g tyFI [f.a, f.b] fun t s =>
    let a := s.velems t f.a
    let b := s.velems t f.b
    s.velementwise t f.d 2 ((List.range t.n).map fun i =>
      byClass t (fun fm => fm.round .rne ((fm.val (a.getD i 0)).add ((FpVal.ofInt i).mul (fm.val (b.getD i 0)))))
        (a.getD i 0 + i * b.getD i 0) 0)
def execVperm (f : V3) (s : State) : Res := vmove (fun t b i => b.getD i 0 % t.n) f s
def execVbfly (f : V3) (s : State) : Res := vmove (fun t b i => i ^^^ (b.getD 0 0 % t.n)) f s
def execVrotl (f : V3) (s : State) : Res := vmove (fun t b i => (i + t.n - b.getD 0 0 % t.n) % t.n) f s
def execVsplt (f : V3) (s : State) : Res :=
  vmove (fun t b i => i % (if 1 ≤ b.getD 0 0 ∧ b.getD 0 0 ≤ t.n then b.getD 0 0 else t.n)) f s

/-! ### Reductions (08 R233, 12 R320) -/

/-- One level of the tree. -/
def treeLevel (op : Nat → Nat → Nat) : List Nat → List Nat
  | x :: y :: t => op x y :: treeLevel op t
  | t => t

/-- The tree over 2^k elements. -/
def treeFold (op : Nat → Nat → Nat) : Nat → List Nat → List Nat
  | 0, l => l
  | k + 1, l => treeFold op k (treeLevel op l)

/-- Active elements with an identity for the rest, reduced, in element 0. -/
def State.vreduce (s : State) (t : ElemTy) (d : Dst) (lat : Nat) (ident : Nat) (op : Nat → Nat → Nat) (a : Src) : State :=
  let xs := s.velems t a
  let ys := (List.range t.n).map fun i => if s.seat.active t.n i then xs.getD i 0 else ident
  s.vresult d lat (BitVec.ofNat 4096 ((treeFold op 7 ys).getD 0 0 % 2 ^ t.w))

def execVreda (f : V2) (s : State) : Res :=
  s.typed f.g tyAll [f.a] fun t s =>
    match t.cls with
    | .fp fm => s.vreduce t f.d 12 (fm.zero true) fm.add f.a
    | .int => s.vreduce t f.d 12 0 (fun x y => (x + y) % 2 ^ t.w) f.a
    | .k27 => s.vreduce t f.d 12 0 k27Add f.a
    | .c32 => s.vreduce t f.d 12 0x8000000080000000 c32Add f.a

def execVredm (f : Vredm) (s : State) : Res :=
  s.typed f.g tyFI [f.a] fun t s =>
    match t.cls with
    | .fp fm => s.vreduce t f.d 8 fm.nan (if f.min then fm.min else fm.max) f.a
    | _ =>
      let ident :=
        if f.min then (if f.x then 2 ^ t.w - 1 else 2 ^ (t.w - 1) - 1) else (if f.x then 0 else 2 ^ (t.w - 1))
      s.vreduce t f.d 8 ident (if f.min then vminElem f.x t else vmaxElem f.x t) f.a

/-! ### Conversion, narrowing and packing (12 R321-R323) -/

/-- An element converted between two types (08 R213). 08 R218 has conversions write 0x80 for a NaN only; R213 gives 0 for a NaN and saturates to
the minimum, so for I8 the model writes 0 for a NaN and 0x80 for −128 and what lies below it. -/
def convert (rm : Rm) (t u : ElemTy) (x : Nat) : Nat :=
  match t.cls, u.cls with
  | .fp a, .fp b => b.round rm (a.val x)
  | .fp a, _ => uint u.w ((a.val x).toSat rm u.w)
  | _, .fp b => b.round rm (FpVal.ofInt (sint t.w x))
  | _, _ => uint u.w (sint t.w x)

def execVcvt (f : Vcvt) (s : State) : Res :=
  s.typed f.g tyFI [f.a] fun t s =>
    match elemTy f.toTy.val with
    | none => s
    | some u =>
      let r := (s.velems t f.a).map (convert f.rm t u)
      let half := if f.x then 64 else 0
      if t.n = u.n then s.vwhole u f.d 3 r
      else if t.n = 128 then s.vwhole u f.d 3 ((List.range 64).map fun i => r.getD (half + i) 0)
      else
        let old := s.vdstOld f.d
        s.vresult f.d 3 (ofLanes 32 ((List.range 128).map fun j =>
          if half ≤ j ∧ j < half + 64 then r.getD (j - half) 0
          else match f.d with
            | .latch => 0
            | _ => laneGet 32 old j))

/-- Range of a VSATN code, and the width it writes. -/
def satRange (p : Nat) : Int × Int × Nat :=
  if p = 0 then (-32768, 32767, 16) else if p = 1 then (-128, 127, 8) else (-127, 127, 8)

def execVsatn (f : Vpart) (s : State) : Res :=
  s.typed f.g (fun t => t.isI && (t.w == 32 || t.w == 16)) [f.a] fun t s =>
    let (lo, hi, w) := satRange f.p.val
    s.velementwise t f.d 3 ((s.velems t f.a).map fun x => uint w (max lo (min hi (sint t.w x))))

/-- Types of VPCK and VUPK. -/
def tyDense (t : ElemTy) : Bool := t.w == 16 || t.w == 8

/-- Bit offset of the block of a part. -/
def blockBit (t : ElemTy) (p : Nat) : Nat := p % (32 / t.w) * 128 * t.w

def execVpck (f : Vpart) (s : State) : Res :=
  s.typed f.g tyDense [f.a] fun t s =>
    let block := (s.velems t f.a).foldr (fun x a => x + a * 2 ^ t.w) 0
    let old := match f.d with
      | .latch => 0
      | _ => (s.vdstOld f.d).toNat
    let at_ := 2 ^ blockBit t f.p.val
    let size := 2 ^ (128 * t.w)
    s.vresult f.d 3 (BitVec.ofNat 4096 (old - old / at_ % size * at_ + block * at_))

def execVupk (f : Vpart) (s : State) : Res :=
  s.typed f.g tyDense [f.a] fun t s =>
    let block := (s.vsrcAs t t.form f.a).toNat / 2 ^ blockBit t f.p.val
    s.vwhole t f.d 3 ((List.range t.n).map fun i => block / 2 ^ (t.w * i) % 2 ^ t.w)

/-! ### Complex and compensated arithmetic (12 R324-R326) -/

/-- FP32 and FP64. -/
def tyWideF (t : ElemTy) : Bool := t.cls == .fp .f32 || t.cls == .fp .f64

/-- Complex products, pairs of elements at a time; value m is active when element 2m is. -/
def vcomplex (acc : Bool) (f : V3) (s : State) : Res :=
  s.typed f.g tyWideF [f.a, f.b] fun t s =>
    let fm := match t.cls with
      | .fp fm => fm
      | _ => .f32
    let v (xs : List Nat) (i : Nat) := fm.val (xs.getD i 0)
    let a := s.velems t f.a
    let b := s.velems t f.b
    let d := t.elems (s.vdstOld f.d)
    let old := s.vdstOld f.d
    s.vresult f.d 6 (ofLanes t.lane ((List.range t.n).map fun i =>
      let re := i / 2 * 2
      let im := re + 1
      if s.seat.active t.n re then
        let x := if i = re then (v a re).mul (v b re) else (v a re).mul (v b im)
        let y := if i = re then (v a im).mul (v b im) else (v a im).mul (v b re)
        let x := if acc then (v d i).add x else x
        fm.round .rne (if i = re then x.sub y else x.add y)
      else match f.d with
        | .latch => 0
        | _ => laneGet t.lane old i))

def execVcmul (f : V3) (s : State) : Res := vcomplex false f s
def execVcmac (f : V3) (s : State) : Res := vcomplex true f s

def execVtws (f : Vtws) (s : State) : Res :=
  s.typed f.g tyF [f.a, f.b] fun t s =>
    let fm := match t.cls with
      | .fp fm => fm
      | _ => .f32
    let r := List.zipWith fm.twoSum (s.velems t f.a) (s.velems t f.b)
    let dst (k : Nat) : Dst :=
      match f.p with
      | .regs i => let n := 2 * i.val + k
                   if n < 24 then .main (Fin.ofNat 24 n) else .opnd (Fin.ofNat 8 (n - 24))
      | .latch => .latch
    (s.velementwise t (dst 0) 4 (r.map (·.1))).velementwise t (dst 1) 4 (r.map (·.2))

def execVcadd (f : V3) (s : State) : Res := vbin 8 ElemTy.isC (fun _ a b => c32Add a b) f s

/-! ### Rotation, quantisation and residues (12 R327-R332) -/

def execVsgn (f : V3) (s : State) : Res :=
  s.typed f.g tyF [f.a] fun t s =>
    let b := s.vscalar f.b
    let a := s.velems t f.a
    s.velementwise t f.d 2 ((List.range t.n).map fun i => signFlip t.w (a.getD i 0) (b + i))

/-- The two blocks of 64 elements. -/
def blocks (xs : List Nat) : List (List Nat) := [xs.take 64, xs.drop 64]

def execVhad (f : V2) (s : State) : Res :=
  s.typed f.g ElemTy.isF32 [f.a] fun t s =>
    s.vwhole t f.d 8 ((blocks (s.velems t f.a)).flatMap hadamard)

/-- A block quantised: code in [7:0], scale in [15:8] (12 R329). -/
def quantBlock (y : List Nat) : List Nat :=
  let h := hadamard y
  let e := blockScale h
  h.map fun x => quantise e x % 256 + scaleCode e % 256 * 256

def execVqnt (f : V3) (s : State) : Res :=
  s.typed f.g ElemTy.isF32 [f.a] fun t s =>
    let b := s.vscalar f.b
    let a := s.velems t f.a
    let y := (List.range t.n).map fun i => signFlip 32 (a.getD i 0) (b + i)
    s.vwhole t f.d 12 ((blocks y).flatMap quantBlock)

def execVdq (f : V2) (s : State) : Res :=
  vun 4 ElemTy.isF32 (fun _ a => dequantise (a % 256) (a / 256 % 256)) f s

/-- I32 and K27. -/
def tyResidue (t : ElemTy) : Bool := t.isK || (t.isI && t.w == 32)

def execVcrt (f : V2) (s : State) : Res :=
  vun 8 tyResidue (fun _ a => match k27Crt a with
    | some v => uint 32 v
    | none => 0x80000000) f s
def execVres (f : V2) (s : State) : Res := vun 3 tyResidue (fun _ a => k27OfInt false (sint 32 a)) f s

/-- VMIX: 64 elements of 64 bits, whatever VTYPE says. -/
def execVmix (f : V3) (s : State) : Res :=
  s.guarded f.g fun s =>
    let t : ElemTy := ⟨.int, 64, 64⟩
    s.vresult f.d 8 (ofLanes 64 (List.zipWith (fun a b => mix64 ((a + b) % 2 ^ 64)) (s.vints t f.a) (s.vints t f.b)))

/-! ### Type setting and clearing (12 R333) -/

def execVsett (f : Vsett) (s : State) : Res :=
  s.guarded f.g fun s =>
    s.fly .v 1 (.csr 9 (BitVec.ofNat 64 ((if f.men then 128 else 0) + f.ksel.val * 16 + f.et.val))) none

def execVzero (f : V1) (s : State) : Res := s.guarded f.g fun s => s.vresult f.d 1 0

end Sys2Proof.Machine
end

