-- ==== Sys2Proof/Machine/Memory.lean ====
section
/-! DEFINITION. The L slots that read and write entries, memory and the basin (14 R357-R361, R369-R372): loads, stores, gathers,
scatters, atomics, and the fields of layout table entries. -/

namespace Sys2Proof.Machine

/-! ### Layout table entries (14 R357, R358; 01 R34, R35) -/

/-- The LTE protection fault (01 R34). -/
def State.protect (s : State) (e : Nat) : State := s.raise 10 (accessTval e 0 0 0)

/-- LOCK of an entry. -/
def lteLocked (b : LteBits) : Bool := lteRead b 17 == 1

def execLtset (f : Ltset) (s : State) : Res :=
  s.effectful f.g fun s =>
    let e := f.e.val
    if !s.seat.sup && (!lteUserField f.code.val || lteLocked (s.seat.entry e)) then s.protect e
    else s.fly (lUnit f.x) 2 (.lteField e f.code.val (s.srcInt (lUnit f.x) f.a)) none

/-- A field as LTGET gives it: STEP0-STEP3 sign-extended. -/
def ltGet (b : LteBits) (code : Nat) : Word :=
  if 6 ≤ code ∧ code ≤ 9 then BitVec.ofInt 64 (stride32 (lteRead b code)) else BitVec.ofNat 64 (lteRead b code)

def execLtget (f : Ltget) (s : State) : Res :=
  s.guarded f.g fun s => s.result (lUnit f.x) f.d 2 (ltGet (s.seat.entry f.e.val) f.code.val)

def execLtcpy (f : Ltcpy) (s : State) : Res :=
  s.effectful f.g fun s =>
    let d := f.ed.val
    if !s.seat.sup && lteLocked (s.seat.entry d) then s.protect d
    else s.fly (lUnit f.x) 2 (.lteAll d (s.seat.entry f.es.val)) none

def execLthdr (f : Ldeb) (s : State) : Res :=
  s.guarded f.g fun s =>
    let u := lUnit f.x
    s.result u f.d 2 (BitVec.ofNat 64 (lteRead (s.seat.entry f.e.val) 12) + s.srcInt u f.b)

/-- The LTE format fault (01 R21). -/
def State.badFormat (s : State) (e : Nat) : State := s.raise 9 (accessTval e 0 0 0)

def execBind (f : Lea) (s : State) : Res :=
  s.effectful f.g fun s =>
    let e := f.e.val
    let v := s.srcInt (lUnit f.x) f.a
    let sync := field v 3 0
    if sync = 0 ∨ 9 ≤ sync then s.badFormat e
    else if !s.seat.sup && lteLocked (s.seat.entry e) then s.protect e
    else s.fly (lUnit f.x) 2 (.lteBind e sync (field v 23 4)) none

def execUnbd (f : Le) (s : State) : Res :=
  s.effectful f.g fun s =>
    let e := f.e.val
    if !s.seat.sup && lteLocked (s.seat.entry e) then s.protect e
    else s.fly (lUnit f.x) 2 (.lteField e 16 0) none

/-! ### Values of bytes (14 R359, R360) -/

/-- Bytes cut into pieces of `k`. -/
def chunks (k : Nat) : Nat → List Byte → List (List Byte)
  | 0, _ => []
  | n + 1, bs => bs.take k :: chunks k n (bs.drop k)

/-- Bits of the lane of an element of `size` bytes. -/
def laneOf (size : Nat) : Nat := if size = 8 then 64 else 32

/-- A word of `size` bytes, sign-extended when `sx`. -/
def extend (size : Nat) (sx : Bool) (n : Nat) : Word :=
  if sx then BitVec.ofInt 64 (sint (8 * size) n) else BitVec.ofNat 64 n

/-- The value of a load from its bytes. -/
def formValue (form : LoadForm) (bs : List Byte) : Vec :=
  match form with
  | .scalar size sx => (extend size sx (leNat bs)).setWidth 4096
  | .lanes size => ofLanes (laneOf size) ((chunks size (bs.length / size) bs).map leNat)
  | .raw => BitVec.ofNat 4096 (leNat bs)
  | .gather size lanes =>
    let cells := (lanes.zip (chunks size lanes.length bs)).foldl (fun (t : Tab Nat) p => tput t p.1 (leNat p.2)) []
    ofLanes (laneOf size) ((List.range (4096 / laneOf size)).map fun i => tget 0 cells i)
  | .old size etype => (extend size (etype == 6) (leNat bs)).setWidth 4096
  | .digest => BitVec.ofNat 4096 (leNat (sha256 bs))

/-! ### Loads -/

/-- Scratchpad lines and basin rows that an access through the L port touches (02 R43, R46). -/
def State.touch (s : State) (b : LteBits) (xs : List Spot) : State :=
  if lteSpace b = 1 then { s with cx := { s.cx with banks := s.cx.banks ++ granules xs } }
  else if lteSpace b = 2 then { s with cx := { s.cx with rows := s.cx.rows ++ (xs.map fun x => offsetOf x.flat / 256) } }
  else s

/-- Read requests of core `c` over the Flume: one message per run (14 R532). -/
def State.askFlume (s : State) (c id job : Nat) (b : LteBits) (addrs : List Nat) : State × List (Nat × Nat × Nat) :=
  let d := dieOf c
  (runs 256 addrs).foldl (fun (p : State × List (Nat × Nat × Nat)) r =>
    let tag := freeTag (p.1.tagsInUse d ++ p.2.map (·.1))
    let m : BeMsg := ⟨id, 1, tag, stationOf (lteDie b), tgtOf (lteSub b) (lteCore b 0) (offsetOf r.1), 2, BitVec.ofNat 2048 r.2, 0, job⟩
    (p.1.enqueue (stationOf d) m, p.2 ++ [(tag, r.1, r.2)])) (s, [])

/-- The request of core `c` for a run of bytes of a peer package. -/
def State.readPacket (s : State) (c tenant job : Nat) (b : LteBits) (r : Nat × Nat) : Packet :=
  s.packetTo 0 1 (ltePackage b) (lteCore b (lteDie b)) c (lteSub b) tenant job r.1 r.2

/-- Read requests of core `c` to a peer package: one packet per run (14 R532). -/
def State.askCanal (s : State) (c tenant job : Nat) (b : LteBits) (addrs : List Nat) : State × List Nat :=
  (runs 512 addrs).foldl (fun (p : State × List Nat) r =>
    let (num, s) := p.1.askPeer c (ltePackage b) (p.1.readPacket c tenant job b r) .trip r.1 r.2
    (s, p.2 ++ [num])) (s, [])

/-- Payload of an atomic request message: operand, compare value, operation, element type, size. -/
def atomicPayload (a : Atomic) (code : Nat) : BitVec 2048 :=
  BitVec.ofNat 2048 (a.operand.toNat + a.compare.toNat * 2 ^ 64 + code * 2 ^ 128 + a.etype * 2 ^ 136 + a.size * 2 ^ 144)

/-- AOP[4:1] of an atomic (05 R125). -/
def AtomicOp.code : AtomicOp → Nat
  | .add => 0 | .addf => 1 | .addk => 2 | .min => 3 | .max => 4 | .minu => 5 | .maxu => 6 | .xch => 7 | .cas => 8
  | .and => 9 | .or => 10 | .xor => 11

/-- A question under a horizon of 800 leaves (02 R49). -/
def State.ask (s : State) (u : UnitId) (e : Effect) (q : Query) : State :=
  let (id, s) := s.newTrip
  s.flyLoad u 800 e true none (.inl ⟨id, [], [], .raw, none, [], .asking q, s.seat.tenant, none, 3, 0, [], false⟩)

/-- The requests of a trip of core `c` through an entry leave for its home (02 R49, 14 R371, R532): the route they take. -/
def State.depart (s : State) (c job : Nat) (b : LteBits) (t : Trip) : Route × State :=
  let flat := t.addrs.headD 0
  if lteSpace b = 7 then
    match t.atomic with
    | none => let (s, nums) := s.askCanal c t.tenant job b t.addrs; (.canal (ltePackage b) nums, s)
    | some a =>
      let k := s.packetTo 3 1 (ltePackage b) (lteCore b (lteDie b)) c (lteSub b) t.tenant job flat a.size
      let k := { k with aop := BitVec.ofNat 5 (a.op.code * 2 + (if a.size = 8 then 1 else 0)), opa := a.operand, opb := a.compare }
      let (num, s) := s.askPeer c (ltePackage b) k .trip flat a.size
      (.canal (ltePackage b) [num], s)
  else if overFlume c b then
    match t.atomic with
    | none => let (s, tags) := s.askFlume c t.id job b t.addrs; (.flume tags, s)
    | some a =>
      let tag := freeTag (s.tagsInUse (dieOf c))
      let m : BeMsg :=
        ⟨t.id, 4, tag, stationOf (lteDie b), tgtOf (lteSub b) (lteCore b 0) (offsetOf flat), 19, atomicPayload a a.op.code, 0, job⟩
      (.flume [(tag, flat, a.size)], s.enqueue (stationOf (dieOf c)) m)
  else (.direct, s)

/-- Whether the requests of a trip of seat `n` may leave: its selector read has returned (01 R531), what is ordered before it has left
(06 R155), and a die has tags for its messages (04 R110). -/
def State.mayDepart (s : State) (c n : Nat) (b : LteBits) (t : Trip) : Bool :=
  s.performed t.after &&
    (if lteSpace b = 7 then (runs 512 t.addrs).all fun r => (s.heldBefore c n t.id (s.readPacket c t.tenant 0 b r)).isEmpty
     else !overFlume c b || (s.mayJoin c n t.id t.touches && (s.tagsInUse (dieOf c)).length + (runs 256 t.addrs).length ≤ 256))

/-- Reads of a seat's remote operand stream that meet a test, changed (13 R346). -/
def State.onStream (s : State) (c n : Nat) (p : StreamRead → Bool) (f : StreamRead → StreamRead) : State :=
  s.onSeat c n fun st => { st with stream := st.stream.map fun t => { t with reads := adjust p f t.reads } }

/-- Whether an access of the issuing seat is performed in its issue cycle: through the L port, with its selector read there, after
everything earlier of the seat at those bytes (01 R531; 06 R155, R156). -/
def State.atPort (s : State) (b : LteBits) (addrs : List Nat) : Bool :=
  throughPort b && selectorHorizon s.cx.core b == 0 && s.firstThere s.cx.core s.cx.seat s.nextPost addrs

/-- The L unit a slot word names, as the rank of its misses (03 R74). -/
def slotRank (word : Nat) : Nat := word / 2 ^ 22 % 2

/-- A load or an atomic of the issuing slot sets out: at once, or once it may. -/
def State.setOut (s : State) (u : UnitId) (lat : Nat) (e : Effect) (latch : Bool) (gran : Option Nat) (b : LteBits) (t : Nat → Trip) : State :=
  let (id, s) := s.newTrip
  let (sel, s) := s.askSelector (s.myItem 4) s.cx.core b s.stamp
  let t := { t id with after := sel, named := namesCore b }
  if s.mayDepart s.cx.core s.cx.seat b t then
    let (r, s) := s.depart s.cx.core s.seat.job b t
    s.flyLoad u lat e latch gran (.inl { t with route := r })
  else s.flyLoad u lat e latch gran (.inl { t with route := .waiting b })

/-- A checked load: its value now, or a trip to its home (02 R49). -/
def State.fetch (s : State) (u : UnitId) (f : Formed) (xs : List Spot) (form : LoadForm) (spad basin : Nat) (e : Effect) (latch : Bool) : State :=
  let c := s.cx.core
  let lat := accessLatency c f.bits spad basin xs
  let addrs := spotBytes f.size xs
  let gran := match form with
    | .scalar _ _ => (xs.head?).map fun x => if lteSpace f.bits = 7 then 2 ^ 100 + x.flat / 64 else x.flat / 64
    | _ => none
  let s1 := s.touch f.bits xs
  if s.atPort f.bits addrs then
    (s1.flyLoad u lat e latch gran (.inr (formValue form (addrs.map s.byte)))).armSpin c s.cx.seat (s.me.idx * 16 + s.cx.pos) gran
  else
    (s1.noteMisses s.issuing (slotRank s.cx.word) xs).setOut u lat e latch gran f.bits fun id =>
      ⟨id, addrs, [], form, none, spotKeys xs, .direct, s.seat.tenant, syncObject c f.bits, accessReach c f.bits xs, 0, [], false⟩

/-- A formed and translated access acts, or its fault is raised. -/
def State.accessing (s : State) (w : Issuing) (u : Use) (e : Nat) (cs : List Nat) (n : Nat) (lanes : List Nat)
    (act : Formed → List Spot → State → State) : State :=
  match s.form w u e 0 (s.seat.entry e) cs n with
  | .error f => s.raise f.cause f.tval
  | .ok f =>
    match s.spots w u f lanes with
    | .error x => s.raise x.cause x.tval
    | .ok xs => act f xs s

/-- Elements of a vector access of an entry (14 R359). -/
def vecCount (b : LteBits) : Nat := if lteSize b = 8 then 64 else 128

/-- The file effect of a destination. -/
def State.fileEffect (s : State) (u : UnitId) (d : Dst) : Effect :=
  match dstPhys s.seat.rrb d with
  | some ix => .file u ix 0
  | none => .nothing
def State.vfileEffect (s : State) (d : Dst) : Effect :=
  match dstPhys s.seat.rrb d with
  | some ix => .vfile ix 0
  | none => .nothing

def execSld (f : Lsld) (s : State) : Res :=
  s.guarded f.g fun s =>
    let u := lUnit f.x
    s.accessing s.issuing .load f.e.val (coords (s.srcInt u f.a)) 1 [0] fun fm xs s =>
      s.fetch u fm xs (.scalar fm.size f.sx) 6 10 (s.fileEffect u f.d) true

def execVld (f : Ldae) (s : State) : Res :=
  s.guarded f.g fun s =>
    let u := lUnit f.x
    let n := vecCount (s.seat.entry f.e.val)
    s.accessing s.issuing .load f.e.val (coords (s.srcInt u f.a)) n (List.range n) fun fm xs s =>
      s.fetch .v fm xs (.lanes fm.size) 8 10 (s.vfileEffect f.d) true

/-- A raw access stores its elements densely: STEP0 must equal the size (14 R359). -/
def rawBad (b : LteBits) : Bool := stride32 (lteRead b 6) != lteSize b

def execVldRaw (f : Ldae) (s : State) : Res :=
  s.guarded f.g fun s =>
    let u := lUnit f.x
    let b := s.seat.entry f.e.val
    let n := 512 / lteSize b
    s.accessing { s.issuing with bad := rawBad b } .load f.e.val (coords (s.srcInt u f.a)) n (List.range n) fun fm xs s =>
      s.fetch .v fm xs .raw 8 10 (s.vfileEffect f.d) true

/-- Lane whose coordinates element `i` of a gather or scatter of `n` uses (14 R360). -/
def coordLane (n i : Nat) : Nat := if n = 64 then 2 * i else i

/-- Every lane of a gather or scatter of `n` checked in ascending order, then its spot (01 R20). -/
def State.laneSpots (s : State) (w : Issuing) (u : Use) (e n : Nat) (cs : Nat → List Nat) : List Nat → Except Fail (List Spot)
  | [] => .ok []
  | i :: t =>
    match s.form w u e (coordLane n i) (s.seat.entry e) (cs i) 1 with
    | .error f => .error f
    | .ok f =>
      match s.spots w u f [0] with
      | .error x => .error x
      | .ok xs =>
        match s.laneSpots w u e n cs t with
        | .error x => .error x
        | .ok ys => .ok (xs.map (fun x => { x with lane := i }) ++ ys)

/-- Coordinates of element `i` of a gather or scatter (14 R360). -/
def laneCoords (v : Vec) (n i : Nat) : List Nat :=
  let x := laneGet 32 v (coordLane n i)
  [x % 65536, x / 65536, 0, 0]

/-- The checks of an entry that do not depend on lanes, for a gather or scatter without active lanes. -/
def State.formOf (s : State) (e : Nat) : Formed := ⟨e, s.seat.entry e, lteSize (s.seat.entry e), []⟩

/-- Active elements of an access of `n` (14 R359). -/
def State.activeLanes (s : State) (n : Nat) : List Nat :=
  (List.range n).filter fun i => !s.seat.men || s.seat.ksel.getLsbD (if n = 64 then 2 * i else i)

def execVgth (f : Ldae) (s : State) : Res :=
  s.guarded f.g fun s =>
    let e := f.e.val
    let n := vecCount (s.seat.entry e)
    let v := s.vsrc (.int 64) f.a
    match s.laneSpots s.issuing .load e n (laneCoords v n) (s.activeLanes n) with
    | .error x => s.raise x.cause x.tval
    | .ok [] => s.fly .v (accessLatency s.cx.core (s.seat.entry e) 10 12 []) (s.vfileEffect f.d) (some 0)
    | .ok xs =>
      let fm := s.formOf e
      s.fetch .v fm xs (.gather fm.size (s.activeLanes n)) 10 12 (s.vfileEffect f.d) true

/-! ### Stores -/

/-- Bytes of spots with their values. -/
def spotWrites (xs : List Spot) (bytes : Nat → List Byte) : List (Nat × Byte) :=
  xs.flatMap fun x => placed x.flat (bytes x.lane)

/-- A posted write of the issuing seat per 64 B granule, ascending (14 R532), each with the scope of its own home (06 R160). -/
def State.postGranules (s : State) (b : LteBits) (xs : List Spot) (after : List Nat) (bytes : Nat → List Byte) : State :=
  (granules xs).foldl (fun s g =>
    let ys := xs.filter fun x => x.flat / 64 == g
    let x := ys.head?
    s.post { s.myItem (homeReach s.cx.core (homeOf (64 * g))) with
      kind := .write (spotWrites ys bytes) (x.bind (·.material)), bound := syncObject s.cx.core b, after := after, named := namesCore b
      va := x.bind (·.va), leaf := x.bind (·.leaf) }) s

/-- Scope that holds the home of an entry of another die (06 R160). -/
def dieReach (b : LteBits) : Nat := if lteSub b = 2 then 2 else 3

/-- A message of the issuing seat leaves for a die; it is held while a selector read travels (01 R531), or something earlier of the seat that
is ordered before it (06 R155). -/
def State.sendMine (s : State) (b : LteBits) (m : BeMsg) (after : List Nat) : State :=
  let src := stationOf (dieOf s.cx.core)
  let item := { s.myItem (dieReach b) with bound := syncObject s.cx.core b, after := after, named := true }
  if after.isEmpty && s.mayJoin s.cx.core s.cx.seat m.id m.addrs then (s.post { item with kind := .message m }).enqueue src m
  else s.post { item with kind := .heldMessage src m }

/-- A best-effort write per run of bytes (14 R532). -/
def State.postMessages (s : State) (b : LteBits) (bs : List (Nat × Byte)) (after : List Nat) : State :=
  let mem : Tab Byte := bs.foldl (fun t p => tput t p.1 p.2) []
  (runs 256 (mem.map (·.1))).foldl (fun s r =>
    let data := leNat ((List.range r.2).map fun i => tget 0 mem (r.1 + i))
    s.sendMine b ⟨s.nextPost, 0, 0, stationOf (lteDie b), tgtOf (lteSub b) (lteCore b 0) (offsetOf r.1), r.2, BitVec.ofNat 2048 data, 0,
      s.seat.job⟩ after) s

/-- A posted Canal write of the issuing seat per part (05 R522). -/
def State.postCanal (s : State) (b : LteBits) (bs : List (Nat × Byte)) (after : List Nat) : State :=
  (canalParts bs).foldl (fun s p =>
    let peer := ltePackage b
    let k := s.packetTo 2 3 peer (lteCore b (lteDie b)) s.cx.core (lteSub b) s.seat.tenant s.seat.job p.1 p.2.length
    let k := { k with payload := p.2, pfl := BitVec.ofNat 4 (units p.2.length) }
    s.postPacket { s.myItem 3 with bound := syncObject s.cx.core b } peer k (some (lteRead b 21))
      (after ++ s.heldBefore s.cx.core s.cx.seat s.nextPost k)) s

/-- Whether a CANAL write fits its window now (05 R139). -/
def State.windowFull (s : State) (win : Nat) (parts : List (Nat × List Byte)) : Bool :=
  let x := tget Wallow.reset s.wallow win
  x.out + parts.foldl (fun n p => n + units p.2.length) 0 > x.limit

/-- What a test of translated writes says of the spots of an access. -/
def State.spotTest (s : State) (d ctx : Nat) (test : State → Nat → Nat → Nat → Leaf → Option α) (xs : List Spot) : Option (Spot × α) :=
  xs.findSome? fun x => match x.leaf, x.va with
    | some l, some va => (test s d ctx va l).map fun t => (x, t)
    | _, _ => none

/-- A write to an ARMED granule is held (03 R70). -/
def State.holds (s : State) (d ctx va : Nat) (l : Leaf) : Option Unit := if s.heldArmed d ctx va l then some () else none

/-- A checked store leaves as posted work, once the items `after` are performed (01 R531). -/
def State.postStore (s : State) (f : Formed) (xs : List Spot) (bytes : Nat → List Byte) (after : List Nat) : State :=
  if lteSpace f.bits = 7 then s.postCanal f.bits (spotWrites xs bytes) after
  else if overFlume s.cx.core f.bits then s.postMessages f.bits (spotWrites xs bytes) after
  else s.postGranules f.bits xs after bytes

/-- A checked store (02 R51, 06 R153): performed in its issue cycle through the L port, posted elsewhere, and posted until its selector read
returns (01 R531); stalled by an ARMED granule or a full window. -/
def State.put (s : State) (f : Formed) (xs : List Spot) (bytes : Nat → List Byte) : State :=
  let d := dieOf s.cx.core
  let bs := spotWrites xs bytes
  let s1 := s.touch f.bits xs
  if s.atPort f.bits (bs.map (·.1)) then (s1.writeBytes none bs).countWrite
  else
    let s2 := s1.noteMisses s.issuing (slotRank s.cx.word) xs
    match s2.spotTest d s.seat.ctx State.mapFault xs with
    | some (_, t) => s.raise 15 t
    | none =>
      match s2.spotTest d s.seat.ctx State.holds xs with
      | some (x, _) => s2.stall (s2.waitFor (.armed (x.va.getD 0)))
      | none =>
        if lteSpace f.bits == 7 && s2.windowFull (lteRead f.bits 21) (canalParts bs) then s2.stall (s2.waitFor .window)
        else
          let (sel, s3) := s2.askSelector (s2.myItem 4) s.cx.core f.bits s.stamp
          (s3.postStore f xs bytes sel).countWrite

/-- How a data operand takes a constant, by ETYPE (09 R243). -/
def etypeForm : Nat → ConstForm
  | 0 | 1 | 2 => .int 8
  | 3 => .int 16
  | 4 => .fp .b16
  | 5 => .fp .f16
  | 6 => .int 32
  | 7 => .fp .f32
  | 8 => .k27
  | 10 => .fp .f64
  | 11 => .c32
  | _ => .int 64

/-- Code 58 in a data operand of an integer or K27 entry: the LTE format fault (09 R530). -/
def halfBad (b : LteBits) (x : Src) : Bool :=
  srcIsHalf x && (match etypeForm (lteRead b 11) with
    | .int _ => true
    | .k27 => true
    | _ => false)

/-- Data of a V operand of a store: element `i` of `size` bytes (14 R359). -/
def laneBytes (size : Nat) (v : Vec) (i : Nat) : List Byte := leBytes size (laneGet (laneOf size) v i)

def execSst (f : Leab) (s : State) : Res :=
  s.guarded f.g fun s =>
    let u := lUnit f.x
    let e := f.e.val
    let b := s.seat.entry e
    let v := s.src u (etypeForm (lteRead b 11)) f.a
    s.accessing { s.issuing with bad := halfBad b f.a } .store e (coords (s.srcInt u f.b)) 1 [0] fun fm xs s =>
      s.put fm xs fun _ => leBytes fm.size v.toNat

def execVst (f : Leab) (s : State) : Res :=
  s.guarded f.g fun s =>
    let e := f.e.val
    let b := s.seat.entry e
    let n := vecCount b
    let v := s.vsrc (etypeForm (lteRead b 11)) f.a
    s.accessing { s.issuing with bad := halfBad b f.a } .store e (coords (s.srcInt (lUnit f.x) f.b)) n (s.activeLanes n) fun fm xs s =>
      s.put fm xs (laneBytes fm.size v)

def execVstRaw (f : Leab) (s : State) : Res :=
  s.guarded f.g fun s =>
    let e := f.e.val
    let b := s.seat.entry e
    let n := 512 / lteSize b
    let v := s.vsrc (etypeForm (lteRead b 11)) f.a
    s.accessing { s.issuing with bad := rawBad b || halfBad b f.a } .store e (coords (s.srcInt (lUnit f.x) f.b)) n (List.range n)
      fun fm xs s => s.put fm xs fun i => leBytes fm.size (v.toNat / 2 ^ (8 * fm.size * i))

/-- A scatter; with no lane active it accesses nothing, and its data operand alone is judged (09 R530). -/
def execVsct (f : Leab) (s : State) : Res :=
  s.guarded f.g fun s =>
    let e := f.e.val
    let b := s.seat.entry e
    let n := vecCount b
    let v := s.vsrc (etypeForm (lteRead b 11)) f.a
    let cs := s.vsrc (.int 64) f.b
    match s.laneSpots { s.issuing with bad := halfBad b f.a } .store e n (laneCoords cs n) (s.activeLanes n) with
    | .error x => s.raise x.cause x.tval
    | .ok xs =>
      if xs.isEmpty && halfBad b f.a then s.raise 9 (accessTval e 0 0 0)
      else
      let fm := s.formOf e
      s.put fm xs (laneBytes fm.size v)

/-! ### The own basin by row (14 R361) -/

/-- The row pair of a row operand. -/
def rowPair (w : Word) : Nat := w.toNat % 2048 / 2 * 2

def State.touchRows (s : State) (r : Nat) : State := { s with cx := { s.cx with rows := s.cx.rows ++ [r, r + 1] } }

/-- The own basin's bytes of a row pair as an access of an entry would name them: element size 1, no entry, no binding. -/
def State.pairSpots (s : State) (r : Nat) : List Spot :=
  (List.range 512).map fun i => ⟨i, (Home.basin s.cx.core).at (r * 256 + i), none, none, none⟩

/-- An entry of the own basin without a binding, which BLD, BST and BZERO act as accesses of. -/
def basinEntry : LteBits := ltePut 0 0 63 60 2

def execBld (f : Lda) (s : State) : Res :=
  s.effectful f.g fun s =>
    let r := rowPair (s.srcInt (lUnit f.x) f.a)
    let a := (Home.basin s.cx.core).at (r * 256)
    let addrs := (List.range 512).map (a + ·)
    if s.firstThere s.cx.core s.cx.seat s.nextPost addrs then
      (s.touchRows r).vresult f.d 10 (BitVec.ofNat 4096 (s.loadNat a 512))
    else
      (s.touchRows r).setOut .v 10 (s.vfileEffect f.d) true none basinEntry fun id =>
        ⟨id, addrs, [], .raw, none, [], .direct, s.seat.tenant, none, 0, 0, [], false⟩

/-- 512 bytes written to a row pair of the own basin: in the issue cycle, or posted behind what the seat has still posted there. -/
def State.putPair (s : State) (r : Nat) (v : Vec) : State :=
  let bs := placed ((Home.basin s.cx.core).at (r * 256)) (leBytes 512 v.toNat)
  let t := s.touchRows r
  if s.firstThere s.cx.core s.cx.seat s.nextPost (bs.map (·.1)) then (t.writeBytes none bs).countWrite
  else (t.postGranules basinEntry (s.pairSpots r) [] fun i => [BitVec.ofNat 8 (v.toNat / 2 ^ (8 * i))]).countWrite

def execBst (f : Lab) (s : State) : Res :=
  s.effectful f.g fun s => s.putPair (rowPair (s.srcInt (lUnit f.x) f.b)) (s.vsrc (.int 64) f.a)

def execBzero (f : La) (s : State) : Res :=
  s.effectful f.g fun s => s.putPair (rowPair (s.srcInt (lUnit f.x) f.a)) 0

/-! ### Atomics (14 R370, R371; 06 R157) -/

/-- The new word of an atomic (14 R370): width in bytes, element type, old word, operand, compare value. -/
def atomicNew (op : AtomicOp) (size etype x y cmp : Nat) : Nat :=
  let w := 8 * size
  let m := 2 ^ w
  let f := if etype = 10 then FpFmt.f64 else .f32
  match op with
  | .add => (x + y) % m
  | .addf => f.add (x % m) (y % m) % m
  | .addk => k27Add (x % m) (y % m) % m
  | .min => if sint w x ≤ sint w y then x else y % m
  | .max => if sint w y ≤ sint w x then x else y % m
  | .minu => if x ≤ y % m then x else y % m
  | .maxu => if y % m ≤ x then x else y % m
  | .xch => y % m
  | .cas => if x = cmp % m then y % m else x
  | .and => x &&& (y % m)
  | .or => x ||| (y % m)
  | .xor => x ^^^ (y % m)

/-- The read-modify-write at the home; the old word and the state after. -/
def State.atomicAt (s : State) (a : Atomic) (flat : Nat) : Nat × State :=
  let x := s.loadNat flat a.size
  (x, s.writeBytes none (placed flat (leBytes a.size (atomicNew a.op a.size a.etype x a.operand.toNat a.compare.toNat))))

/-- Types and sizes an atomic admits. -/
def atomicOk (op : AtomicOp) (b : LteBits) : Bool :=
  let t := lteRead b 11
  match op with
  | .addf => t == 7 || t == 10
  | .addk => t == 8
  | _ => lteSize b == 4 || lteSize b == 8

/-- Whether an entry reaches basin-class memory (02 R53). -/
def basinClass (b : LteBits) : Bool :=
  match lteSpace b with
  | 2 | 3 | 8 => true
  | 4 | 5 => lteSub b == 1
  | 7 => lteSub b == 1 || lteSub b == 2
  | _ => false

/-- A checked atomic: at once in the own basin, else on a trip. -/
def State.atomicTrip (s : State) (u : UnitId) (f : Formed) (xs : List Spot) (a : Atomic) : State :=
  let c := s.cx.core
  let flat := (xs.head?.map (·.flat)).getD 0
  let lat := accessLatency c f.bits 12 12 xs
  let form := LoadForm.old a.size a.etype
  let addrs := spotBytes f.size xs
  if s.atPort f.bits (objectBytes addrs) then
    let (old, s) := s.atomicAt a flat
    ((s.touch f.bits xs).countWrite).flyLoad u lat .nothing true none (.inr ((extend a.size (a.etype == 6) old).setWidth 4096))
  else
    ((s.touch f.bits xs).setOut u lat .nothing true none f.bits fun id =>
      ⟨id, addrs, [], form, some a, [], .direct, s.seat.tenant, syncObject c f.bits, accessReach c f.bits xs, s.seat.writes, [], false⟩).countWrite

/-- An atomic slot: entry, coordinate, operand and compare value. -/
def State.atomic (s : State) (x : Bool) (op : AtomicOp) (e : Nat) (a : Src) (operand compare : Word) (bad : Bool) : State :=
  let u := lUnit x
  let b := s.seat.entry e
  let w := { s.issuing with bad := bad || !atomicOk op b, noAtomic := !basinClass b }
  s.accessing w .atomic e (coords (s.srcInt u a)) 1 [0] fun fm xs s =>
    s.atomicTrip u fm xs ⟨op, fm.size, lteRead b 11, operand, compare⟩

/-- The eleven atomics of one operand. -/
def atomicOp (op : AtomicOp) (f : Leab) (s : State) : Res :=
  s.effectful f.g fun s =>
    let b := s.seat.entry f.e.val
    let form := match op with
      | .addk => ConstForm.k27
      | .addf | .xch => etypeForm (lteRead b 11)
      | _ => .int 64
    s.atomic f.x op f.e.val f.a (s.src (lUnit f.x) form f.b) 0 ((op == .addf || op == .xch) && halfBad b f.b)

def execAadd (f : Leab) (s : State) : Res := atomicOp .add f s
def execAaddf (f : Leab) (s : State) : Res := atomicOp .addf f s
def execAaddk (f : Leab) (s : State) : Res := atomicOp .addk f s
def execAmin (f : Leab) (s : State) : Res := atomicOp .min f s
def execAmax (f : Leab) (s : State) : Res := atomicOp .max f s
def execAminu (f : Leab) (s : State) : Res := atomicOp .minu f s
def execAmaxu (f : Leab) (s : State) : Res := atomicOp .maxu f s
def execAxch (f : Leab) (s : State) : Res := atomicOp .xch f s
def execAand (f : Leab) (s : State) : Res := atomicOp .and f s
def execAor (f : Leab) (s : State) : Res := atomicOp .or f s
def execAxor (f : Leab) (s : State) : Res := atomicOp .xor f s

/-- The register of a code 0-31 of a unit's file. -/
def State.regOf (s : State) (u : UnitId) (n : Nat) : Word :=
  s.seat.reg u (if n < 24 then rotated s.seat.rrb n else n)

def execAcas (f : Lacas) (s : State) : Res :=
  s.effectful f.g fun s =>
    let u := lUnit f.x
    s.atomic f.x .cas f.e.val f.a (s.regOf u (f.pair.val + 1)) (s.regOf u f.pair.val) false

/-! ### Scales (14 R369) -/

/-- LSCL. The Waits column of 10 R268 is blank for it, and 02 R46 counts the scratchpad lines of every L slot: the model counts its lines towards
the bank freeze. -/
def execLscl (f : Llscl) (s : State) : Res :=
  s.guarded f.g fun s =>
    let u := lUnit f.x
    let e := f.e.val
    let b := s.seat.entry e
    s.accessing { s.issuing with bad := lteSpace b != 1 || lteSize b != 1 } .load e (coords (s.srcInt u f.a)) 64 (List.range 64)
      fun fm xs s => s.fetch u fm xs .raw 6 6 (.scales f.sb 0) false

end Sys2Proof.Machine
end

