-- ==== Sys2Proof/Machine/Sync.lean ====
section
/-! DEFINITION. Release and acquire (06 R158-R164, R170, R178; 14 R365, R372-R374), fences (06 R165, R166; 14 R375), stations (14 R376,
R377), the reduction mesh (14 R378-R381), queues, windows, monitors and probes (14 R382, R383, R386). -/

namespace Sys2Proof.Machine

/-! ### Scopes and what they cover -/

/-- The bundle's scope: 0 core, 1 die, 2 package, 3 domain, 4 system (06 R160). -/
def State.scope (s : State) : Nat := min 4 s.cx.scope

/-! What an agent's scope includes (06 R151, R160). -/

/-- Core of an agent, 1024 for an agent without one, and its die, 16 without. -/
def Agent.coreNo : Agent → Nat
  | .seat c _ => c
  | .engine c => c
  | .side c _ => c
  | _ => 1024
def Agent.dieNo : Agent → Nat
  | .station n => (dieOfStation n).getD 16
  | a => min 16 (dieOf a.coreNo)

/-- Whether an agent belongs to this package, and whether it is a host. -/
def Agent.here : Agent → Bool
  | .remote _ => false
  | .host _ => false
  | _ => true
def Agent.isHost : Agent → Bool
  | .host _ => true
  | _ => false

/-- Whether the agents that scope `sc` includes, from agent `a`, hold agent `b` (06 R160). The core and the die of an agent of another
package are not known here. -/
def Agent.includes (sc : Nat) (a b : Agent) : Bool :=
  match sc with
  | 0 => a.coreNo < 1024 && a.coreNo == b.coreNo
  | 1 => a.dieNo < 16 && a.dieNo == b.dieNo
  | 2 => a.here && b.here
  | 3 => !a.isHost && !b.isHost
  | _ => true

/-- Whether a release of `a` at a scope and an acquire of `b` at another synchronise (06 R161). -/
def synchronise (a : Agent) (sa : Nat) (b : Agent) (sb : Nat) : Bool := a.includes sa b && b.includes sb a

/-- Whether a posted item is a store, or an engine's or seat's write on its way: to its home, as a message, or drained to its die. -/
def PostKind.isWrite : PostKind → Bool
  | .write _ _ => true
  | .message m => m.kind == 0 || m.kind == 6
  | .heldMessage _ m => m.kind == 0 || m.kind == 6
  | .visit _ _ _ (.write _ _) => true
  | .packet _ _ w => w
  | _ => false

/-- Whether the home of something that a trip of core `c` has still to do lies in the extent of a scope (06 R160). -/
def Trip.within (c sc : Nat) (t : Trip) : Bool :=
  match t.route with
  | .canal _ _ => 3 ≤ sc
  | .waiting b => if lteSpace b = 7 then 3 ≤ sc else t.left.any fun a => homeReach c (homeOf a) ≤ sc
  | _ => t.left.any fun a => homeReach c (homeOf a) ≤ sc

/-- Writes and atomics of a seat in the extent of a scope that meet a test on what their entry was bound to. -/
def State.writesIn (s : State) (c n sc : Nat) (p : Option Nat → Bool) : List Nat :=
  ((s.postedOf c n).filter fun x => x.kind.isWrite && p x.bound && x.reach ≤ sc).map (·.id) ++
    ((s.tripsOf c n).filter fun t => t.atomic.isSome && p t.bound && t.within c sc).map (·.id)

/-- Writes and atomics of a seat bound to object `o` with homes in the extent of scope `sc` (06 R162). -/
def State.covered (s : State) (c n o sc : Nat) : List Nat := s.writesIn c n sc fun b => b == some o

/-- Every write and atomic of a seat in the extent of a scope (06 R176). -/
def State.earlier (s : State) (c n sc : Nat) : List Nat := s.writesIn c n sc fun _ => true

/-- Posted Canal writes of a core's agents to packages other than `peer` (06 R178). -/
def State.toOthers (s : State) (c peer : Nat) : List Nat :=
  (s.posted.filter fun p => p.agent.ofCore c && (match p.kind with
    | .packet q _ w => w && q != peer
    | _ => false)).map (·.id)

/-- Accesses of a core to package `peer`, which come before a release-class packet there by their SEQ (06 R178, 05 R135). -/
def State.toPeer (s : State) (c peer : Nat) : List Nat :=
  ((s.posted.filter fun p => p.agent.ofCore c && (match p.kind with
    | .packet q _ _ => q == peer
    | _ => false)).map (·.id)) ++
    ((s.core c).landings.filterMap Landing.trip).filterMap fun t => match t.route with
      | .canal q _ => if q = peer then some t.id else none
      | _ => none

/-- Best-effort messages of a core's agents not yet performed, requests of loads and atomics among them (06 R178). -/
def State.messages (s : State) (c : Nat) : List Nat :=
  (s.posted.filter fun p => p.agent.ofCore c && (match p.kind with
    | .message _ => true
    | .heldMessage _ _ => true
    | .visit _ _ _ _ => true
    | _ => false)).map (·.id) ++
    ((s.core c).landings.filterMap Landing.trip).filterMap fun t => match t.route with
      | .flume _ => some t.id
      | _ => none

/-! ### The binding of an entry -/

/-- The checks of an access that uses a binding alone (01 R27, 14 R373). -/
def State.bindCheck (s : State) (w : Issuing) (e : Nat) (b : LteBits) (pair : Bool) : Option Fail :=
  let at_ := accessTval e 0
  if lteSync b = 0 ∨ 9 ≤ lteSync b ∨ (pair ∧ !lteShadow b) then some ⟨9, at_ 0 0⟩
  else if syncOffset b ≥ syncLimit b then some ⟨11, at_ 4 0⟩
  else match syncHome w.core b with
    | some h => if s.foreign w.core w.tenant (bindsCore b) h [syncOffset b] then some ⟨13, at_ 0 0⟩ else none
    | none => none

/-- A release on the object of an entry by an agent of core `c`: posted at a home of this package, sent to another (06 R162, R178). The
item's fields but for its kind and what it waits for are those of `item`. -/
def State.release (s : State) (item : Posted) (c : Nat) (b : LteBits) (flip : Option Nat) (cover : List Nat) : State :=
  match syncHome c b with
  | some h =>
    let far := match h with
      | .basin k => dieOf k != dieOf c
      | .cist d => d != dieOf c
      | _ => false
    let after := cover ++ (if far then s.messages c else [])
    s.post { item with kind := .release (h.at (syncOffset b)) flip, after := after }
  | none =>
    let peer := ltePackage b
    let sub := if lteSync b = 6 then 2 else 1
    let k := s.packetTo 3 1 peer (lteCore b (lteDie b)) c sub item.tenant item.job (syncOffset b) 8
    let k := match flip with
      | some i => { k with rel := true, aop := 29, opa := BitVec.ofNat 64 i }
      | none => { k with rel := true, aop := 1, opa := 1 }
    let first := s.toPeer c peer
    s.postPacket item peer k none (cover.filter (fun i => !first.contains i) ++ s.toOthers c peer)

/-- REL and PUB (14 R365, R373). -/
def State.releaseSlot (s : State) (e : Nat) (pair : Bool) : State :=
  let b := s.seat.entry e
  let c := s.cx.core
  match s.bindCheck { s.issuing with binds := true } e b pair with
  | some x => s.raise x.cause x.tval
  | none =>
    let o := (syncObject c b).getD 0
    (s.release (s.myItem 4) c b (if pair then some (lteRead b 18) else none) (s.covered c s.cx.seat o s.scope)).busy

def execRel (f : Le) (s : State) : Res := s.effectful f.g fun s => s.releaseSlot f.e.val false
def execPub (f : Le) (s : State) : Res := s.effectful f.g fun s => s.releaseSlot f.e.val true

/-- ACQ: the bundle stalls until its read is performed (06 R163). The wait's `deadline` is the number of the Canal request when the
object lies on another package. -/
def execAcq (f : Le) (s : State) : Res :=
  s.effectful f.g fun s =>
    let b := s.seat.entry f.e.val
    match s.bindCheck s.issuing f.e.val b false with
    | some x => s.raise x.cause x.tval
    | none =>
      match s.myWait with
      | some w => if w.ended then s else s.stall w
      | none => s.stall (s.waitFor (.acquire ((syncObject s.cx.core b).getD 0)))

/-- Whether a count has met an ACQT's target (14 R373). -/
def meets (count target : Nat) : Bool := (count + 2 ^ 48 - target % 2 ^ 48) % 2 ^ 48 < 2 ^ 47

def execAcqt (f : Lea) (s : State) : Res :=
  s.effectful f.g fun s =>
    let b := s.seat.entry f.e.val
    let target := (s.srcInt (lUnit f.x) f.a).toNat % 2 ^ 48
    match s.bindCheck s.issuing f.e.val b false with
    | some x => s.raise x.cause x.tval
    | none =>
      match s.myWait with
      | some w =>
        (match w.got with
        | some v => if meets (v.toNat % 2 ^ 48) target then s else s.stall w
        | none => s.stall w)
      | none =>
        let o := (syncObject s.cx.core b).getD 0
        s.stall (s.waitFor (.target o (onDieHome (dieOf s.cx.core) o)))

/-! ### Results of the array (06 R174) -/

/-- Whether a landing writes the basin: a push, MZRO, MPOI, MBST or an MDRB drain (06 R174). -/
def Effect.onBasin : Effect → Bool
  | .push _ _ _ _ => true
  | .arrayRow _ _ => true
  | .basinRow _ _ => true
  | _ => false

/-- Issue orders of a seat's array results that have not landed (06 R168, R175, R176), and whether those of a list have. -/
def State.arrayOrds (s : State) (c n : Nat) : List Nat :=
  ((s.core c).landings.filter fun l => l.seat == n && l.effect.onBasin).map (·.ord)
def State.landed (s : State) (c : Nat) (ords : List Nat) : Bool :=
  (s.core c).landings.all fun l => !(l.effect.onBasin && ords.contains l.ord)

/-- Whether everything that an item waits for has come about. -/
def State.turnOf (s : State) (p : Posted) : Bool :=
  s.performed p.after && (p.lands.isEmpty || s.landed p.agent.coreNo p.lands)

/-! ### Task counters (14 R374) -/

/-- A decrement of a task record, by an agent of core `c`: its handle, its amount, and what it waits for. -/
def State.decrementBy (s : State) (item : Posted) (c : Nat) (handle : Word) (amount : Nat) (after : List Nat) : State :=
  if bitOf handle 63 then
    let peer := field handle 62 59 * 16 + field handle 58 55
    let k := s.packetTo 3 1 peer 0 c 0 item.tenant item.job (field handle 19 0) 4
    let first := s.toPeer c peer
    let s : State := match item.agent with
      | .seat _ n => { s with canal := { s.canal with
          requests := s.canal.requests ++ [⟨s.nextPost, peer, none, c, field handle 19 0, 4, .decrement n, s.cycOf c⟩] } }
      | _ => s
    s.postPacket item peer { k with rel := true, aop := 26, opa := BitVec.ofNat 64 (amount % 2 ^ 32) } none
      (after.filter (fun i => !first.contains i) ++ s.toOthers c peer)
  else
    let d := field handle 19 16
    let far := if d = dieOf c then [] else s.messages c
    s.post { item with kind := .decrement d (field handle 15 0) (amount % 2 ^ 32), after := after ++ far }

/-- Whether the partition fault of a handle is known at the issue of its TDEC: a window of another tenant (05 R139), or another tenant's
record in the own cistern (14 R534). -/
def State.handleRefused (s : State) (c tenant : Nat) (handle : Word) : Bool :=
  if bitOf handle 63 then (tget Wallow.reset s.wallow (field handle 54 51)).tenant != tenant
  else field handle 19 16 == dieOf c && s.recordRefused (dieOf c) (field handle 15 0) tenant

def execTdec (f : Lab) (s : State) : Res :=
  s.effectful f.g fun s =>
    let u := lUnit f.x
    let h := s.srcInt u f.a
    if s.handleRefused s.cx.core s.seat.tenant h then s.raise 13 0
    else (s.decrementBy { s.myItem 2 with lands := s.arrayOrds s.cx.core s.cx.seat } s.cx.core h (s.srcInt u f.b).toNat
      (s.earlier s.cx.core s.cx.seat s.scope)).busy

/-! ### Fences -/

/-- Loads, stores and atomics of a seat's L slots that wait to be performed in the extent of a scope, by number (06 R165). -/
def State.unperformed (s : State) (c n sc : Nat) : List Nat :=
  ((s.tripsOf c n).filter fun t => t.within c sc).map (·.id) ++
    ((s.postedOf c n).filter fun p => p.kind.isWrite && p.cmd.isNone && p.reach ≤ sc).map (·.id)

/-- FNC: the bundle is held until every earlier load, store and atomic of the seat in the scope's extent has been performed (06 R165). For
an access of its own bundle's L0, which comes before it in program order (06 R153), the core freezes as the bundle has committed. -/
def execFnc (f : Ln) (s : State) : Res :=
  s.guarded f.g fun s =>
    let left := s.unperformed s.cx.core s.cx.seat s.scope
    if left.any fun i => i < s.cx.firstId then { s with cx := { s.cx with out := if s.cx.out = .go then .stall else s.cx.out } }
    else if left.isEmpty then s
    else s.onMe fun st => { st with fence := some (s.nextPost, s.scope) }

/-- Whether a fence freezes a core: accesses that its running seat's fence covers are not performed (06 R165). -/
def State.fenced (s : State) (c : Nat) : Bool :=
  match (s.core c).running with
  | none => false
  | some n =>
    match (s.seatAt c n).fence with
    | none => false
    | some (id, sc) => (s.unperformed c n sc).any fun i => i < id

def execFni (f : Ld) (s : State) : Res :=
  s.guarded f.g fun s => s.result (lUnit f.x) f.d 2 (BitVec.ofNat 64 (s.seat.writes * 256 + s.scope))

/-- Whether a posted item counts as a write for FNI and FNW (14 R375, 15 R399). -/
def PostKind.counts (k : PostKind) : Bool :=
  k.isWrite || (match k with
    | .tlbi _ _ _ _ _ => true
    | _ => false)

/-- Offset of coordinates in the half a command uses (01 R18, R28). -/
def offsetIn (b : LteBits) (half : Bool) (cs : List Nat) : Nat :=
  (address b cs + (if half then lteRead b 14 * 64 else 0 : Nat)).toNat

/-- Source and destination coordinates of element `i` of a command. -/
def Cmd.from (k : Cmd) (i : Nat) : List Nat := [k.sc.getD 0 0 + i % k.ne, k.sc.getD 1 0 + i / k.ne, k.sc.getD 2 0, k.sc.getD 3 0]
def Cmd.dstCoord (k : Cmd) (i : Nat) : List Nat := [k.dc.getD 0 0 + i % k.ne, k.dc.getD 1 0 + i / k.ne, 0, 0]

/-- Whether a write of a copy command that is not performed has its home in the extent of a scope (06 R160, R166): one on its way, or an
element still to be moved. An element that translation refuses counts at every scope. -/
def State.cmdWithin (s : State) (c sc : Nat) (k : Cmd) : Bool :=
  (s.posted.any fun p => p.cmd == some k.id && p.agent == .engine c && p.reach ≤ sc) ||
    (if lteSpace k.dst = 6 then (List.range (k.ne * k.nr - k.moved)).any fun i =>
        match s.mapOn (dieOf c) k.ctx k.sup .write (offsetIn k.dst k.dstHalf (k.dstCoord (k.moved + i))) with
        | .ok m => homeReach c (homeOf m.flat) ≤ sc
        | .error _ => true
      else (k.moved < k.ne * k.nr || !k.going.isEmpty) && k.reach ≤ sc)

/-- Writes of a seat with issue numbers below `m` in the extent of scope `sc` that are not yet globally performed (06 R166). -/
def State.outstanding (s : State) (c n m sc : Nat) : Bool :=
  ((s.postedOf c n).any fun p => p.kind.counts && p.num < m && p.reach ≤ sc) ||
    ((s.tripsOf c n).any fun t => t.atomic.isSome && t.num < m && t.within c sc) ||
    ((s.core c).cmds.any fun k => k.issuer == .seat n && !k.complete && k.num < m &&
      (match k.kind with
        | .dclm _ _ => false
        | _ => k.task == some (dieOf c, (s.seatAt c n).record) && s.cmdWithin c sc k))

def execFnw (f : La) (s : State) : Res :=
  s.guarded f.g fun s =>
    let t := s.srcInt (lUnit f.x) f.a
    let sc := max (min 4 (field t 2 0)) s.scope
    if s.outstanding s.cx.core s.cx.seat (field t 63 8) sc then s.stall (s.waitFor .token) else s

/-! ### Stations (14 R376, R377) -/

def execSflg (f : Lsflg) (s : State) : Res :=
  s.effectful f.g fun s =>
    let a := s.srcInt (lUnit f.x) f.a
    let d := dieOf s.cx.core
    let c := d * 64 + field a 8 6 * 8 + field a 5 3
    if s.ownerOf d c != .owned s.seat.tenant then s.raise 13 0
    else (s.post { s.myItem 1 with
      named := true, kind := .flag c (field a 2 0) f.flag.val (bitOf a 9), after := s.earlier s.cx.core s.cx.seat 1 }).busy

def execScnt (f : Lscnt) (s : State) : Res :=
  s.effectful f.g fun s =>
    let d := dieOf s.cx.core
    (s.post { s.myItem 1 with
      kind := .counter (32 * stationOf d + f.c.val), after := s.earlier s.cx.core s.cx.seat 1 }).busy

/-- Bytes of an SBEQ at their flat addresses: consecutive offsets from that of (C0, C1), each permuted in a scratchpad (01 R22, R23). -/
def sbeqBytes (c : Nat) (b : LteBits) (off : Nat) (bytes : List Byte) : List (Nat × Byte) :=
  let h := (entryPlace c b).getD (.basin c)
  ((List.range bytes.length).map fun i => h.at (if lteSub b = 0 then permute (lteRead b 1) (off + i) else off + i)).zip bytes

/-- Bytes written within the die, a write per 64 B granule, ascending (14 R532). -/
def State.postBytes (s : State) (b : LteBits) (bs : List (Nat × Byte)) (reach : Nat) (after : List Nat) : State :=
  (sortAddrs (bs.map (·.1 / 64))).foldl (fun s g =>
    s.post { s.myItem reach with
      kind := .write (bs.filter fun p => p.1 / 64 == g) none, bound := syncObject s.cx.core b, after := after, named := true }) s

/-- Bytes that leave for another die's station as messages, a run each (14 R532): the last is of kind 6 and brings the flag (R377), those
before it of kind 0. -/
def State.postFlagged (s : State) (b : LteBits) (bs : List (Nat × Byte)) (tag : Nat) (after : List Nat) : State :=
  let mem : Tab Byte := bs.foldl (fun t p => tput t p.1 p.2) []
  let rs := runs 256 (mem.map (·.1))
  (rs.zip (List.range rs.length)).foldl (fun s r =>
    let data := leNat ((List.range r.1.2).map fun i => tget 0 mem (r.1.1 + i))
    let last := r.2 + 1 == rs.length
    s.sendMine b ⟨s.nextPost, if last then 6 else 0, if last then tag else 0, stationOf (lteDie b),
      tgtOf (lteSub b) (lteCore b 0) (offsetOf r.1.1), r.1.2, BitVec.ofNat 2048 data, 0, s.seat.job⟩ after) s

def execSbeq (f : Leab) (s : State) : Res :=
  s.effectful f.g fun s =>
    let e := f.e.val
    let b := s.seat.entry e
    let k := s.srcInt (lUnit f.x) f.b
    let len := field k 7 0 + 1
    let size := lteSize b
    let v := s.vsrc (etypeForm (lteRead b 11)) f.a
    let bad := !(lteSpace b == 4 || lteSpace b == 5) || len % size != 0 || halfBad b f.a
    let n := max 1 (len / size)
    s.accessing { s.issuing with bad := bad } .store e [field k 47 32, field k 63 48, 0, 0] n [0] fun fm xs s =>
      let bytes := sbeqBytes s.cx.core b (fm.offs.headD 0) (leBytes len v.toNat)
      let (sel, s) := s.askSelector (s.myItem 4) s.cx.core fm.bits s.stamp
      let seat := field k 15 13
      let flag := field k 12 8
      if overFlume s.cx.core b then (s.postFlagged b bytes (seat * 32 + flag) sel).countWrite
      else
        let first := s.nextPost
        let s := s.postBytes b bytes (accessReach s.cx.core b xs) sel
        let target := lteCore b (if lteSpace b = 4 then dieOf s.cx.core else lteDie b)
        (s.post { s.myItem 1 with
          kind := .flag target seat flag false, named := true, after := (List.range (s.nextPost - first)).map (first + ·) }).countWrite

/-! ### Mesh reduction packets (14 R380, R381) -/

/-- How REDP's payload takes a constant, by format. -/
def redForm : Nat → ConstForm
  | 1 => .fp .f32
  | 2 => .c32
  | 3 => .k27
  | _ => .int 32

def execRedp (f : Lredp) (s : State) : Res :=
  s.effectful f.g fun s =>
    let k := s.srcInt (lUnit f.x) f.b
    let c := s.cx.core
    let tree := field k 20 16
    let v := s.vsrc (redForm f.fmt.val) f.a
    let round := tget 0 s.seat.rounds tree
    let p : RedPacket := ⟨tree, field k 15 0, f.fmt.val, BitVec.ofNat 64 (2 ^ (c % 64)), v.setWidth 1024, s.seat.redto.toNat, round % 256⟩
    let s := { s with mesh := s.mesh ++ [({ core := c, port := 0, heading := 0, used := 0, packet := p } : RedMove)] }
    (s.onMe fun st => { st with rounds := tset 0 st.rounds tree (round + 1) }).busy

/-- The collector's queue of a tree at a core. -/
def Router.queue (r : Router) (tree : Nat) : List RedPacket :=
  ((r.queues.find? fun q => q.1 == tree).map (·.2)).getD []

/-- A collector's queue replaced. -/
def Router.setQueue (r : Router) (tree : Nat) (q : List RedPacket) : Router :=
  { r with queues := (tput r.queues tree q) }

def execRedw (f : Ldae) (s : State) : Res :=
  s.effectful f.g fun s =>
    let a := s.srcInt (lUnit f.x) f.a
    let tree := f.e.val
    match s.me.router.queue tree with
    | p :: rest =>
      if p.mask = a then
        let s := s.onCore s.cx.core fun k =>
          { k with router := { k.router.setQueue tree rest with accepted := tput k.router.accepted tree p.round } }
        (s.vresult f.d 2 (p.payload.setWidth 4096)).busy
      else s.raise 35 (a &&& ~~~p.mask)
    | [] =>
      let since := match s.myWait with
        | some w => w.since
        | none => s.cyc
      let deadline := since + s.seat.redto.toNat
      let ended := match s.myWait with
        | some w => w.ended
        | none => false
      if ended || deadline ≤ s.cyc then s.raise 35 a
      else s.stall { s.waitFor (.reduction tree) with deadline := deadline }

/-! ### Queues, windows and monitors (14 R382, R383) -/

def execQpop (f : Ld) (s : State) : Res :=
  s.effectful f.g fun s =>
    match s.seat.inq with
    | [] => s.stall (s.waitFor .queue)
    | v :: rest => ((s.onMe fun st => { st with inq := rest }).result (lUnit f.x) f.d 2 v).busy

/-- Accesses of a seat to its own core's scratchpad and basin that are not performed (06 R168, R175): posted work, with releases on an
object in the own basin, and trips. -/
def State.ownAccesses (s : State) (c n : Nat) : List Nat :=
  ((s.postedOf c n).filter fun p => match p.kind with
    | .release a _ => homeOf a == .basin c
    | k => k.isWrite && p.reach == 0).map (·.id) ++ ((s.tripsOf c n).filter fun t => t.within c 0).map (·.id)

/-- Pushes of QPSH whose earlier accesses are performed enter the outflow queue, in order (06 R175). -/
def State.enterPushes (s : State) (c n : Nat) : State :=
  let st := s.seatAt c n
  let now := st.pushing.takeWhile fun p => s.performed p.2.1 && s.landed c p.2.2
  if now.isEmpty then s
  else s.onSeat c n fun st => { st with outq := st.outq ++ now.map (·.1), pushing := st.pushing.drop now.length }

/-- Those of every seat of a core. -/
def State.settlePushes (s : State) (c : Nat) : State :=
  (s.core c).seats.foldl (fun s q => if q.2.pushing.isEmpty then s else s.enterPushes c q.1) s

/-- QPSH: its push is performed after the seat's earlier accesses to its own core (06 R175). -/
def execQpsh (f : La) (s : State) : Res :=
  s.effectful f.g fun s =>
    if s.seat.outq.length + s.seat.pushing.length < 16 then
      let v := s.srcInt (lUnit f.x) f.a
      let p := (v, s.ownAccesses s.cx.core s.cx.seat, s.arrayOrds s.cx.core s.cx.seat)
      ((s.onMe fun st => { st with pushing := st.pushing ++ [p] }).enterPushes s.cx.core s.cx.seat).busy
    else s.stall (s.waitFor .queue)

def execQlev (f : Ld) (s : State) : Res :=
  s.effectful f.g fun s =>
    (s.result (lUnit f.x) f.d 2 (BitVec.ofNat 64 (s.cx.inLevel % 32 + s.cx.outLevel % 32 * 256))).busy

def execWalw (f : Lda) (s : State) : Res :=
  s.effectful f.g fun s =>
    let w := tget Wallow.reset s.wallow (field (s.srcInt (lUnit f.x) f.a) 3 0)
    s.result (lUnit f.x) f.d 2 (if w.tenant = s.seat.tenant then BitVec.ofInt 64 ((w.limit : Int) - w.out) else 0)

def execMona (f : Lea) (s : State) : Res :=
  s.effectful f.g fun s =>
    s.accessing s.issuing .load f.e.val (coords (s.srcInt (lUnit f.x) f.a)) 1 [0] fun fm xs s =>
      let flat := (xs.head?.map (·.flat)).getD 0
      let far := lteSpace fm.bits = 7
      let local_ := !far && onDieHome (dieOf s.cx.core) flat
      let g := if far then 2 ^ 100 + flat / 64 else flat / 64
      s.onMe fun st => { st with monitor := some ⟨g, local_, s.cyc + 4096, false, false⟩ }

/-! ### Probes (14 R386) -/

def execPref (f : Lea) (s : State) : Res :=
  s.guarded f.g fun s =>
    let w := s.issuing
    match s.form w .load f.e.val 0 (s.seat.entry f.e.val) (coords (s.srcInt (lUnit f.x) f.a)) 1 with
    | .error _ => s
    | .ok fm =>
      match s.spots w .load fm [0] with
      | .error _ => s
      | .ok xs => s.noteMisses w (if f.x then 1 else 0) xs

/-- CODE of a failed check. -/
def probeCode : Nat → Nat
  | 8 => 1 | 9 => 2 | 18 => 3 | 11 => 4 | 12 => 5 | 13 => 6
  | _ => 0

def execSprb (f : Ldae) (s : State) : Res :=
  s.guarded f.g fun s =>
    let u := lUnit f.x
    let b := s.seat.entry f.e.val
    let w := s.issuing
    let r := s.form w .load f.e.val 0 b (coords (s.srcInt u f.a)) 1
    let code := match r with
      | .error x => probeCode x.cause
      | .ok _ => 0
    let bank := match r with
      | .error _ => 0
      | .ok fm =>
        let spad := lteSpace b == 1 || ((lteSpace b == 4 || lteSpace b == 5 || lteSpace b == 7) && lteSub b == 0)
        if spad then permute (lteRead b 1) (fm.offs.getD 0 0) / 64 % 32 else 0
    let tnc := if lteSpace b = 6 ∨ lteSpace b = 7 then 2 ^ 15 else 0
    s.result u f.d 6 (BitVec.ofNat 64 (tnc + bank * 256 + code))

end Sys2Proof.Machine
end

