-- ==== Sys2Proof/Machine/Engine.lean ====
section
/-! DEFINITION. The copy engine and drawer claims (14 R362-R368): acceptance and the promise, the moving of elements, completion, faults,
and the release of drawer rows. -/

namespace Sys2Proof.Machine

/-! ### Acceptance (14 R362, R363) -/

/-- Order of R19 among the faults of one block: cause, then dimension. -/
def faultRank (f : Fail) : Nat :=
  let cause := match f.cause with
    | 8 => 0 | 9 => 1 | 18 => 2 | 11 => 3 | 12 => 4 | 13 => 5
    | _ => 6
  cause * 8 + field f.tval 32 30

/-- The fault of a list that comes first in that order. -/
def worst : List Fail → Option Fail
  | [] => none
  | f :: t =>
    match worst t with
    | some g => if faultRank g < faultRank f then some g else some f
    | none => some f

/-- The fault of an entry at the corners of a block, each a run of `n` elements (01 R18, R19; 14 R362). -/
def State.blockFault (s : State) (w : Issuing) (u : Use) (e : Nat) (b : LteBits) (n : Nat) (corners : List (List Nat)) : Option Fail :=
  worst (corners.filterMap fun cs =>
    match s.form w u e 0 b cs n with
    | .error f => some f
    | .ok _ => none)

/-- The four corners of a block of `ne` elements and `nr` rows. -/
def blockCorners (c0 c1 ne nr : Nat) : List (List Nat) :=
  [[c0, c1, 0, 0], [c0 + ne - 1, c1, 0, 0], [c0, c1 + nr - 1, 0, 0], [c0 + ne - 1, c1 + nr - 1, 0, 0]]

/-- Horizon and rate, in bytes per core cycle, of a home that translation names (14 R363, 02 R39). -/
def pageFigures (d : Nat) (h : Home) : Nat × Nat :=
  match h with
  | .hbm e => if e = d then (480, 8) else (800, 4)
  | .tier2 => (1200, 2)
  | _ => (8000, 1)

/-- Horizon and rate of one side of a transfer, whose first byte lies at offset `off` (14 R363): a VIRT side is looked up in the
core's first-level TLB alone. -/
def State.sideFigures (s : State) (w : Issuing) (u : Use) (b : LteBits) (off : Nat) : Nat × Nat :=
  let d := dieOf w.core
  match lteSpace b with
  | 1 => (8, 2048)
  | 2 => (10, 256)
  | 3 | 4 => (48, 64)
  | 5 => if lteDie b = d then (48, 64) else (800, 4)
  | 6 =>
    match (s.core w.core).tlb.find? fun t => t.covers w.ctx off with
    | none => (8000, 1)
    | some t =>
      match s.leafFault w.sup (if u = .load then .read else .write) t.leaf with
      | some _ => (8000, 1)
      | none => pageFigures d (entryHome t.leaf.entry)
  | 8 => (800, 4)
  | _ => (8000, 1)

/-- The promise of a transfer of `bytes` (14 R363). -/
def State.promise (s : State) (c lmax rate bytes : Nat) : Nat :=
  let q := ((s.core c).cmds.filter fun k => !k.complete).foldl (fun m k => max m k.promise) 0
  max (s.cycOf c + 4) q + lmax + (bytes + rate - 1) / rate

/-- Whether the engine's queue holds 64 commands. -/
def State.engineFull (s : State) (c : Nat) : Bool := ((s.core c).cmds.filter fun k => !k.complete).length ≥ 64

/-- A command joins the engine's queue. -/
def State.addCmd (s : State) (c : Nat) (k : Cmd) : State :=
  s.onCore c fun x => { x with cmds := x.cmds ++ [{ k with id := x.nextCmd }], nextCmd := x.nextCmd + 1 }

/-- Smallest scope whose extent holds the destination (06 R160); a VIRT destination is asked page by page. -/
def destReach (c : Nat) (b : LteBits) : Nat :=
  match entryPlace c b with
  | some h => homeReach c h
  | none => 3

/-- The faults of the two sides of a copy, the source's before the destination's; entries of unequal element size raise the LTE format
fault in its place in the order of R19 (14 R356, R362). -/
def copyFault (fs fd : Option Fail) (unequal : Bool) (de : Nat) : Option Fail :=
  let early (f : Option Fail) : Option Fail := f.filter fun x => faultRank x < 16
  let first : Option Fail := if unequal then (early fs).or ((early fd).or (some ⟨9, accessTval de 0 0 0⟩)) else none
  first.or (fs.or fd)

/-- An item of a core's engine without a kind yet. -/
def engineItem (w : Issuing) (job : Nat) (task : Option (Nat × Nat)) : Posted :=
  { Posted.of (.engine w.core) (dieOf w.core) w.tenant w.ctx job 4 with task := task }

/-- The pages that the elements of runs lie on and the given list lacks, with their leaves as far as translation gives them (03 R75). -/
def State.aheadOf (s : State) (w : Issuing) (want : Want) (b : LteBits) (half : Bool) (starts : List (List Nat)) (ne : Nat)
    (have_ : List (Nat × Leaf)) : List (Nat × Leaf) :=
  if lteSpace b ≠ 6 then []
  else
    let vas := starts.flatMap fun cs => (List.range ne).map fun i => offsetIn b half ([cs.getD 0 0 + i] ++ cs.drop 1)
    let pages : Tab Unit := vas.foldl (fun t va => tput t (va / 65536) ()) []
    pages.filterMap fun p =>
      if have_.any fun q => q.1 == p.1 then none
      else match s.translate w.core w.ctx w.sup want (p.1 * 65536) with
        | .ok m => some (p.1, m.leaf)
        | .error _ => none

/-- The TLBs looked up for pages (03 R72-R74). -/
def State.notePages (s : State) (w : Issuing) (pages : List (Nat × Leaf)) : State :=
  pages.foldl (fun s p => s.noteMiss w.core w.ctx (p.1 * 65536) 2) s

/-- A CPY or CPYA of the entries of seat `n`, by an agent `w` (14 R362, R363, R365): the promise and the state after, or the fault. `after`
and `ords` name what comes first (06 R168). -/
def State.acceptCopy (s : State) (w : Issuing) (n : Nat) (issuer : Issuer) (kind : CmdKind) (a b : Word) (job num : Nat)
    (task : Option (Nat × Nat)) (after ords : List Nat) : Except Fail (Nat × State) :=
  if s.engineFull w.core then .ok (0, s)
  else
    let st := s.seatAt w.core n
    let se := field a 4 0
    let de := field a 9 5
    let src := st.entry se
    let dst := st.entry de
    let ne := field a 47 32 + 1
    let nr := field a 63 48 + 1
    let publish := match kind with
      | .cpya _ => true
      | _ => false
    let wd := { w with back := true, stamp := w.stamp + 2 ^ 64, binds := publish, bad := publish && (!lteShadow dst || lteSync dst == 0) }
    let fs := s.blockFault w .load se src 1 (blockCorners (field b 15 0) (field b 31 16) ne nr)
    let fd := s.blockFault wd .store de dst 1 (blockCorners (field b 47 32) (field b 63 48) ne nr)
    match copyFault fs fd (lteSize src != lteSize dst) de with
    | some f => .error f
    | none =>
      let sh := lteShadow src && s.sampled w.core w.seat src w.stamp
      let dh := lteShadow dst && !s.sampled w.core w.seat dst wd.stamp
      let sc := [field b 15 0, field b 31 16, 0, 0]
      let dc := [field b 47 32, field b 63 48, 0, 0]
      let (l1, r1) := s.sideFigures w .load src (offsetIn src sh sc)
      let (l2, r2) := s.sideFigures w .store dst (offsetIn dst dh dc)
      let wait := max (selectorHorizon w.core src) (selectorHorizon w.core dst)
      let p := s.promise w.core (max l1 l2 + wait) (min r1 r2) (ne * nr * lteSize src)
      let item := engineItem w job task
      let pages := s.aheadOf w .read src sh [sc] ne []
      let pagesTo := s.aheadOf w .write dst dh [dc] ne []
      let s := (s.notePages w pages).notePages w pagesTo
      let (sel1, s) := s.askSelector item w.core src w.stamp
      let (sel2, s) := s.askSelector item w.core dst wd.stamp
      .ok (p, s.addCmd w.core
        { id := 0, issuer := issuer, kind := kind, src := src, dst := dst, srcHalf := sh, dstHalf := dh, sc := sc, dc := dc, ne := ne,
          nr := nr, promise := p, moved := 0, rows := [], complete := false, faulted := none, faultCause := 15, tenant := w.tenant,
          ctx := w.ctx, sup := w.sup, job := job, after := after ++ sel1 ++ sel2, landings := ords, unacked := [], srcEntry := se,
          dstEntry := de, task := task, bound := syncObject w.core dst, num := num, reach := destReach w.core dst, asked := [], tags := [],
          got := [], going := [], ahead := pages, aheadTo := pagesTo })

/-- A DCLM of an entry of seat `n` (14 R367): the promise and the state after, or the fault. -/
def State.acceptClaim (s : State) (w : Issuing) (n : Nat) (issuer : Issuer) (a b : Word) (job : Nat) (task : Option (Nat × Nat))
    (after ords : List Nat) : Except Fail (Nat × State) :=
  if s.engineFull w.core then .ok (0, s)
  else
    let se := field a 4 0
    let src := (s.seatAt w.core n).entry se
    let drawer := field a 9 5
    let row := field a 15 10
    let nrows := field a 21 16
    let cs := coords b
    let at_ (k : Nat) : List Nat := [cs.getD 0 0, cs.getD 1 0 + k, cs.getD 2 0, cs.getD 3 0]
    let ne := 256 / lteSize src
    let outside : Option Fail := if row + nrows > 63 then some ⟨11, accessTval se 0 4 0⟩ else none
    match worst ((s.blockFault w .load se src ne [at_ 0, at_ nrows]).toList ++ outside.toList) with
    | some f => .error f
    | none =>
      let sh := lteShadow src && s.sampled w.core w.seat src w.stamp
      let (l, r) := s.sideFigures w .load src (offsetIn src sh (at_ 0))
      let p := s.promise w.core (max l 4 + selectorHorizon w.core src) (min r 256) ((nrows + 1) * 256)
      let id := (s.core w.core).nextCmd
      let pages := s.aheadOf w .read src sh ((List.range (nrows + 1)).map at_) ne []
      let s := s.notePages w pages
      let (sel, s) := s.askSelector (engineItem w job task) w.core src w.stamp
      let s := s.addCmd w.core
        { id := 0, issuer := issuer, kind := .dclm drawer row, src := src, dst := 0, srcHalf := sh, dstHalf := false, sc := cs, dc := [],
          ne := ne, nr := nrows + 1, promise := p, moved := 0, rows := List.range (nrows + 1), complete := false, faulted := none,
          faultCause := 15, tenant := w.tenant, ctx := w.ctx, sup := w.sup, job := job, after := after ++ sel, landings := ords,
          unacked := [], srcEntry := se, dstEntry := 0, task := task, bound := none, num := 0, reach := 0, asked := [], tags := [],
          got := [], going := [], ahead := pages, aheadTo := [] }
      .ok (p, s.onCore w.core fun k =>
        { k with rows := (List.range (nrows + 1)).foldl (fun t i => tput t (drawer * 64 + row + i) (.pending id)) k.rows })

/-- The task of the issuing seat. -/
def State.myTask (s : State) : Option (Nat × Nat) := some (dieOf s.cx.core, s.seat.record)

/-- CPY and CPYA: the promise lands after 4 counted cycles. A command that finds the queue full is no write of the seat (14 R363). -/
def State.copySlot (s : State) (f : Ldab) (kind : CmdKind) : State :=
  let u := lUnit f.x
  match s.acceptCopy s.issuing s.cx.seat (.seat s.cx.seat) kind (s.srcInt u f.a) (s.srcInt u f.b) s.seat.job s.seat.writes s.myTask
      (s.ownAccesses s.cx.core s.cx.seat) (s.arrayOrds s.cx.core s.cx.seat) with
  | .error x => s.raise x.cause x.tval
  | .ok (p, t) => (if s.engineFull s.cx.core then t else t.countWrite).result u f.d 4 (BitVec.ofNat 64 p)

def execCpy (f : Ldab) (s : State) : Res := s.guarded f.g fun s => s.copySlot f .cpy
def execCpya (f : Ldab) (s : State) : Res := s.effectful f.g fun s => s.copySlot f (.cpya s.scope)

def execDclm (f : Ldab) (s : State) : Res :=
  s.guarded f.g fun s =>
    let u := lUnit f.x
    match s.acceptClaim s.issuing s.cx.seat (.seat s.cx.seat) (s.srcInt u f.a) (s.srcInt u f.b) s.seat.job s.myTask
        (s.ownAccesses s.cx.core s.cx.seat) (s.arrayOrds s.cx.core s.cx.seat) with
    | .error x => s.raise x.cause x.tval
    | .ok (p, t) => (if s.engineFull s.cx.core then t else t.busy).result u f.d 4 (BitVec.ofNat 64 p)

/-- The status of a set of commands (14 R366): 0 all complete, 1 some incomplete and none faulted, 2 some faulted. -/
def cmdStatus (due : List Cmd) : Nat :=
  if due.any fun k => k.faulted.isSome then 2 else if due.all fun k => k.complete then 0 else 1

def execCpyw (f : Lda) (s : State) : Res :=
  s.guarded f.g fun s =>
    let p := (s.srcInt (lUnit f.x) f.a).toNat
    let due := s.me.cmds.filter fun k => k.issuer == .seat s.cx.seat && k.task == s.myTask && k.promise ≤ p
    s.result (lUnit f.x) f.d 4 (BitVec.ofNat 64 (cmdStatus due))

/-! ### Moving elements (14 R362, R364; 03 R75) -/

/-- A command changed. -/
def State.onCmd (s : State) (c id : Nat) (f : Cmd → Cmd) : State :=
  s.onCore c fun k => { k with cmds := adjust (fun x => x.id == id) f k.cmds }

def State.cmd (s : State) (c id : Nat) : Option Cmd := (s.core c).cmds.find? fun k => k.id == id

/-- The agent a command's transfers are checked for. -/
def Cmd.issuing (k : Cmd) (c : Nat) : Issuing := ⟨c, 8, k.tenant, k.ctx, k.sup, false, 0, false, false, false, false, false⟩

/-- The fault of a write of core `c` in reading the granule map of its page (03 R71). -/
def State.spotMapFault (s : State) (c ctx : Nat) (x : Spot) : Option Word :=
  match x.leaf, x.va with
  | some l, some va => s.mapFault (dieOf c) ctx va l
  | _, _ => none

/-- Element `m` of a side at its home; a page looked up ahead keeps its leaf. A core of the die refuses a read there (03 R83), and a write
whose granule map cannot be read is refused as its translation is (03 R71). -/
def State.cmdSpot (s : State) (w : Issuing) (u : Use) (e : Nat) (b : LteBits) (half : Bool) (cs : List Nat) (lane : Nat)
    (ahead : List (Nat × Leaf)) : Except Fail Spot :=
  let off := offsetIn b half cs
  let x : Except Fail Spot := match ahead.find? fun p => lteSpace b == 6 && p.1 == off / 65536 with
    | some (_, l) => let m := s.through (s.current l) off; .ok ⟨lane, m.flat, m.material, some l, some off⟩
    | none =>
      match s.spots w u ⟨e, b, lteSize b, [off]⟩ [0] with
      | .error f => .error f
      | .ok xs =>
        match xs.head? with
        | some x =>
          if u = .load && !overFlume w.core b && lteSpace b != 7 && s.refusedAt (if namesCore b then 1024 else w.core) w.tenant [x.flat]
          then .error ⟨refusalCause 1, refusalTval 1 0⟩ else .ok { x with lane := lane }
        | none => .error ⟨15, 0⟩
  match x with
  | .error f => .error f
  | .ok y =>
    match (if u = .load then none else s.spotMapFault w.core w.ctx y) with
    | some t => .error ⟨15, t⟩
    | none => .ok y

/-- Homes of elements, up to the first that translation refuses, and that refusal (03 R75). The destination of a claim is its drawer. -/
def State.cmdSpots (s : State) (c : Nat) (k : Cmd) : List Nat → List (Spot × Spot) × Option Fail
  | [] => ([], none)
  | i :: t =>
    let w := k.issuing c
    match s.cmdSpot w .load k.srcEntry k.src k.srcHalf (k.from i) i k.ahead with
    | .error f => ([], some f)
    | .ok x =>
      let y : Except Fail Spot := match k.kind with
        | .dclm d r => .ok ⟨i, (Home.drawer c).at ((d * 64 + r + i / k.ne) * 256 + i % k.ne * lteSize k.src), none, none, none⟩
        | _ => s.cmdSpot w .store k.dstEntry k.dst k.dstHalf (k.dstCoord i) i k.aheadTo
      match y with
      | .error f => ([], some f)
      | .ok y => let (l, e) := s.cmdSpots c k t; ((x, y) :: l, e)

/-- Whether a command may move data now. -/
def State.cmdReady (s : State) (c : Nat) (k : Cmd) : Bool :=
  !k.complete && k.faulted.isNone && s.performed k.after && s.landed c k.landings

/-- Elements the engine takes next: the rest of the row, which R532 divides as a whole. -/
def Cmd.next (k : Cmd) : List Nat := (List.range (k.ne - k.moved % k.ne)).map (k.moved + ·)

/-- Whether the source is read by messages or packets that travel. -/
def Cmd.remote (k : Cmd) (c : Nat) : Bool := lteSpace k.src == 7 || overFlume c k.src

/-- Bytes of the source that have been read, as a table by address. -/
def Cmd.returned (k : Cmd) : Tab Byte := k.got.foldl (fun t p => tput t p.1 p.2) []

/-- Whether a source byte travels: through a Canal or another die's entry, or from another die's HBM (04 R110). -/
def Cmd.far (k : Cmd) (c a : Nat) : Bool :=
  k.remote c || (match homeOf a with
    | .hbm d => d != dieOf c
    | _ => false)

/-- Bytes of source elements that have not been read. -/
def Cmd.lacks (k : Cmd) (xs : List Spot) : List Nat :=
  let here := k.returned
  (spotBytes (lteSize k.src) xs).filter fun a => !here.any fun p => p.1 == a

/-- Whether all bytes of source elements have been read. -/
def Cmd.holds (k : Cmd) (xs : List Spot) : Bool := (k.lacks xs).isEmpty

/-- Bytes of a source element, once they have been read. -/
def Cmd.bytesAt (k : Cmd) (x : Spot) : List Byte := (List.range (lteSize k.src)).map fun j => tget 0 k.returned (x.flat + j)

/-- The engine reads one unit of the near bytes that it lacks of source elements (06 R154, 14 R532). -/
def State.cmdRead (s : State) (c : Nat) (k : Cmd) (xs : List Spot) : State :=
  let near := (k.lacks xs).filter fun a => !k.far c a
  let part := pickUnit (((c * 2 ^ 32 + k.id) * 2 ^ 32 + k.moved) * 2 ^ 24 + near.length) unitOf near
  let keys := spotKeys xs
  let bs := part.map fun a => (a, s.byteKeyed ((keys.find? fun p => p.1 == a / 64).map (·.2)) a)
  s.onCmd c k.id fun k => { k with got := k.got ++ bs }

/-- Station, target word and key of a read message for the source bytes from `a` on. -/
def State.cmdTarget (s : State) (k : Cmd) (xs : List Spot) (a : Nat) : Nat × BitVec 52 × Nat :=
  if lteSpace k.src = 6 then
    let leaf := (xs.find? fun x => x.flat / 65536 == a / 65536).bind (·.leaf)
    (stationOf (match homeOf a with
      | .hbm d => d
      | _ => 0), tgtOf 3 0 (offsetOf a), (leaf.map fun l => entryKey (s.current l).entry).getD 0)
  else (stationOf (lteDie k.src), tgtOf (lteSub k.src) (lteCore k.src 0) (offsetOf a), 0)

/-- Read messages for ascending source bytes (14 R532): a message names one key, so none crosses a page of virtual memory. -/
def Cmd.reads (k : Cmd) (addrs : List Nat) : List (Nat × Nat) :=
  if lteSpace k.src = 6 then (addrs.map (· / 65536)).eraseDups.flatMap fun p => runs 256 (addrs.filter fun a => a / 65536 == p)
  else runs 256 addrs

/-- Read requests of a command for the bytes of the source elements `xs` that it lacks, ascending, at most 32 of them at a time
(14 R532); messages leave while the die has tags for them. -/
def State.cmdAsk (s : State) (c : Nat) (k : Cmd) (xs : List Spot) : State :=
  let addrs := (k.lacks xs).filter fun a => k.far c a
  if lteSpace k.src = 7 then
    ((runs 512 addrs).take 32).foldl (fun s r =>
      let peer := ltePackage k.src
      let p := s.packetTo 0 1 peer (lteCore k.src (lteDie k.src)) c (lteSub k.src) k.tenant k.job r.1 r.2
      let (num, s) := s.askPeer c peer p (.cmd k.id) r.1 r.2
      s.onCmd c k.id fun k => { k with asked := k.asked ++ [num] }) s
  else if (s.tagsInUse (dieOf c)).length + 32 > 256 then s
  else
    ((k.reads (sortAddrs addrs)).take 32).foldl (fun s r =>
      let d := dieOf c
      let tag := freeTag (s.tagsInUse d)
      let (station, tgt, key) := s.cmdTarget k xs r.1
      let m : BeMsg := ⟨s.nextPost, 1, tag, station, tgt, 2, BitVec.ofNat 2048 r.2, key, k.job⟩
      let s := { s with nextPost := s.nextPost + 1 }
      (s.enqueue (stationOf d) m).onCmd c k.id fun k => { k with tags := k.tags ++ [(tag, r.1, r.2)] }) s

/-- The next read of a command for source elements of which it lacks bytes: requests for those that travel, else a unit of the others. -/
def State.cmdFetch (s : State) (c : Nat) (k : Cmd) (xs : List Spot) : State :=
  if (k.lacks xs).any fun a => k.far c a then s.cmdAsk c k xs else s.cmdRead c k xs

/-- The TLBs looked up for elements whose pages were not looked up ahead (03 R72-R75). -/
def State.noteFresh (s : State) (w : Issuing) (ahead : List (Nat × Leaf)) (xs : List Spot) : State :=
  s.noteMisses w 2 (xs.filter fun x => match x.va with
    | some va => !ahead.any fun p => p.1 == va / 65536
    | none => false)

/-- Posted work of a command without a kind yet. -/
def Cmd.item (k : Cmd) (c : Nat) (reach : Nat) : Posted :=
  { Posted.of (.engine c) (dieOf c) k.tenant k.ctx k.job reach with
    task := k.task, bound := k.bound, cmd := some k.id, named := namesCore k.dst, pair := lteShadow k.dst }

/-- The next Canal write of a command leaves, if its window has room (05 R139). -/
def State.cmdGo (s : State) (c : Nat) (k : Cmd) : State :=
  match k.going with
  | [] => s
  | p :: rest =>
    if s.windowFull (lteRead k.dst 21) [p] then s
    else
      let peer := ltePackage k.dst
      let q := s.packetTo 2 3 peer (lteCore k.dst (lteDie k.dst)) c (lteSub k.dst) k.tenant k.job p.1 p.2.length
      let q := { q with payload := p.2, pfl := BitVec.ofNat 4 (units p.2.length) }
      let id := s.nextPost
      (s.postPacket (k.item c 3) peer q (some (lteRead k.dst 21)) []).onCmd c k.id fun k =>
        { k with going := rest, unacked := k.unacked ++ [id] }

/-- Writes of a command for elements of a row with their bytes: posted (14 R532), or in line for their window (05 R139, R522). -/
def State.cmdWrite (s : State) (c : Nat) (k : Cmd) (ys : List Spot) (bytes : Nat → List Byte) : State :=
  let bs := spotWrites ys bytes
  if lteSpace k.dst = 7 then s.onCmd c k.id fun k => { k with going := canalParts bs }
  else if overFlume c k.dst then
    let mem : Tab Byte := bs.foldl (fun t p => tput t p.1 p.2) []
    (runs 256 (mem.map (·.1))).foldl (fun s r =>
      let data := leNat ((List.range r.2).map fun i => tget 0 mem (r.1 + i))
      let m : BeMsg := ⟨s.nextPost, 0, 0, stationOf (lteDie k.dst), tgtOf (lteSub k.dst) (lteCore k.dst 0) (offsetOf r.1), r.2,
        BitVec.ofNat 2048 data, 0, k.job⟩
      (s.post { k.item c (dieReach k.dst) with kind := .message m }).enqueue (stationOf (dieOf c)) m) s
  else
    (granules ys).foldl (fun s g =>
      let zs := ys.filter fun y => y.flat / 64 == g
      let z := zs.head?
      s.post { k.item c (homeReach c (homeOf (64 * g))) with
        kind := .write (spotWrites zs bytes) (z.bind (·.material)), leaf := z.bind (·.leaf), va := z.bind (·.va) }) s

/-- Look-ahead of the row that a command moves next: pages not looked up yet (03 R75). -/
def State.lookAhead (s : State) (c : Nat) (k : Cmd) : State :=
  if k.moved % k.ne ≠ 0 || k.ne * k.nr ≤ k.moved then s
  else
    let w := k.issuing c
    let pages := s.aheadOf w .read k.src k.srcHalf [k.from k.moved] k.ne k.ahead
    let pagesTo := s.aheadOf w .write k.dst k.dstHalf [k.dstCoord k.moved] k.ne k.aheadTo
    ((s.notePages w pages).notePages w pagesTo).onCmd c k.id fun k =>
      { k with ahead := k.ahead ++ pages, aheadTo := k.aheadTo ++ pagesTo }

/-- The engine moves on with the next row of a copy command: it reads the row's bytes, part after part, then writes them. Nothing moves
while a window is full, requests are unanswered, or the next element faults. -/
def State.moveCmd (s : State) (c id : Nat) : State :=
  match s.cmd c id with
  | none => s
  | some k =>
    match k.kind with
    | .dclm _ _ => s
    | _ =>
      if !s.cmdReady c k || !k.asked.isEmpty || !k.tags.isEmpty then s
      else if !k.going.isEmpty then s.cmdGo c k
      else if k.moved ≥ k.ne * k.nr then s
      else
        let (pairs, _) := s.cmdSpots c k k.next
        let xs := pairs.map (·.1)
        let ys := pairs.map (·.2)
        if pairs.isEmpty then s
        else if !k.holds xs then ((if k.got.isEmpty then s.noteFresh (k.issuing c) k.ahead xs else s)).cmdFetch c k xs
        else
          let cells : Tab (List Byte) := xs.foldl (fun t x => tput t x.lane (k.bytesAt x)) []
          let first := s.nextPost
          let s := (s.noteFresh (k.issuing c) k.aheadTo ys).cmdWrite c k ys fun i => tget [] cells i
          let ids := (List.range (s.nextPost - first)).map (first + ·)
          let k' := { k with moved := k.moved + pairs.length, unacked := k.unacked ++ ids, got := [] }
          (s.onCmd c id fun k => { k with moved := k'.moved, unacked := k'.unacked, got := [] }).lookAhead c k'

/-- The source elements of row `i` of a claim, or the fault among them. -/
def State.claimRow (s : State) (c : Nat) (k : Cmd) (i : Nat) : Except Fail (List Spot) :=
  let (pairs, e) := s.cmdSpots c k ((List.range k.ne).map (i * k.ne + ·))
  match e with
  | some f => .error f
  | none => .ok (pairs.map (·.1))

/-- A command with the near bytes of elements that it lacks as they stand now. -/
def State.cmdNow (s : State) (c : Nat) (k : Cmd) (xs : List Spot) : Cmd :=
  let keys := spotKeys xs
  let near := (k.lacks xs).filter fun a => !k.far c a
  { k with got := k.got ++ near.map fun a => (a, s.byteKeyed ((keys.find? fun p => p.1 == a / 64).map (·.2)) a) }

/-- A number that names 64 B piece `i` of a drawer row where a fill of command `id` meets another write. -/
def pieceStamp (c id key i : Nat) : Nat := ((c * 2 ^ 32 + id) * 2048 + key) * 4 + i

/-- A row whose fill meets a DREL or a DWR: each 64 B one of the two contents (14 R368). -/
def State.mixRow (s : State) (c id key : Nat) (fill : List Byte) : List Byte :=
  let old := s.load ((Home.drawer c).at (key * 256)) 256
  (List.range 256).map fun i => if Config.fillKept (pieceStamp c id key (i / 64)) then fill.getD i 0 else old.getD i 0

/-! ### Drawer rows (14 R368) -/

/-- Rows of a range word. -/
def rangeRows (a : Word) : List Nat :=
  (List.range (field a 21 16 + 1)).filterMap fun i =>
    if field a 15 10 + i < 64 then some (field a 9 5 * 64 + field a 15 10 + i) else none

/-- The row of a claim that a drawer row is, if the claim still owes it. -/
def Cmd.owes (k : Cmd) (key : Nat) : Option Nat :=
  match k.kind with
  | .dclm d r => k.rows.find? fun i => d * 64 + r + i == key
  | _ => none

/-- A claim whose rows in `keys` are cancelled (14 R368). -/
def Cmd.cancel (keys : List Nat) (k : Cmd) : Cmd :=
  match k.kind with
  | .dclm d r =>
    let left := k.rows.filter fun i => !keys.contains (d * 64 + r + i)
    let cleared := (k.rows.head?.map fun i => keys.contains (d * 64 + r + i)) == some true
    { k with rows := left, complete := k.complete || left.isEmpty, faulted := if cleared then none else k.faulted
             got := if cleared then [] else k.got, asked := if cleared then [] else k.asked }
  | _ => k

/-- One row released: it holds what it held, or the fill's bytes where they can be read now. -/
def State.releaseRow (s : State) (c key : Nat) : State :=
  match (s.core c).cmds.find? fun k => !k.complete && (k.owes key).isSome with
  | none => s
  | some k =>
    match s.claimRow c k ((k.owes key).getD 0) with
    | .ok xs =>
      let k := s.cmdNow c k xs
      if k.holds xs then s.store (placed ((Home.drawer c).at (key * 256)) (s.mixRow c k.id key (xs.flatMap k.bytesAt))) else s
    | .error _ => s

def execDrel (f : La) (s : State) : Res :=
  s.guarded f.g fun s =>
    let keys := rangeRows (s.srcInt (lUnit f.x) f.a)
    let s := keys.foldl (fun s key =>
      match tget RowState.ready s.me.rows key with
      | .ready => s
      | _ => s.releaseRow s.cx.core key) s
    let held := keys.filter fun key => tget RowState.ready s.me.rows key != .ready
    (s.onCore s.cx.core fun k => { k with
      cmds := k.cmds.map (Cmd.cancel held)
      rows := k.rows.filter fun p => !keys.contains p.1 }).busy

def execDwr (f : Ldwr) (s : State) : Res :=
  s.guarded f.g fun s =>
    let key := f.drawer.val * 64 + f.row.val
    let v := (s.vsrc (.int 64) f.a).toNat
    let half := if f.hi then v / 2 ^ 2048 else v
    let s := s.store (placed ((Home.drawer s.cx.core).at (key * 256)) (leBytes 256 half))
    (s.onCore s.cx.core fun k => { k with rows := tdel k.rows key }).busy

/-! ### Events of the engine -/

/-- Whether a fill of the row by an earlier command comes first (14 R367). -/
def State.fillsFirst (s : State) (c id key : Nat) : Bool :=
  (s.core c).cmds.any fun k => k.id < id && !k.complete && (k.owes key).isSome

/-- The first row a claim still owes, with its drawer key. -/
def Cmd.nextRow (k : Cmd) : Option (Nat × Nat) :=
  match k.kind with
  | .dclm d r => (k.rows.head?).map fun i => (i, d * 64 + r + i)
  | _ => none

/-- The next row of a claim is read, part after part, and filled (14 R367). A row that MDRD or MBST has made READY meanwhile, as a DWR does
(R368), ends with each 64 B one of the two contents: the spec says so of DWR and DREL, and the model takes it for those too. -/
def execDrawerRowFilled (c id : Nat) (s : State) : Res :=
  match s.cmd c id with
  | none => event "DRAWER_ROW_FILLED" false s
  | some k =>
    match k.nextRow with
    | none => event "DRAWER_ROW_FILLED" false s
    | some (i, key) =>
      if !s.cmdReady c k || s.fillsFirst c id key || !k.asked.isEmpty || !k.tags.isEmpty then event "DRAWER_ROW_FILLED" false s
      else
        match s.claimRow c k i with
        | .error _ => event "DRAWER_ROW_FILLED" false s
        | .ok xs =>
          if !k.holds xs then .next (((if k.got.isEmpty then s.noteFresh (k.issuing c) k.ahead xs else s)).cmdFetch c k xs)
          else
          let bs := xs.flatMap k.bytesAt
          let mine := tget RowState.ready (s.core c).rows key == .pending id
          let s := s.store (placed ((Home.drawer c).at (key * 256)) (if mine then bs else s.mixRow c id key bs))
          let s := if mine then s.onCore c fun x => { x with rows := tdel x.rows key } else s
          .next (s.onCmd c id fun k => { k with rows := k.rows.drop 1, complete := k.rows.length ≤ 1, got := [] })

/-- Every write of a command has been performed (06 R169); a CPYA then publishes (06 R172). -/
def execCopyComplete (c id : Nat) (s : State) : Res :=
  match s.cmd c id with
  | none => event "COPY_COMPLETE" false s
  | some k =>
    let moved := match k.kind with
      | .dclm _ _ => k.rows.isEmpty
      | _ => k.moved ≥ k.ne * k.nr && k.going.isEmpty
    if k.complete || k.faulted.isSome || !moved || !s.performed k.unacked then event "COPY_COMPLETE" false s
    else
      let s := s.onCmd c id fun k => { k with complete := true, unacked := [] }
      match k.kind, k.issuer with
      | .cpya _, .seat n =>
        .next (s.release { k.item c 4 with agent := .seat c n, num := k.num, cmd := none } c k.dst (some (lteRead k.dst 18)) [])
      | _, _ => .next s

/-- The transfer reaches an element that translation refuses (14 R364): the command is faulted, and a drawer row with it (13 R336). -/
def execCopyFault (c id : Nat) (s : State) : Res :=
  match s.cmd c id with
  | none => event "COPY_FAULT" false s
  | some k =>
    if !s.cmdReady c k then event "COPY_FAULT" false s
    else
      let first := match k.nextRow with
        | some (i, _) => (List.range k.ne).map (i * k.ne + ·)
        | none => if k.moved < k.ne * k.nr then [k.moved] else []
      match (s.cmdSpots c k first).2 with
      | none => event "COPY_FAULT" false s
      | some f =>
        let s := s.onCmd c id fun k => { k with faulted := some f.tval, faultCause := f.cause }
        match k.nextRow with
        | some (_, key) =>
          .next (if tget RowState.ready (s.core c).rows key = .pending id
            then s.onCore c fun x => { x with rows := tput x.rows key (.faulted id f.tval) } else s)
        | none => .next s

/-- Faulted commands of a task are resumed from the faulting granule, and faulted rows become PENDING (14 R364, 13 R337). -/
def State.resumeCmds (s : State) (c : Nat) (mine : Cmd → Bool) : State :=
  s.onCore c fun k =>
    let ids := (k.cmds.filter fun x => mine x && x.faulted.isSome).map (·.id)
    { k with
      cmds := adjust (fun x => ids.contains x.id) (fun x => { x with faulted := none }) k.cmds
      rows := k.rows.map fun p => match p.2 with
        | .faulted id _ => if ids.contains id then (p.1, .pending id) else p
        | _ => p }

end Sys2Proof.Machine
end

