-- ==== Sys2Proof/Machine/Digest.lean ====
section
/-! DEFINITION. Region digests and the digest cache (15 R401, R402), quota records (15 R405), and DIGQ (14 R384). -/

namespace Sys2Proof.Machine

/-! ### Quota records (15 R405) -/

/-- Doubleword `i` of a tenant's quota record on a die. -/
def State.quotaDw (s : State) (d tenant i : Nat) : Word :=
  BitVec.ofNat 64 (s.loadNat ((Home.cist d).at ((s.die d).quotaBase + tenant % 1024 * 64 + 8 * i)) 8)
def State.quotaEntries (s : State) (d tenant : Nat) : Nat := min 32768 (field (s.quotaDw d tenant 0) 63 48)
def State.quotaDigests (s : State) (d tenant : Nat) : Nat := min 4096 (field (s.quotaDw d tenant 0) 47 32)
/-- Bytes of a result block. -/
def State.quotaBlock (s : State) (d tenant : Nat) : Nat := field (s.quotaDw d tenant 0) 31 0 * 64
def State.quotaBase (s : State) (d tenant : Nat) : Nat := field (s.quotaDw d tenant 1) 54 0
def State.quotaCtx (s : State) (d tenant : Nat) : Nat := field (s.quotaDw d tenant 2) 11 0
/-- A tenant's salt on a die: the root of trust keeps it, and no access reads it. -/
def saltOf (d tenant : Nat) : List Byte := leBytes 32 (Config.salt (d * 1024 + tenant % 1024)).toNat

/-! ### Regions (15 R401) -/

/-- Extents of the dimensions of an entry, 1 beyond its rank. -/
def extents (b : LteBits) : List Nat := (List.range 4).map fun i => if i ≤ lteRead b 10 then lteRead b (2 + i) + 1 else 1

/-- Every coordinate tuple of an entry, c0 fastest. -/
def regionCoords (b : LteBits) : List (List Nat) :=
  let x := extents b
  (List.range (x.getD 3 1)).flatMap fun c3 => (List.range (x.getD 2 1)).flatMap fun c2 =>
    (List.range (x.getD 1 1)).flatMap fun c1 => (List.range (x.getD 0 1)).map fun c0 => [c0, c1, c2, c3]

/-- The corners of a region. -/
def regionCorners (b : LteBits) : List (List Nat) :=
  let x := (extents b).map fun n => [0, n - 1]
  (x.getD 3 []).flatMap fun c3 => (x.getD 2 []).flatMap fun c2 => (x.getD 1 []).flatMap fun c1 => (x.getD 0 []).map fun c0 =>
    [c0, c1, c2, c3]

/-- The half of a pair that an agent's access of an entry acts on (01 R28). -/
def State.halfOf (s : State) (w : Issuing) (b : LteBits) : Bool := lteShadow b && s.sampled w.core w.seat b w.stamp != w.back

/-- Bytes of a region that lie at consecutive addresses and in one granule: its element, or one byte where its elements are not aligned. -/
def regionUnit (b : LteBits) : Nat :=
  let z := lteSize b
  if lteRead b 0 % z = 0 ∧ ((List.range 4).all fun i => i > lteRead b 10 || stride32 (lteRead b (6 + i)) % z == 0) then z else 1

/-- The pieces of a region's half at their homes, or the fault of the access (01 R18, R19). -/
def State.regionIn (s : State) (w : Issuing) (u : Use) (e : Nat) (b : LteBits) (half : Bool) : Except Fail (List Spot) :=
  match s.blockFault w u e b 1 (regionCorners b) with
  | some f => .error f
  | none =>
    let z := regionUnit b
    let offs := (regionCoords b).flatMap fun cs => (List.range (lteSize b / z)).map fun i => offsetIn b half cs + z * i
    s.spots w u ⟨e, b, z, offs⟩ (List.range offs.length)

def State.regionSpots (s : State) (w : Issuing) (u : Use) (e : Nat) (b : LteBits) : Except Fail (List Spot) :=
  s.regionIn w u e b (s.halfOf w b)

/-- Bytes of a region's pieces, in order. -/
def State.regionBytes (s : State) (b : LteBits) (xs : List Spot) : List Byte :=
  xs.flatMap fun x => (List.range (regionUnit b)).map fun j => s.byteKeyed x.material (x.flat + j)

/-! ### The digest cache (15 R402) -/

/-- The fields of an entry that make a tag: BASE, extents, strides, ETYPE and RANK. -/
def digestTag (b : LteBits) : LteBits :=
  [0, 2, 3, 4, 5, 6, 7, 8, 9, 10, 11].foldl (fun t code => lteWrite t code (lteRead b code)) 0

/-- Whether a region may be cached: VIRT, with WATCH in every page. -/
def State.watched (s : State) (b : LteBits) (xs : List Spot) : Bool :=
  lteSpace b == 6 && xs.all fun x => match x.leaf with
    | some l => bitOf (s.current l).entry 5
    | none => false

/-- The least recently used digest. -/
def oldestDigest : List Digest → Option Digest
  | [] => none
  | g :: t =>
    match oldestDigest t with
    | some x => if x.used < g.used then some x else some g
    | none => some g

/-- A list without the `n` least recently used digests of a tenant. -/
def dropOldest (tenant : Nat) : Nat → List Digest → List Digest
  | 0, l => l
  | n + 1, l =>
    match oldestDigest (l.filter fun g => g.tenant == tenant) with
    | some g => dropOldest tenant n (l.erase g)
    | none => l

/-- A die's digests with at most `most` of a tenant's. -/
def State.keepDigests (s : State) (d tenant most : Nat) : State :=
  let all := (s.die d).digests
  let mine := (all.filter fun g => g.tenant == tenant).length
  if mine ≤ most then s else s.onDie d fun k => { k with digests := dropOldest tenant (mine - most) all }

/-- A digest installed: the tenant's share holds, and where the cache is full one of its own entries makes room. -/
def State.installDigest (s : State) (d : Nat) (g : Digest) : State :=
  let share := s.quotaDigests d g.tenant
  let room (s : State) : Bool := (s.die d).digests.length < 4096
  let mine := ((s.die d).digests.filter fun x => x.tenant == g.tenant).length
  let s := s.keepDigests d g.tenant (share - 1)
  let s := if room s then s else s.keepDigests d g.tenant (mine - 1)
  if share = 0 || !room s then s else s.onDie d fun k => { k with digests := k.digests ++ [g] }

/-- The region digest of an entry's half for an agent of core `w.core`, through its die's cache; the pages translated enter the TLBs
(03 R72-R74). R74 does not rank the digest engine's misses: the model puts them last among equal stamps of a core, with rank 3. -/
def State.digestIn (s : State) (w : Issuing) (e : Nat) (b : LteBits) (half : Bool) : Except Fail (List Byte × State) :=
  match s.regionIn w .load e b half with
  | .error f => .error f
  | .ok xs =>
    let d := dieOf w.core
    let tag := digestTag b
    let same (g : Digest) : Bool := g.tenant == w.tenant && g.ctx == w.ctx && g.tag == tag
    if lteSpace b ≠ 6 then .ok (sha256 (s.regionBytes b xs), s)
    else
      let s := s.keepDigests d w.tenant (s.quotaDigests d w.tenant)
      match (s.die d).digests.find? same with
      | some g =>
        .ok ((leBytes 32 g.digest.toNat), s.onDie d fun k => { k with digests := adjust same (fun x => { x with used := k.cyc }) k.digests })
      | none =>
        let h := sha256 (s.regionBytes b xs)
        let s := s.noteMisses w 3 xs
        let pages := sortAddrs (xs.map fun x => x.flat / 65536)
        .ok (h, if s.watched b xs
          then s.installDigest d ⟨w.tenant, w.ctx, tag, pages, BitVec.ofNat 256 (leNat h), (s.die d).cyc⟩ else s)

def State.regionDigest (s : State) (w : Issuing) (e : Nat) (b : LteBits) : Except Fail (List Byte × State) :=
  s.digestIn w e b (s.halfOf w b)

/-- DIGQ: the digest arrives under a horizon of 800 (02 R49) and that of the selector read (01 R531); a region of another package is read by
Canal requests, every other is hashed once the selector has come back. -/
def execDigq (f : Lde) (s : State) : Res :=
  s.guarded f.g fun s =>
    let e := f.e.val
    let b := s.seat.entry e
    let w := { s.issuing with region := true }
    let c := s.cx.core
    if s.seat.pure && lteRead b 20 != 1 then s.impure
    else
      match s.regionSpots w .load e b with
      | .error x => s.raise x.cause x.tval
      | .ok xs =>
        let trip (id : Nat) : Trip :=
          ⟨id, spotBytes (regionUnit b) xs, [], .digest, none, [], .direct, s.seat.tenant, syncObject c b, 3, 0, [], namesCore b⟩
        let lat := 800 + selectorHorizon c b
        if lteSpace b = 7 then s.setOut .v lat (s.vfileEffect f.d) true none b trip
        else
          let (id, s1) := s.newTrip
          let (sel, s1) := s1.askSelector (s1.myItem 4) c b s.stamp
          s1.flyLoad .v lat (s.vfileEffect f.d) true none
            (.inl { trip id with after := sel, route := .asking (.digest e b (s.halfOf w b) s.seat.ctx s.seat.sup) })

end Sys2Proof.Machine
end

