-- ==== Sys2Proof/Machine/Branch.lean ====
section
/-! DEFINITION. The prefix slots and the B slots of 11 R290-R303: targets, transfers, the nested-loop sequencer, yields, waits and
leave. -/

namespace Sys2Proof.Machine

/-! ### Prefix slots (09 R244) -/

/-- PSC: the bundle's scope and its g ports; a port without a g register holds the code 31. -/
def execPsc (f : Ppsc) (s : State) : Res :=
  let p (x : Option (Fin 31)) : Nat := match x with
    | some n => n.val
    | none => 31
  .next { s with cx := { s.cx with scope := f.scope.val, ports := [p f.gp0, p f.gp1, p f.gp2, p f.gp3] } }

/-- PIM: the low half of the long immediate. -/
def execPim (f : Pimm) (s : State) : Res := .next { s with cx := { s.cx with pim := some f.val } }

/-- PIMH: its high half. -/
def execPimh (f : Pimm) (s : State) : Res := .next { s with cx := { s.cx with pimh := some f.val } }

/-! ### Targets and transfers (11 R290, R291) -/

def execNopb (_ : Bn) (s : State) : Res := .next s

/-- A value that lands in a branch target register and in the B latch after 2 counted cycles. -/
def State.setTarget (s : State) (t : Nat) (v : Word) : State := s.fly .b 2 (.target t v) (some (v.setWidth 4096))

/-- A target whose low four bits must be 0 (11 R290, R291). -/
def State.aligned (s : State) (v : Word) (act : State → State) : State :=
  if v.toNat % 16 ≠ 0 then s.raise 5 v else act s

def execBpt (f : Bpt) (s : State) : Res :=
  s.guarded f.g fun s =>
    let v : VA := (s.cx.addr &&& ~~~(15 : VA)) + f.off.signExtend 55 * 16
    s.setTarget f.t.val (v.setWidth 64)

def execBptr (f : Bba) (s : State) : Res :=
  s.guarded f.g fun s =>
    let v := s.srcInt .b f.a
    s.aligned v fun s => s.setTarget f.t.val v

def execBptrRel (f : Bba) (s : State) : Res :=
  s.guarded f.g fun s =>
    let v : Word := (s.cx.addr + (s.srcInt .b f.a).setWidth 55).setWidth 64
    s.aligned v fun s => s.setTarget f.t.val v

def Seat.target (st : Seat) (t : Nat) : Word := tget 0 st.b t

def execBtr (f : Bb) (s : State) : Res :=
  s.guarded f.g fun s => s.noDelay fun s => s.transfer ((s.seat.target f.t.val).setWidth 55) true false

/-- A call to `t`: the link is the address of the bundle after the second delay bundle (11 R291). The words of the two delay bundles
are read as a fetch reads them. -/
def State.call (s : State) (t : Word) : State :=
  let next := s.cx.addr.toNat + 4 * s.cx.length
  match s.skipBundles s.cx.core s.seat.ctx s.seat.sup 2 next with
  | .error (.fault tv) => s.raise 15 tv
  | .error (.miss va) => s.missLine va
  | .error (.word _) => s
  | .ok link =>
    s.aligned (BitVec.ofNat 64 link) fun s =>
      let v : Word := BitVec.ofNat 64 link
      (s.fly .b 2 (.link v) (some (v.setWidth 4096))).transfer (t.setWidth 55) false false

def execBcl (f : Bb) (s : State) : Res :=
  s.guarded f.g fun s => s.noDelay fun s => s.call (s.seat.target f.t.val)

def execBclA (f : Ba) (s : State) : Res :=
  s.guarded f.g fun s => s.noDelay fun s =>
    let v := s.srcInt .b f.a
    s.aligned v fun s => s.call v

def execBrtn (f : Bn) (s : State) : Res :=
  s.guarded f.g fun s => s.noDelay fun s => s.transfer (s.seat.link.setWidth 55) false false

def execBrtnA (f : Ba) (s : State) : Res :=
  s.guarded f.g fun s => s.noDelay fun s =>
    let v := s.srcInt .b f.a
    s.aligned v fun s => s.transfer (v.setWidth 55) false false

/-! ### The nested-loop sequencer (11 R293-R298) -/

/-- The END scan of the issuing LSET from the bundle at `pos` with `left` to read: the address of the last, or what stops the fetch, with the
bundle the scan has come to and how many are left. -/
def State.scanFrom (s : State) : Nat → Nat → Except (Fetch × Nat × Nat) Nat
  | 0, pos => .ok pos
  | left + 1, pos =>
    match s.fetchBundle s.cx.core s.seat.ctx s.seat.sup 8 pos with
    | .error f => .error (f, pos, left + 1)
    | .ok ws => if left = 0 then .ok pos else s.scanFrom left (pos + 4 * ws.length)

/-- The address of the `len`-th bundle from `start` (11 R293): END. The scan reads the words of all `len` bundles, and goes on where it
stood when a line was not cached (11 R294). -/
def State.closeBundle (s : State) (start len : Nat) : Except (Fetch × Nat × Nat) Nat :=
  match s.seat.scan with
  | some x => if x.start = start ∧ x.len = len then s.scanFrom x.left x.pos else s.scanFrom len start
  | none => s.scanFrom len start

/-- LSET with its count and length (11 R294). -/
def State.openLoop (s : State) (count len : Nat) : State :=
  if count % 2 ^ 32 = 0 then s.raise 6 1
  else if s.seat.levels.length ≥ 6 then s.raise 6 2
  else if len < 1 ∨ 65536 < len then s.raise 6 4
  else
    let start := s.cx.addr.toNat + 4 * s.cx.length
    match s.closeBundle start len with
    | .error (.fault tv, _) => s.raise 15 tv
    | .error (.miss va, pos, left) => (s.missLine va).onMe fun st => { st with scan := some ⟨start, len, pos, left⟩ }
    | .error (.word _, _) => s
    | .ok stop =>
      let beyond : Bool := match s.seat.levels with
        | l :: _ => l.stop.toNat < stop
        | [] => false
      if beyond then s.raise 6 3
      else
        s.fly .b 1 (.loopOpen ⟨BitVec.ofNat 55 start, BitVec.ofNat 55 stop, BitVec.ofNat 32 count, 0, []⟩) none

def execLset (f : Blset) (s : State) : Res :=
  s.guarded f.g fun s => s.noDelay fun s => s.openLoop (s.srcInt .b f.a).toNat (f.len.val + 1)

def execLsetReg (f : Bab) (s : State) : Res :=
  s.guarded f.g fun s => s.noDelay fun s => s.openLoop (s.srcInt .b f.a).toNat (s.srcInt .b f.b).toNat

/-- The pairs an LSTR adds to: the staged set, or those of an active level (11 R295). -/
def Seat.strides (st : Seat) (level : Nat) : Option (List (Nat × Word)) :=
  if level = 7 then some st.staged else (st.levels[level]?).map (·.strides)

def execLstr (f : Blstr) (s : State) : Res :=
  s.guarded f.g fun s =>
    match s.seat.strides f.level.val with
    | none => s.raise 6 5
    | some l =>
      if (attach l f.n.val 0).length > 4 then s.raise 6 6
      else
        let depth := if f.level.val = 7 then none else some (s.seat.levels.length - 1 - f.level.val)
        s.fly .b 1 (.loopStride depth f.n.val (s.srcInt .b f.a)) none

def execLbrk (f : Blbrk) (s : State) : Res :=
  s.guarded f.g fun s => s.noDelay fun s =>
    let s := s.fly .b 1 (.loopBreak f.n.val) none
    { s with cx := { s.cx with broke := true } }

def execLrrb (f : Ba) (s : State) : Res :=
  s.guarded f.g fun s => s.fly .b 1 (.rrb ((s.srcInt .b f.a).setWidth 3)) none

/-! ### Yields (07 R190, 11 R299) -/

/-- The bundle commits, and the seat yields. -/
def State.commitYield (s : State) (withhold : Bool) : State :=
  let s := s.commit.yield withhold
  { s with cx := { s.cx with out := .after } }

def execYld (f : Bn) (s : State) : Res := s.guarded f.g fun s => s.noDelay fun s => s.commitYield false
def execYldp (f : Bn) (s : State) : Res := s.guarded f.g fun s => s.noDelay fun s => s.commitYield true

/-! ### Waits (07 R195, 11 R300-R302) -/

/-- Commands of the issuing seat's task with a promise at or below `p` (11 R300). -/
def State.dueCmds (s : State) (p : Nat) : List Cmd :=
  s.me.cmds.filter fun k =>
    k.issuer == .seat s.cx.seat && k.task == some (dieOf s.cx.core, s.seat.record) && k.promise ≤ p

/-- The wait of the issuing slot is over by its event, or by the clock. -/
def State.waited (s : State) (deadline : Nat) : Bool :=
  deadline ≤ s.cyc || (match s.myWait with
    | some w => w.ended
    | none => false)

def execWtc (f : Ba) (s : State) : Res :=
  s.guarded f.g fun s =>
    let p := (s.srcInt .b f.a).toNat
    if s.waited p then
      let due := s.dueCmds p
      match due.find? fun k => k.faulted.isSome with
      | some k => s.raise k.faultCause (k.faulted.getD 0)
      | none => if due.all fun k => k.complete then s else s.raise 33 (BitVec.ofNat 64 p)
    else s.stall { s.waitFor .promise with deadline := p }

/-- MISSREG of a flag (04 R103). -/
def Seat.missReg (st : Seat) (n : Nat) : Nat := (tget (0 : BitVec 21) st.missing n).toNat
/-- TVAL that names a flag and its MISSREG (11 R301). -/
def Seat.flagTval (st : Seat) (n : Nat) : Word := BitVec.ofNat 64 (n * 2 ^ 24 + st.missReg n)

def execWfl (f : Bwfl) (s : State) : Res :=
  s.effectful f.g fun s =>
    let n := f.flag.val
    let t := (s.srcInt .b f.a).toNat
    let since := match s.myWait with
      | some w => w.since
      | none => s.cyc
    if s.seat.flags.getLsbD n then
      if s.seat.flagErr.getLsbD n then s.raise 22 (s.seat.flagTval n) else s.busy.onMe fun st => st.clearFlag n
    else if s.waited (since + t) then s.raise 34 (s.seat.flagTval n)
    else s.stall { s.waitFor .flag with deadline := since + t }

def execWmon (f : Ba) (s : State) : Res :=
  s.guarded f.g fun s =>
    let t := (s.srcInt .b f.a).toNat
    let since := match s.myWait with
      | some w => w.since
      | none => s.cyc
    match s.seat.monitor with
    | none => s
    | some m =>
      if m.fired || s.waited (since + t) then s.onMe fun st => { st with monitor := none }
      else s.stall { s.waitFor .monitor with deadline := since + t }

/-! ### Leave (11 R303, 17 R441) -/

/-- ASK: a request enters the controller's queue as the stall begins. The wait's `deadline` holds the units asked. -/
def execAsk (f : Ba) (s : State) : Res :=
  s.guarded f.g fun s =>
    let v := s.srcInt .b f.a
    let n := v.toNat
    if n = 0 then s
    else if s.seat.leave + n > 64 then s.raise 20 v
    else
      match s.myWait with
      | some w => if w.ended then s.onMe fun st => { st with leave := st.leave + n } else s.stall w
      | none =>
        let s := s.onDie (dieOf s.cx.core) fun d => { d with asks := d.asks ++ [⟨s.cx.core, s.cx.seat, n, d.cyc⟩] }
        s.stall { s.waitFor .leave with deadline := n }

def execAskr (f : Ba) (s : State) : Res :=
  s.guarded f.g fun s =>
    let m := min (s.srcInt .b f.a).toNat s.seat.leave
    let s := s.onMe fun st => { st with leave := st.leave - m }
    s.onDie (dieOf s.cx.core) fun d => { d with grant := d.grant - m }

end Sys2Proof.Machine
end

