-- ==== Sys2Proof/Machine/Tasks.lean ====
section
/-! DEFINITION. Task records, readiness and decrements (15 R388, R389; 07 R202; 14 R534; 17 R431, R432), and the slots that create and end
tasks, trap and return, begin snapshots and drop translations (15 R391-R399). -/

namespace Sys2Proof.Machine

/-! ### Fields of a record -/

def State.recCoord (s : State) (d rec : Nat) : Nat := field (s.recDw d rec 0) 12 0
/-- Core of a coordinate packed as g0 (07 R184). -/
def coordCore (coord : Nat) : Nat := coord / 512 % 16 * 64 + coord / 64 % 8 * 8 + coord / 8 % 8
def State.recCore (s : State) (d rec : Nat) : Nat := coordCore (s.recCoord d rec)
def State.recPrio (s : State) (d rec : Nat) : Nat := field (s.recDw d rec 0) 28 25
def State.recPure (s : State) (d rec : Nat) : Bool := bitOf (s.recDw d rec 0) 24

/-! ### Readiness (17 R432, R433) -/

/-- Ready queue of a record on its core: 64·priority + launch slot. -/
def State.fifoKey (s : State) (d rec : Nat) : Nat := 64 * s.recPrio d rec + s.recSlot d rec

/-- A record put at the tail of a ready queue, ahead of those of larger index that became ready in the same core cycle. -/
def appendReady (recent : List Nat) (rec : Nat) (q : List Nat) : List Nat :=
  let later := (q.reverse.takeWhile fun r => recent.contains r && rec < r).reverse
  q.take (q.length - later.length) ++ rec :: later

/-- A task joins its ready queue, at the tail or at the head. -/
def State.queueTask (s : State) (d rec : Nat) (front : Bool) : State :=
  let key := s.fifoKey d rec
  let c := s.recCore d rec
  let now := s.cycOf c
  s.onCore c fun k =>
    let q := tget [] k.fifos key
    let recent := k.readied.filter fun p => p.2 == now
    { k with
      fifos := tput k.fifos key (if front then rec :: q else appendReady (recent.map (·.1)) rec q)
      readied := if front then recent else recent ++ [(rec, now)] }

/-- Whether a task stands in its ready queue. -/
def State.queued (s : State) (d rec : Nat) : Bool := (tget [] (s.core (s.recCore d rec)).fifos (s.fifoKey d rec)).contains rec

/-- A task becomes ready: one that is not pure is queued at once, a pure one after its lookup. -/
def State.makeReady (s : State) (d rec : Nat) : State :=
  let s := s.setRecState d rec 2
  if s.recPure d rec then s else s.queueTask d rec false

/-- A decrement of a record at its cistern by a tenant (14 R534): `cls` is the class under which another tenant's record is logged. -/
def State.decrement (s : State) (d rec amount tenant cls : Nat) : State :=
  let dw := s.recDw d rec 0
  let old := sint 32 (field dw 63 32)
  let new := uint 32 (old - amount)
  if field dw 31 29 = 0 then s.logAt d 10 8 0 rec tenant 0
  else if s.recTenant d rec ≠ tenant then s.logAt d cls 8 1 rec tenant (s.recCoord d rec)
  else
    let s := s.setRecDw d rec 0 (putField dw 63 32 new)
    if old ≤ 0 then s.logAt d 10 8 0 rec tenant (s.recCoord d rec)
    else if sint 32 new ≤ 0 ∧ field dw 31 29 = 1 then s.makeReady d rec
    else s

/-- Successor entries of a record in use, in order (15 R389). -/
def State.successors (s : State) (d rec : Nat) : List Word :=
  let inline_ := (List.range 8).map fun i => s.recDw d rec (8 + i)
  let w := s.recDw d rec 4
  let inTable := (List.range (field w 63 48)).map fun i =>
    BitVec.ofNat 64 (s.loadNat ((Home.cist d).at (field w 20 0 * 8 + 8 * i)) 8)
  (inline_ ++ inTable).filter fun e => bitOf e 50

/-- Every successor of a task is decremented, as TDEC at .pkg would (15 R389). -/
def State.releaseSuccessors (s : State) (d rec : Nat) : State :=
  let k := s.recSlot d rec
  let item := Posted.of (.station (stationOf d)) d (s.slotTenant k) (s.slotCtx k) (s.slotJob k) 2
  (s.successors d rec).foldl (fun s e =>
    if s.handleRefused (d * 64) item.tenant e then s.logRefusalAt (s.recAt d rec) (s.recCoord d rec) item.tenant
    else s.decrementBy item (d * 64) e (max 1 (field e 35 20)) []) s

/-! ### Creation (17 R431, 15 R391) -/

/-- The lowest FREE record of a die from `i` on, among `n`. -/
def State.freeRecord (s : State) (d : Nat) : Nat → Nat → Option Nat
  | 0, _ => none
  | n + 1, i => if s.recState d i = 0 then some i else s.freeRecord d n (i + 1)

/-- The lowest `m` FREE records from `i` on. -/
def State.freeRecords (s : State) (d : Nat) : Nat → Nat → List Nat
  | 0, _ => []
  | m + 1, i =>
    match s.freeRecord d (65536 - i) i with
    | some r => r :: s.freeRecords d m (r + 1)
    | none => []

/-- The lowest free save slot of a launch's pool. -/
def State.freeSave (s : State) (k : Nat) : Option Nat :=
  let used := (s.launch k).saves
  let n := (s.launchDw k 12).toNat % 2 ^ 32
  (List.range (min n (used.length + 1))).find? fun i => !used.contains i

/-- A record written for a task of launch slot `k` (15 R388, 17 R431). -/
def State.createRecord (s : State) (d rec k coord dep saveSlot : Nat) (succ0 : Word) : State :=
  let l (i : Nat) : Word := s.launchDw k i
  let dw2 := l 2
  let lowest := ((List.range 16).find? fun i => dw2.getLsbD i).getD 0
  let first := lowest * 512 + field dw2 18 16 * 64 + field dw2 21 19 * 8
  let bit (b : Bool) (n : Nat) : Nat := if b then 2 ^ n else 0
  let dw0 := dep % 2 ^ 32 * 2 ^ 32 + 2 ^ 29 + field dw2 35 32 * 2 ^ 25 + bit (bitOf dw2 59) 24 + bit (bitOf dw2 60) 23 +
    bit (bitOf dw2 61 && coord == first) 22 + bit (bitOf dw2 62) 21 + coord % 8192
  let words : List Word :=
    [BitVec.ofNat 64 dw0, BitVec.ofNat 64 ((s.launch k).lid * 2 ^ 32 + launchOff k / 256), BitVec.ofNat 64 (field (l 3) 54 0),
      BitVec.ofNat 64 (field (l 11) 54 0 + saveSlot * 65536), 0, 0, 0, 0, succ0, 0, 0, 0, 0, 0, 0, 0]
  let s := (List.range 16).foldl (fun s i => s.setRecDw d rec i (words.getD i 0)) s
  let s := { s with
    taskKeys := s.taskKeys.filter fun x => !(x.1 == d && x.2.1 == rec)
    spawned := s.spawned.filter fun x => !(x.1 == d && x.2.1 == rec) }
  let s := s.onLaunch k fun x => { x with saves := x.saves ++ [saveSlot], tasks := x.tasks ++ [(d, rec)], total := x.total + 1 }
  if sint 32 dep ≤ 0 then s.makeReady d rec else s

/-- Whether what comes before a spawned task's dispatch, and before the lookup of a pure one, has been performed (15 R391, 17 R432). -/
def State.madeReady (s : State) (d rec : Nat) : Bool :=
  match s.spawned.find? fun x => x.1 == d && x.2.1 == rec with
  | some x => s.performed x.2.2
  | none => true

/-- Whether a coordinate lies in a launch's field (07 R182). -/
def State.inField (s : State) (k coord : Nat) : Bool :=
  let w := s.launchDw k 2
  let y := coord / 64 % 8
  let x := coord / 8 % 8
  w.getLsbD (coord / 512 % 16) && field w 18 16 ≤ y && y ≤ field w 18 16 + field w 24 22 &&
    field w 21 19 ≤ x && x ≤ field w 21 19 + field w 27 25 && coord % 8 ≤ field w 30 28

/-- TSPN (15 R391): the handle of the new record, or all ones. -/
def execTspn (f : Bab) (s : State) : Res :=
  s.effectful f.g fun s =>
    let a := s.srcInt .b f.a
    let dep := field (s.srcInt .b f.b) 15 0
    let d := dieOf s.cx.core
    let coord := field a 12 0
    let k := s.recSlot d s.seat.record
    let made : Option (Nat × State) :=
      match ((s.launch k).spawned.find? fun p => p.1 == field a 63 61).map (·.2) with
      | none => none
      | some l =>
        if coord / 512 ≠ d ∨ !s.inField l coord then none
        else
          match s.freeRecord d 65536 0, s.freeSave l with
          | some rec, some slot =>
            let first := s.earlier s.cx.core s.cx.seat 1
            let s := s.createRecord d rec l coord dep slot 0
            some (rec, { s with spawned := s.spawned ++ [(d, rec, first)] })
          | _, _ => none
    match made with
    | some (rec, s) =>
      (s.busy).fly .b 2 .nothing (some ((BitVec.ofNat 64 (d * 65536 + rec)).setWidth 4096))
    | none => s.fly .b 2 .nothing (some ((BitVec.allOnes 64).setWidth 4096))

/-! ### Ending (15 R392, R393) -/

/-- TEND: the bundle commits, the record is ENDING and the seat FREE. -/
def execTend (f : Bn) (s : State) : Res :=
  s.guarded f.g fun s => s.noDelay fun s =>
    match s.me.cmds.find? fun k => k.issuer == .seat s.cx.seat && k.task == s.myTask && k.faulted.isSome with
    | some k => s.raise k.faultCause (k.faulted.getD 0)
    | none =>
      let rec_ := s.seat.record
      let s := ((s.commit).setRecState (dieOf s.cx.core) rec_ 5).freeSeat s.cx.core s.cx.seat
      { s with cx := { s.cx with out := .after } }

/-! ### Traps raised and returned from (15 R394, R395) -/

def execTrap (f : Ba) (s : State) : Res :=
  s.guarded f.g fun s => s.trapAfter 32 (s.srcInt .b f.a)

def execTrapSv (f : Ba) (s : State) : Res :=
  s.effectful f.g fun s => s.trapAfter 25 (s.srcInt .b f.a)

def execRtt (f : Bn) (s : State) : Res :=
  s.guarded f.g fun s => s.noDelay fun s =>
    let st := s.seat
    if !st.sup && (!bitOf st.tstat tstatUIP || bitOf st.tstat tstatSIP) then s.raise 3 s.slotTval
    else s.transfer (st.tpc.setWidth 55) false true

/-! ### Snapshots (15 R396, R397) -/

def State.job (s : State) (j : Nat) : Job := tget .reset s.jobs j
def State.onJob (s : State) (j : Nat) (f : Job → Job) : State := { s with jobs := tput s.jobs j (f (s.job j)) }

/-- Whether the issuing task holds the snapshot capability. -/
def State.mayShoot (s : State) : Bool := bitOf (s.recDw (dieOf s.cx.core) s.seat.record 0) 22

/-- The snapshot fault: its reason and EPOCH. -/
def State.snapFault (s : State) (reason epoch : Nat) : State := s.raise 21 (BitVec.ofNat 64 (epoch % 2 ^ 56 * 256 + reason))

def execSnap (f : Ba) (s : State) : Res :=
  s.effectful f.g fun s =>
    let e := (s.srcInt .b f.a).toNat
    let d := dieOf s.cx.core
    let now := s.ctxEpoch d s.seat.ctx
    let j := s.job s.seat.job
    if !s.mayShoot then s.snapFault 1 now
    else if j.committed ≠ some now then s.snapFault 2 now
    else if e ≠ (now + 1) % 2 ^ 64 then s.snapFault 3 now
    else if j.phase ≠ .idle then s
    else s.onJob s.seat.job fun j =>
    { j with phase := .saving, epoch := e, asked := [], armed := [], received := [], shot := j.limit, status := field (s.launchDw (s.recSlot d s.seat.record) 13) 56 32, abandoned := false }

def execSnapw (f : Ba) (s : State) : Res :=
  s.effectful f.g fun s =>
    if !s.mayShoot then s.snapFault 1 (s.ctxEpoch (dieOf s.cx.core) s.seat.ctx)
    else s.onJob s.seat.job fun j => { j with limit := max 4096 ((s.srcInt .b f.a).toNat % 2 ^ 32) }

/-! ### TLB invalidation (15 R398, R399) -/

def execTlbi (f : Sab) (s : State) : Res :=
  s.privileged f.g fun s =>
    let u := sUnit f.x
    let a := s.srcInt u f.a
    let b := s.srcInt u f.b
    (s.postMine (.tlbi (field b 63 62) (field b 43 32) (field b 11 0) (field a 54 0) none) 2 none []).countWrite

/-- Whether a TLBI drops a cached translation. -/
def TlbEntry.dropped (t : TlbEntry) (kind key ctx va : Nat) : Bool :=
  match kind with
  | 0 => t.covers ctx va
  | 1 => t.ctx == ctx
  | 2 => entryKey t.leaf.entry == key
  | _ => true

/-- Look-ahead translations of an engine's command dropped (03 R75). -/
def Cmd.dropAhead (gone : TlbEntry → Bool) (k : Cmd) : Cmd :=
  let keep (p : Nat × Leaf) : Bool := !gone ⟨k.ctx, if p.2.level = 1 then p.1 / 8192 else p.1, p.2⟩
  { k with ahead := k.ahead.filter keep, aheadTo := k.aheadTo.filter keep }

/-- Entries dropped from every TLB of the package and from what its engines looked up ahead (15 R398). -/
def State.dropTlb (s : State) (gone : TlbEntry → Bool) : State :=
  { s with
    cores := s.cores.map fun p => (p.1, { p.2 with tlb := p.2.tlb.filter (fun t => !gone t), cmds := p.2.cmds.map (Cmd.dropAhead gone) })
    dies := s.dies.map fun p => (p.1, { p.2 with tlb := p.2.tlb.filter fun t => !gone t }) }

/-- Work numbered below `id` that has been translated and is not performed: writes through a leaf, loads on their way, reads of operand
streams and of engines (15 R399, 03 R76). -/
def State.translatedBefore (s : State) (id : Nat) : Bool :=
  (s.posted.any fun p => p.id < id && p.leaf.isSome) ||
    s.cores.any fun k =>
      (k.2.landings.any fun l => match l.trip with
        | some t => t.id < id && (match t.route with
          | .direct => true
          | .waiting b => lteSpace b == 6
          | _ => false)
        | none => false) ||
      (k.2.seats.any fun q => q.2.stream.toList.any fun t => lteSpace t.bits == 6 && t.reads.any fun r => r.id < id && r.lost.isNone) ||
      k.2.cmds.any fun x => lteSpace x.src == 6 && !(x.tags.isEmpty && x.got.isEmpty)

/-- Every die drops the entries; once what was translated before that has been performed, the TLBI is (15 R399). -/
def execTlbiComplete (id : Nat) (s : State) : Res :=
  match s.posted.find? fun p => p.id == id with
  | none => event "TLBI_COMPLETE" false s
  | some p =>
    match p.kind with
    | .tlbi kind key ctx va since =>
      let first := s.posted.any fun q => q.id < id && q.agent == p.agent && (match q.kind with
        | .tlbi _ _ _ _ _ => true
        | _ => false)
      if first then event "TLBI_COMPLETE" false s
      else
        match since with
        | none => .next ((s.dropTlb fun t => t.dropped kind key ctx va).onPosted id (.tlbi kind key ctx va (some s.nextPost)))
        | some n => event "TLBI_COMPLETE" (!s.translatedBefore n) (s.unpost id)
    | _ => event "TLBI_COMPLETE" false s

end Sys2Proof.Machine
end

