-- ==== Sys2Proof/Machine/Gate.lean ====
section
/-! DEFINITION. Gate tables (04 R94-R97), what the headgate refuses (R95), and the supervisor's slots HGSET, HGGET and MANR (14 R385). -/

namespace Sys2Proof.Machine

/-! ### Fields of an entry (04 R94) -/

abbrev GateBits := BitVec 256

/-- Bits [hi:lo] of doubleword `dw`. -/
def gateGet (b : GateBits) (dw hi lo : Nat) : Nat := b.toNat / 2 ^ (64 * dw + lo) % 2 ^ (hi + 1 - lo)
/-- The entry with bits [hi:lo] of doubleword `dw` replaced. -/
def gatePut (b : GateBits) (dw hi lo v : Nat) : GateBits :=
  let k := 2 ^ (64 * dw + lo)
  BitVec.ofNat 256 (b.toNat - gateGet b dw hi lo * k + v % 2 ^ (hi + 1 - lo) * k)

def gateAct (b : GateBits) : Nat := gateGet b 0 63 61
def gateSpace (b : GateBits) : Nat := gateGet b 0 60 58
/-- Core (BY, BX) of a die. -/
def gateCore (b : GateBits) (d : Nat) : Nat := d * 64 + gateGet b 0 57 55 * 8 + gateGet b 0 54 52
def gateFlag (b : GateBits) : Nat := gateGet b 0 51 47
def gateSeat (b : GateBits) : Nat := gateGet b 0 46 44
def gateFen (b : GateBits) : Bool := gateGet b 0 43 43 == 1
def gateCnt (b : GateBits) : Nat := gateGet b 0 42 38
def gateCen (b : GateBits) : Bool := gateGet b 0 37 37 == 1
def gateArm (b : GateBits) : Bool := gateGet b 0 36 36 == 1
def gateAcnt (b : GateBits) : Nat := gateGet b 0 35 31
def gateStream (b : GateBits) : Nat := gateGet b 0 30 19
def gateSh (b : GateBits) : Bool := gateGet b 0 18 18 == 1
def gateFmt (b : GateBits) : Nat := gateGet b 0 17 15
def gateSerr (b : GateBits) : Bool := gateGet b 0 14 14 == 1
def gateFsi (b : GateBits) : Nat := gateGet b 0 13 8
def gateSync (b : GateBits) : Nat := gateGet b 0 7 4
def gateAthr (b : GateBits) : Nat := gateGet b 1 63 32
def gateAinc (b : GateBits) : Nat := gateGet b 1 31 24
def gateSyncOff (b : GateBits) : Nat := gateGet b 1 19 0 * 16
def gateDest (b : GateBits) : Nat := gateGet b 2 63 43
def gateBase (b : GateBits) : Nat := gateGet b 2 42 0
def gateShoff (b : GateBits) : Nat := gateGet b 3 63 40 * 64
/-- 256 B positions of the buffer. -/
def gateCount (b : GateBits) : Nat := gateGet b 3 39 24 + 1
def gateLen (b : GateBits) : Nat := gateGet b 3 23 16 + 1
def gateNext (b : GateBits) : Nat := gateGet b 3 15 0

/-- Bytes of an element of a payload format, 1 for RAW and the reserved codes (04 R92). -/
def payloadSize (fmt : Nat) : Nat := match fmt with
  | 1 | 3 | 4 => 4
  | 2 => 8
  | _ => 1

/-! ### Tables -/

/-- Key of an entry: station 0-20, or 21 and 22 for this XI on its row and its column Lade; and slot. -/
def gateKey (ring : Ring) (station slot : Nat) : Nat :=
  2048 * (match ring with
    | .flume => station
    | .row => 21
    | .col => 22) + slot % 2048

/-- The committed entry that passes meet now. -/
def State.gate (s : State) (key : Nat) : GateBits := tget 0 s.flume.gates key
def State.setGate (s : State) (key : Nat) (b : GateBits) : State := { s with flume := { s.flume with gates := tset 0 s.flume.gates key b } }
/-- The entry as the headgate last wrote it. -/
def State.gateCommitted (s : State) (key : Nat) : GateBits :=
  match (s.flume.gatesDue.filter fun p => p.1 == key).getLast? with
  | some p => p.2
  | none => s.gate key
/-- A headgate write: it governs passes after this slot time (04 R96). -/
def State.writeGate (s : State) (key : Nat) (b : GateBits) : State :=
  { s with flume := { s.flume with gatesDue := s.flume.gatesDue ++ [(key, b)] } }

/-! ### Homes of buffers and selectors -/

/-- Whether a key of a gate table belongs to an XC station, an XM station (its XM), or the XI. -/
def keyDie (key : Nat) : Option Nat := if key / 2048 < 21 then dieOfStation (key / 2048) else none
def keyXm (key : Nat) : Option Nat := if key / 2048 < 21 ∧ key / 2048 % 5 = 1 then some (key / 2048 / 5) else none
def keyXi (key : Nat) : Bool := key / 2048 == 0 || key / 2048 ≥ 21

/-- The memory of a buffer (04 R94), none where the station has no such memory (R95). -/
def gateHome (key : Nat) (b : GateBits) : Option Home :=
  match gateSpace b, keyDie key, keyXm key with
  | 0, some d, _ => some (.spad (gateCore b d))
  | 1, some d, _ => some (.basin (gateCore b d))
  | 2, some d, _ => some (.cist d)
  | 3, _, some _ => some .tier2
  | 4, _, _ => if keyXi key then some .ioc else none
  | _, _, _ => none

/-- The memory of a selector object, and the object's offset in it. -/
def gateObject (key : Nat) (b : GateBits) : Option (Home × Nat) :=
  match gateSync b, keyDie key with
  | 1, some d => some (.basin (gateCore b d), gateSyncOff b)
  | 2, some d => some (.cist d, gateSyncOff b)
  | 3, _ => if keyXi key then some (.ioc, gateSyncOff b) else none
  | 4, _ => if keyXi key then some (.ioc, 16 * 2 ^ 20 + gateSyncOff b) else none
  | _, _ => none

/-- XMWINm: by default 1 GiB at m GiB (03 R64). -/
def State.xmwin (s : State) (m : Nat) : Word := tget (BitVec.ofNat 64 (16384 * 2 ^ 32 + m * 16384)) s.hostSide.xmwin m

/-- First and last offset of an XM's window in the second tier (03 R64). -/
def State.xmWindow (s : State) (m : Nat) : Nat × Nat :=
  let w := s.xmwin m
  (field w 31 0 * 65536, (field w 31 0 + field w 63 32) * 65536)

/-- Whether every 64 KiB block of a range carries a tenant's tag, or its core the tenant's ownership. -/
def State.heldBy (s : State) (tenant : Nat) (h : Home) (lo hi : Nat) : Bool :=
  match h with
  | .spad c | .basin c => s.ownerOf (dieOf c) c == .owned tenant
  | .cist _ | .ioc => (List.range ((hi - 1) / 65536 + 1 - lo / 65536)).all fun i => s.tagOf h (65536 * (lo / 65536 + i)) == some tenant
  | _ => true

/-- First offset of an entry's buffer, and the offset after its last. -/
def gateRange (b : GateBits) : Nat × Nat :=
  (gateBase b, gateBase b + (if gateSh b then gateShoff b else 0) + 256 * gateCount b)

/-- What the headgate refuses an entry for by the entry alone (04 R95): its codes, formats and offsets, with the format of its stream, if
known. LENM1 is a field of LOAD (R94), and is held to the element size there alone. -/
def gateMalformed (key : Nat) (b : GateBits) (fmt : Option Nat) : Bool :=
  let act := gateAct b
  act ≥ 6 || gateSpace b ≥ 5 || gateSync b ≥ 5 || (act == 3 && (gateFmt b == 0 || gateFmt b ≥ 5)) ||
    (match fmt with
      | some f => gateFmt b != f
      | none => false) ||
    (gateFen b && (keyDie key).isNone) || (act == 1 && gateLen b % payloadSize (gateFmt b) != 0) ||
    (gateSh b && (gateShoff b < 256 * gateCount b || gateSync b == 0)) ||
    (match gateHome key b with
      | none => act != 0
      | some h => (gateRange b).2 > h.size) ||
    (gateSync b != 0 && (match gateObject key b with
      | none => true
      | some (h, off) => off + 16 > h.size))

/-- What it refuses an entry for by whose memory it names (04 R95): another tenant's buffer or object, or second-tier memory outside the
station's window. -/
def State.gateForeign (s : State) (key : Nat) (b : GateBits) (tenant : Nat) : Bool :=
  let (lo, hi) := gateRange b
  (match gateHome key b with
    | none => false
    | some h =>
      !s.heldBy tenant h lo hi ||
        (match keyXm key with
          | some m => lo < (s.xmWindow m).1 || (s.xmWindow m).2 < hi
          | none => false)) ||
    (gateSync b != 0 && (match gateObject key b with
      | none => false
      | some (h, off) => !s.heldBy tenant h off (off + 16)))

/-- What the headgate refuses (04 R95): an entry for a key, the format its stream has, if known, and the stream's tenant. -/
def State.gateRefused (s : State) (key : Nat) (b : GateBits) (fmt : Option Nat) (tenant : Nat) : Bool :=
  gateMalformed key b fmt || s.gateForeign key b tenant

/-! ### HGSET, HGGET and MANR -/

/-- The address word of HGSET and HGGET: ring, doubleword, slot, station; none for a refused ring or station. -/
def gateAddress (a : Word) : Option (Nat × Nat) :=
  let key (r : Ring) : Option (Nat × Nat) := some (gateKey r (field a 4 0) (field a 15 5), field a 17 16)
  match field a 19 18 with
  | 0 => if field a 4 0 < 21 then key .flume else none
  | 1 => key .row
  | 2 => key .col
  | _ => none

/-- Format of an entry already written for a stream. -/
def State.streamFmt (s : State) (stream : Nat) : Option Nat :=
  ((s.flume.gates ++ s.flume.gatesDue).find? fun p => gateStream p.2 == stream && gateAct p.2 != 0).map fun p => gateFmt p.2

/-- The stream of an id. -/
def State.streamRec (s : State) (id : Nat) : Option StreamRec := s.flume.streams.find? fun r => r.id == id

/-- The tenant whose ownership an entry of a stream is checked for. -/
def State.streamTenant (s : State) (stream other : Nat) : Nat :=
  match s.streamRec stream with
  | some r => s.slotTenant r.launch
  | none => other

/-- An entry with its reserved bits zero (04 R94, 00 R7). -/
def gateStored (b : GateBits) : GateBits := gatePut (gatePut b 0 3 0 0) 1 23 20 0

/-- HGSET: DW1 to DW3 are staged, DW0 commits the entry. -/
def execHgset (f : Lab) (s : State) : Res :=
  s.privileged f.g fun s =>
    let u := lUnit f.x
    let v := s.srcInt u f.b
    match gateAddress (s.srcInt u f.a) with
    | none => (s.logMgmt 5 7 0 0 s.seat.tenant).busy
    | some (key, dw) =>
      let s := s.busy
      if dw ≠ 0 then { s with flume := { s.flume with staged := tset 0 s.flume.staged (4 * key + dw) v } }
      else
        let d (i : Nat) : Word := tget 0 s.flume.staged (4 * key + i)
        let b : GateBits := gateStored (d 3 ++ d 2 ++ d 1 ++ v)
        let stream := gateStream b
        if s.gateRefused key b (s.streamFmt stream) (s.streamTenant stream s.seat.tenant) then s.logMgmt 5 7 0 key s.seat.tenant
        else s.writeGate key b

/-- The committed doubleword that an address word names; 0 for a refused one. -/
def State.gateWord (s : State) (a : Word) : Word :=
  match gateAddress a with
  | none => 0
  | some (key, dw) => BitVec.ofNat 64 (gateGet (s.gateCommitted key) dw 63 0)

/-- The doubleword of a job's manifest at an offset. -/
def State.manifestWord (s : State) (job off : Nat) : Word :=
  let m := (s.job job).manifest
  BitVec.ofNat 64 (leNat ((List.range 8).map fun i => m.getD (off + i) 0))

/-- HGGET: the committed doubleword, under a horizon of 800 (02 R49). -/
def execHgget (f : Lda) (s : State) : Res :=
  s.privileged f.g fun s =>
    let u := lUnit f.x
    s.ask u (s.fileEffect u f.d) (.gate (s.srcInt u f.a))

/-- MANR: a doubleword of the job's committed manifest (18 R456), 0 beyond its end. -/
def execManr (f : Lda) (s : State) : Res :=
  s.privileged f.g fun s =>
    let u := lUnit f.x
    s.ask u (s.fileEffect u f.d) (.manifest s.seat.job ((s.srcInt u f.a).toNat / 8 * 8))

end Sys2Proof.Machine
end

