-- ==== Sys2Proof/Machine/Sched.lean ====
section
/-! DEFINITION. Seats from binding to save (07 R185-R187; 17 R433-R439, R441, R533; 16 R421): the issue selector, the Sluice and the dispatch
sequence, pre-emption, saves and restores, leave grants, and what die firmware does with a trapped seat (18 R447). -/

namespace Sys2Proof.Machine

/-! ### The issue selector (17 R434) -/

/-- Effective priority of a seat. -/
def Seat.rank (st : Seat) : Nat := if st.boost then 15 else st.prio

/-- RUNNABLE seats; a seat whose save is under way is not one. -/
def Core.runnable (k : Core) : List Nat :=
  (List.range 8).filter fun i => (k.seat i).st == .runnable && !(k.seat i).leaving

/-- The set C of the selection. -/
def Core.choices (k : Core) : List Nat :=
  match k.withheld with
  | some w => if k.runnable.any (fun i => i != w) then k.runnable.filter (fun i => i != w) else k.runnable
  | none => k.runnable

/-- The first of a list at or after `from` + 1 in the order modulo `m`. -/
def roundRobin (m last : Nat) (l : List Nat) : Option Nat :=
  ((List.range m).map fun i => (last + 1 + i) % m).find? fun i => l.contains i

/-- The seat that the selection chooses. -/
def Core.chosen (k : Core) : Option (Nat × Nat) :=
  let p := k.choices.foldl (fun m i => max m (k.seat i).rank) 0
  (roundRobin 8 (tget 7 k.rr p) (k.choices.filter fun i => (k.seat i).rank == p)).map fun i => (p, i)

/-- The chosen seat's span begins. -/
def Core.select (k : Core) : Core :=
  match k.chosen with
  | none => k
  | some (p, i) =>
    let others := k.choices.filter (fun j => j != i)
    let k1 := others.foldl (fun (k : Core) j =>
      let st := k.seat j
      k.setSeat j { st with passed := st.passed + 1, boost := st.boost || st.passed + 1 == 65536 }) k
    ({ k1 with rr := tput k1.rr p i, running := some i, withheld := none, latches := .zero }).setSeat i
      { k1.seat i with st := .running, passed := 0, span := 0, spin := .clear }

/-- The selector runs after a bubble, and in any core cycle in which the core is idle. -/
def execIssueSelect (c : Nat) (s : State) : Res :=
  let k := s.core c
  event "ISSUE_SELECT" (k.running.isNone && !k.bubble && k.chosen.isSome) (s.onCore c Core.select)

/-! ### Side-core programs (16 R421) -/

/-- Digests of the loader and the storer program of a launch, 0 for none. -/
def Launch.programs (l : Launch) : Nat × Nat := (l.ldDigest.toNat, l.stDigest.toNat)

/-- The programs a core's side cores run. -/
def Core.programs (k : Core) : Nat × Nat :=
  ((if k.loader.loaded then k.loader.program else 0), (if k.storer.loaded then k.storer.program else 0))

/-- Launch slots of the resident and the saved tasks of a core. -/
def State.slotsOn (s : State) (c : Nat) : List Nat :=
  let d := dieOf c
  (((List.range 8).filter fun i => (s.seatAt c i).st != .free).map fun i => s.recSlot d (s.seatAt c i).record) ++
    ((s.savedTasks.filter fun t => t.core == c).map fun t => s.recSlot t.die t.record)

/-- Whether a task of launch slot `l` may be bound on core `c` as far as its side cores go. -/
def State.sidesAllow (s : State) (c l : Nat) : Bool :=
  let want := (s.launch l).programs
  (s.core c).programs == want || (s.slotsOn c).all fun k => (s.launch k).programs == want

/-- A side core with a new program, or without one. -/
def State.installSide (s : State) (c : Nat) (storer : Bool) (program : Nat) (bytes : List Byte) : State :=
  let side := if program = 0 then Side.reset else { Side.reset with loaded := true, program := program }
  let s := if program = 0 then s
    else (s.store (placed ((Home.instr c storer).at 0) bytes)).store
      (placed ((Home.data c storer).at 0) (List.replicate (16 * 2 ^ 10) 0))
  s.onCore c fun k => if storer then { k with storer := side } else { k with loader := side }

/-- The programs of a launch slot in the instruction stores; none if they cannot be read. One that runs already keeps running. -/
def State.installSides (s : State) (c l : Nat) : Option State :=
  let old := (s.core c).programs
  if old = (s.launch l).programs then some s
  else
    let d := dieOf c
    let dw (i : Nat) : Word := s.launchDw l i
    match s.readVirt d (s.slotCtx l) false (field (dw 7) 54 0) (field (dw 9) 63 48),
      s.readVirt d (s.slotCtx l) false (field (dw 8) 54 0) (field (dw 9) 47 32) with
    | .ok ld, .ok st =>
      let p := (s.launch l).programs
      let s := if old.1 = p.1 then s else s.installSide c false p.1 ld
      some (if old.2 = p.2 then s else s.installSide c true p.2 st)
    | _, _ => none

/-! ### Binding (17 R433; 07 R185-R187) -/

/-- The task the Sluice selects on a core: priority, launch slot, record. -/
def Core.nextTask (k : Core) : Option (Nat × Nat × Nat) :=
  let busy := k.fifos.filter fun q => !q.2.isEmpty
  let p := busy.foldl (fun m q => max m (q.1 / 64)) 0
  match roundRobin 64 (tget 63 k.ptr p) ((busy.filter fun q => q.1 / 64 == p).map fun q => q.1 % 64) with
  | none => none
  | some l => ((tget [] k.fifos (64 * p + l)).head?).map fun r => (p, l, r)

/-- The FREE seat of lowest number whose last landing has passed. -/
def Core.freeSeat (k : Core) : Option Nat :=
  (List.range 8).find? fun i => (k.seat i).st == .free && (k.seat i).lastDue ≤ k.idx

/-- A seat as the dispatch clear leaves it, bound to a task (07 R187). -/
def State.boundSeat (s : State) (d rec l : Nat) : Seat :=
  { Seat.reset with
    st := .loading, loading := 41, record := rec, coord := s.recCoord d rec, tenant := s.slotTenant l, ctx := s.slotCtx l
    job := s.slotJob l, pure := s.recPure d rec, prio := s.recPrio d rec, lid := field (s.recDw d rec 1) 63 32
    pc := BitVec.ofNat 55 (field (s.launchDw l 1) 54 0) }

/-- A saved task's seat as its restore begins. -/
def SavedTask.seatBack (t : SavedTask) : Seat :=
  { t.image with
    st := .loading, loading := 41, restoring := true, leaving := false, saving := none, leave := 0, passed := 0, boost := false, span := 0
    waits := [] }

/-- Work of a task that its seat handed over, under the number of the seat that has it now (06 R177). -/
def State.rename (s : State) (c n : Nat) (task : Nat × Nat) : State :=
  let mine (p : Posted) : Bool := p.task == some task && (match p.agent with
    | .seat k _ => k == c
    | _ => false)
  let issued (x : Cmd) : Bool := x.task == some task && (match x.issuer with
    | .seat _ => true
    | _ => false)
  let s := { s with posted := adjust mine (fun p => { p with agent := .seat c n }) s.posted }
  s.onCore c fun k => { k with cmds := adjust issued (fun x => { x with issuer := .seat n }) k.cmds }

/-- Whether a die has received the snapshot request of a job that is SAVING (18 R454). -/
def State.shooting (s : State) (d j : Nat) : Bool := (s.job j).phase == .saving && (s.job j).asked.contains d

/-- Whether the task at the head of its FIFO may be bound now; a job's seats do not run while its snapshot saves and arms (18 R454). -/
def State.mayBind (s : State) (c l rec : Nat) : Bool :=
  let d := dieOf c
  let j := s.slotJob l
  (j == 0 || !((s.job j).phase == .arming || s.shooting d j)) && s.ownerOf d c == .owned (s.slotTenant l) && !(s.core c).scrubbing && s.sidesAllow c l && s.madeReady d rec

/-- The Sluice binds the head ready task of a core to a seat, at most once in a core cycle (17 R433). -/
def execSluiceBind (c : Nat) (s : State) : Res :=
  let k := s.core c
  let d := dieOf c
  match k.nextTask, k.freeSeat with
  | some (p, l, rec), some n =>
    if !s.mayBind c l rec || k.boundAt == some (s.cycOf c) then event "SLUICE_BIND" false s
    else
      match s.installSides c l with
      | none => event "SLUICE_BIND" false s
      | some s =>
        let saved := s.savedTasks.find? fun t => t.die == d && t.record == rec
        let s := { s with
          spawned := s.spawned.filter fun x => !(x.1 == d && x.2.1 == rec)
          savedTasks := s.savedTasks.filter fun t => !(t.die == d && t.record == rec) }
        let s := (s.setRecState d rec 3).onCore c fun k =>
          { k with fifos := tput k.fifos (64 * p + l) ((tget [] k.fifos (64 * p + l)).drop 1), ptr := tput k.ptr p l, boundAt := some (s.cycOf c)
                   dcnt := tput k.dcnt n (tget 0 k.dcnt n + 1) }
        match saved with
        | none =>
          let st := s.boundSeat d rec l
          .next (s.onCore c fun k => k.setSeat n st)
        | some t =>
          let s := (s.onCore c fun k => k.setSeat n t.seatBack).rename c n (d, rec)
          .next (if t.leave = 0 then s else s.onDie d fun x => { x with asks := x.asks ++ [⟨c, n, t.leave, x.cyc⟩] })
  | _, _ => event "SLUICE_BIND" false s

/-! ### The dispatch sequence (07 R186, R184; 01 R13, R32) -/

/-- RZ bits of an entry read zero (01 R13). -/
def lteClean (b : LteBits) : LteBits := ltePut (ltePut b 5 63 24 0) 6 63 0 0

/-- The entries of a launch's template, absent ones zero; none if it cannot be read. -/
def State.template (s : State) (d l : Nat) : Option (Tab LteBits) :=
  let mask := field (s.launchDw l 5) 63 32
  match s.readVirt d (s.slotCtx l) false (field (s.launchDw l 4) 54 0) 2048 with
  | .error _ => none
  | .ok bs => some ((List.range 32).foldl (fun t i =>
      if mask.testBit i then tset 0 t i (lteClean (BitVec.ofNat 512 (leNat ((bs.drop (64 * i)).take 64)))) else t) [])

/-- g0 and g1 at dispatch (07 R184). -/
def State.firstG (s : State) (d rec l : Nat) : Tab Word :=
  let coord := BitVec.ofNat 64 (s.recCoord d rec)
  let keyed := bitOf (s.launchDw l 2) 60
  if s.recPure d rec then (if keyed then tset 0 [] 0 coord else [])
  else tset 0 (tset 0 [] 0 coord) 1 (BitVec.ofNat 64 (field (s.recDw d rec 1) 63 32))

/-- The range [lo, hi) of an entry over all its coordinates, in its half `f` (01 R18, R32). -/
def entryRange (b : LteBits) (f : Bool) : Nat × Nat :=
  let dims := (List.range 4).filter fun i => i ≤ lteRead b 10
  let span (pick : Int → Int) : Int := dims.foldl (fun a i => a + pick (stride32 (lteRead b (6 + i)) * lteRead b (2 + i))) (lteRead b 0)
  let half := if lteShadow b && f then lteRead b 14 * 64 else 0
  ((span (min 0) + half).toNat, (span (max 0) + half).toNat + lteSize b)

/-- Flat addresses of the scratch ranges of a seat: of a pair's front half, its selector being read as the fill is made. -/
def State.scratch (s : State) (c : Nat) (st : Seat) : List Nat :=
  st.lte.flatMap fun p =>
    if lteRead p.2 20 ≠ 3 then []
    else
      let (lo, hi) := entryRange p.2 (s.front c p.2 (s.nextPost * 1024 + c))
      match lteSpace p.2 with
      | 1 => (List.range (hi - lo)).map fun i => (Home.spad c).at (permute (lteRead p.2 1) (lo + i))
      | 2 => (List.range (hi - lo)).map fun i => (Home.basin c).at (lo + i)
      | _ => []

/-- The dispatch sequence ends: entries and g0, g1 are in place; a pure task's scratch fill follows. -/
def execDispatchComplete (c n : Nat) (s : State) : Res :=
  let st := s.seatAt c n
  let d := dieOf c
  let l := s.recSlot d st.record
  if st.st ≠ .loading || st.restoring || st.filling || st.loading ≠ 0 then event "DISPATCH_COMPLETE" false s
  else
    match s.template d l with
    | none => event "DISPATCH_COMPLETE" false s
    | some t =>
      let st := { st with lte := t, g := s.firstG d st.record l }
      let fill := st.pure && !(s.scratch c st).isEmpty
      .next (s.onCore c fun k => k.setSeat n
        (if fill then { st with filling := true } else { st with st := .runnable, leaving := st.saving.isSome }))

/-- The zero-fill of a pure task's scratch entries is complete. -/
def execScratchFillComplete (c n : Nat) (s : State) : Res :=
  let st := s.seatAt c n
  if st.st ≠ .loading || !st.filling then event "SCRATCH_FILL_COMPLETE" false s
  else
    let s := s.performBytes none ((s.scratch c st).map fun a => (a, 0))
    .next (s.onSeat c n fun st => { st with st := .runnable, filling := false, leaving := st.saving.isSome })

/-! ### The M extension (13 R335) -/

/-- The 33,024 bytes of a seat's M extension. -/
def Seat.extension (st : Seat) : List Byte :=
  let plane (p : Tab Row) : List Byte := (List.range 64).flatMap fun k => rowBytes (tget 0 p k)
  let scale (p : Tab Byte) : List Byte := (List.range 64).map fun j => tget 0 p j
  let stream := st.stream.getD ⟨0, 0, 0, 0, [], false, []⟩
  let ctl := st.kstep.toNat * 2 ^ 32 + (if st.stream.isSome then 2 ^ 19 else 0) + (if st.act then 2 ^ 18 else 0) +
    st.stride % 16 * 2 ^ 11 + st.cursor % 2048
  let tiles := (List.range 16).foldl (fun n i => n + (tget (0 : BitVec 3) st.tiles i).toNat * 8 ^ i) 0
  plane st.p0 ++ plane st.p1 ++ scale st.sa ++ scale st.sb ++ leBytes 64 stream.bits.toNat ++ leBytes 8 ctl ++
    leBytes 8 (stream.count % 2 ^ 32 * 2 ^ 32 + stream.offset % 64) ++ leBytes 8 tiles ++ List.replicate 40 0

/-- Whether the M state of a seat is all zero (13 R335, 17 R533). -/
def Seat.mBlank (st : Seat) : Bool :=
  st.p0.isEmpty && st.p1.isEmpty && st.sa.isEmpty && st.sb.isEmpty && st.stream.isNone && !st.act && st.stride == 0 && st.cursor == 0 &&
    st.kstep == 0 && st.tiles.isEmpty

/-- A seat whose M state is read from an extension; the stream's entry index is the image's. -/
def Seat.withExtension (st : Seat) (bs : List Byte) : Seat :=
  let at_ (lo n : Nat) : Nat := leNat ((bs.drop lo).take n)
  let plane (lo : Nat) : Tab Row := (List.range 64).foldl (fun t k => tset 0 t k (BitVec.ofNat 2048 (at_ (lo + 256 * k) 256))) []
  let scale (lo : Nat) : Tab Byte := (List.range 64).foldl (fun t j => tset 0 t j (bs.getD (lo + j) 0)) []
  let ctl := BitVec.ofNat 64 (at_ 32960 8)
  let pos := BitVec.ofNat 64 (at_ 32968 8)
  let entry := match st.stream with
    | some t => t.entry
    | none => 0
  { st with
    p0 := plane 0, p1 := plane 16384, sa := scale 32768, sb := scale 32832
    stream := if bitOf ctl 19 then some ⟨entry, BitVec.ofNat 512 (at_ 32896 64), field pos 63 32, field pos 5 0, [], false, []⟩
      else none
    act := bitOf ctl 18, stride := field ctl 14 11, cursor := field ctl 10 0, kstep := BitVec.ofNat 32 (field ctl 63 32)
    tiles := (List.range 16).foldl (fun t i => tset 0 t i (BitVec.ofNat 3 (at_ 32976 8 / 8 ^ i % 8))) [] }

/-! ### Pre-emption (17 R437, R438) -/

/-- The victim for a task of priority `p`: the lowest PRIO, among equals the highest seat. -/
def Core.victim (k : Core) (p : Nat) : Option Nat :=
  let all := (List.range 8).filter fun i => (k.seat i).st != .free && (k.seat i).prio < p
  all.foldl (fun (m : Option Nat) i => match m with
    | some j => if (k.seat j).prio < (k.seat i).prio then some j else some i
    | none => some i) none

/-- Whether a seat is the victim of a queued task's priority. -/
def Core.outranked (k : Core) (n : Nat) : Bool :=
  let busy := k.fifos.filter fun q => !q.2.isEmpty
  let p := busy.foldl (fun m q => max m (q.1 / 64)) 0
  let pending := (List.range 8).any fun i => match (k.seat i).saving with
    | some (.priority, _) => true
    | _ => false
  !busy.isEmpty && !pending && (List.range 8).all (fun i => (k.seat i).st != .free) && k.victim p == some n

/-- SLCTL.FLIM of a die. -/
def State.flim (s : State) (d : Nat) : Nat := max 4096 ((s.die d).slctl.toNat % 2 ^ 32)

/-- A pre-emption of a seat begins; a RUNNABLE or PARKED seat is saved at once. -/
def State.preempt (s : State) (c n : Nat) (why : Preempt) (deadline : Nat) : State :=
  s.onSeat c n fun st =>
    { st with saving := some (why, deadline), leaving := st.leaving || st.st == .runnable || st.st == .parked }

def execPreemptRequest (c n : Nat) (why : Preempt) (s : State) : Res :=
  let st := s.seatAt c n
  let d := dieOf c
  let due := match why with
    | .priority => (s.core c).outranked n
    | .snapshot => s.shooting d st.job
    | _ => true
  event "PREEMPT_REQUEST" (st.st != .free && st.saving.isNone && !st.leaving && due)
    (s.preempt c n why (match why with
      | .snapshot => tget (s.die d).cyc (s.job st.job).received d + (s.job st.job).shot
      | _ => (s.die d).cyc + s.flim d))

/-- The forced limit expires: results in flight drain, and the bundle at the PC is abandoned (17 R438, 18 R443). -/
def execForcedSave (c n : Nat) (s : State) : Res :=
  let st := s.seatAt c n
  let due := match st.saving with
    | some (_, deadline) => deadline ≤ (s.die (dieOf c)).cyc
    | none => false
  if (s.core c).running ≠ some n || st.trapping.isSome || !due then event "FORCED_SAVE" false s
  else
    .next (((s.landDue c (s.core c).idx).dropWaits c n).onCore c fun k =>
      let f := k.bank n
      let k := k.drain n
      ({ k with running := none, freeze := 0, frozenSince := none, fetching := none }).setSeat n { k.seat n with
        st := .runnable, leaving := true, drained := some f, spin := .clear, body := none, scan := none, span := 0, boost := false
        tstat := setBit st.tstat tstatFORCED true })

/-! ### Saves and restores (17 R439, R533; 06 R177) -/

/-- Whether every L-slot access of a seat has been performed, Canal writes at local completion (05 R138), and its last result has
landed. -/
def State.quiet (s : State) (c n : Nat) : Bool :=
  ((s.core c).flight.all fun l => l.seat != n) && (s.tripsOf c n).isEmpty &&
    (s.postedOf c n).all fun p => match p.kind with
      | .write _ _ => false
      | .visit _ _ _ (.write _ _) => false
      | .message m => m.kind == 3
      | .heldMessage _ _ => false
      | .packet _ _ w => !w || s.stored p.id
      | _ => true

/-- The save slot of a task, or the TVAL of the fault in writing it. -/
def State.saveSlot (s : State) (d rec ctx : Nat) : Except Word (Mapped × Nat) :=
  let va := field (s.recDw d rec 3) 54 0
  match s.mapOn d ctx false .write va with
  | .error t => .error t
  | .ok m => .ok (m, va)

/-! ### Latch-bank frames in the seat image (18 R448) -/

/-- UNIT of a bank entry. -/
def unitCode : UnitId → Nat
  | .b => 0 | .s0 => 1 | .s1 => 2 | .v => 3 | .l0 => 4 | .l1 => 5 | .m => 6

/-- FMT of a push (13 R341). -/
def fmtCode : MFmt → Nat
  | .rx8 => 0 | .b16 => 1 | .fp16 => 2 | .fp32 => 3

/-- The contents of a loop level, as its opening records them. -/
def Level.bytes (l : Level) : List Byte :=
  leBytes 8 l.start.toNat ++ leBytes 8 l.stop.toNat ++ leBytes 4 l.count.toNat ++ leBytes 4 l.idx.toNat ++
    l.strides.flatMap fun p => leBytes 8 p.1 ++ leBytes 8 p.2.toNat

/-- KIND, DEST and value of a result in flight. R448 names the kinds and what DEST is for a register, a pair, a mask, a g register, a basin
row and a drawer row; how DEST numbers other destinations, and how the value of a sequencer update or of M state is laid out, is the
model's. -/
def Effect.entry : Effect → Nat × Nat × List Byte
  | .file _ ix v => (0, ix, leBytes 8 v.toNat)
  | .vfile ix v => (0, ix, leBytes 512 v.toNat)
  | .vhalf ix hi v => (9, 2 * ix + bit hi, leBytes 256 v.toNat)
  | .pair j c => (1, j, leBytes 8 (bit c))
  | .mask k m => (2, k, leBytes 16 m.toNat)
  | .greg n v => (3, n, leBytes 8 v.toNat)
  | .target t v => (0, t, leBytes 8 v.toNat)
  | .link v => (0, 4, leBytes 8 v.toNat)
  | .lteField e code v => (0, 64 + e + 128 * code, leBytes 8 v.toNat)
  | .lteAll e b => (0, 64 + e + 128 * 64, leBytes 256 b.toNat)
  | .lteBind e sync off => (0, 64 + e + 128 * 65, leBytes 8 (sync + 16 * off))
  | .csr n v => (if n = 9 then 5 else 0, 96 + n, leBytes 8 v.toNat)
  | .loopOpen l => (4, 0, l.bytes)
  | .loopStride depth g v => (4, 1 + 256 * g + 16 * (match depth with
      | some d => d
      | none => 15), leBytes 8 v.toNat)
  | .loopBreak n => (4, 2, leBytes 8 n)
  | .loopClose addr base gs => (4, 3, leBytes 8 addr.toNat ++ leBytes 8 base.toNat ++ gs.flatMap fun p => leBytes 8 p.1 ++ leBytes 8 p.2.toNat)
  | .loopEnd => (4, 4, leBytes 8 0)
  | .passTo t => (4, 5, leBytes 8 t.toNat)
  | .rrb v => (4, 6, leBytes 8 v.toNat)
  | .scales sb v => (6, bit sb, leBytes 256 v.toNat)
  | .shift plane row => (6, 2 + bit plane, leBytes 256 row.toNat)
  | .swap => (6, 4, leBytes 8 0)
  | .cursor c => (6, 5, leBytes 8 c)
  | .basinCtl c stride keep => (6, 6, leBytes 8 (c + 2 ^ 16 * stride + 2 ^ 32 * bit keep))
  | .kstep v => (6, 7, leBytes 8 v)
  | .tileOr n b => (6, 8 + n, leBytes 8 b.toNat)
  | .tileClear all n => (6, 32 + n, leBytes 8 (bit all))
  | .tileRead _ ix n => (6, 64 + n + 16 * (match ix with
      | some i => i
      | none => 255), leBytes 8 0)
  | .push row add fmt sums => (7, row % 2048 + 2048 * bit add + 4096 * fmtCode fmt, leBytes 256 sums.toNat)
  | .arrayRow row v => (7, row % 2048, leBytes 256 v.toNat)
  | .basinRow row v => (7, row % 2048, leBytes 256 v.toNat)
  | .drawerBytes key lo bs => (8, key, List.replicate lo 0 ++ bs)
  | .nothing => (0, 2 ^ 16 - 1, [])

/-- LEN for a value: the least of 8, 16, 256, 512 and 1,024 that holds it. -/
def valueLength (n : Nat) : Nat := if n ≤ 8 then 8 else if n ≤ 16 then 16 else if n ≤ 256 then 256 else if n ≤ 512 then 512 else 1024

/-- A bank entry: the 16 B header, and the value padded to 16 B. -/
def bankEntry (kind unit dest ord dist : Nat) (value : List Byte) : List Byte :=
  let len := valueLength value.length
  leBytes 8 (kind % 256 * 2 ^ 56 + unit % 256 * 2 ^ 48 + dest % 2 ^ 16 * 2 ^ 32 + ord % 2 ^ 16 * 2 ^ 16 + dist % 2 ^ 16) ++
    leBytes 8 len ++ value ++ List.replicate (max 16 len - value.length) 0

/-- The entry of a result in flight: one that enters the latches alone brings the value they take. -/
def Landing.bytes (l : Landing) : List Byte :=
  let (kind, dest, value) := l.effect.entry
  let value := if value.isEmpty then leBytes (if l.unit = .v then 512 else 8) (l.latch.getD 0).toNat else value
  bankEntry kind (unitCode l.unit) dest l.ord l.due value

/-- The latch pair images of a frame, which stand ahead of its results. -/
def Latches.bytes (l : Latches) : List Byte :=
  ([.b, .s0, .s1, .l0, .l1, .m] : List UnitId).flatMap (fun u =>
    bankEntry 10 (unitCode u) 0 0 0 (leBytes 8 (l.word u false).toNat ++ leBytes 8 (l.word u true).toNat)) ++
  bankEntry 10 (unitCode .v) 0 0 0 (leBytes 512 l.v0.toNat ++ leBytes 512 l.v1.toNat)

/-- A frame, in ascending ORD. -/
def Frame.bytes (f : Frame) : List Byte := f.latches.bytes ++ f.entries.flatMap Landing.bytes

/-- The frames of a seat, the user frame included (18 R449). -/
def Seat.frames (st : Seat) : List Byte :=
  ([st.drained, st.frame, st.userFrame.bind (·.frame)].filterMap id).flatMap Frame.bytes

/-- Byte `i` of the image that save `stamp` writes of a seat with these frames: its layout is private but for the entries of its frames. -/
def imageAt (stamp : Nat) (frames : List Byte) (i : Nat) : Byte :=
  let p := Config.framePlace stamp
  if p ≤ i ∧ i < p + frames.length then frames.getD (i - p) 0 else Config.imageByte stamp i

/-- The bytes a save writes: the image, and the M extension of a seat whose M state is not all zero (17 R533). -/
def saveBytes (stamp : Nat) (flat : Nat) (st : Seat) : List (Nat × Byte) :=
  ((List.range 32512).map fun i => (flat + i, imageAt stamp st.frames i)) ++
    (if st.mBlank then [] else placed (flat + 0x7F00) st.extension)

/-- What a save keeps of a seat: prefetched rows are discarded (13 R335). -/
def Seat.kept (st : Seat) : Seat :=
  { st with saving := none, leaving := false, stream := st.stream.map (fun t => { t with ahead := [], reads := [] }), aside := none }

/-- A save is complete: the task is SAVED and its seat FREE. -/
def execSeatSaveComplete (c n : Nat) (s : State) : Res :=
  let st := s.seatAt c n
  let d := dieOf c
  if !st.leaving || !s.quiet c n then event "SEAT_SAVE_COMPLETE" false s
  else
    match s.saveSlot d st.record st.ctx with
    | .error t => .next (s.failTask c n (causeWord false 15 0) t)
    | .ok (m, va) =>
      if s.heldArmed d st.ctx va m.leaf then event "SEAT_SAVE_COMPLETE" false s
      else
        let stamp := s.nextPost
        let s := { s with nextPost := stamp + 1 }
        let s := s.performThrough d st.ctx va m.leaf m.material (saveBytes stamp m.flat st)
        let why : Option Preempt := st.saving.map (·.1)
        let epoch := if why = some .snapshot then some (st.job, (s.job st.job).epoch) else none
        let s := { s with savedTasks := s.savedTasks ++
          [({ die := d, record := st.record, core := c, image := st.kept, leave := st.leave, why := why, seat := n, epoch := epoch } : SavedTask)] }
        let s := (s.setRecState d st.record 4).freeSeat c n
        match why with
        | some .priority => .next (s.queueTask d st.record true)
        | some _ => .next s
        | none => .next (s.logAt d 17 0 (causeInfo st.tcause) st.tval.toNat st.tenant st.coord)

/-- A restore is complete: the load, and the grant of the units it asked for again. -/
def execSeatRestoreComplete (c n : Nat) (s : State) : Res :=
  let st := s.seatAt c n
  let d := dieOf c
  let waiting := (s.die d).asks.any fun a => a.core == c && a.seat == n
  if st.st ≠ .loading || !st.restoring || st.loading ≠ 0 || waiting then event "SEAT_RESTORE_COMPLETE" false s
  else
    let done (st : Seat) : State :=
      s.onCore c fun k => k.setSeat n { st with st := .runnable, restoring := false, leaving := st.saving.isSome }
    if st.mBlank then .next (done st)
    else
      match s.readVirt d st.ctx false (field (s.recDw d st.record 3) 54 0 + 0x7F00) 33024 with
      | .error _ => event "SEAT_RESTORE_COMPLETE" false s
      | .ok bs => .next (done (st.withExtension bs))

/-! ### Leave (17 R441) -/

/-- Whether a request comes before another. -/
def LeaveAsk.before (a b : LeaveAsk) : Bool :=
  a.since < b.since || (a.since == b.since && (a.core < b.core || (a.core == b.core && a.seat < b.seat)))

/-- The oldest waiting request. -/
def oldestAsk (l : List LeaveAsk) : Option LeaveAsk :=
  l.foldl (fun (m : Option LeaveAsk) a => match m with
    | some b => if a.before b then some a else some b
    | none => some a) none

/-- The controller grants the oldest request, if it fits the pool. -/
def execLeaveGrant (d : Nat) (s : State) : Res :=
  match oldestAsk (s.die d).asks with
  | none => event "LEAVE_GRANT" false s
  | some a =>
    if (s.die d).grant + a.units > s.pool (s.die d).memBound then event "LEAVE_GRANT" false s
    else
      let s := s.onDie d fun k => { k with grant := k.grant + a.units, asks := k.asks.filter fun b => b != a }
      .next (s.onSeat a.core a.seat fun st =>
        if st.restoring then { st with leave := a.units }
        else { st with waits := adjust (fun w => w.kind == .leave) (fun w => { w with ended := true }) st.waits })

/-! ### Firmware at the supervisor vector (18 R447) -/

/-- Whether a job holds a committed manifest. -/
def State.manifested (s : State) (j : Nat) : Bool := j != 0 && !(s.job j).manifest.isEmpty

/-- The task is held for service: its seat is saved with the trap in progress. -/
def State.holdTask (s : State) (c n : Nat) : State :=
  (s.giveUp c n .runnable).onSeat c n fun st => { st with saving := none, leaving := true }

/-- A bundle of the handler that consists of an RTT and its two delay bundles (13 R344, 18 R447): the RTT, a delay bundle, or the
second one, after which control passes to TPC. -/
def State.firmwareReturns (s : State) (c n : Nat) : State :=
  let st := s.seatAt c n
  match st.pend with
  | none => s.onSeat c n fun st => { st with pend := some (st.tpc.setWidth 55, 2), pendRtt := true }
  | some (t, d) =>
    if d ≤ 1 then s.onCore c fun k => k.returned n else s.onSeat c n fun st => { st with pend := some (t, d - 1) }

/-- What die firmware does in one core cycle with a seat that stands at its vector. -/
def State.firmwareActs (s : State) (c n : Nat) : State :=
  let st := s.seatAt c n
  match field st.tcause 7 0 with
  | 15 => s.holdTask c n
  | 16 => s.holdTask c n
  | 17 => s.firmwareReturns c n
  | 24 => if s.manifested st.job then s.holdTask c n else s.failTask c n st.tcause st.tval
  | 25 => s.firmwareReturns c n
  | _ => s.failTask c n st.tcause st.tval

/-- Supervisor software releases a task that was held or evacuated, or has a held one ended. A task held for rollback is not
released. -/
def execTaskRelease (d record : Nat) (fail : Bool) (s : State) : Res :=
  match s.savedTasks.find? fun t => t.die == d && t.record == record with
  | none => event "TASK_RELEASE" false s
  | some t =>
    let code := field t.image.tcause 7 0
    let held := t.why.isNone
    let may := match t.why with
      | none => code ≠ 24
      | some .tenant => !fail
      | some .host => !fail
      | _ => false
    if !may || s.queued d record then event "TASK_RELEASE" false s
    else if fail then
      let s := s.logAt d 13 0 (causeInfo t.image.tcause) t.image.tval.toNat t.image.tenant t.image.coord
      .next { s.settle d record true false with savedTasks := s.savedTasks.filter fun u => !(u.die == d && u.record == record) }
    else
      let image := if held then t.image.returned else t.image
      let s := { s with savedTasks := adjust (fun u => u.die == d && u.record == record) (fun u => { u with image := image }) s.savedTasks }
      let s := if held then s.resumeCmds t.core (fun k => k.task == some (d, record) || k.nextRow.isSome) else s
      .next (s.queueTask d record false)

/-! ### Traps without a slot of their own -/

/-- A trap at the bundle at the PC of the running seat, whose wait or freeze is abandoned; its cycle is counted (07 R192, R197). -/
def State.trapHere (s : State) (c n cause : Nat) (tval : Word) (slot : Nat) : State :=
  ((s.takeTrap c n cause tval slot (s.seatAt c n).pc).onCore c fun k =>
    { k with freeze := 0, frozenSince := none, fetching := none }).countTrap c n

/-- The span watchdog trap (07 R197): the count begins anew, so that it is taken once. -/
def State.watchdog (s : State) (c n : Nat) : State :=
  (s.trapHere c n 19 (BitVec.ofNat 64 (s.seatAt c n).span) 0).onSeat c n fun st => { st with span := 0 }

/-- Whether the running seat's span has reached WDOG.LIMIT. -/
def State.overSpan (s : State) (c n : Nat) : Bool := (s.die (dieOf c)).wdog ≤ (s.seatAt c n).span

/-- The span counter of the running seat has reached WDOG.LIMIT (07 R197). -/
def execSpanWatchdog (c : Nat) (s : State) : Res :=
  match (s.core c).running with
  | none => event "SPAN_WATCHDOG" false s
  | some n =>
    event "SPAN_WATCHDOG" (s.overSpan c n) (s.watchdog c n)

/-- Whether the seat's replay buffer holds the body of its innermost level, and the PC lies in it (02 R56). -/
def Seat.replays (st : Seat) : Bool :=
  match st.body, st.levels with
  | some b, l :: _ => b.ready && b.start == l.start && b.stop == l.stop && l.start ≤ st.pc && st.pc ≤ l.stop
  | _, _ => false

/-- The bundle at the PC as an iteration recorded it. -/
def Seat.recorded (st : Seat) : Option (List Nat) :=
  match st.body with
  | some b => if st.replays then (b.bundles.find? fun p => p.1 == st.pc).map (·.2) else none
  | none => none

/-- The replay buffer as the bundle at the PC of words `ws` issues: an iteration of the innermost level is recorded from its first bundle
to its close, if the words from START to the end of the close bundle are at most 256 slots (02 R56). -/
def Seat.recording (st : Seat) (ws : List Nat) : Option Replay :=
  match st.levels with
  | [] => st.body
  | l :: _ =>
    let b : Option Replay := match st.body with
      | some b => if b.start = l.start ∧ b.stop = l.stop then some b else none
      | none => none
    let b := match b with
      | some b => some b
      | none => if st.pc = l.start then some ⟨l.start, l.stop, [], false⟩ else none
    match b with
    | none => none
    | some b =>
      if b.ready || st.pc < l.start || l.stop < st.pc then some b
      else if 256 < (st.pc.toNat - l.start.toNat) / 4 + ws.length then none
      else some { b with
        bundles := if b.bundles.any fun p => p.1 == st.pc then b.bundles else b.bundles ++ [(st.pc, ws)]
        ready := st.pc == l.stop }

/-- A bundle of the body that no iteration has issued yet, as memory holds it: the buffer holds the whole body (02 R56). -/
def State.bodyBundle (s : State) (c : Nat) (st : Seat) : Option (List Nat) :=
  if !st.replays then none
  else
    match s.memoryBundle c st.ctx st.sup 8 st.pc.toNat with
    | .ok ws => some ws
    | .error _ => none

/-- A line of a seat's code as it stood at its launch and as it was written since, where the two differ (02 R54). -/
def State.rewritten (s : State) (c : Nat) (st : Seat) (va : Nat) : Option (BitVec 512 × BitVec 512) :=
  let k := s.recSlot (dieOf c) st.record
  match (s.launch k).code.find? fun l => l.1 == va / 64 with
  | none => none
  | some (_, old) =>
    if s.slotCtx k ≠ st.ctx then none
    else match s.codeLine c st.ctx st.sup va with
      | .ok (new, _) => if old = new then none else some (old, new)
      | .error _ => none

/-- A word of a bundle that executes, `w` where its line has not been written (02 R54): the choice of the version is free at every execution. -/
def State.versionWord (s : State) (c : Nat) (st : Seat) (va w : Nat) : Nat :=
  match s.rewritten c st va with
  | none => w
  | some (old, new) => lineWord (if Config.launchVersion (1024 * (s.core c).idx + c) (va / 64) then old else new) va

/-- The bundle at the PC in the versions with which it executes, if a line of it was written in its launch. -/
def State.versionBundle (s : State) (c : Nat) (st : Seat) (ws : List Nat) : Except Fetch (List Nat) :=
  let va := st.pc.toNat
  if (s.rewritten c st va).isNone && (s.rewritten c st (va + 28)).isNone then .ok ws
  else
    bundleOf (fun a => match if st.replays then s.memoryWord c st.ctx st.sup a else s.fetchWord c st.ctx st.sup a with
      | .word w => .word (s.versionWord c st a w)
      | f => f) 8 va

/-- The bundle at the PC of the running seat, as its replay buffer or the instruction cache gives it (02 R56, 09 R248). -/
def State.presentAt (s : State) (c n : Nat) : Except Fetch (List Nat) :=
  let st := s.seatAt c n
  match st.recorded with
  | some ws => .ok ws
  | none =>
    match s.bodyBundle c st with
    | some ws => .ok ws
    | none => s.fetchBundle c st.ctx st.sup 8 st.pc.toNat

/-- The bundle that the running seat executes next: what is present, each line in one of its versions (02 R54). -/
def State.bundleAt (s : State) (c n : Nat) : Except Fetch (List Nat) :=
  match s.presentAt c n with
  | .ok ws => s.versionBundle c (s.seatAt c n) ws
  | e => e

/-- The cause and TVAL of an illegal bundle at the PC of the running seat (09 R250). -/
def State.illegalAt (s : State) (c n : Nat) : Option (Nat × Word) :=
  match s.bundleAt c n with
  | .ok ws => (match decodeBundle ws with
    | .error e => some e
    | .ok _ => none)
  | .error _ => none

/-- A fetched bundle that is illegal traps before any slot of it acts. -/
def execIllegalBundle (c : Nat) (s : State) : Res :=
  match (s.core c).running with
  | none => event "ILLEGAL_BUNDLE" false s
  | some n =>
    match s.illegalAt c n with
    | none => event "ILLEGAL_BUNDLE" false s
    | some (cause, tval) =>
      .next (s.trapHere c n cause tval (field tval 10 8))

end Sys2Proof.Machine
end

