-- ==== Sys2Proof/Machine/Arrive.lean ====
section
/-! DEFINITION. What comes about outside the issue of bundles: results land, values arrive from outer homes or are lost (02 R49, R50),
posted work is performed (06 R152-R162), pages are walked (03 R72-R74), granules are copied for a snapshot (03 R70), and waits end (07 R195,
R200; 11 R300-R302; 14 R383). -/

namespace Sys2Proof.Machine

/-! ### Results land -/

/-- The first ripe landing of a core, in order. -/
def State.firstRipe (s : State) (c : Nat) : Option Landing :=
  let k := s.core c
  (sortLandings (k.flight.filter fun l => l.ripe k.idx)).head?

/-- The first ripe landing lands. -/
def State.landFirst (s : State) (c : Nat) (l : Landing) : State :=
  (s.onCore c fun k => { k with flight := k.flight.erase l }).landOne c l

/-- A result that is not the array's lands (07 R192). -/
def execResultLand (c : Nat) (s : State) : Res :=
  match s.firstRipe c with
  | none => event "RESULT_LAND" false s
  | some l => event "RESULT_LAND" (!l.effect.survives) (s.landFirst c l)

/-- An array write lands (13 R343). -/
def execPushLand (c : Nat) (s : State) : Res :=
  match s.firstRipe c with
  | none => event "PUSH_LAND" false s
  | some l => event "PUSH_LAND" l.effect.survives (s.landFirst c l)

/-- The freeze for a line from a flat address: 480 core cycles at least for code in the core's own HBM (02 R55). -/
def fillTime (c a : Nat) : Nat :=
  match homeOf a with
  | .hbm d => if d = dieOf c then 480 else 0
  | _ => 0

/-- A line enters the instruction cache: 128 KiB of 64 B lines in 256 sets of 8 ways, the line filled longest ago leaving its set
(02 R54). -/
def fillIcache (ctx line : Nat) (l : BitVec 512) (t : List ((Nat × Nat) × BitVec 512)) : List ((Nat × Nat) × BitVec 512) :=
  let others := t.filter fun e => e.1.2 % 256 != line % 256
  let mine := t.filter fun e => e.1.2 % 256 == line % 256 && e.1 != (ctx, line)
  ((ctx, line), l) :: (mine.take 7 ++ others)

/-- The line a fetch waits for arrives (02 R54, R55); its translation uses the TLBs (03 R72-R74). -/
def execIcacheFill (c : Nat) (s : State) : Res :=
  let k := s.core c
  match k.fetching with
  | none => event "ICACHE_FILL" false s
  | some (ctx, line) =>
    let sup := match k.running with
      | some n => (k.seat n).sup
      | none => false
    match s.codeLine c ctx sup (64 * line) with
    | .error _ => event "ICACHE_FILL" false s
    | .ok (l, a) =>
      if s.cycOf c < k.fetchSince + fillTime c a then event "ICACHE_FILL" false s
      else .next ((s.noteMiss c ctx (64 * line) 3).onCore c fun k =>
        { k with icache := fillIcache ctx line l k.icache, fetching := none })

/-! ### Landings wherever they stand -/

/-- The entries of a frame changed. -/
def Frame.onEntries (f : Landing → Landing) (x : Frame) : Frame := { x with entries := x.entries.map f }

/-- Every result in flight of a core changed, those in frames of its seats included. -/
def State.onLandings (s : State) (c : Nat) (f : Landing → Landing) : State :=
  s.onCore c fun k => { k with
    flight := k.flight.map f
    seats := k.seats.map fun q => (q.1, { q.2 with
      drained := q.2.drained.map (Frame.onEntries f)
      frame := q.2.frame.map (Frame.onEntries f)
      userFrame := q.2.userFrame.map fun u => { u with frame := u.frame.map (Frame.onEntries f) } }) }

/-- A value arrives. -/
def Landing.arrive (l : Landing) (v : Vec) : Landing :=
  { l with travel := .here, effect := l.effect.fill v, latch := l.latch.map fun _ => v }

/-- Bytes come back on a trip; with the last of them its value is there. -/
def Landing.giveBytes (l : Landing) (id : Nat) (bs : List (Nat × Byte)) (r : Route) : Landing :=
  match l.travel with
  | .away t =>
    if t.id ≠ id then l
    else
      let t := { t with bytes := t.bytes ++ bs, route := r }
      let mem : Tab Byte := t.bytes.foldl (fun m p => tput m p.1 p.2) []
      if t.addrs.all fun a => mem.any fun p => p.1 == a then l.arrive (formValue t.form (t.addrs.map fun a => tget 0 mem a))
      else { l with travel := .away t }
  | _ => l

/-- Bytes given to a trip of a core, which stays on its route; an atomic of no seat leaves when it is done. -/
def State.giveTrip (s : State) (c id : Nat) (bs : List (Nat × Byte)) (r : Route) : State :=
  let s := s.onLandings c fun l => l.giveBytes id bs r
  s.onCore c fun k => { k with flight := k.flight.filter fun l => !(l.seat == 8 && l.travel == .here && !l.effect.survives) }

/-- The landing of issue order `k` of a core, if it is away. -/
def State.awayAt (s : State) (c k : Nat) : Option (Landing × Trip) :=
  (s.core c).landings.findSome? fun l => if l.ord = k then l.trip.map fun t => (l, t) else none

/-! ### Loads and atomics (02 R49, 14 R532) -/

/-- Whether a home's contents of a granule are lost (18 R451). -/
def State.poisoned (s : State) (addrs : List Nat) : Bool := addrs.any fun a => s.poison.contains (a / 64)

/-- Bytes of a trip that are read together next (06 R154); an atomic's word. -/
def Trip.nextPart (t : Trip) : List Nat := if t.atomic.isSome then t.left else pickUnit (t.id * 2 ^ 24 + t.left.length) unitOf t.left

/-- Bytes that the order of a trip's next part is asked for: an atomic's whole object (06 R158). -/
def Trip.nextTouch (t : Trip) : List Nat := if t.atomic.isSome then t.touches else t.nextPart

/-- The core whose own memories a trip of core `c` reaches unchecked: none where its entry names the target core (01 R24, 03 R83). -/
def Trip.owner (t : Trip) (c : Nat) : Nat := if t.named then 1024 else c

/-- Key material that a trip reads an address under. -/
def Trip.keyAt (t : Trip) (a : Nat) : Option (BitVec 512) := (t.material.find? fun p => p.1 == a / 64).map (·.2)

/-- A trip changed in its route. -/
def State.reroute (s : State) (c id : Nat) (r : Route) : State :=
  s.onLandings c fun l => match l.travel with
    | .away t => if t.id = id then { l with travel := .away { t with route := r } } else l
    | _ => l

/-- The agent that a question about a region is asked for (14 R384). -/
def Landing.asker (l : Landing) (t : Trip) (c ctx : Nat) (sup : Bool) : Issuing :=
  ⟨c, l.seat, t.tenant, ctx, sup, false, 0, false, false, false, false, true⟩

/-- The answer to a question of core `c` (14 R384, R385), and the state after; none where the region can no longer be read. -/
def State.answerTo (s : State) (c : Nat) (l : Landing) (t : Trip) (q : Query) : Option (Vec × State) :=
  match q with
  | .gate a => some ((s.gateWord a).setWidth 4096, s)
  | .manifest job off => some ((s.manifestWord job off).setWidth 4096, s)
  | .digest e b half ctx sup =>
    match s.digestIn (l.asker t c ctx sup) e b half with
    | .error _ => none
    | .ok (h, s) => some (BitVec.ofNat 4096 (leNat h), s)

/-- The value of a trip of core `c` that brings no bytes of a memory. -/
def State.giveValue (s : State) (c id : Nat) (v : Vec) : State :=
  s.onLandings c fun l => match l.travel with
    | .away t => if t.id = id then l.arrive v else l
    | _ => l

/-- The next unit of a load, or an atomic, is performed at its home; the last brings the value back. Requests that waited for their
selector leave, and a question is answered. -/
def execOuterLoadArrival (c k : Nat) (s : State) : Res :=
  match s.awayAt c k with
  | none => event "OUTER_LOAD_ARRIVAL" false s
  | some (l, t) =>
    match t.route with
    | .waiting b =>
      if !s.mayDepart c l.seat b t then event "OUTER_LOAD_ARRIVAL" false s
      else
        let (r, s) := s.depart c (s.seatAt c l.seat).job b t
        .next (s.reroute c t.id r)
    | .asking q =>
      let ok := s.performed t.after && s.firstThere c l.seat t.id t.touches && !s.poisoned t.addrs && !s.cutOff c t.addrs &&
        !s.refusedAt (t.owner c) t.tenant t.addrs
      match (if ok then s.answerTo c l t q else none) with
      | none => event "OUTER_LOAD_ARRIVAL" false s
      | some (v, s) => .next (s.giveValue c t.id v)
    | .direct =>
      let part := t.nextPart
      let ok := s.performed t.after && !part.isEmpty && s.firstThere c l.seat t.id t.nextTouch && !s.poisoned part && !s.cutOff c part &&
        !s.refusedAt (t.owner c) t.tenant part
      if !ok then event "OUTER_LOAD_ARRIVAL" false s
      else
        match t.atomic with
        | none =>
          let t1 := s.giveTrip c t.id (part.map fun a => (a, s.byteKeyed (t.keyAt a) a)) .direct
          .next (if l.spin then t1.armSpin c l.seat l.ord l.load else t1)
        | some a =>
          let (old, s) := s.atomicAt a (part.headD 0)
          .next (s.giveTrip c t.id (placed (part.headD 0) (leBytes a.size old)) .direct)
    | _ => event "OUTER_LOAD_ARRIVAL" false s

/-- A trip that brings no value: cause and TVAL wait for the held bundle. -/
def State.loseTrip (s : State) (c id cause : Nat) (tval : Word) : State :=
  let s := s.onLandings c fun l => match l.travel with
    | .away t => if t.id = id then { l with travel := .lost cause tval } else l
    | _ => l
  s.onCore c fun k => { k with flight := k.flight.filter fun l => !(l.seat == 8 && (match l.travel with
    | .lost _ _ => true
    | _ => false)) }

/-- Requests of a trip that are no longer waited for. -/
def State.dropRequests (s : State) (t : Trip) : State :=
  match t.route with
  | .canal _ nums => { s with canal := { s.canal with requests := s.canal.requests.filter fun r => !nums.contains r.num } }
  | _ => s

/-- A trip is given up: its requests are no longer waited for, and the remote time-out waits for the held bundle (02 R50, 05 R147). R50 does
not say whether an atomic that has not been performed by then still is: the model performs it where its request has left as a message or a
packet, and gives up the one that goes by the die mesh or the package's own paths. -/
def State.timeOut (s : State) (c : Nat) (t : Trip) : State :=
  let seq := match t.route with
    | .canal _ nums => (s.canal.requests.findSome? fun r => if nums.contains r.num then r.seq else none).getD 0
    | _ => 0
  (s.dropRequests t).loseTrip c t.id 36 (BitVec.ofNat 64 (seq % 2 ^ 40 * 256))

/-- A trip of core `c` to another die or package has not come back within XTO of the freeze that waits for it (02 R50, 05 R147). -/
def execRemoteTimeout (c k : Nat) (s : State) : Res :=
  match s.awayAt c k with
  | none => event "REMOTE_TIMEOUT" false s
  | some (l, t) =>
    let x := s.core c
    let d := s.die (dieOf c)
    let expired := match x.frozenSince with
      | some f => decide (f + d.xto ≤ d.cyc)
      | none => false
    event "REMOTE_TIMEOUT" (expired && l.seat < 8 && l.due ≤ x.idx) (s.timeOut c t)

/-- A refusal at a core of the die mesh arrives (03 R83). -/
def execRemoteRefusal (c k : Nat) (s : State) : Res :=
  match s.awayAt c k with
  | none => event "REMOTE_REFUSAL" false s
  | some (l, t) =>
    let part := match t.route with
      | .direct => t.nextPart
      | .asking _ => t.addrs
      | _ => []
    event "REMOTE_REFUSAL" (s.performed t.after && !s.cutOff c part && s.refusedAt (t.owner c) t.tenant part)
      ((s.logRefusalAt (part.headD 0) (c * 8 + l.seat % 8) t.tenant).loseTrip c t.id (refusalCause 1) (refusalTval 1 0))

/-! ### Posted work is performed (06 R152, R162) -/

/-- Whether nothing earlier of the same agent comes first for an item, for the same bytes, an engine's writes having no order; messages
drained to dies come in the order of their arrival. -/
def State.inOrder (s : State) (p : Posted) : Bool :=
  match p.kind, p.agent with
  | .visit n _ _ v, _ => s.posted.all fun q => match q.kind with
    | .visit m _ _ x => !(m < n && meetsAny x.addrs v.addrs)
    | _ => true
  | _, .engine _ => true
  | .heldMessage _ m, .seat c n => s.mayJoin c n p.id m.addrs
  | _, .seat c n => s.firstThere c n p.id p.kind.addrs
  | _, a => s.posted.all fun q => !(q.id < p.id && q.agent == a && meetsAny q.kind.addrs p.kind.addrs)

/-- The core of an agent, whose own memories the die mesh does not refuse it (03 R83). -/
def Agent.core : Agent → Option Nat
  | .seat c _ => some c
  | .engine c => some c
  | .side c _ => some c
  | _ => none

/-- The core whose own memories an item reaches unchecked: none where its entry names the target core (01 R24, 03 R83). -/
def Posted.owner (p : Posted) : Nat := if p.named then 1024 else p.agent.core.getD 1024

/-- Whether the home refuses a write of a tenant that arrives there (03 R83). -/
def State.refusesWrite (s : State) (p : Posted) (bs : List (Nat × Byte)) : Bool :=
  match p.agent with
  | .station _ => false
  | .xi => false
  | _ => s.refusedAt p.owner p.tenant (bs.map (·.1))

/-- Coordinate of the requester for a log. -/
def Agent.place : Agent → Nat
  | .seat c n => c * 8 + n
  | .engine c => c * 8
  | .side c _ => c * 8
  | .station n => n
  | .remote p => p
  | _ => 0

/-- A refused posted write is dropped and logged at its target (18 R452 CLASS 9). -/
def State.logRefused (s : State) (p : Posted) (a : Nat) : State := s.logRefusalAt a p.agent.place p.tenant

/-- A station flag set or cleared (14 R376). -/
def State.setFlag (s : State) (c n f : Nat) (clear : Bool) : State :=
  s.onSeat c n fun st => if clear then st.clearFlag f else { st with flags := st.flags ||| BitVec.ofNat 32 (2 ^ f) }

/-- Whether an agent acts at the XI, which is no die. -/
def Agent.atXi : Agent → Bool
  | .remote _ | .host _ | .xi => true
  | _ => false

/-- A decrement leaves for another die as a best-effort message of kind 3 (04 R110). -/
def State.sendDecrement (s : State) (p : Posted) (d rec amount : Nat) : State :=
  let m : BeMsg := ⟨p.id, 3, 0, stationOf d, BitVec.ofNat 52 rec, 8, BitVec.ofNat 2048 amount, 0, p.job⟩
  ({ s with posted := adjust (fun q => q.id == p.id) (fun q => { q with kind := .message m }) s.posted }).enqueue
    (if p.agent.atXi then 0 else stationOf p.die) m

/-- TAIL takes the larger of its value and a host's, and the queue wakes (17 R425); descriptor `q` stands at 64·q in the I/O cistern. -/
def State.writeTail (s : State) (q : Nat) (v : Word) : State :=
  let a := Home.ioc.at (q % 64 * 64 + 16)
  let s := s.performBytes none (placed a (leBytes 8 (max (s.loadNat a 8) v.toNat)))
  { s with awake := if s.awake.contains (q % 64) then s.awake else s.awake ++ [q % 64] }

/-- The unit in which an item's bytes are written at one instant: a home's own, or the 64 B granule of an engine write to a shadow pair or of a
host's write (06 R154; 01 R30, 17 R426). -/
def Posted.unit (p : Posted) (a : Nat) : Nat :=
  match p.pair, p.agent with
  | true, _ => 64
  | false, .host _ => 64
  | false, _ => unitOf a

/-- Bytes of a write that are performed together next, in their unit, and those after. -/
def Posted.nextUnit (p : Posted) (bs : List (Nat × Byte)) : List (Nat × Byte) × List (Nat × Byte) :=
  let part := pickUnit (p.id * 2 ^ 24 + bs.length) p.unit (bs.map (·.1))
  (bs.filter fun x => part.contains x.1, bs.filter fun x => !part.contains x.1)

/-- The station that a write leaves from as best-effort messages (04 R110; 05 R135): the copy engine's to another die's HBM, and those of
the XI to any die. -/
def Posted.carrier (p : Posted) (a : Nat) : Option Nat :=
  match p.agent, homeDie a with
  | .engine c, some d => (match homeOf a with
    | .hbm _ => if d = dieOf c then none else some (stationOf (dieOf c))
    | _ => none)
  | .xi, some _ | .remote _, some _ | .host _, some _ => some 0
  | _, _ => none

/-- Target word of a message for a byte of a die. -/
def targetWord (a : Nat) : BitVec 52 :=
  match homeOf a with
  | .spad c => tgtOf 0 c (offsetOf a)
  | .basin c => tgtOf 1 c (offsetOf a)
  | .cist _ => tgtOf 2 0 (offsetOf a)
  | _ => tgtOf 3 0 (offsetOf a)

/-- The first run of at most 256 bytes of a write, and the bytes after it. -/
def firstRun (bs : List (Nat × Byte)) : List (Nat × Byte) × List (Nat × Byte) :=
  match runs 256 (bs.map (·.1)) with
  | [] => (bs, [])
  | (a, n) :: _ => (bs.filter fun p => a ≤ p.1 && p.1 < a + n, bs.filter fun p => !(a ≤ p.1 && p.1 < a + n))

/-- The first run of a posted write leaves station `src` as a message; the rest waits until it has been performed. -/
def State.carry (s : State) (p : Posted) (src : Nat) (bs : List (Nat × Byte)) (material : Option (BitVec 512)) : State :=
  let (now, later) := firstRun bs
  let mem : Tab Byte := now.foldl (fun t x => tput t x.1 x.2) []
  let a := (mem.head?.map (·.1)).getD 0
  let d := (homeDie a).getD 0
  let key := match p.leaf with
    | some l => entryKey (s.current l).entry
    | none => 0
  let m (id : Nat) : BeMsg :=
    ⟨id, 0, 0, stationOf d, targetWord a, mem.length, BitVec.ofNat 2048 (leNat (mem.map (·.2))), key, p.job⟩
  if later.isEmpty then (s.onPosted p.id (.message (m p.id))).enqueue src (m p.id)
  else
    let n := s.nextPost
    let s := s.post { p with kind := .message (m n) }
    let rest (q : Posted) : Posted := { q with kind := .write later material, after := q.after ++ [n] }
    ({ s with posted := adjust (fun q => q.id == p.id) rest s.posted } : State).enqueue src (m n)

/-! ### Messages at the die they have been drained to (04 R110, R112) -/

/-- A reply joins the station's queue. -/
def State.answerFrom (s : State) (station : Nat) (h : Slot) (kind len data : Nat) : State :=
  let m : BeMsg := ⟨s.nextPost, kind, h.stream.toNat % 256, h.origin.toNat, 0, len, BitVec.ofNat 2048 data, 0, h.job.toNat⟩
  ({ s with nextPost := s.nextPost + 1 }).enqueue station m

/-- Whether the home refuses a drained message's sender (03 R83). -/
def State.refusesVisit (s : State) (p : Posted) (v : Visit) : Bool := s.refusedAt 1024 p.tenant v.addrs

/-- Bytes of a write performed at their home, through the leaf that translated them if there is one. -/
def State.performItem (s : State) (p : Posted) (m : Option (BitVec 512)) (bs : List (Nat × Byte)) : State :=
  match p.leaf, p.va with
  | some l, some va => s.performThrough p.die p.ctx va l m bs
  | _, _ => s.writeBytes m bs

/-- Whether a write is held by the state of its granule (03 R70). -/
def State.itemHeld (s : State) (p : Posted) : Bool :=
  match p.leaf, p.va with
  | some l, some va => s.heldArmed p.die p.ctx va l
  | _, _ => false

/-- A drained message acts on the next unit of its bytes (06 R154); with the last it is done. A refused write is dropped and logged. -/
def State.performVisit (s : State) (p : Posted) (n station : Nat) (h : Slot) (v : Visit) : State :=
  let done := s.unpost p.id
  match v with
  | .write bs m =>
    if s.refusesVisit p v then done.logRefused p ((bs.head?.map (·.1)).getD 0)
    else
      let (now, later) := p.nextUnit bs
      (if later.isEmpty then done else s.onPosted p.id (.visit n station h (.write later m))).performItem p m now
  | .read a len m got =>
    let next := match v.addrs with
      | [] => []
      | b :: t => (b :: t).filter fun x => x / unitOf b == b / unitOf b
    let more := got ++ next.map fun b => s.byteKeyed m b
    if len ≤ more.length then done.answerFrom station h 2 len (leNat more)
    else s.onPosted p.id (.visit n station h (.read a len m more))
  | .act a x =>
    let (old, s) := done.atomicAt x a
    s.answerFrom station h 5 8 old

/-- A refusal of an item of a seat's waits for the seat's next bundle, while the seat still runs that task (02 R50, 14 R374); it is logged at
its target. -/
def State.refuseItem (s : State) (p : Posted) (a : Nat) : State :=
  let s := s.logRefused p a
  match p.agent with
  | .seat c n =>
    let st := s.seatAt c n
    if p.task == some (dieOf c, st.record) && st.st != .free && st.held.isNone
    then s.onSeat c n fun st => { st with held := some (refusalCause 1, refusalTval 1 0, (s.core c).idx * 16) } else s
  | _ => s

/-- A posted item is performed, if its turn has come (06 R152); a write by one unit of its home after another (06 R154). -/
def execPostedWritePerform (id : Nat) (s : State) : Res :=
  match s.posted.find? fun p => p.id == id with
  | none => event "POSTED_WRITE_PERFORM" false s
  | some p =>
    if !s.turnOf p || !s.inOrder p then event "POSTED_WRITE_PERFORM" false s
    else
      let done := s.unpost id
      match p.kind with
      | .write bs m =>
        let (now, later) := p.nextUnit bs
        let rest := if later.isEmpty then done else s.onPosted id (.write later m)
        if s.itemHeld p then event "POSTED_WRITE_PERFORM" false s
        else
          match p.carrier ((bs.head?.map (·.1)).getD 0) with
          | some src => .next (s.carry p src bs m)
          | none =>
            if s.refusesWrite p bs then .next (done.logRefused p ((bs.head?.map (·.1)).getD 0))
            else .next (rest.performItem p m now)
      | .visit n station h v =>
        if s.itemHeld p then event "POSTED_WRITE_PERFORM" false s else .next (s.performVisit p n station h v)
      | .heldMessage station m => .next ((s.onPosted id (.message m)).enqueue station m)
      | .selector none => .next done
      | .decrement d rec amount =>
        if d ≠ p.die || p.agent.atXi then .next (s.sendDecrement p d rec amount)
        else if s.recordRefused d rec p.tenant then .next (done.refuseItem p (s.recAt d rec))
        else .next (done.decrement d rec amount p.tenant 10)
      | .flag c n f clear =>
        if s.refusedAt p.owner p.tenant [(Home.spad c).at 0] then .next (done.logRefused p ((Home.spad c).at 0))
        else .next (done.setFlag c n f clear)
      | .tail q v => .next (done.writeTail q v)
      | .counter key => .next { done with flume := { done.flume with bumps := done.flume.bumps ++ [key] } }
      | _ => event "POSTED_WRITE_PERFORM" false s

/-- The increment of a release, with the inversion of a publication (06 R158). -/
def State.releaseAt (s : State) (a : Nat) (flip : Option Nat) : State :=
  let count := (s.loadNat a 8 + 1) % 2 ^ 48
  let sel := s.loadNat (a + 8) 8
  let sel := match flip with
    | some i => sel ^^^ 2 ^ (i % 64)
    | none => sel
  s.writeBytes none (placed a (leBytes 8 count ++ leBytes 8 sel))

/-- Whether a home refuses an access to a sync object that arrives there: a core of another tenant (03 R83), or a block of one (02 R48). -/
def State.objectRefused (s : State) (c tenant a : Nat) : Bool :=
  s.refusedAt c tenant [a] || (match homeOf a with
    | .cist _ | .ioc => s.tagOf (homeOf a) (offsetOf a) != some tenant
    | _ => false)

/-- A release is performed at its object's home, after everything it covers (06 R162); one refused there is dropped and logged. -/
def execReleasePerform (id : Nat) (s : State) : Res :=
  match s.posted.find? fun p => p.id == id with
  | none => event "RELEASE_PERFORM" false s
  | some p =>
    match p.kind with
    | .release a flip =>
      let done := s.unpost id
      event "RELEASE_PERFORM" (s.turnOf p && s.inOrder p)
        (if s.objectRefused (p.agent.core.getD 1024) p.tenant a then done.logRefused p a else done.releaseAt a flip)
    | _ => event "RELEASE_PERFORM" false s

/-! ### Granules copied for a snapshot (03 R70) -/

/-- Whether some write is held by the state of a granule. -/
def State.holdsWrite (s : State) (d ctx g : Nat) : Bool :=
  (s.posted.any fun p => p.die == d && p.ctx == ctx && (match p.va with
    | some va => va / 65536 == g
    | none => false)) ||
    s.cores.any fun k => dieOf k.1 == d && k.2.seats.any fun q => q.2.ctx == ctx &&
      ((q.2.waits.any fun w => match w.kind with
        | .armed va => va / 65536 == g
        | _ => false) ||
       (q.2.leaving && field (s.recDw d q.2.record 3) 54 0 / 65536 == g))

/-- The job of a context's launch that holds the snapshot capability (17 R427, 03 R69). -/
def State.jobOf (s : State) (ctx : Nat) : Option Nat :=
  (s.capable ctx).map fun k => s.slotJob k

/-- A granule's bytes join the job's copies (18 R456). -/
def State.copyGranule (s : State) (d ctx va : Nat) (l : Leaf) : State :=
  let va := va / 65536 * 65536
  let m := s.through l va
  match s.jobOf ctx with
  | none => s
  | some j =>
    let bytes := (List.range 65536).map fun i => s.byteKeyed m.material (m.flat + i)
    s.onJob j fun x => { x with copies := x.copies ++ [⟨va, m.flat, entryKey l.entry, s.ctxEpoch d ctx, bytes⟩] }

/-- The leaf through which a granule is ARMED: one that a write on its way was translated by, a cached one, or the walk's (03 R70, R76). -/
def State.armedLeaf (s : State) (d ctx va : Nat) : Option Leaf :=
  let near (p : Posted) : Bool := p.die == d && p.ctx == ctx && p.va.any fun x => x / 65536 == va / 65536
  let onWay := (s.posted.filter near).filterMap fun p => p.leaf.map s.current
  let cached := (s.cores.filter fun k => dieOf k.1 == d).filterMap fun k => s.tlbHit k.1 ctx va
  let walked := match s.walk d ctx va with
    | .ok l => [l]
    | .error _ => []
  (onWay ++ cached ++ walked).find? fun l => s.armed d ctx va l

/-- The granule that a held write meets is copied, and becomes SAVED with D set. -/
def execArmedGranuleCopy (d ctx va : Nat) (s : State) : Res :=
  match s.armedLeaf d ctx va with
  | none => event "ARMED_GRANULE_COPY" false s
  | some l =>
    event "ARMED_GRANULE_COPY" (s.holdsWrite d ctx (va / 65536)) ((s.copyGranule d ctx va l).markSaved d ctx va l true)

/-! ### Walks (03 R67, R72-R74) -/

/-- Whether a miss comes before another. -/
def Miss.before (a b : Miss) : Bool :=
  a.since < b.since || (a.since == b.since && (a.core < b.core || (a.core == b.core && a.rank < b.rank)))

/-- The oldest queued miss. -/
def oldestMiss (l : List Miss) : Option Miss :=
  l.foldl (fun (m : Option Miss) a => match m with
    | some b => if a.before b then some a else some b
    | none => some a) none

/-- A free walker of a die takes the oldest miss. -/
def execPageWalk (d : Nat) (s : State) : Res :=
  match oldestMiss (s.die d).misses with
  | none => event "PAGE_WALK" false s
  | some m =>
    event "PAGE_WALK" ((s.die d).walks.length < 64)
      ((s.onDie d fun k => { k with misses := k.misses.erase m, walks := k.walks ++ [m] }).admitMisses d)

/-- Whether two cached translations are of one page of one context. -/
def TlbEntry.same (u t : TlbEntry) : Bool := u.ctx == t.ctx && u.leaf.level == t.leaf.level && u.page == t.page

/-- A translation enters a die's last-level TLB, the least recently used of its set leaving. -/
def fillSet (t : TlbEntry) (l : List TlbEntry) : List TlbEntry :=
  let others := l.filter fun u => u.page % 512 != t.page % 512
  let mine := l.filter fun u => u.page % 512 == t.page % 512 && !u.same t
  t :: (mine.take 15 ++ others)

/-- A walk ends: A is set in a leaf that lacks it, and the TLBs of the die and of the cores that missed it hold the leaf. -/
def execPageWalkComplete (d k : Nat) (s : State) : Res :=
  match (s.die d).walks[k]? with
  | none => event "PAGE_WALK_COMPLETE" false s
  | some m =>
    let va := m.page * 65536
    match s.walk d m.ctx va with
    | .error _ => .next ((s.onDie d fun x =>
        { x with walks := x.walks.eraseIdx k, attached := x.attached.filter fun y => !(y.ctx == m.ctx && y.page == m.page) }).admitMisses d)
    | .ok l =>
      let s := if bitOf l.entry 6 then s else s.onEntry l.home fun w => setBit w 6 true
      let t : TlbEntry := ⟨m.ctx, va / 2 ^ (if l.level = 1 then 29 else 16), l⟩
      let done (x : Miss) : Bool := t.covers x.ctx (x.page * 65536)
      let queued := if l.level = 1 then (s.die d).misses.filter done else []
      let cores := (m :: ((s.die d).attached.filter done ++ queued)).map (·.core)
      let s := s.onDie d fun x => { x with
        walks := x.walks.eraseIdx k, attached := x.attached.filter (fun y => !done y), misses := x.misses.filter (fun y => !queued.contains y)
        tlb := fillSet t x.tlb }
      let s := s.admitMisses d
      .next ((sortAddrs cores).foldl (fun s c => s.onCore c fun x =>
        { x with tlb := (t :: x.tlb.filter fun u => !u.same t).take 384 }) s)

/-! ### Waits end -/

/-- Whether a seat of a core waits for a kind. -/
def Seat.waitOf (st : Seat) (p : WaitKind → Bool) : Option Wait := st.waits.find? fun w => p w.kind && !w.ended

/-- A seat's wait is over. -/
def State.endWait (s : State) (c n : Nat) (p : WaitKind → Bool) : State :=
  s.onSeat c n fun st => { st with waits := adjust (fun w => p w.kind) (fun w => { w with ended := true }) st.waits }

/-- A wait whose deadline has passed ends. -/
def State.timeWait (s : State) (name : String) (c n : Nat) (p : WaitKind → Bool) : Res :=
  match (s.seatAt c n).waitOf p with
  | none => event name false s
  | some w => event name (w.deadline ≤ s.cycOf c) (s.endWait c n p)

/-- WTC's value is reached (11 R300). -/
def execPromiseReached (c n : Nat) (s : State) : Res := s.timeWait "PROMISE_REACHED" c n fun k => k == .promise
/-- WFL's deadline is reached (11 R301). -/
def execFlagTimeout (c n : Nat) (s : State) : Res := s.timeWait "FLAG_TIMEOUT" c n fun k => k == .flag
/-- WMON's cycles have passed (11 R302). -/
def execWmonTimeout (c n : Nat) (s : State) : Res := s.timeWait "WMON_TIMEOUT" c n fun k => k == .monitor
/-- REDW's LIMIT has passed (14 R381). -/
def execReductionWaitTimeout (c n : Nat) (s : State) : Res :=
  s.timeWait "REDUCTION_WAIT_TIMEOUT" c n fun k => match k with
    | .reduction _ => true
    | _ => false

/-- A flag, and a counter, of a station's action or a message's delivery, after its writes (04 R99). -/
def execStationFlagSet (k : Nat) (s : State) : Res :=
  match s.flume.flagsDue[k]? with
  | none => event "STATION_FLAG_SET" false s
  | some f =>
    if !s.performed f.after then event "STATION_FLAG_SET" false s
    else
      let s := { s with flume := { s.flume with
        flagsDue := s.flume.flagsDue.eraseIdx k, bumps := s.flume.bumps ++ f.counter.toList } }
      match f.flag with
      | none => .next s
      | some (c, n, i) =>
        .next (s.onSeat c n fun st =>
          let bit := BitVec.ofNat 32 (2 ^ i)
          { st with flags := st.flags ||| bit, missing := tdel st.missing i
                    flagErr := if f.err then st.flagErr ||| bit else st.flagErr })

/-- A write has been performed to a monitored granule on the die (14 R383). -/
def execMonitorFire (c n : Nat) (s : State) : Res :=
  match (s.seatAt c n).monitor with
  | none => event "MONITOR_FIRE" false s
  | some m => event "MONITOR_FIRE" (m.local_ && m.hit && !m.fired) (s.onSeat c n fun st => { st with monitor := some { m with fired := true } })

/-- 4,096 core cycles after arming, for a home elsewhere. -/
def execMonitorTimeout (c n : Nat) (s : State) : Res :=
  match (s.seatAt c n).monitor with
  | none => event "MONITOR_TIMEOUT" false s
  | some m =>
    event "MONITOR_TIMEOUT" (!m.local_ && !m.fired && m.deadline ≤ s.cycOf c)
      (s.onSeat c n fun st => { st with monitor := some { m with fired := true } })

/-- A parked seat wakes (07 R200). -/
def Seat.woken (st : Seat) : Seat := { st with st := .runnable, park := none, spin := .clear, leaving := st.leaving || st.saving.isSome }

def execParkWake (c n : Nat) (s : State) : Res :=
  let st := s.seatAt c n
  let due := match st.park with
    | some p => p.local_ && p.hit
    | none => false
  event "PARK_WAKE" (st.st == .parked && due) (s.onSeat c n Seat.woken)

def execParkTimeoutWake (c n : Nat) (s : State) : Res :=
  let st := s.seatAt c n
  let due := match st.park with
    | some p => !p.local_ && p.wakeAt ≤ s.cycOf c
    | none => false
  event "PARK_TIMEOUT_WAKE" (st.st == .parked && due) (s.onSeat c n Seat.woken)

/-! ### Acquire reads (06 R163, 14 R373) -/

/-- Whether an acquire's address names an object of another package. -/
def farObject (a : Nat) : Bool := 2 ^ 100 ≤ a

/-- The acquire read of a sync object of another package leaves as a Canal atomic of AOP 12 (05 R125). -/
def State.askAcquire (s : State) (c tenant job addr : Nat) (asker : Asker) : State :=
  let x := addr - 2 ^ 100
  let place := x / window
  let (num, s) := s.newTrip
  let peer := place / 2048
  let sub := if place / 1024 % 2 = 0 then 2 else 1
  let p := s.packetTo 3 1 peer (place % 1024) c sub tenant job (x % window) 8
  let q : Request := ⟨num, peer, none, c, x % window, 16, asker, s.cycOf c⟩
  let s := { s with canal := { s.canal with requests := s.canal.requests ++ [q] } }
  s.injectPacket peer { p with aop := 24 } none num []

/-- The wait of a seat for an acquire read, and the object's address. -/
def Seat.acquiring (st : Seat) : Option (Wait × Nat) :=
  st.waits.findSome? fun w => match w.kind with
    | .acquire a => if w.ended then none else some (w, a)
    | .target a _ => if w.ended then none else some (w, a)
    | _ => none

/-- Whether a request of a seat's acquire is on its way. -/
def State.acquireAsked (s : State) (c n : Nat) : Bool := s.canal.requests.any fun r => r.core == c && r.asker == .acquire n

/-- The word an acquire read took. -/
def State.giveAcquire (s : State) (c n : Nat) (w : Word) : State :=
  s.onSeat c n fun st => { st with waits := st.waits.map fun v => match v.kind with
    | .acquire _ => { v with ended := true, got := some w }
    | .target _ _ => { v with got := some w, deadline := s.cycOf c }
    | _ => v }

/-- Whether nothing earlier of a seat to an object comes before its acquire read. -/
def State.objectFree (s : State) (c n a : Nat) : Bool := s.firstThere c n s.nextPost ((List.range 16).map (a + ·))

/-- The acquire read of a seat is refused at the object's home: the partition fault is reported at the waiting bundle (02 R50, 03 R83). -/
def State.refuseAcquire (s : State) (c n : Nat) (w : Wait) (a : Nat) : State :=
  (s.logRefusalAt a (c * 8 + n) (s.seatAt c n).tenant).onSeat c n fun st => { st with held := some (refusalCause 1, refusalTval 1 0, (s.core c).idx * 16 + w.pos) }

/-- The acquire read of a seat is performed at a home of the package, or refused there. -/
def State.acquireHere (s : State) (c n : Nat) (w : Wait) (a : Nat) : State :=
  if s.objectRefused c (s.seatAt c n).tenant a then s.refuseAcquire c n w a
  else s.giveAcquire c n (BitVec.ofNat 64 (s.loadNat a 8))

/-- The read of ACQ, or the first read of ACQT, is performed; for an object of another package its request leaves. -/
def execAcquireReadPerformed (c n : Nat) (s : State) : Res :=
  let st := s.seatAt c n
  match st.acquiring with
  | none => event "ACQUIRE_READ_PERFORMED" false s
  | some (w, a) =>
    if w.got.isSome then event "ACQUIRE_READ_PERFORMED" false s
    else if farObject a then event "ACQUIRE_READ_PERFORMED" (!s.acquireAsked c n) (s.askAcquire c st.tenant st.job a (.acquire n))
    else event "ACQUIRE_READ_PERFORMED" (s.objectFree c n a && st.held.isNone && !s.cutOff c [a]) (s.acquireHere c n w a)

/-- ACQT reads its object again: after a release at a home on its die, or 1,024 core cycles after its last read. -/
def execAcqtReread (c n : Nat) (s : State) : Res :=
  let st := s.seatAt c n
  match st.acquiring with
  | none => event "ACQT_REREAD" false s
  | some (w, a) =>
    match w.kind, w.got with
    | .target _ near, some old =>
      let now := BitVec.ofNat 64 (s.loadNat a 8)
      if st.held.isSome then event "ACQT_REREAD" false s
      else if near then event "ACQT_REREAD" (now != old && s.objectFree c n a && !s.cutOff c [a]) (s.acquireHere c n w a)
      else if s.cycOf c < w.deadline + 1024 then event "ACQT_REREAD" false s
      else if farObject a then event "ACQT_REREAD" (!s.acquireAsked c n) (s.askAcquire c st.tenant st.job a (.acquire n))
      else event "ACQT_REREAD" (s.objectFree c n a && !s.cutOff c [a]) (s.acquireHere c n w a)
    | _, _ => event "ACQT_REREAD" false s

/-! ### The reduction mesh (14 R378-R381) -/

/-- COMBINE of two elements (04 R100). -/
def combine (fmt x y : Nat) : Nat :=
  match fmt with
  | 1 => FpFmt.f32.add x y
  | 2 => c32Add x y
  | 3 => k27Add x y
  | _ => (x + y) % 2 ^ 32

/-- COMBINE of the first `len` bytes of two payloads; the rest is the first's. -/
def combineBytes (fmt len : Nat) (a b : Nat) : Nat :=
  let size := payloadSize fmt
  let w := 8 * size
  let parts := (List.range (len / size)).map fun i => combine fmt (a / 2 ^ (w * i) % 2 ^ w) (b / 2 ^ (w * i) % 2 ^ w)
  parts.foldr (fun p n => p + n * 2 ^ w) 0 + a / 2 ^ (8 * len) * 2 ^ (8 * len)

/-- A reduction route event (18 R452 CLASS 11). -/
def State.logRoute (s : State) (c reason : Nat) (mask : Word) : State := s.logAt (dieOf c) 11 0 reason mask.toNat 0 0

/-- The neighbour of a core in a heading, with the port a packet arrives by there; none beyond the grid. -/
def meshStep (c heading : Nat) : Option (Nat × Nat) :=
  let y := c / 8 % 8
  let x := c % 8
  match heading with
  | 0 => if x < 7 then some (c + 1, 4) else none
  | 1 => if 0 < y then some (c - 8, 3) else none
  | 2 => if 0 < x then some (c - 1, 2) else none
  | _ => if y < 7 then some (c + 8, 1) else none

/-- Whether round `a` lies below round `b`, both modulo 256. -/
def roundBelow (a b : Nat) : Bool := a != b && (b + 256 - a) % 256 < 128

/-- A packet is delivered to the collector of a root core (14 R381). -/
def State.collect (s : State) (c : Nat) (p : RedPacket) : State :=
  let r := (s.core c).router
  let q := r.queue p.tree
  let stale := match r.accepted.find? fun x => x.1 == p.tree with
    | some x => roundBelow p.round x.2
    | none => false
  if stale then s.logRoute c 2 p.mask
  else if q.length ≥ 16 then s.logRoute c 3 p.mask
  else
    let ahead := q.takeWhile fun x => !roundBelow p.round x.round
    s.onCore c fun k => { k with router := k.router.setQueue p.tree (ahead ++ [p] ++ q.drop ahead.length) }

/-- A packet begins its next leg at a router. -/
def State.onward (s : State) (c : Nat) (p : RedPacket) : State :=
  let node := tget (0 : BitVec 23) (s.core c).router.nodes p.tree
  { s with mesh := s.mesh ++ [({ core := c, port := 0, heading := 0, used := 0, packet := { p with turns := node.toNat % 2 ^ 16 } } : RedMove)] }

/-- A packet stops at a router that is no root (14 R380): held, combined with its sibling, one of the two having come by port SIB, or sent on;
none while it waits in its input. The packet of port LEFT is the left operand; where neither port is LEFT, that of the lower port, and the left operand's format holds. -/
def State.stopAt (s : State) (c port : Nat) (p : RedPacket) : Option State :=
  let r := (s.core c).router
  let node := (tget (0 : BitVec 23) r.nodes p.tree).toNat
  if r.closed.contains (p.tree, p.round) then some (s.onward c p)
  else
    match r.held.find? fun h => h.1 == p.tree with
    | none =>
      some (s.onCore c fun k => { k with router := { k.router with held := k.router.held ++ [(p.tree, ⟨p, port, (s.die (dieOf c)).meshCyc⟩)] } })
    | some (_, h) =>
      let sib := node / 2 ^ 16 % 8
      if h.port = port ∨ h.packet.round ≠ p.round ∨ (port ≠ sib ∧ h.port ≠ sib) then none
      else
        let left := node / 2 ^ 19 % 8
        let first := port = left ∨ (h.port ≠ left ∧ port < h.port)
        let (a, b) := if first then (p, h.packet) else (h.packet, p)
        let sum := combineBytes a.fmt 128 a.payload.toNat b.payload.toNat
        let q := { a with mask := a.mask ||| b.mask, payload := BitVec.ofNat 1024 sum }
        let s := s.onCore c fun k => { k with router := { k.router with held := k.router.held.filter fun x => x.1 != p.tree } }
        some (s.onward c q)

/-- The `k`-th packet on the mesh arrives at its router, core `c`, and consumes a turn (14 R378). -/
def execReductionPacketArrival (c k : Nat) (s : State) : Res :=
  match s.mesh[k]? with
  | none => event "REDUCTION_PACKET_ARRIVAL" false s
  | some m =>
    let gone := { s with mesh := s.mesh.eraseIdx k }
    let turn := m.packet.turns / 4 ^ m.used % 4
    let node := (tget (0 : BitVec 23) (s.core c).router.nodes m.packet.tree).toNat
    if m.core ≠ c then event "REDUCTION_PACKET_ARRIVAL" false s
    else if turn = 3 then
      if node.testBit 22 then .next (gone.collect c m.packet)
      else
        match gone.stopAt c m.port m.packet with
        | some s => .next s
        | none => event "REDUCTION_PACKET_ARRIVAL" false s
    else
      let heading := (m.heading + (if turn = 1 then 1 else if turn = 2 then 3 else 0)) % 4
      match meshStep c heading with
      | none => .next (gone.logRoute c 0 m.packet.mask)
      | some (next, port) =>
        if m.used = 7 then .next (gone.logRoute c 1 m.packet.mask)
        else .next { gone with mesh := gone.mesh ++ [{ m with core := next, port := port, heading := heading, used := m.used + 1 }] }

/-- No sibling has come within LIMIT/2 mesh cycles of the held packet's REDTO: it goes on alone, and its round is closed there. -/
def execReductionRouterTimeout (c tree : Nat) (s : State) : Res :=
  match (s.core c).router.held.find? fun h => h.1 == tree with
  | none => event "REDUCTION_ROUTER_TIMEOUT" false s
  | some (_, h) =>
    let t := s.onCore c fun k => { k with router := { k.router with
      held := k.router.held.filter (fun x => x.1 != tree), closed := k.router.closed ++ [(tree, h.packet.round)] } }
    event "REDUCTION_ROUTER_TIMEOUT" (h.since + h.packet.limit / 2 ≤ (s.die (dieOf c)).meshCyc) (t.onward c h.packet)

end Sys2Proof.Machine
end

