-- ==== Sys2Proof/Machine/Aes.lean ====
section
/-! DEFINITION. AES-256 (FIPS 197) and its Galois counter mode (NIST SP 800-38D), which the links of the Canal (05 R144)
and wrapped keys (19 R470) use. A block is its
16 bytes in order. -/

namespace Sys2Proof.Machine

/-- The product by x in the field of AES. -/
def aesDouble (b : Byte) : Byte := (b <<< 1) ^^^ (if b.getLsbD 7 then 0x1B else 0)

/-- The product of two bytes in the field of AES. -/
def aesMul (a b : Byte) : Byte :=
  ((List.range 8).foldl (fun (x : Byte × Byte) i => (if b.getLsbD i then x.1 ^^^ x.2 else x.1, aesDouble x.2)) (0, a)).1

/-- The inverse of a byte, 0 for 0: its power 254, by seven squarings. -/
def aesInverse (b : Byte) : Byte :=
  ((List.range 7).foldl (fun (x : Byte × Byte) _ =>
    let q := aesMul x.2 x.2
    (aesMul x.1 q, q)) (1, b)).1

/-- SubBytes of one byte. -/
def aesSub (b : Byte) : Byte :=
  let v := aesInverse b
  v ^^^ v.rotateLeft 1 ^^^ v.rotateLeft 2 ^^^ v.rotateLeft 3 ^^^ v.rotateLeft 4 ^^^ 0x63

/-- Bytes added to bytes. -/
def xorBytes (a b : List Byte) : List Byte := List.zipWith (· ^^^ ·) a b

/-- The next word of the key schedule of a 256-bit key, `i` its number, from the words so far, newest first. -/
def aesNextWord (i : Nat) (w : List (List Byte)) : List Byte :=
  let t := w.headD []
  let t :=
    if i % 8 = 0 then
      let r := (t.drop 1 ++ t.take 1).map aesSub
      xorBytes r [(List.range (i / 8 - 1)).foldl (fun b _ => aesDouble b) 1, 0, 0, 0]
    else if i % 8 = 4 then t.map aesSub else t
  xorBytes (w.getD 7 []) t

/-- The eight words of a key of 32 bytes. -/
def aesKeyWords (key : List Byte) : List (List Byte) := (List.range 8).map fun i => (key.drop (4 * i)).take 4

/-- The fifteen round keys. -/
def aesRoundKeys (key : List Byte) : List (List Byte) :=
  let w := ((List.range 52).foldl (fun w i => aesNextWord (i + 8) w :: w) (aesKeyWords key).reverse).reverse
  (List.range 15).map fun r => ((w.drop (4 * r)).take 4).flatten

/-- ShiftRows: byte `i` stands in row i mod 4 of column i div 4. -/
def aesShift (b : List Byte) : List Byte := (List.range 16).map fun i => b.getD ((i + 4 * (i % 4)) % 16) 0

/-- MixColumns. -/
def aesMix (b : List Byte) : List Byte :=
  (List.range 16).map fun i =>
    let g (j : Nat) : Byte := b.getD (i / 4 * 4 + (i + j) % 4) 0
    aesDouble (g 0) ^^^ (aesDouble (g 1) ^^^ g 1) ^^^ g 2 ^^^ g 3

/-- One block under the round keys of a key. -/
def aesBlock (keys : List (List Byte)) (b : List Byte) : List Byte :=
  let b := (List.range 13).foldl (fun b r => xorBytes (aesMix (aesShift (b.map aesSub))) (keys.getD (r + 1) [])) (xorBytes b (keys.headD []))
  xorBytes (aesShift (b.map aesSub)) (keys.getD 14 [])

/-! ### Galois counter mode -/

/-- The bytes of a number, highest first. -/
def highBytes (n x : Nat) : List Byte := (List.range n).map fun i => BitVec.ofNat 8 (x / 256 ^ (n - 1 - i))

/-- The number that bytes stand for, highest first. -/
def highNat (bs : List Byte) : Nat := bs.foldl (fun n b => 256 * n + b.toNat) 0

/-- The product of two blocks in the field of GCM, the first bit of a block being its coefficient of 1. -/
def gcmMul (x y : Nat) : Nat :=
  ((List.range 128).foldl (fun (a : Nat × Nat) i =>
    (if x.testBit (127 - i) then a.1 ^^^ a.2 else a.1, a.2 / 2 ^^^ (if a.2 % 2 = 1 then 0xE1 * 2 ^ 120 else 0))) (0, y)).1

/-- `n` blocks of 16 bytes. -/
def blocks16 (n : Nat) (bs : List Byte) : List (List Byte) := (List.range n).map fun i => (bs.drop (16 * i)).take 16

/-- The `i`-th block of the key stream under round keys and an IV of 12 bytes. -/
def gcmStream (keys : List (List Byte)) (iv : List Byte) (i : Nat) : List Byte := aesBlock keys (iv ++ highBytes 4 i)

/-- Whole blocks combined with the key stream: text to ciphertext, and back. -/
def gcmCrypt (keys : List (List Byte)) (iv text : List Byte) : List Byte :=
  ((blocks16 (text.length / 16) text).zipIdx.map fun b => xorBytes b.1 (gcmStream keys iv (b.2 + 2))).flatten

/-- The tag of whole blocks of ciphertext and at most one block of further data. -/
def gcmTag (keys : List (List Byte)) (iv further cipher : List Byte) : Nat :=
  let h := highNat (aesBlock keys (List.replicate 16 0))
  let first := if further.isEmpty then [] else [highNat (further ++ List.replicate (16 - further.length) 0)]
  let blocks := first ++ (blocks16 (cipher.length / 16) cipher).map highNat ++ [8 * further.length * 2 ^ 64 + 8 * cipher.length]
  blocks.foldl (fun y b => gcmMul (y ^^^ b) h) 0 ^^^ highNat (gcmStream keys iv 1)

/-- AES-256-GCM of whole blocks under a key and an IV of 96 bits, with no further data: the ciphertext and the first 64 bits of the tag. -/
def gcmSeal (key : BitVec 256) (iv : BitVec 96) (text : List Byte) : List Byte × BitVec 64 :=
  let keys := aesRoundKeys (highBytes 32 key.toNat)
  let iv := highBytes 12 iv.toNat
  let out := gcmCrypt keys iv text
  (out, BitVec.ofNat 64 (gcmTag keys iv [] out / 2 ^ 64))

/-- The text of whole blocks of ciphertext with further data, none where the tag of 16 bytes fails. -/
def gcmOpen (key : BitVec 256) (iv further cipher tag : List Byte) : Option (List Byte) :=
  let keys := aesRoundKeys (highBytes 32 key.toNat)
  if gcmTag keys iv further cipher = highNat tag then some (gcmCrypt keys iv cipher) else none

end Sys2Proof.Machine
end

