-- ==== Sys2Proof/Machine/Wire.lean ====
section
/-! DEFINITION. What travels on links and in slots as bytes: headers (04 R91, 05 R123), CRC-32, flits with their framing words (05 R122),
the encryption of a link direction (R144), and the ports of a package (R121). -/

namespace Sys2Proof

open Sys2Proof.Machine

/-! ### Fields of a packet (05 R123, R124) -/

/-- Package (16·row + column), die and core of an end. -/
def Packet.srcPackage (p : Packet) : Nat := p.src.toNat / 2 ^ 10
def Packet.dstPackage (p : Packet) : Nat := p.dst.toNat / 2 ^ 10
def Packet.dstCore (p : Packet) : Nat := p.dst.toNat % 2 ^ 10
def Packet.len (p : Packet) : Nat := p.lenM1.toNat + 1
/-- Flits on a link. -/
def Packet.flits (p : Packet) : Nat := 1 + (if p.trimmed then 0 else p.pfl.toNat)
/-- Number of its VC and hop class among the credit counts (05 R123). -/
def Packet.lane (p : Packet) : Nat := 3 * p.vc.toNat + p.hop.toNat % 3
/-- Whether a packet takes a pair SEQ (05 R126). -/
def Packet.numbered (p : Packet) : Bool := p.type.toNat ≤ 4 || p.type == 8

/-- Whether two packets touch a granule in common at one target memory. -/
def Packet.meets (a b : Packet) : Bool :=
  let sub := a.sub.toNat
  a.sub == b.sub && (sub == 3 || a.dstCore / 64 == b.dstCore / 64) && (sub ≥ 2 || a.dstCore == b.dstCore) &&
    a.addr.toNat / 64 ≤ (b.addr.toNat + b.lenM1.toNat) / 64 && b.addr.toNat / 64 ≤ (a.addr.toNat + a.lenM1.toNat) / 64

end Sys2Proof

namespace Sys2Proof.Machine

/-! ### Headers as bytes -/

/-- CRC-32, reflected (04 R91). -/
def crcByte (crc : Nat) (b : Byte) : Nat :=
  (List.range 8).foldl (fun c _ => if c % 2 = 1 then c / 2 ^^^ 0xEDB88320 else c / 2) (crc ^^^ b.toNat)
def crc32 (bs : List Byte) : Nat := bs.foldl crcByte 0xFFFFFFFF ^^^ 0xFFFFFFFF

/-- Bits of a Bool. -/
def bitNat (b : Bool) : Nat := if b then 1 else 0

/-- The first 40 bytes of a packet's header, which its hops leave alone but for HOP (05 R123). -/
def headerFront (p : Packet) : List Byte :=
  let dw0 := p.type.toNat * 2 ^ 60 + p.vc.toNat * 2 ^ 58 + bitNat p.trimmed * 2 ^ 57 + bitNat p.rel * 2 ^ 56 + bitNat p.det * 2 ^ 55 +
    p.pfl.toNat * 2 ^ 51 + p.hop.toNat * 2 ^ 49 + p.src.toNat * 2 ^ 30 + p.dst.toNat * 2 ^ 12 + p.sub.toNat * 2 ^ 10 + p.tenant.toNat
  let dw1 := p.seq.toNat * 2 ^ 24 + p.lenM1.toNat * 2 ^ 15 + p.aop.toNat * 2 ^ 10 + p.job.toNat
  leBytes 8 dw0 ++ leBytes 8 dw1 ++ leBytes 8 p.addr.toNat ++ leBytes 8 p.opa.toNat ++ leBytes 8 p.opb.toNat

/-- Twelve credit counts in DW5 to DW7 (05 R123). -/
def countBytes (l : List (BitVec 16)) : List Byte := (List.range 12).flatMap fun i => leBytes 2 (l.getD i 0).toNat

/-- STATE of a slot (04 R91). -/
def slotStateNat : SlotState → Nat
  | .free => 0
  | .busy => 1
  | .freeHeld => 2
  | .busyHeld => 3

/-- The 32 bytes of a slot's header (04 R91). -/
def slotHeader (h : Slot) : List Byte :=
  let dw0 := slotStateNat h.state * 2 ^ 62 + bitNat h.owned * 2 ^ 61 + bitNat h.epar * 2 ^ 60 + h.fmt.toNat * 2 ^ 57 + h.hold.toNat * 2 ^ 52 +
    h.origin.toNat * 2 ^ 47 + h.stream.toNat * 2 ^ 35 + h.len.toNat * 2 ^ 26 + h.dest.toNat
  let dw1 := h.cseq.toNat * 2 ^ 48 + h.key.toNat * 2 ^ 36 + bitNat h.inc * 2 ^ 35 + h.job.toNat * 2 ^ 21 + h.miss.toNat
  let credit := match h.credit with
    | some (d, n) => 2 ^ 63 + d.toNat * 2 ^ 58 + n.toNat * 2 ^ 53
    | none => 0
  let front := leBytes 8 dw0 ++ leBytes 8 dw1 ++ leBytes 8 (credit + h.tgt.toNat)
  front ++ leBytes 8 (crc32 (front ++ leBytes 256 h.payload.toNat))

/-! ### Flits (05 R122, R141, R144) -/

/-- `n` flits of 64 B, zeros after the last byte. -/
def flitBits : Nat → List Byte → List (BitVec 512)
  | 0, _ => []
  | n + 1, bs => BitVec.ofNat 512 (leNat (bs.take 64)) :: flitBits n (bs.drop 64)

/-- A link-control flit: its kind in the first byte, its counts and values after it. Only the kind and the counts of IDLE have places in the
spec; the model puts the rest at the places here. -/
def Control.bytes : Control → List Byte
  | .idle f => leBytes 40 0 ++ countBytes f
  | .resync f r => leBytes 16 1 ++ countBytes f ++ countBytes r
  | .adv o => leBytes 1 2 ++ o
  | .rkreq g => leBytes 8 3 ++ leBytes 8 g
  | .rkmsg f => leBytes 1 4 ++ f
  | .keysw => leBytes 1 5
  | .replay n => leBytes 1 6 ++ leBytes 2 n.toNat

/-- Flits of a message, before encryption; the number is the flit counter of its first. -/
def Sent.bits (x : Sent) (counter : Nat) : List (BitVec 512) :=
  match x with
  | .packet p => flitBits p.flits (headerFront p ++ countBytes p.counts ++ p.payload)
  | .control k _ => flitBits 1 k.bytes
  | .lade h => flitBits 5 (slotHeader h ++ leBytes 32 (Config.ladeControl counter).toNat ++ leBytes 256 h.payload.toNat)

/-- How many they are. -/
def Sent.flits (x : Sent) : Nat :=
  match x with
  | .packet p => p.flits
  | .control _ _ => 1
  | .lade _ => 5

/-- FK of a flit (05 R122). -/
def Sent.kind (x : Sent) (i : Nat) : BitVec 2 :=
  match x with
  | .packet _ => if i = 0 then 0 else 1
  | .control _ _ => 2
  | .lade _ => 3

/-- RKREQ, RKMSG and KEYSW travel unencrypted (05 R145). -/
def Sent.plain (x : Sent) : Bool :=
  match x with
  | .control (.rkreq _) _ | .control (.rkmsg _) _ | .control .keysw _ => true
  | _ => false

/-- The framing word's bits [95:0]. -/
def framingLow (rpn : BitVec 16) (kind : BitVec 2) (last : Bool) (tag : BitVec 64) : Nat :=
  rpn.toNat * 2 ^ 80 + kind.toNat * 2 ^ 78 + bitNat last * 2 ^ 77 + tag.toNat

/-- `n` flits encrypted under the link's key (05 R144), and the tag: the IV is the salt and the flit counter, a flit's bytes stand in order. -/
def Link.seal (l : Link) (n : Nat) (plain : List (BitVec 512)) : List (BitVec 512) × BitVec 64 :=
  let out := gcmSeal l.key (l.salt ++ BitVec.ofNat 48 l.flits) (plain.flatMap fun f => leBytes 64 f.toNat)
  (flitBits n out.1, out.2)

/-- A message as a link sends it now: encrypted under its key and salt, each flit with its framing word. -/
def Link.frame (l : Link) (x : Sent) : Framed :=
  let n := x.flits
  let plain := x.bits l.flits
  let (cipher, tag) := if x.plain then (plain, 0) else l.seal n plain
  ⟨l.rpn, x, (List.range n).map fun i =>
    let bits := cipher.getD i 0
    let rpn := l.rpn + BitVec.ofNat 16 i
    let last := i + 1 == n
    let tag := if last then tag else 0
    let low := framingLow rpn (x.kind i) last tag
    ⟨bits, BitVec.ofNat 32 (crc32 (leBytes 64 bits.toNat ++ leBytes 12 low)), rpn, x.kind i, last, tag⟩⟩

/-- A message leaves: into the replay buffer, each flit with an RPN and a value of the flit counter (05 R143, R144). -/
def Link.send (l : Link) (x : Sent) : Link :=
  { l with
    replay := l.replay ++ [l.frame x], rpn := l.rpn + BitVec.ofNat 16 x.flits, flits := l.flits + x.flits, cycles := l.cycles + x.flits }

/-- Flits in the replay buffer. -/
def Link.replayFlits (l : Link) : Nat := l.replay.foldl (fun n r => n + r.flits.length) 0

/-- Whether a message may leave: there is room in the replay buffer, and, unless it is unencrypted, sending has not stopped and it would not
end above 2^48 − 3 (05 R143, R145). -/
def Link.may (l : Link) (x : Sent) : Bool :=
  l.replayFlits + x.flits ≤ 512 && (x.plain || (l.stopped.isNone && l.flits + x.flits ≤ 2 ^ 48 - 3))

/-! ### Ports (05 R121) -/

def State.onCanal (s : State) (f : Canal → Canal) : State := { s with canal := f s.canal }
def State.link (s : State) (port : Nat) : Link := tget .reset s.canal.links port
def State.onLink (s : State) (port : Nat) (f : Link → Link) : State :=
  s.onCanal fun k => { k with links := tput k.links port (f (tget .reset k.links port)) }

/-- The port of package `a` towards package `b` of its row or column (16·row + column). -/
def portTo (a b : Nat) : Nat :=
  if a / 16 = b / 16 then (if b % 16 < a % 16 then b % 16 else b % 16 - 1)
  else 15 + (if b / 16 < a / 16 then b / 16 else b / 16 - 1)

/-- The package a port of `a` leads to. -/
def portPeer (a port : Nat) : Nat :=
  if port < 15 then a / 16 * 16 + (if port < a % 16 then port else port + 1)
  else (if port - 15 < a / 16 then port - 15 else port - 14) * 16 + a % 16

/-- Whether a port's peer lies in the domain: the others are disabled. -/
def State.portOpen (s : State) (port : Nat) : Bool :=
  let b := portPeer s.package port
  port < 30 && b % 16 < s.canal.cols && b / 16 < s.canal.rows

/-- Ports that bring-up leaves enabled. -/
def State.openPorts (s : State) : List Nat := (List.range 30).filter s.portOpen

/-- A link that carries flits. -/
def State.linkUp (s : State) (port : Nat) : Bool := s.portOpen port && !(s.link port).retired

/-- A message leaves by a port. -/
def State.sendOn (s : State) (port : Nat) (x : Sent) : State :=
  (s.onLink port fun l => l.send x).onCanal fun k => { k with gone := k.gone ++ [(port, (s.link port).frame x)] }

/-- Flits have come by a port (05 R143). -/
def State.flitsIn (s : State) (port n : Nat) : State := s.onLink port fun l => { l with rpnIn := l.rpnIn + BitVec.ofNat 16 n }

/-! ### Lades on links (04 R117, R118) -/

/-- The package that a Lade slot of this XI goes on to, or, `back`, came from. -/
def State.ladeHop (s : State) (r : Ring) (slot : Nat) (back : Bool) : Nat :=
  let n := (s.lade r).n
  let mine := s.ladeStation r
  let forward := (slot / 1024 == 0) != back
  let next := if forward then (mine + 1) % n else (mine + n - 1) % n
  if r = .row then s.prow * 16 + next else next * 16 + s.pcol

/-- Whether a port leads along the ring of a Lade that is up. -/
def State.onLade (s : State) (r : Ring) (port : Nat) : Bool :=
  0 < (s.lade r).h && (portPeer s.package port == s.ladeHop r 0 false || portPeer s.package port == s.ladeHop r 1024 false)

/-- The Lade whose windows a port reserves. -/
def State.ladeOf (s : State) (port : Nat) : Option Ring := [Ring.row, .col].find? fun r => s.onLade r port

/-- The Lade slot that waits for the next window of a port. -/
def State.ladeWaiting (s : State) (r : Ring) (port : Nat) : Option (Nat × Slot) :=
  s.flume.leaving.find? fun x => x.1 / 2048 == r.index + 1 && s.ladeHop r (x.1 % 2048) false == portPeer s.package port

end Sys2Proof.Machine
end

