-- ==== Sys2Proof/Machine/Flume.lean ====
section
/-! DEFINITION. Passes of slots at stations (04 R86-R116): gate actions, best-effort traffic, what station 0 does, and the end of a slot
time. On a Lade the slot comes off the link with the pass (R117-R119). -/

namespace Sys2Proof

open Sys2Proof.Machine

/-- Station number in gate tables, queues and counters: 21 and 22 on the Lades. -/
def Pass.place (p : Pass) : Nat := match p.ring with
  | .flume => p.station
  | .row => 21
  | .col => 22

/-- Bytes of a payload. -/
def Slot.bytes (h : Slot) : List Byte := leBytes h.len.toNat h.payload.toNat
/-- An emptied slot. -/
def Slot.emptied (h : Slot) : Slot := { h with state := if h.state = .busyHeld then .freeHeld else .free }
/-- INC and the MISS bit of a station. -/
def Slot.missed (h : Slot) (bit : Nat) : Slot := { h with inc := true, miss := h.miss ||| BitVec.ofNat 21 (2 ^ bit) }

end Sys2Proof

namespace Sys2Proof.Machine

/-! ### Rings (04 R86-R89, R117-R119) -/

/-- What a pass brings about. -/
inductive PassCase where
  | load | copy | add | take | empty | classChange | emptyStale | takeSlot | hold | resend
  | write | readRequest | readResponse | decrement | atomicRequest | atomicResponse | message | reserved
deriving DecidableEq, Repr

/-- Key of a slot among the slots of all rings. -/
def slotKey (r : Ring) (n : Nat) : Nat :=
  2048 * (match r with
    | .flume => 0
    | .row => 1
    | .col => 2) + n % 2048

/-- Offset of a station in a direction, in slot times after station 0's output (04 R88). -/
def offsetAt (station : Nat) (reverse : Bool) : Nat :=
  if station = 0 then 0 else if reverse then 6 * (21 - station) else 6 * station

/-- Offset of station 0's input, two slot times of the retimer before its output (04 R88, R89). -/
def inputOffset : Nat := 126

/-- The slot of a direction and lane, 8·direction + lane, at a position of the rotation in this slot time (04 R87). -/
def State.slotAt (s : State) (lane off : Nat) : Nat := lane * 128 + (s.flume.time + 128 - off) % 128

/-- The slot of a direction and lane that passes a Flume station in this slot time: station 0's output. -/
def State.slotDue (s : State) (station lane : Nat) : Nat := s.slotAt lane (offsetAt station (lane ≥ 8))

/-- Slots of a lane at a station in this slot time: at station 0 the one at its input and the one at its output. -/
def State.slotsDue (s : State) (station lane : Nat) : List Nat :=
  if station = 0 then [s.slotAt lane inputOffset, s.slotDue 0 lane] else [s.slotDue station lane]

/-- Whether a pass is of the station's input, where it takes slots in, and of its output, where it loads them: both, except at station 0 of
the Flume, whose retimer lies between (04 R89). -/
def State.halves (s : State) (p : Pass) : Bool × Bool :=
  if p.ring = .flume ∧ p.station = 0 then (p.slot == s.slotAt (p.slot / 128) inputOffset, p.slot == s.slotDue 0 (p.slot / 128))
  else (true, true)

/-- Slots of a rotation. -/
def State.rotation (s : State) (r : Ring) : Nat := match r with
  | .flume => 128
  | r => (s.lade r).n * (s.lade r).h

/-- Slot times counted on a ring: on a Lade, the reserved windows that the Canal clock has counted (04 R90, R118). -/
def State.ringTime (s : State) (r : Ring) : Nat := match r with
  | .flume => s.flume.time
  | r => s.canal.cycles / (s.lade r).p

/-- Whether a pass can be made now: on the Flume, its slot is at the station, and passes of lower lanes have been made (04 R98). A CRC is
checked as a slot comes in. -/
def State.passDue (s : State) (p : Pass) : Bool :=
  match p.ring with
  | .flume =>
    p.station < 21 && !s.flume.stopped && p.arrives.isNone && p.slot < 2048 && (s.slotsDue p.station (p.slot / 128)).contains p.slot &&
      !s.flume.done.contains (p.slot, p.station) && !(p.bad && !(s.halves p).1) &&
      (List.range (p.slot / 128)).all fun i => (s.slotsDue p.station i).all fun n => s.flume.done.contains (n, p.station)
  | r => p.arrives.isSome && p.station == s.ladeStation r && p.slot < 2048 && p.slot % 1024 < s.rotation r

/-- The XC die of a station, its place among the dies of a job (16 the XI, 17-20 the XM dies), and where its parities stand. -/
def placeOf (station : Nat) : Nat :=
  match dieOfStation station with
  | some d => d
  | none => if station = 0 ∨ 20 < station then 16 else 17 + station / 5
def parityStation (station : Nat) : Nat := if 20 < station then 0 else station

/-- Epoch parity of a job at a station's die, 0 for no job (04 R108). -/
def State.parityOf (s : State) (station job : Nat) : Bool := job != 0 && s.flume.parity.contains (parityStation station, job)

/-- A delivery of a slot whose epoch parity differs from the die's, before the die's ARMING (04 R108). -/
def State.jobEarly (s : State) (h : Slot) (station : Nat) : Bool :=
  let j := h.job.toNat
  j != 0 && h.epar != s.parityOf station j && (s.job j).asked.contains (placeOf station) && !(s.job j).armed.contains (placeOf station)

/-- The same after the die's ARMING: the delivery is channel state (18 R455). -/
def State.jobLate (s : State) (h : Slot) (station : Nat) : Bool :=
  let j := h.job.toNat
  j != 0 && h.epar != s.parityOf station j && !s.jobEarly h station

/-- A record of channel state (18 R455): it enters the job's channel log at `place`, or cannot be written, which is logged as CLASS 15 and
keeps the epoch from committing. Whether it can be written is free. -/
def State.recordChannel (s : State) (job unit place : Nat) (msg : Delivery) (bs : List (Nat × Byte)) (flag : Option (Nat × Nat × Nat))
    (counter gate : Option Nat) : State :=
  let n := s.nextPost
  let s := { s with nextPost := n + 1 }
  if Config.recordFits n then s.onJob job fun j => { j with channel := j.channel ++ [⟨j.epoch, place, msg, bs, flag, counter, gate⟩] }
  else
    let tenant := (s.job job).tenant
    (if place < 16 then s.logAt place 15 unit 0 0 tenant 0 else s.logMgmt 15 unit 0 0 tenant).onJob job fun j => { j with abandoned := true }

/-- A late delivery is recorded as channel state of its job. -/
def State.logChannel (s : State) (h : Slot) (station : Nat) (bs : List (Nat × Byte)) (flag : Option (Nat × Nat × Nat))
    (counter gate : Option Nat) : State :=
  if s.jobLate h station then s.recordChannel h.job.toNat 7 (placeOf station) (.slot station h) bs flag counter gate else s

/-- A Flume event of a station (18 R452): INFO is the MISS mask, LOC the station and the slot. -/
def State.logStation (s : State) (cls station slot miss : Nat) : State :=
  match dieOfStation station with
  | some d => s.logAt d cls 7 miss (station * 2048 + slot) 0 0
  | none => s.logMgmt cls 7 miss (station * 2048 + slot) 0

/-! ### Gate actions (04 R97-R104) -/

/-- ARMED of an entry (04 R97). -/
def State.armedGate (s : State) (station : Nat) (e : GateBits) : Bool :=
  !gateArm e || (tget (0 : BitVec 32) s.flume.counters (32 * station + gateAcnt e) - BitVec.ofNat 32 (gateAthr e)).toNat < 2 ^ 31

/-- Flat address of BUF(c) (04 R99); none where the station has no such memory. -/
def State.bufAt (s : State) (key : Nat) (e : GateBits) (c : Nat) : Option Nat :=
  let front := match gateObject key e with
    | some (h, off) => (s.loadNat (h.at (off + 8)) 8).testBit (gateFsi e)
    | none => false
  (gateHome key e).map fun h =>
    h.at (gateBase e + 256 * (c % gateCount e) + (if gateSh e ∧ !front then gateShoff e else 0))

/-- Key material of a stream's key id (03 R78). -/
def State.streamMaterial (s : State) (k : Nat) : Option (BitVec 512) := some (s.key k).material

/-- Bytes of a buffer. -/
def State.bufBytes (s : State) (a : Option Nat) (k n : Nat) : List Byte :=
  match a with
  | some a => (List.range n).map fun i => s.byteKeyed (s.streamMaterial k) (a + i)
  | none => List.replicate n 0

/-- The flag of an entry: core, seat, flag; none without FEN. -/
def gateFlagAt (key : Nat) (e : GateBits) : Option (Nat × Nat × Nat) :=
  match gateFen e, keyDie key with
  | true, some d => some (gateCore e d, gateSeat e, gateFlag e)
  | _, _ => none

/-- NEXT and ATHR of an entry after a delivery (04 R99). -/
def gateAdvance (e : GateBits) : GateBits :=
  let e1 := gatePut e 3 15 0 (gateNext e + 1)
  if gateArm e then gatePut e1 1 63 32 (gateAthr e + gateAinc e) else e1

/-- FIRST_DONE (04 R99): what follows after the posted writes `after`. -/
def State.firstDone (s : State) (key : Nat) (e : GateBits) (after : List Nat) : State :=
  let s := s.setGate key (gateAdvance e)
  let counter := if gateCen e then some (32 * (key / 2048) + gateCnt e) else none
  if (gateFlagAt key e).isNone ∧ counter.isNone then s
  else { s with flume := { s.flume with flagsDue := s.flume.flagsDue ++ [⟨after, gateFlagAt key e, false, counter⟩] } }

/-- MISSREG of the entry's flag (04 R103). -/
def State.missreg (s : State) (key : Nat) (e : GateBits) (miss : BitVec 21) : State :=
  match gateFlagAt key e with
  | some (c, n, f) => s.onSeat c n fun st => { st with missing := tset 0 st.missing f miss }
  | none => s

/-- SERR: the entry acts as PASS, its flag set with the error status (04 R99, R109). -/
def State.serrFlag (s : State) (key : Nat) (e : GateBits) : State :=
  match gateFlagAt key e with
  | some f => { s with flume := { s.flume with flagsDue := s.flume.flagsDue ++ [⟨[], some f, true, none⟩] } }
  | none => s

/-- LOAD (04 R99, R102). -/
def State.gateLoads (s : State) (key station : Nat) (e : GateBits) (h : Slot) : Option (State × Slot) :=
  let fill (c : Nat) : State × Slot :=
    let r := s.streamRec (gateStream e)
    let k := match r with
      | some r => r.key
      | none => 0
    let j := match r with
      | some r => r.job
      | none => 0
    let bs := s.bufBytes (s.bufAt key e c) k (gateLen e)
    let h' : Slot := { h with
      state := .busy, owned := true, epar := s.parityOf station j, fmt := BitVec.ofNat 3 (gateFmt e), hold := 0
      origin := BitVec.ofNat 5 (if 20 < station then s.ladeStation (if station = 21 then .row else .col) else station)
      stream := BitVec.ofNat 12 (gateStream e), len := BitVec.ofNat 9 (gateLen e), dest := BitVec.ofNat 21 (gateDest e)
      cseq := BitVec.ofNat 16 c, key := BitVec.ofNat 12 k, inc := false, job := BitVec.ofNat 10 j, miss := 0, tgt := 0
      payload := BitVec.ofNat 2048 (leNat bs) }
    (if c = gateNext e then s.firstDone key e [] else s, h')
  let origin := if 20 < station then s.ladeStation (if station = 21 then .row else .col) else station
  if h.state = .free then (if s.armedGate station e then some (fill (gateNext e)) else none)
  else if h.state = .busy ∧ h.origin.toNat = origin ∧ h.stream.toNat = gateStream e then
    if h.inc then some (fill h.cseq.toNat)
    else some (s.logStation 5 station (key % 2048) h.miss.toNat, { h with state := .free })
  else none

/-- COPY, ADD, TAKE and EMPTY on a slot of the entry's stream (04 R99); MISSREG is written whenever the chunk is met incomplete (R103). -/
def State.gateActs (s : State) (key station bit : Nat) (e : GateBits) (h : Slot) : State × Slot :=
  let act := gateAct e
  if h.fmt.toNat ≠ gateFmt e ∨ s.jobEarly h station then
    let s := if h.fmt.toNat ≠ gateFmt e then s.logStation 5 station (key % 2048) h.miss.toNat else s
    let h := h.missed bit
    (s.missreg key e h.miss, h)
  else
    let first := h.cseq.toNat == gateNext e
    let again := (h.cseq.toNat + 1) % 65536 == gateNext e
    let s := if h.inc && (first || again) then s.missreg key e h.miss else s
    if !first && !again then (s.logStation 5 station (key % 2048) h.miss.toNat, h)
    else if first && !s.armedGate station e then
      let h := h.missed bit
      (s.missreg key e h.miss, h)
    else
      let buf := s.bufAt key e h.cseq.toNat
      let h := if act = 3 then
        let mine := leNat (s.bufBytes buf h.key.toNat h.len.toNat)
        { h with payload := BitVec.ofNat 2048 (combineBytes h.fmt.toNat h.len.toNat h.payload.toNat mine) }
        else h
      if again then (s, h)
      else if h.inc && act == 4 then (s, h)
      else
        let bs := match buf with
          | some a => if act = 2 ∨ act = 4 then placed a h.bytes else []
          | none => []
        let s := s.logChannel h station bs (gateFlagAt key e) (if gateCen e then some (32 * station + gateCnt e) else none) (some key)
        let id := s.nextPost
        let s := if bs.isEmpty then s
          else s.post { Posted.of (.station station) ((keyDie key).getD 0) 0 0 h.job.toNat 2 with
            kind := .write bs (s.streamMaterial h.key.toNat), bound := (gateObject key e).map fun o => o.1.at o.2 }
        let h := if act = 4 ∨ act = 5 then { h with state := .free } else h
        (s.firstDone key e (if bs.isEmpty then [] else [id]), h)

/-- The case of an acting entry. -/
def gateCase (act : Nat) : PassCase :=
  match act with
  | 1 => .load
  | 2 => .copy
  | 3 => .add
  | 4 => .take
  | _ => .empty

/-- Whether a station may load the slots of a stream: its origin alone (04 R99, R107). A stream that this package keeps no record of is known
by its entries only. -/
def State.mayLoad (s : State) (station stream : Nat) : Bool :=
  match s.streamRec stream with
  | some r => r.origin == station
  | none => true

/-- An owned slot meets the entry of the station: a LOAD at the station's output, anything else at its input. -/
def State.passOwned (s : State) (p : Pass) (h : Slot) : State × Slot × List PassCase :=
  let key := gateKey p.ring p.station p.slot
  let e := s.gate key
  let act := gateAct e
  if act = 0 ∨ !(if act = 1 then (s.halves p).2 else (s.halves p).1) then (s, h, [])
  else if gateSerr e then (s.serrFlag key e, h, [])
  else if act = 1 then
    match (if s.mayLoad p.station (gateStream e) then s.gateLoads key p.place e h else none) with
    | some (s, h) => (s, h, [.load])
    | none => (s, h, [])
  else if h.state = .busy ∧ h.stream.toNat = gateStream e ∧ h.dest.getLsbD p.station then
    let (s, h) := s.gateActs key p.place p.station e h
    (s, h, [gateCase act])
  else (s, h, [])

/-! ### Best-effort traffic (04 R110-R116) -/

/-- The posted item of a message, if its sender is in this package. -/
def State.itemOf (s : State) (id : Nat) : Option Posted := s.posted.find? fun p => p.id == id

/-- Whether the target refuses a tenant (03 R83). -/
def State.targetRefuses (s : State) (tenant : Nat) (a : Nat) : Bool := s.refusedAt 1024 tenant [a]

/-- A message of this package: its copy's item and tenant. -/
def State.senderOf (s : State) (m : Option BeMsg) : Option (Nat × Nat) :=
  match m with
  | none => none
  | some m => (s.itemOf m.id).map fun p => (p.id, p.tenant)

/-- Trips, engine commands and remote operand streams of a die that wait for a tag: core, and what waits. -/
inductive TagHolder where
  | trip (c n : Nat) (t : Trip)
  | cmd (c : Nat) (k : Cmd)
  | stream (c n : Nat) (tenant : Nat)
  /-- Of the XI: a packet of a peer's, or a host's read. -/
  | packet (peer : Nat) (e : RecvEntry)
  | host (r : HostRead)
deriving DecidableEq, Repr

/-- What waits for a tag of a die, with the flat address it asked for. -/
def Core.tagHolder (c : Nat) (k : Core) (tag : Nat) : Option (TagHolder × Nat) :=
  let mine (ts : List (Nat × Nat × Nat)) : Option Nat := (ts.find? fun x => x.1 == tag).map (·.2.1)
  let trip := k.landings.findSome? fun l => match l.trip with
    | some t => (match t.route with
      | .flume ts => (mine ts).map fun a => (TagHolder.trip c l.seat t, a)
      | _ => none)
    | none => none
  let cmd := k.cmds.findSome? fun x => (mine x.tags).map fun a => (TagHolder.cmd c x, a)
  let stream := k.seats.findSome? fun q => (q.2.stream.toList.flatMap fun t => t.reads).findSome? fun r =>
    (mine r.tags).map fun a => (TagHolder.stream c q.1 q.2.tenant, a)
  trip.or (cmd.or stream)

/-- Tags of the XI's own unanswered reads and atomics. -/
def State.xiTags (s : State) : List Nat :=
  (s.canal.recv.flatMap fun r => r.2.entries.filterMap fun e => match e.state with
    | .asking t _ _ => some t
    | _ => none) ++ (s.hostSide.reads.filterMap fun r => r.asked.map (·.1)) ++ s.tagsOnWay 0

/-- The XI sends a read request or an atomic to the die of an address under a tag (04 R110): kind, length and data, key id, job. -/
def State.xiAsk (s : State) (kind tag a len : Nat) (data : BitVec 2048) (key job : Nat) : State :=
  let tgt := match homeOf a with
    | .spad c => tgtOf 0 c (offsetOf a)
    | .basin c => tgtOf 1 c (offsetOf a)
    | .cist _ => tgtOf 2 0 (offsetOf a)
    | _ => tgtOf 3 0 (offsetOf a)
  ({ s with nextPost := s.nextPost + 1 } : State).enqueue 0
    ⟨s.nextPost, kind, tag, stationOf ((homeDie a).getD 0), tgt, len, data, key, job⟩

/-- What waits for a tag of the XI. -/
def State.xiHolder (s : State) (tag : Nat) : Option (TagHolder × Nat) :=
  let packet := s.canal.recv.findSome? fun r => r.2.entries.findSome? fun e => match e.state with
    | .asking t a _ => if t = tag then some (TagHolder.packet r.1 e, a) else none
    | _ => none
  packet.or (s.hostSide.reads.findSome? fun r => match r.asked with
    | some (t, a) => if t = tag then some (TagHolder.host r, a) else none
    | none => none)

def State.tagHolder (s : State) (station tag : Nat) : Option (TagHolder × Nat) :=
  match dieOfStation station with
  | some d => s.cores.findSome? fun k => if dieOf k.1 ≠ d then none else k.2.tagHolder k.1 tag
  | none => if station = 0 then s.xiHolder tag else none

/-- The agent that asked under a tag, which is the agent of what is done at the target (06 R151), and its tenant. -/
def TagHolder.who : TagHolder → Agent × Nat
  | .trip c n t => (.seat c n, t.tenant)
  | .cmd c k => (.engine c, k.tenant)
  | .stream c n t => (.seat c n, t)
  | .packet _ e => (.remote e.packet.src.toNat, e.packet.tenant.toNat)
  | .host r => (.host r.port, r.tenant)

/-- Tags without one. -/
def dropTag (tag : Nat) (ts : List (Nat × Nat × Nat)) : List (Nat × Nat × Nat) := ts.filter fun x => x.1 != tag

/-- A packet that has arrived goes on in another state. -/
def State.setArrival (s : State) (peer n : Nat) (a : Arrival) : State :=
  s.onCanal fun k => { k with recv := adjust (fun r => r.1 == peer) (fun r => (r.1, { r.2 with
    entries := adjust (fun e => e.seq == n) (fun e => { e with state := a }) r.2.entries })) k.recv }

/-- A host's read changed. -/
def State.onHostRead (s : State) (id : Nat) (f : HostRead → HostRead) : State :=
  { s with hostSide := { s.hostSide with reads := adjust (fun r => r.id == id) f s.hostSide.reads } }

/-- What comes back to a port. -/
def State.replyHost (s : State) (port : Nat) (r : HostReply) : State :=
  { s with hostSide := { s.hostSide with replies := s.hostSide.replies ++ [(port, r)] } }

/-- A host's read that ends with Unsupported Request (19 R464). -/
def State.endHostRead (s : State) (r : HostRead) : State :=
  ({ s with hostSide := { s.hostSide with reads := s.hostSide.reads.filter fun x => x.id != r.id } } : State).replyHost r.port .unsupported

/-- An answer reaches the one who asked under its tag. -/
def State.answer (s : State) (station tag : Nat) (bs : List Byte) : State :=
  match s.tagHolder station tag with
  | none => s
  | some (.trip c _ t, a) =>
    let left := match t.route with
      | .flume ts => dropTag tag ts
      | _ => []
    s.giveTrip c t.id (placed a bs) (.flume left)
  | some (.cmd c k, a) => s.onCmd c k.id fun k => { k with tags := dropTag tag k.tags, got := k.got ++ placed a bs }
  | some (.stream c n _, a) => s.onStream c n (fun x => x.tags.any fun y => y.1 == tag) fun x =>
      { x with tags := dropTag tag x.tags, got := x.got ++ placed a bs }
  | some (.packet peer e, _) =>
    (match e.state with
      | .asking _ _ got => s.setArrival peer e.seq (.taking (got ++ bs))
      | _ => s)
  | some (.host r, _) => s.onHostRead r.id fun x => { x with asked := none, left := x.left.drop bs.length, got := x.got ++ bs }

/-- A read or an atomic refused at its target (03 R83, 02 R50; for an engine 14 R364, for a stream 13 R346), and logged there. -/
def State.refuseTag (s : State) (station tag a : Nat) : State :=
  let holder := s.tagHolder station tag
  let s := match holder with
    | some (x, _) => s.logRefusalAt a x.who.1.place x.who.2
    | none => s
  match holder with
  | none => s
  | some (.trip c _ t, _) => s.loseTrip c t.id (refusalCause 1) (refusalTval 1 0)
  | some (.cmd c k, _) => s.onCmd c k.id fun k => { k with tags := [], got := [], faulted := some (refusalTval 1 0), faultCause := 13 }
  | some (.stream c n _, _) => s.onStream c n (fun x => x.tags.any fun y => y.1 == tag) fun x =>
      { x with tags := [], got := [], lost := some (refusalCause 1, refusalTval 1 0) }
  | some (.packet peer e, _) => s.setArrival peer e.seq (.refused 1)
  | some (.host r, _) => s.endHostRead r

/-- The requester that waits for a tag of a station, and its tenant. -/
def State.askerOf (s : State) (station tag : Nat) : Agent × Nat :=
  match s.tagHolder station tag with
  | none => (.station station, 0)
  | some (x, _) => x.who

/-- The operation of an atomic request's payload. -/
def atomicOfPayload (n : Nat) : Atomic :=
  let op : AtomicOp := match n / 2 ^ 128 % 256 with
    | 0 => .add | 1 => .addf | 2 => .addk | 3 => .min | 4 => .max | 5 => .minu | 6 => .maxu | 7 => .xch | 8 => .cas | 9 => .and | 10 => .or | _ => .xor
  ⟨op, n / 2 ^ 144 % 256, n / 2 ^ 136 % 256, BitVec.ofNat 64 n, BitVec.ofNat 64 (n / 2 ^ 64)⟩

/-- Case of a message kind. -/
def kindCase (k : Nat) : PassCase :=
  match k with
  | 0 => .write
  | 1 => .readRequest
  | 2 => .readResponse
  | 3 => .decrement
  | 4 => .atomicRequest
  | 5 => .atomicResponse
  | 6 => .message
  | _ => .reserved

/-- A posted message is done. -/
def State.delivered (s : State) (from_ : Option (Nat × Nat)) : State :=
  match from_ with
  | some (id, _) => s.unpost id
  | none => s

/-- A refused write of a message: dropped and logged at its target with the requester's place, for a message of another package with the
station's (03 R83). -/
def State.dropWrite (s : State) (h : Slot) (from_ : Option (Nat × Nat)) (tenant a : Nat) : State :=
  let who := match from_.bind fun x => s.itemOf x.1 with
    | some p => p.agent.place
    | none => h.origin.toNat
  (s.delivered from_).logRefusalAt a who tenant

/-- A drained message sets out to act at its home: its sender's item becomes the visit; without one here it gets an item of its own. The
item's number comes back. -/
def State.visit (s : State) (station : Nat) (h : Slot) (who : Agent × Nat) (from_ : Option (Nat × Nat)) (v : Visit) : Nat × State :=
  let n := s.nextPost
  match from_ with
  | some (id, _) => (id, ({ s with nextPost := n + 1 } : State).onPosted id (.visit n station h v))
  | none =>
    (n, s.post { Posted.of who.1 ((dieOfStation station).getD 0) who.2 0 h.job.toNat 3 with kind := .visit n station h v, named := true })

/-- Visits at a station by messages of an origin: they come before a message drained there later (04 R116). -/
def State.visitsFrom (s : State) (station : Nat) (origin : BitVec 5) : List Nat :=
  (s.posted.filter fun p => match p.kind with
    | .visit _ st h (.write _ _) => st == station && h.origin == origin
    | _ => false).map (·.id)

/-- A message is drained to the die of its destination (04 R110): `m` is the sender's copy. A late one is recorded as channel state. -/
def State.drainMsg (s : State) (p : Pass) (h : Slot) (m : Option BeMsg) : State :=
  let station := p.place
  let kind := h.stream.toNat / 256
  let tag := h.stream.toNat % 256
  let from_ := s.senderOf m
  let who := match from_ with
    | some (_, t) => (.station station, t)
    | none => s.askerOf h.origin.toNat tag
  let tenant := who.2
  let n := h.payload.toNat
  let place := dieOfStation station
  let material (a : Nat) : Option (BitVec 512) := if encrypted a then s.streamMaterial h.key.toNat else none
  let nowhere := (s.delivered from_).logStation 5 station p.slot 0
  match kind, targetAt station h.tgt with
  | 0, some a => ((s.logChannel h station (placed a h.bytes) none none none).visit station h who from_ (.write (placed a h.bytes) (material a))).2
  | 1, some a =>
    if s.targetRefuses tenant a then s.refuseTag h.origin.toNat tag a
    else ((s.logChannel h station [] none none none).visit station h who from_ (.read a (min 256 (n % 65536)) (material a) [])).2
  | 2, _ => (s.logChannel h station [] none none none).answer station tag h.bytes
  | 3, _ =>
    match place with
    | some d => ((s.logChannel h station [] none none none).delivered from_).decrement d (h.tgt.toNat % 65536) (n % 2 ^ 64) tenant 10
    | none => (s.delivered from_).logMgmt 10 8 0 (h.tgt.toNat % 65536) tenant
  | 4, some a =>
    if s.targetRefuses tenant a then s.refuseTag h.origin.toNat tag a
    else ((s.logChannel h station [] none none none).visit station h who from_ (.act a (atomicOfPayload n))).2
  | 5, _ => (s.logChannel h station [] none none none).answer station tag (h.bytes.take 8)
  | 6, some a =>
    match place with
    | some d =>
      let flag := (d * 64 + h.tgt.toNat / 2 ^ 43 % 64, tag / 32, tag % 32)
      if from_.isSome && s.targetRefuses tenant a then s.dropWrite h from_ tenant a
      else
        let s := s.logChannel h station (placed a h.bytes) (some flag) none none
        let first := s.visitsFrom station h.origin
        let (id, s) := s.visit station h who from_ (.write (placed a h.bytes) none)
        { s with flume := { s.flume with flagsDue := s.flume.flagsDue ++ [⟨first ++ [id], some flag, false, none⟩] } }
    | none => nowhere
  | _, _ => nowhere

/-- The first message of an origin that a destination has refused and not yet been delivered (04 R116). -/
def State.firstRefused (s : State) (station origin : Nat) : Option Nat :=
  (s.flume.refused.find? fun r => r.1 == station && r.2.1 == origin).map (·.2.2)

/-- A message is refused: it keeps its place in the order in which messages of its origin have arrived. -/
def State.listRefused (s : State) (station origin key : Nat) : State :=
  if s.flume.refused.contains (station, origin, key) then s
  else { s with flume := { s.flume with refused := s.flume.refused ++ [(station, origin, key)] } }

/-- A slot addressed to the station: delivered and emptied, or refused, for a cause of its own or behind an earlier message (04 R112, R116):
messages of an origin are delivered in the order of their first arrival. -/
def State.deliver (s : State) (p : Pass) (h : Slot) (key : Nat) : State × Slot × List PassCase :=
  let station := p.place
  let origin := h.origin.toNat
  let own := h.inc || s.jobEarly h station
  let behind := match s.firstRefused station origin with
    | some k => k != key
    | none => false
  if own || behind then (s.listRefused station origin key, { h with inc := true }, [])
  else
    let s := { s with flume := { s.flume with
      refused := s.flume.refused.filter (fun r => r != (station, origin, key))
      owed := tput s.flume.owed (32 * station + origin) (tget 0 s.flume.owed (32 * station + origin) + 1) } }
    let m := s.flume.sent.find? fun x => x.1 == key
    (s.drainMsg p h (m.map (·.2)), h.emptied, [kindCase (h.stream.toNat / 256)])

/-- A slot with a message in it (04 R112). -/
def State.withMsg (s : State) (p : Pass) (h : Slot) (m : BeMsg) : Slot :=
  { h with
    state := .busy, owned := false, epar := s.parityOf p.place m.job, fmt := 0, hold := 0, origin := BitVec.ofNat 5 p.station
    stream := BitVec.ofNat 12 (m.kind * 256 + m.tag % 256), len := BitVec.ofNat 9 m.len, dest := BitVec.ofNat 21 (2 ^ m.dest), cseq := 0
    key := BitVec.ofNat 12 m.key, inc := false, job := BitVec.ofNat 10 m.job, miss := 0, tgt := m.tgt, payload := m.data }

/-- A slot that comes back to the station that loaded it (04 R116): a refused message leaves again from the copy. -/
def State.comeBack (s : State) (p : Pass) (h : Slot) (key : Nat) : State × Slot × List PassCase :=
  if h.inc then
    let again := match s.flume.sent.find? fun x => x.1 == key with
      | some (_, m) => { s.withMsg p h m with state := h.state, hold := h.hold }
      | none => { h with inc := false, miss := 0, epar := s.parityOf p.place h.job.toNat }
    (s, again, [.resend])
  else
    let id := (s.flume.sent.find? fun x => x.1 == key).map (·.2.id)
    let s := { s with flume := { s.flume with sent := tdel s.flume.sent key } }
    let s := match id with
      | some id => s.unpost id
      | none => s
    (s.logStation 5 p.place p.slot h.miss.toNat, h.emptied, [])

/-- BEST of a station (04 R114, R119). -/
def State.bestOf (s : State) (station : Nat) : Nat :=
  match dieOfStation station with
  | some d => field (s.die d).best 3 0
  | none => tget 4 s.flume.bests (if 20 < station then 0 else station)

/-- Queue of the direction and lane of a slot. -/
def laneQueue (p : Pass) : Nat := 16 * p.place + (if p.ring = .flume then p.slot / 128 else 8 * (p.slot / 1024))

/-- The message at the head of a queue that holds a credit (04 R111). -/
def State.eligible (s : State) (p : Pass) : Option BeMsg :=
  match (tget [] s.flume.queues (laneQueue p)).head? with
  | some m => if tget 0 s.flume.used (32 * p.place + m.dest) < 16 then some m else none
  | none => none

/-- A message is loaded into a slot (04 R112); the station's hold in the lane ends where the slot is the held one (R113). -/
def State.loadMsg (s : State) (p : Pass) (h : Slot) (key : Nat) (m : BeMsg) : State × Slot :=
  let q := laneQueue p
  let f := s.flume
  let s := { s with flume := { f with
    queues := tset [] f.queues q ((tget [] f.queues q).drop 1)
    used := tput f.used (32 * p.place + m.dest) (tget 0 f.used (32 * p.place + m.dest) + 1)
    sent := tput f.sent key m
    waits := tset 0 f.waits q 0
    held := if h.state = .freeHeld then f.held.filter fun x => x != q else f.held } }
  (s, s.withMsg p h m)

/-- Taking and holding of slots (04 R112, R113); how long the head has waited is counted by `countWait`. -/
def State.takeOrHold (s : State) (p : Pass) (h : Slot) (key : Nat) : State × Slot × List PassCase :=
  let q := laneQueue p
  let f := s.flume
  let mine := h.state == .freeHeld && h.hold.toNat == p.station
  match s.eligible p with
  | some m =>
    if h.state = .free ∨ mine then
      let (s, h) := s.loadMsg p h key m
      (s, h, [.takeSlot])
    else if h.state = .busy ∧ s.bestOf p.place * s.rotation p.ring ≤ tget 0 f.waits q ∧ !f.held.contains q then
      ({ s with flume := { f with held := f.held ++ [q] } }, { h with state := .busyHeld, hold := BitVec.ofNat 5 p.station }, [.hold])
    else (s, h, [])
  | none =>
    if mine then ({ s with flume := { f with held := f.held.filter fun x => x != q } }, { h with state := .free }, [])
    else (s, h, [])

/-- One slot of the lane has gone by the station, whatever its class: a slot time for a head that is eligible and has taken none (04 R113). -/
def State.countWait (s : State) (p : Pass) (took : Bool) : State :=
  if took || (s.eligible p).isNone then s
  else
    let f := s.flume
    { s with flume := { f with waits := tput f.waits (laneQueue p) (tget 0 f.waits (laneQueue p) + 1) } }

/-- A best-effort slot at a station: deliveries at its input, taking and holding at its output. -/
def State.passBest (s : State) (p : Pass) (h : Slot) (key : Nat) : State × Slot × List PassCase :=
  let (s, h, c1) :=
    if !(s.halves p).1 then (s, h, [])
    else if h.state.isBusy && h.dest.getLsbD p.station then s.deliver p h key
    else if h.origin.toNat == p.station && h.state.isBusy then s.comeBack p h key
    else if h.origin.toNat == p.station then
      ({ s with flume := { s.flume with sent := tdel s.flume.sent key } }, h, [])
    else (s, h, [])
  if (s.halves p).2 then
    let (s, h, c2) := s.takeOrHold p h key
    (s, h, c1 ++ c2)
  else (s, h, c1)

/-! ### Credits in headers (04 R111) -/

/-- Credits carried to this station are taken. The header does not say which station returns them: on the Flume the model keeps it by slot; on
a Lade, where another package's XI does, it is free among the other stations. -/
def State.takeCredit (s : State) (p : Pass) (h : Slot) (key : Nat) : State × Slot :=
  match h.credit with
  | some (dst, n) =>
    if dst.toNat ≠ p.station then (s, h)
    else
      let others := (List.range (s.lade p.ring).n).filter fun i => i != p.station
      let from_ := if p.ring = .flume then tget 0 s.flume.creditFrom key else others.getD (Config.creditSource s.nextPost % others.length) 0
      let s := { s with nextPost := s.nextPost + 1 }
      let k := 32 * p.place + from_
      ({ s with flume := { s.flume with used := tset 0 s.flume.used k (tget 0 s.flume.used k - n.toNat) } }, { h with credit := none })
  | none => (s, h)

/-- Credits to return leave in a passing slot that carries none. -/
def State.putCredit (s : State) (p : Pass) (h : Slot) (key : Nat) : State × Slot :=
  if h.credit.isSome then (s, h)
  else
    match s.flume.owed.find? fun x => x.1 / 32 == p.place && x.2 != 0 with
    | some (k, n) =>
      let m := min 31 n
      ({ s with flume := { s.flume with owed := tset 0 s.flume.owed k (n - m), creditFrom := tput s.flume.creditFrom key p.station } },
        { h with credit := some (BitVec.ofNat 5 (k % 32), BitVec.ofNat 5 m) })
    | none => (s, h)

/-! ### Station 0 (04 R107, R109; 19 R468, 22 R501) -/

/-- Whether a stream is open. -/
def State.streamOpen (s : State) (id : Nat) : Bool :=
  match s.streamRec id with
  | some r => r.closing.isNone
  | none => s.flume.gates.any fun g => gateStream g.2 == id && gateAct g.2 != 0

/-- Whether an entry of a stream says that it has lost a station. -/
def State.streamLost (s : State) (id : Nat) : Bool := s.flume.gates.any fun g => gateStream g.2 == id && gateAct g.2 != 0 && gateSerr g.2

/-- Slots that station 0 empties: of closed streams, of streams in error, and messages to stations in bypass. On a Lade a stream of which
this XI keeps no record may be a peer's: its slots are emptied once they are to become best-effort. -/
def State.staleAt0 (s : State) (p : Pass) (h : Slot) : Bool :=
  p.station == 0 && h.state.isBusy &&
    (if h.owned then
      (if p.ring = .flume then !s.streamOpen h.stream.toNat
       else (match s.streamRec h.stream.toNat with
        | some r => r.closing.isSome
        | none => s.flume.classes.any fun k => k.1 == slotKey p.ring p.slot && !k.2)) || s.streamLost h.stream.toNat
     else p.ring == .flume && s.flume.bypass.any fun b => h.dest == BitVec.ofNat 21 (2 ^ b))

/-- What station 0 does before its own actions. -/
def State.station0 (s : State) (p : Pass) (h : Slot) (key : Nat) : State × Slot × List PassCase :=
  let stale := s.staleAt0 p h
  let id := if stale && !h.owned then (s.flume.sent.find? fun x => x.1 == key).map (·.2.id) else none
  let s := match id with
    | some id => s.unpost id
    | none => s
  let h := if stale then h.emptied else h
  let cases := if stale then [PassCase.emptyStale] else []
  match s.flume.classes.find? fun k => k.1 == key with
  | some (_, owned) =>
    if p.station == 0 && h.state == .free then
      ({ s with flume := { s.flume with classes := tdel s.flume.classes key } }, { h with owned := owned }, cases ++ [.classChange])
    else (s, h, cases)
  | none => (s, h, cases)

/-! ### The pass -/

/-- A slot passes a station (04 R93, R99, R109, R112); on a Lade it then waits for its window on the next link (R118). -/
def State.passAt (s : State) (p : Pass) : State × List PassCase :=
  let key := slotKey p.ring p.slot
  let (inward, outward) := s.halves p
  let h := p.arrives.getD (tget Slot.reset s.flume.slots key)
  let s := if p.ring = .flume then s else s.flitsIn (portTo s.package (s.ladeHop p.ring p.slot true)) 5
  let (s, h, cases) :=
    if p.ring = .flume ∧ s.flume.bypass.contains p.station then (s, h, [])
    else if !inward && s.flume.spoiled.contains key then (s, h, [])
    else if p.bad then
      let s := s.logStation 4 p.place p.slot h.miss.toNat
      if !h.state.isBusy then (s, h, [])
      else
        let origin := h.origin.toNat
        (if !h.owned && h.dest.getLsbD p.station then s.listRefused p.place origin key else s, h.missed p.station, [])
    else
      let (s, h) := if inward then s.takeCredit p h key else (s, h)
      let (s, h, c0) := if inward then s.station0 p h key else (s, h, [])
      let (s, h, c1) := if h.owned then s.passOwned p h else s.passBest p h key
      let (s, h) := if outward then s.putCredit p h key else (s, h)
      (s, h, c0 ++ c1)
  let s := if outward ∧ !(p.ring = .flume ∧ s.flume.bypass.contains p.station) then s.countWait p (cases.contains .takeSlot) else s
  let spoiled := s.flume.spoiled.filter fun k => k != key
  ({ s with flume := { s.flume with
    slots := tset Slot.reset s.flume.slots key h
    spoiled := if p.bad && !outward then spoiled ++ [key] else if outward then spoiled else s.flume.spoiled
    leaving := if p.ring = .flume then s.flume.leaving else s.flume.leaving ++ [(key, h)]
    done := if p.ring = .flume then s.flume.done ++ [(p.slot, p.station)] else s.flume.done } }, cases)

/-- A pass that brings a case about. -/
def State.passEvent (s : State) (name : String) (p : Pass) (c : PassCase) : Res :=
  let (t, cases) := s.passAt p
  event name (s.passDue p && cases.contains c) t

/-- A pass without any. -/
def execGatePass (p : Pass) (s : State) : Res :=
  let (t, cases) := s.passAt p
  event "GATE_PASS" (s.passDue p && cases.isEmpty) t
def execGateLoad (p : Pass) (s : State) : Res := s.passEvent "GATE_LOAD" p .load
def execGateCopy (p : Pass) (s : State) : Res := s.passEvent "GATE_COPY" p .copy
def execGateAdd (p : Pass) (s : State) : Res := s.passEvent "GATE_ADD" p .add
def execGateTake (p : Pass) (s : State) : Res := s.passEvent "GATE_TAKE" p .take
def execGateEmpty (p : Pass) (s : State) : Res := s.passEvent "GATE_EMPTY" p .empty
def execStation0ClassChange (p : Pass) (s : State) : Res := s.passEvent "STATION0_CLASS_CHANGE" p .classChange
def execStation0EmptyStale (p : Pass) (s : State) : Res := s.passEvent "STATION0_EMPTY_STALE" p .emptyStale
def execBeTakeSlot (p : Pass) (s : State) : Res := s.passEvent "BE_TAKE_SLOT" p .takeSlot
def execBeHold (p : Pass) (s : State) : Res := s.passEvent "BE_HOLD" p .hold
def execBeResend (p : Pass) (s : State) : Res := s.passEvent "BE_RESEND" p .resend
def execBeWrite (p : Pass) (s : State) : Res := s.passEvent "BE_WRITE" p .write
def execBeReadRequest (p : Pass) (s : State) : Res := s.passEvent "BE_READ_REQUEST" p .readRequest
def execBeReadResponse (p : Pass) (s : State) : Res := s.passEvent "BE_READ_RESPONSE" p .readResponse
def execBeCounterDecrement (p : Pass) (s : State) : Res := s.passEvent "BE_COUNTER_DECREMENT" p .decrement
def execBeAtomicRequest (p : Pass) (s : State) : Res := s.passEvent "BE_ATOMIC_REQUEST" p .atomicRequest
def execBeAtomicResponse (p : Pass) (s : State) : Res := s.passEvent "BE_ATOMIC_RESPONSE" p .atomicResponse
def execBeSbeqMessage (p : Pass) (s : State) : Res := s.passEvent "BE_SBEQ_MESSAGE" p .message
def execBeReservedKind (p : Pass) (s : State) : Res := s.passEvent "BE_RESERVED_KIND" p .reserved

/-! ### The end of a slot time (04 R96, R98) -/

/-- Passes of the Flume that this slot time still owes, in order. -/
def State.passesLeft (s : State) : List Pass :=
  if s.flume.stopped then []
  else
    ((List.range 21).flatMap fun st => (List.range 16).flatMap fun lane =>
      (s.slotsDue st lane).map fun n => (⟨.flume, n, st, false, none⟩ : Pass)).filter fun p => !s.flume.done.contains (p.slot, p.station)

/-- One slot time ends: the passes left are made, counters rise, and the headgate's writes govern from here on. -/
def State.endSlotTime (s : State) : State :=
  let s := s.passesLeft.foldl (fun s p => (s.passAt p).1) s
  let f := s.flume
  { s with flume := { f with
    counters := f.bumps.foldl (fun t k => tput t k (tget 0 t k + 1)) f.counters
    bumps := []
    gates := f.gatesDue.foldl (fun t g => tset 0 t g.1 g.2) f.gates
    gatesDue := []
    done := []
    time := f.time + 1 } }

/-! ### Lade bring-up and a failed hop (04 R119, R120; 18 R451) -/

/-- The windows of a Lade's longest hop, as bring-up measures them (04 R119): a hop is at least one window. -/
def longestHop (ring : Ring) (n : Nat) : Nat := (List.range n).foldl (fun m i => max m (Config.ladeHop ring.index i)) 1

/-- Bring-up of a Lade of `n` stations whose longest hop measures `hops` windows: its links reserve one window of five flits in every P ≥ 10
flit times from now on, every hop is padded to the longest, and a rotation of more than 1,024 slots is refused (04 R118, R119). -/
def execLadeBringUp (ring : Ring) (n hops : Nat) (s : State) : Res :=
  let ok := ring != .flume && 0 < hops && hops == longestHop ring n && s.ladeStation ring < n && n == (if ring = .row then s.canal.cols else s.canal.rows)
  let up : Lade := ⟨n, hops, 10 + Config.ladePeriod ring.index, (List.range n).map fun i => hops - Config.ladeHop ring.index i⟩
  let s1 : State := { s with flume := { s.flume with lades := tput s.flume.lades ring.index up } }
  event "LADE_BRING_UP" ok
    (if 1024 < n * hops then s
     else (s.openPorts.filter fun p => s1.onLade ring p).foldl (fun s p => s.onLink p fun l => { l with windowAt := l.cycles }) s1)

/-- SERR is set under R96 in every entry of a list of streams at the stations that are told. -/
def State.serrStreams (s : State) (told bad : Nat → Bool) : State :=
  let all := (s.flume.gates.map (·.1)) ++ s.flume.gatesDue.map (·.1)
  (sortAddrs all).foldl (fun s k =>
    let e := s.gateCommitted k
    if told (k / 2048) && gateAct e != 0 && bad (gateStream e) then s.writeGate k (gatePut e 0 14 14 1) else s) s

/-- A Lade stops: its streams get SERR (04 R120). -/
def State.stopLade (s : State) (ring : Ring) : State :=
  let mine := (s.flume.streams.filter fun r => r.ring == (if ring = .row then 1 else 2)).map (·.id)
  let s := { s with flume := { s.flume with
    lades := tdel s.flume.lades ring.index, leaving := s.flume.leaving.filter fun x => x.1 / 2048 != ring.index + 1 } }
  let place := if ring = .row then 21 else 22
  (s.serrStreams (· == place) fun id => mine.contains id ||
    (s.flume.gates.any fun g => g.1 / 2048 == place && gateStream g.2 == id)).logMgmt 7 7 0 (gateKey ring 0 0) 0

end Sys2Proof.Machine
end

