-- ==== Sys2Proof/Machine/Canal.lean ====
section
/-! DEFINITION. The Canal (05): injection and routes, trimming, arrival and performing of packets, holes, acknowledgements, refusals, and the
link layer with its rekeying. -/

namespace Sys2Proof.Machine

/-! ### Fabric registers (05 R134) -/

def Canal.trimAt (k : Canal) : Nat := field k.fabctl 12 0
def Canal.detourMargin (k : Canal) : Nat := field k.fabctl 31 16
def Canal.backoff (k : Canal) : Nat := field k.rrctl 47 32
def Canal.tokenRate (k : Canal) : Nat := field k.rrctl 31 16
def Canal.tokenDepth (k : Canal) : Nat := field k.rrctl 15 0

/-- The receive state of a peer; the bucket of one of which nothing has arrived is full (05 R132). -/
def Canal.recvOf (k : Canal) (peer : Nat) : Recv := tget { Recv.reset with tokens := k.tokenDepth } k.recv peer
def State.recv (s : State) (peer : Nat) : Recv := s.canal.recvOf peer
def State.onRecv (s : State) (peer : Nat) (f : Recv → Recv) : State :=
  s.onCanal fun k => { k with recv := tput k.recv peer (f (k.recvOf peer)) }
/-- A fabric event (18 R452 CLASS 8). -/
def State.logFabric (s : State) (info loc : Nat) : State := s.logMgmt 8 8 info loc 0

/-! ### Routes (05 R128, R129) -/

/-- Whether two packages share a row or a column. -/
def adjacent (a b : Nat) : Bool := a / 16 == b / 16 || a % 16 == b % 16

/-- A retired link has infinite load. -/
def State.linkDead (s : State) (port : Nat) : Bool := (s.link port).retired

/-- Flits in the output queues of a port: of VC1 to VC3, and in all. -/
def State.sharedFlits (s : State) (port : Nat) : Nat :=
  ((tget [] s.canal.out port).filter fun p => p.vc != 0).foldl (fun n p => n + p.flits) 0
def State.queueFlits (s : State) (port : Nat) : Nat := (tget [] s.canal.out port).foldl (fun n p => n + p.flits) 0

/-- Whether an output queue has room for a packet: 256 flits of VC0, 4,096 of VC1 to VC3 together (05 R130). -/
def State.room (s : State) (port : Nat) (p : Packet) : Bool :=
  if p.vc = 0 then s.queueFlits port - s.sharedFlits port + p.flits ≤ 256 else s.sharedFlits port + p.flits ≤ 4096

/-- First packages of the minimal routes to a package, the one the hash chooses first (05 R128). -/
def State.firstHops (s : State) (p : Packet) : List Nat :=
  let a := s.package
  let b := p.dstPackage
  if adjacent a b then [b]
  else
    let row := a / 16 * 16 + b % 16
    let col := b / 16 * 16 + a % 16
    let h := mix64 (s.canal.hsalt.toNat ^^^ (p.src.toNat * 2 ^ 18 + p.dst.toNat) ^^^ (p.addr.toNat / 64))
    if h / 2 ^ 63 = 0 then [row, col] else [col, row]

/-- The path-load estimate of a route by way of a package (05 R129); none for a retired first link. -/
def State.pathLoad (s : State) (b via : Nat) : Option Nat :=
  let port := portTo s.package via
  if s.linkDead port then none
  else if via = b then some (s.queueFlits port)
  else some (s.queueFlits port + ((s.link port).adv.getD (portTo via b) 0).toNat * 16)

/-- The detour candidate's intermediate (05 R129). -/
def State.candidate (s : State) (p : Packet) (first : Nat) : Option Nat :=
  let a := s.package
  let row := a / 16 == first / 16
  let e := if row then s.canal.cols else s.canal.rows
  let mine := if row then a % 16 else a / 16
  let other := if row then first % 16 else first / 16
  if e ≤ 2 then none
  else
    let k0 := mix64 (s.canal.hsalt.toNat ^^^ p.seq.toNat) % e
    (((List.range e).map fun i => (k0 + i) % e).find? fun k => k != mine && k != other).map fun k =>
      if row then a / 16 * 16 + k else k * 16 + a % 16

/-- The estimate of a candidate: its first two hops. -/
def State.candidateLoad (s : State) (p : Packet) (via : Nat) : Option Nat :=
  let b := p.dstPackage
  let second := if adjacent via b then b else
    let row := via / 16 * 16 + b % 16
    let col := b / 16 * 16 + via % 16
    if mix64 (s.canal.hsalt.toNat ^^^ (p.src.toNat * 2 ^ 18 + p.dst.toNat) ^^^ (p.addr.toNat / 64)) / 2 ^ 63 = 0 then row else col
  let port := portTo s.package via
  if s.linkDead port then none else some (s.queueFlits port + ((s.link port).adv.getD (portTo via second) 0).toNat * 16)

/-- Output port and DET of a packet that enters the router here, `may` allowing a detour; none when it has no route (05 R128, R129). -/
def State.route (s : State) (p : Packet) (may : Bool) : Option (Nat × Bool) :=
  let hops := s.firstHops p
  let live := hops.filter fun v => !s.linkDead (portTo s.package v)
  let may := may && p.vc != 0 && !p.det
  let cand := if may then (s.candidate p (hops.headD 0)).bind fun v => (s.candidateLoad p v).map fun l => (v, l) else none
  match live with
  | v :: _ =>
    match cand, s.pathLoad p.dstPackage v, hops.head? == some v with
    | some (c, l), some m, true => if m > l + s.canal.detourMargin then some (portTo s.package c, true) else some (portTo s.package v, false)
    | _, _, _ => some (portTo s.package v, false)
  | [] => cand.map fun c => (portTo s.package c.1, true)

/-- A packet joins an output queue. -/
def State.queueOut (s : State) (port : Nat) (p : Packet) : State :=
  s.onCanal fun k => { k with out := tput k.out port (tget [] k.out port ++ [p]) }

/-- A packet joins the output queue of its route, if it has one with room. -/
def State.dispatch (s : State) (p : Packet) (may : Bool) : Option State :=
  (s.route p may).bind fun r => if s.room r.1 p then some (s.queueOut r.1 { p with det := p.det || r.2 }) else none

/-- A packet leaves, or waits for a route, or for room on it, at the injection point; to have no route is logged (05 R129). -/
def State.sendOrHold (s : State) (p : Packet) (may : Bool) : State :=
  match s.dispatch p may with
  | some s => s
  | none =>
    let held := s.onCanal fun k => { k with waiting := k.waiting ++ [(p, may)] }
    if (s.route p may).isNone then held.logFabric 0 p.dstPackage else held

/-- A packet of VC0 to a package: its minimal route alone will do. -/
def State.sendVc0 (s : State) (peer type : Nat) (opa opb : Nat) (job : Nat) : State :=
  let p := s.packetTo type 0 peer 0 0 0 0 job 0 1
  s.sendOrHold { p with opa := BitVec.ofNat 64 opa, opb := BitVec.ofNat 64 opb } false

/-- The first waiting packet that has found a route with room leaves. -/
def State.sendWaiting (s : State) : State :=
  match (List.range s.canal.waiting.length).findSome? fun i => s.canal.waiting[i]?.bind fun p => (s.dispatch p.1 p.2).map fun t => (i, t) with
  | some (i, t) => t.onCanal fun k => { k with waiting := k.waiting.eraseIdx i }
  | none => s

/-! ### Injection (05 R126, R127, R137, R178) -/

/-- SEQ values to a peer that are not acknowledged. -/
def State.unackedSeqs (s : State) (peer : Nat) : Nat :=
  match (s.canal.store.filter fun e => e.peer == peer).foldl (fun (m : Option Nat) e => match m with
    | some x => some (min x e.seq)
    | none => some e.seq) none with
  | some lo => tget 0 s.canal.sendSeq peer - lo
  | none => 0

/-- A posted packet has taken its SEQ. -/
def Posted.taken (q : Posted) (id peer seq : Nat) : Posted :=
  match q.kind with
  | .packet _ _ w => if q.id = id then { q with kind := .packet peer (some seq) w } else q
  | _ => q

/-- A packet at the injection point takes its SEQ and its route. Packets of one source to one peer go in order; a release-class packet waits
for its acknowledgements, and any packet for the window of 4,096 SEQ values and for room in its output queue. Without a route it waits, and
the event is logged. -/
def execCanalInject (k : Nat) (s : State) : Res :=
  match s.canal.inject[k]? with
  | none => event "CANAL_INJECT" false s
  | some j =>
    let first := (s.canal.inject.take k).all fun i => i.peer != j.peer || i.packet.src != j.packet.src
    let landed := s.posted.all fun q => q.id != j.id || q.lands.isEmpty || s.landed q.agent.coreNo q.lands
    if !first || !j.stored || !s.performed j.after || !landed || s.unackedSeqs j.peer ≥ 4096 then event "CANAL_INJECT" false s
    else
      let seq := tget 0 s.canal.sendSeq j.peer
      let p := { j.packet with seq := BitVec.ofNat 40 seq }
      match s.route p true with
      | none =>
        event "CANAL_INJECT" (!j.noRoute)
          ((s.onCanal fun c => { c with inject := c.inject.modify k fun i => { i with noRoute := true } }).logFabric 0 j.peer)
      | some (port, det) =>
        let p := { p with det := det }
        if !s.room port p then event "CANAL_INJECT" false s
        else
        let s : State := s.onCanal fun c => { c with
          inject := c.inject.eraseIdx k
          sendSeq := tput c.sendSeq j.peer (seq + 1)
          store := c.store ++ [⟨j.peer, seq, p, if p.pfl = 0 then 0 else units p.payload.length, j.win, j.id, false⟩]
          requests := adjust (fun r => r.num == j.id && r.peer == j.peer) (fun r => { r with seq := some seq }) c.requests }
        let s := { s with posted := s.posted.map fun (q : Posted) => q.taken j.id j.peer seq }
        .next (s.queueOut port p)

/-! ### Trimming (05 R131) -/

/-- A header whose payload is cut. -/
def cutHeader (p : Packet) : Packet := { p with trimmed := true, vc := 0, payload := [] }

/-- The full number of a 40-bit SEQ near LOW. -/
def expandSeq (low seq : Nat) : Nat :=
  let d := (seq + 2 ^ 40 - low % 2 ^ 40) % 2 ^ 40
  if d < 2 ^ 39 then low + d else low + d - 2 ^ 40

/-- Whether a SEQ is a duplicate, or outside the window (05 R127). -/
def Recv.stale (r : Recv) (n : Nat) : Bool := n < r.low || r.low + 4096 ≤ n

/-- LOW passes what has been performed. -/
def Recv.advance : Nat → Recv → Recv
  | 0, r => r
  | n + 1, r =>
    if r.entries.any fun e => e.seq == r.low && e.state == .performed then
      Recv.advance n { r with low := r.low + 1, entries := r.entries.filter fun e => e.seq != r.low }
    else r

/-- A packet of a peer has been performed. -/
def State.markPerformed (s : State) (peer n : Nat) : State :=
  s.onRecv peer fun r => Recv.advance 4096 { r with entries := adjust (fun e => e.seq == n) (fun e => { e with state := .performed }) r.entries }

/-- A trimmed header reaches its destination: its SEQ becomes a hole, or one that may be asked for again (05 R132). -/
def State.makeHole (s : State) (p : Packet) : State :=
  let peer := p.srcPackage
  let r := s.recv peer
  let n := expandSeq r.low p.seq.toNat
  if r.stale n then s
  else
    match r.entries.find? fun e => e.seq == n with
    | some e =>
      match e.state with
      | .hole sent _ _ =>
        s.onRecv peer fun r => { r with
          entries := adjust (fun e => e.seq == n) (fun e => { e with state := .hole sent true s.canal.cycles }) r.entries }
      | _ => s
    | none => s.onRecv peer fun r => { r with entries := r.entries ++ [⟨n, p, .hole 0 false s.canal.cycles, s.canal.cycles⟩] }

/-- Capacity of a receive buffer in flits (05 R136). -/
def laneCapacity (vc : Nat) : Nat := if vc = 0 then 64 else 512

/-- Whether an input buffer holds no packet of a packet's lane, and whether it has room for the packet (05 R136). -/
def Link.laneFree (l : Link) (p : Packet) : Bool := l.buffer.all fun q => q.lane != p.lane
def Link.fits (l : Link) (p : Packet) : Bool :=
  (l.buffer.filter fun q => q.lane == p.lane).foldl (fun n q => n + q.flits) p.flits ≤ laneCapacity p.vc.toNat

/-- What the receiver of a link counts when a packet has come by it (05 R123, R142): its credit counts are the sender's latest. -/
def State.comeIn (s : State) (p : Packet) : State :=
  if 30 ≤ p.via.toNat then s
  else s.onLink p.via.toNat fun l => { l with
    received := tput l.received p.lane (tget 0 l.received p.lane + BitVec.ofNat 16 p.flits)
    rpnIn := l.rpnIn + BitVec.ofNat 16 p.flits
    peerFreed := if p.counts.length = 12 then (List.range 12).map fun i => (i, p.counts.getD i 0) else l.peerFreed }

/-- A packet is drained from its input buffer, which frees its flits. -/
def State.drainIn (s : State) (p : Packet) : State :=
  if 30 ≤ p.via.toNat then s
  else s.onLink p.via.toNat fun l => { l with freed := tput l.freed p.lane (tget 0 l.freed p.lane + BitVec.ofNat 16 p.flits) }

/-- A packet comes by a link and is drained at once. -/
def State.countIn (s : State) (p : Packet) : State := (s.comeIn p).drainIn p

/-- A packet comes by a link and stays in its input buffer. -/
def State.keepIn (s : State) (p : Packet) : State := (s.comeIn p).onLink p.via.toNat fun l => { l with buffer := l.buffer ++ [p] }

/-- HOP as the receiving router leaves it. -/
def crossed (p : Packet) : Packet := { p with hop := p.hop + 1 }

/-- Whether a packet's home has not performed it yet. -/
def Arrival.here (a : Arrival) : Bool :=
  match a with
  | .waiting | .taking _ | .asking _ _ _ | .released _ => true
  | _ => false

/-- Flits at the egress port: packets that have arrived for this package and are not yet performed. -/
def State.egressFlits (s : State) : Nat :=
  s.canal.recv.foldl (fun n r => (r.2.entries.filter fun e => e.state.here).foldl (fun n e => n + e.packet.flits) n) 0

/-- Flits of VC1 to VC3 at a port: its shared queue, or, at port 30, the egress. -/
def State.portFlits (s : State) (port : Nat) : Nat := if port = 30 then s.egressFlits else s.sharedFlits port

/-- Whether a packet that arrives at a port loses its payload there (05 R131). -/
def State.trims (s : State) (port : Nat) (p : Packet) : Bool :=
  1 ≤ p.vc.toNat && p.pfl != 0 && !p.trimmed && s.canal.trimAt < s.portFlits port + p.flits

/-- The port at which a packet may be trimmed here: the egress, or that of its minimal route. -/
def State.trimPort (s : State) (p : Packet) : Option Nat := if p.dstPackage = s.package then some 30 else (s.route p false).map (·.1)

/-- Whether a packet is trimmed as it leaves its input buffer. -/
def State.cuts (s : State) (p : Packet) : Bool := (s.trimPort p).any fun port => s.trims port p

/-- A packet that arrives at a congested output port, or at the egress port, loses its payload; none where its header has no room. -/
def State.cutAt (s : State) (port : Nat) (p : Packet) : Option State :=
  let s1 := s.onCanal fun k => { k with trims := tput k.trims port (tget 0 k.trims port + 1) }
  if p.dstPackage = s.package then some (s1.makeHole (cutHeader (crossed p)))
  else if s.room port (cutHeader p) then some (s1.queueOut port (cutHeader (crossed p)))
  else none

/-- A packet trimmed as it arrives, with nothing of its lane before it in the input buffer. -/
def execCanalTrim (port : Nat) (p : Packet) (s : State) : Res :=
  if !s.linkUp p.via.toNat || !(s.link p.via.toNat).laneFree p || s.trimPort p != some port || !s.trims port p then event "CANAL_TRIM" false s
  else
    match (s.countIn p).cutAt port p with
    | some t => .next t
    | none => .next (s.keepIn p)

/-- A packet of another package's goes on by its minimal route; none where it has no route with room (05 R136). -/
def State.forward (s : State) (p : Packet) : Option State :=
  (s.route p false).bind fun r => if s.room r.1 p then some (s.queueOut r.1 (crossed p)) else none

/-! ### What a target does (05 R124, R125, R135, R146) -/

/-- A piece of a packet's target: flat address, length, key material, and under translation the leaf and the virtual address. -/
structure TargetPart where
  flat : Nat
  len : Nat
  material : Option (BitVec 512)
  leaf : Option Leaf
  va : Option Nat
deriving DecidableEq, Repr

/-- Where a request's target lies, or the reason of its refusal: SUB 0 to 2 by the tables of 03 R83 and 02 R48, SUB 3 by TCTX; a
write also meets faults in reading the granule map (03 R71). -/
def State.targetOf (s : State) (p : Packet) (want : Want) : Except Nat (List TargetPart) :=
  let n := p.addr.toNat
  let tenant := p.tenant.toNat
  let plain (h : Home) : Except Nat (List TargetPart) :=
    if h.size < n + p.len then .error 3
    else
      let owned := match h with
        | .spad c | .basin c => s.ownerOf (dieOf c) c == .owned tenant
        | _ => (List.range ((n + p.lenM1.toNat) / 65536 + 1 - n / 65536)).all fun i => s.tagOf h (n / 65536 * 65536 + 65536 * i) == some tenant
      if !owned then .error 1 else .ok [⟨h.at n, p.len, none, none, none⟩]
  match p.sub.toNat with
  | 0 => plain (.spad p.dstCore)
  | 1 => plain (.basin p.dstCore)
  | 2 => plain (.cist (p.dstCore / 64))
  | _ =>
    let e := tget (0 : Word) s.canal.tctx tenant
    let ctx := field e 11 0
    if !bitOf e 63 || s.ctxTenant 0 ctx != tenant then .error 1
    else
      (pagesOf n p.len).foldr (fun q acc =>
        match s.mapOn 0 ctx false want q.1, acc with
        | .ok m, .ok l =>
          if want = .write ∧ (s.mapFault 0 ctx q.1 m.leaf).isSome then .error 3 else .ok (⟨m.flat, q.2, m.material, some m.leaf, some q.1⟩ :: l)
        | .error _, _ => .error 3
        | _, .error r => .error r) (.ok [])

/-- A response of this package's XI waits at the injection point, its payload in the store: type, request, OPA, bytes. -/
def State.respond (s : State) (p : Packet) (type opa : Nat) (bytes : List Byte) : State :=
  let q := s.packetTo type 2 p.srcPackage (p.src.toNat % 2 ^ 10) p.dstCore p.sub.toNat p.tenant.toNat p.job.toNat p.addr.toNat p.len
  let q := { q with opa := BitVec.ofNat 64 opa, opb := BitVec.ofNat 64 p.seq.toNat, payload := bytes, pfl := BitVec.ofNat 4 (units bytes.length) }
  let (id, s) := s.newTrip
  s.onCanal fun k => { k with inject := k.inject ++ [⟨p.srcPackage, q, none, id, [], true, false⟩] }

/-- A request that cannot be performed is logged at its target (18 R452): a refusal answers it, a posted write is dropped (05 R146). -/
def State.refusePacket (s : State) (p : Packet) (reason : Nat) : State :=
  let s := if p.sub = 3 then s.logMgmt 9 8 reason p.src.toNat p.tenant.toNat
    else s.logAt (p.dstCore / 64) 9 8 reason p.src.toNat p.tenant.toNat 0
  if p.type = 2 then s else s.respond p 8 reason []

/-- The atomic of AOP[4:1] (05 R125). -/
def atomicOfAop (n : Nat) : AtomicOp :=
  match n with
  | 0 => .add | 1 => .addf | 2 => .addk | 3 => .min | 4 => .max | 5 => .minu | 6 => .maxu | 7 => .xch | 8 => .cas | 9 => .and | 10 => .or | _ => .xor

/-- Whether an AOP is reserved (05 R125). -/
def aopReserved (aop : Nat) : Bool := aop ≥ 30 || aop == 28 || aop == 27

/-- The place, among the dies of a job, of a packet's target: the XI for translated memory; of an answer's requester. -/
def packetPlace (p : Packet) : Nat := if p.sub = 3 && (p.type == 0 || p.type == 2 || p.type == 3) then 16 else p.dstCore / 64

/-- Whether what is performed now is channel state of the packet's job (05 R150, 18 R455). -/
def State.packetLate (s : State) (p : Packet) : Bool :=
  let j := p.job.toNat
  let r := s.recv p.srcPackage
  j != 0 && (s.job j).armed.contains (packetPlace p) &&
    (match r.markers.find? fun m => m.1 == j with
      | some m => expandSeq r.low p.seq.toNat < m.2
      | none => true)

/-- A late packet is recorded as channel state of its job. -/
def State.logPacket (s : State) (p : Packet) (bs : List (Nat × Byte)) : State :=
  if s.packetLate p then s.recordChannel p.job.toNat 8 (packetPlace p) (.packet p) bs none none none else s

/-- An atomic request at its target: the answer and the state, or the reason of the refusal. A release-class AADD is the release of a sync
object (06 R158, R178). -/
def State.atomicRequest (s : State) (p : Packet) : Except Nat (Nat × State) :=
  let aop := p.aop.toNat
  if aopReserved aop then .error 3
  else if aop = 26 then
    let d := p.addr.toNat / 65536 % 16
    let rec_ := p.addr.toNat % 65536
    if s.recState d rec_ != 0 && s.recTenant d rec_ != p.tenant.toNat then .error 1
    else .ok (0, s.decrement d rec_ (p.opa.toNat % 2 ^ 32) p.tenant.toNat 10)
  else if p.sub = 0 ∨ p.sub = 3 then .error 3
  else
    match s.targetOf p .write with
    | .error r => .error r
    | .ok l =>
      let a := (l.head?.map (·.flat)).getD 0
      let size := if aop % 2 = 1 ∨ aop = 24 then 8 else 4
      if s.poisoned ((List.range size).map (a + ·)) then .error 3
      else if aop = 24 ∨ aop = 25 then .ok (s.loadNat a 8, s)
      else if aop = 29 then .ok (s.loadNat a 8, s.releaseAt a (some (field p.opa 5 0)))
      else if aop = 1 ∧ p.rel then .ok (s.loadNat a 8, s.releaseAt a none)
      else
        let x : Atomic := ⟨atomicOfAop (aop / 2), size, if aop / 2 = 1 ∧ size = 8 then 10 else 7, p.opa, p.opb⟩
        if a % size ≠ 0 then .error 3 else .ok (s.atomicAt x a)

/-- Writes of one piece, by granule (05 R124), of the packet's payload from byte `at_` on. -/
def TargetPart.writes (x : TargetPart) (payload : List Byte) (at_ : Nat) : List (List (Nat × Byte) × TargetPart) :=
  let bs := placed x.flat ((payload.drop at_).take x.len)
  (sortAddrs (bs.map fun b => b.1 / 64)).map fun g =>
    (bs.filter fun b => b.1 / 64 == g, { x with va := x.va.map fun va => va + (64 * g - x.flat) })

/-- Posted items of a write's granules (05 R124: each granule at once, after translation), by the agent that issued it. -/
def State.releaseWrite (s : State) (p : Packet) (l : List TargetPart) : State × List Nat :=
  let first := s.nextPost
  let parts := (l.foldl (fun (acc : List (List (Nat × Byte) × TargetPart) × Nat) x =>
    (acc.1 ++ x.writes p.payload acc.2, acc.2 + x.len)) ([], 0)).1
  let ctx := field (tget (0 : Word) s.canal.tctx p.tenant.toNat) 11 0
  let s := parts.foldl (fun s x =>
    s.post { Posted.of (.remote p.src.toNat) 0 p.tenant.toNat ctx p.job.toNat 2 with
      kind := .write x.1 x.2.material, leaf := x.2.leaf, va := x.2.va }) s
  (s, (List.range (s.nextPost - first)).map (first + ·))

/-- Units of read responses in the store (05 R137). -/
def State.responseUnits (s : State) : Nat :=
  (s.canal.store.filter fun e => e.packet.type == 1).foldl (fun n e => n + e.units) 0 +
    (s.canal.inject.filter fun j => j.packet.type == 1).foldl (fun n j => n + units j.packet.payload.length) 0 +
    s.canal.recv.foldl (fun n r => (r.2.entries.filter fun e => e.packet.type == 0 && e.state.here).foldl (fun n e => n + units e.packet.len) n) 0

/-- Whether a packet may be taken: the response to a read has room in the 16 MiB of the store, beside those of the reads taken before it
(05 R137). -/
def State.responseFits (s : State) (p : Packet) : Bool := p.type != 0 || s.responseUnits + units p.len ≤ 262144

/-- Whether nothing earlier of its source holds a packet back (05 R135, 18 R523). -/
def State.packetReady (s : State) (p : Packet) (n : Nat) : Bool :=
  let r := s.recv p.srcPackage
  let lower := r.entries.filter fun e => e.seq < n
  let j := p.job.toNat
  let cut := j != 0 && !(s.job j).armed.contains (packetPlace p) && (match r.markers.find? fun m => m.1 == j with
    | some m => decide (m.2 ≤ n)
    | none => false)
  lower.length == n - r.low && !cut &&
    (if p.type == 3 || p.rel then r.low == n
     else lower.all fun e => e.state == .performed || !(e.packet.type.toNat ≤ 3 && e.packet.type != 1) || !p.meets e.packet)

/-- A packet is performed: what it does late is channel state, its answer leaves, LOW advances. -/
def State.finishPacket (s : State) (p : Packet) (n type old : Nat) (bytes : List Byte) : State :=
  ((s.logPacket p []).respond p type old bytes).markPerformed p.srcPackage n

/-- The next read of a packet's data: of a die, by a message of the XI for the next run of bytes (04 R110, 05 R135); else of the next unit of
its home (06 R154). With the last the response leaves. -/
def State.takeRead (s : State) (p : Packet) (n : Nat) (got : List Byte) : State :=
  let peer := p.srcPackage
  match s.targetOf p .read with
  | .error r => (s.refusePacket p r).markPerformed peer n
  | .ok l =>
    let left := (l.flatMap fun x => (List.range x.len).map fun i => (x.flat + i, x)).drop got.length
    match left with
    | [] => s.finishPacket p n 1 0 got
    | (a, x) :: _ =>
      let run := (left.take 256).takeWhile fun c => c.2 == x
      if s.poisoned (run.map (·.1)) then (s.refusePacket p 3).markPerformed peer n
      else if (homeDie a).isSome then
        if s.xiTags.length ≥ 256 then s.setArrival peer n (.taking got)
        else
          let tag := freeTag s.xiTags
          let key := match x.leaf with
            | some l => entryKey l.entry
            | none => 0
          (s.xiAsk 1 tag a 2 (BitVec.ofNat 2048 run.length) key p.job.toNat).setArrival peer n (.asking tag a got)
      else
        let part := left.takeWhile fun c => c.1 / unitOf c.1 == a / unitOf a
        let more := got ++ part.map fun c => s.byteKeyed c.2.material c.1
        if p.len ≤ more.length then s.finishPacket p n 1 0 more else s.setArrival peer n (.taking more)

/-- The decrement of a task record by a packet (14 R534): a message of kind 3 to the record's die, of which the packet waits. -/
def State.releaseDecrement (s : State) (p : Packet) : Except Nat (State × List Nat) :=
  let d := p.addr.toNat / 65536 % 16
  let rec_ := p.addr.toNat % 65536
  if s.recState d rec_ != 0 && s.recTenant d rec_ != p.tenant.toNat then .error 1
  else
    let item := { Posted.of (.remote p.src.toNat) 0 p.tenant.toNat 0 p.job.toNat 2 with kind := .decrement d rec_ (p.opa.toNat % 2 ^ 32) }
    .ok (s.post item, [s.nextPost])

/-- The atomic a packet asks of a die, which leaves as a message of the XI (04 R110): its address, key id and operation. None for a release,
an acquire's read or a publication, which the spec gives no message, and for homes of the XI. -/
def State.atomicMessage (s : State) (p : Packet) : Option (Nat × Nat × Atomic) :=
  let aop := p.aop.toNat
  if 24 ≤ aop ∨ (aop = 1 ∧ p.rel) ∨ p.sub = 0 ∨ p.sub = 3 then none
  else
    match s.targetOf p .write with
    | .error _ => none
    | .ok l =>
      let a := (l.head?.map (·.flat)).getD 0
      let size := if aop % 2 = 1 then 8 else 4
      if a % size ≠ 0 ∨ (homeDie a).isNone ∨ s.poisoned ((List.range size).map (a + ·)) then none
      else some (a, 0, ⟨atomicOfAop (aop / 2), size, if aop / 2 = 1 ∧ size = 8 then 10 else 7, p.opa, p.opb⟩)

/-- A request, or a write, that nothing holds back is performed, or is on its way to its home. -/
def State.performPacket (s : State) (p : Packet) (n : Nat) : State :=
  let peer := p.srcPackage
  match p.type.toNat with
  | 0 => s.takeRead p n []
  | 2 =>
    match s.targetOf p .write with
    | .error r => (s.refusePacket p r).markPerformed peer n
    | .ok l =>
      let (s, ids) := s.releaseWrite p l
      s.setArrival peer n (.released ids)
  | _ =>
    if p.aop = 26 then
      match s.releaseDecrement p with
      | .error r => (s.refusePacket p r).markPerformed peer n
      | .ok (s, ids) => s.setArrival peer n (.released ids)
    else
      match s.atomicMessage p with
      | some (a, key, x) =>
        if s.xiTags.length ≥ 256 then s
        else
          let tag := freeTag s.xiTags
          (s.xiAsk 4 tag a 19 (atomicPayload x x.op.code) key p.job.toNat).setArrival peer n (.asking tag a [])
      | none =>
        match s.atomicRequest p with
        | .error r => (s.refusePacket p r).markPerformed peer n
        | .ok (old, s) => s.finishPacket p n 4 old []

/-- A request or a write arrives at its destination: recorded, and performed if nothing holds it back. -/
def State.arrivePacket (s : State) (p : Packet) : State :=
  let peer := p.srcPackage
  let r := s.recv peer
  let n := expandSeq r.low p.seq.toNat
  let known := r.entries.find? fun e => e.seq == n
  let hole := match known with
    | some e => (match e.state with
      | .hole _ _ _ => true
      | _ => false)
    | none => false
  if p.trimmed then s.makeHole p
  else if r.stale n || (known.isSome && !hole) then s
  else
    let s := s.onRecv peer fun r => { r with
      entries := r.entries.filter (fun e => e.seq != n) ++ [⟨n, p, .waiting, s.canal.cycles⟩] }
    if s.packetReady p n then s.performPacket p n else s

/-- A packet of one of the types 0, 2, 3 for this package leaves its input buffer; a read whose response has no room stays there (05 R137). -/
def State.takeRequest (s : State) (p : Packet) : Option State := if s.responseFits p then some (s.arrivePacket (crossed p)) else none

/-- A packet comes by a link (05 R136). Behind a packet of its lane, and where it has no room to go on or be taken, it stays in its input
buffer. One that is trimmed as it leaves has an event of its own. -/
def State.comesBy (s : State) (name : String) (ok : Bool) (p : Packet) (take : State → Option State) : Res :=
  let l := s.link p.via.toNat
  if !ok || !s.linkUp p.via.toNat || !l.fits p then event name false s
  else if !l.laneFree p then .next (s.keepIn p)
  else if s.cuts p then event name false s
  else
    match (if p.dstPackage = s.package then take (s.countIn p) else (s.countIn p).forward p) with
    | some t => .next t
    | none => .next (s.keepIn p)

def State.canalIn (s : State) (name : String) (ok : Bool) (p : Packet) : Res := s.comesBy name ok p fun s => s.takeRequest p

def execCanalReadRequest (p : Packet) (s : State) : Res := s.canalIn "CANAL_READ_REQUEST" (p.type == 0) p
def execCanalPostedWrite (p : Packet) (s : State) : Res := s.canalIn "CANAL_POSTED_WRITE" (p.type == 2) p

/-- An atomic request of one of the operations. -/
def State.atomicIn (s : State) (name : String) (codes : List Nat) (p : Packet) : Res :=
  s.canalIn name (p.type == 3 && codes.contains p.aop.toNat) p

def execCanalAadd (p : Packet) (s : State) : Res := s.atomicIn "CANAL_AADD" [0, 1] p
def execCanalAaddf (p : Packet) (s : State) : Res := s.atomicIn "CANAL_AADDF" [2, 3] p
def execCanalAaddk (p : Packet) (s : State) : Res := s.atomicIn "CANAL_AADDK" [4, 5] p
def execCanalAmin (p : Packet) (s : State) : Res := s.atomicIn "CANAL_AMIN" [6, 7] p
def execCanalAmax (p : Packet) (s : State) : Res := s.atomicIn "CANAL_AMAX" [8, 9] p
def execCanalAminu (p : Packet) (s : State) : Res := s.atomicIn "CANAL_AMINU" [10, 11] p
def execCanalAmaxu (p : Packet) (s : State) : Res := s.atomicIn "CANAL_AMAXU" [12, 13] p
def execCanalAxch (p : Packet) (s : State) : Res := s.atomicIn "CANAL_AXCH" [14, 15] p
def execCanalAcas (p : Packet) (s : State) : Res := s.atomicIn "CANAL_ACAS" [16, 17] p
def execCanalAand (p : Packet) (s : State) : Res := s.atomicIn "CANAL_AAND" [18, 19] p
def execCanalAor (p : Packet) (s : State) : Res := s.atomicIn "CANAL_AOR" [20, 21] p
def execCanalAxor (p : Packet) (s : State) : Res := s.atomicIn "CANAL_AXOR" [22, 23] p
def execCanalAcquireRead (p : Packet) (s : State) : Res := s.atomicIn "CANAL_ACQUIRE_READ" [24, 25] p
def execCanalTaskDecrement (p : Packet) (s : State) : Res := s.atomicIn "CANAL_TASK_DECREMENT" [26] p
def execCanalPublication (p : Packet) (s : State) : Res := s.atomicIn "CANAL_PUBLICATION" [29] p
/-- AOP 13 with a width of 8 B, 14 with a width of 4 B, and 15: refused with reason 3. -/
def execCanalReservedAop (p : Packet) (s : State) : Res := s.atomicIn "CANAL_RESERVED_AOP" [27, 28, 30, 31] p

/-- A waiting packet is performed, or one on its way has been (05 R135). -/
def execCanalPacketPerform (peer seq : Nat) (s : State) : Res :=
  match (s.recv peer).entries.find? fun e => e.seq == seq with
  | none => event "CANAL_PACKET_PERFORM" false s
  | some e =>
    match e.state with
    | .waiting => event "CANAL_PACKET_PERFORM" (s.packetReady e.packet seq) (s.performPacket e.packet seq)
    | .taking got => .next (if e.packet.type = 0 then s.takeRead e.packet seq got else s.finishPacket e.packet seq 4 (leNat got) [])
    | .refused r => .next ((s.refusePacket e.packet r).markPerformed peer seq)
    | .released ids =>
      if e.packet.type = 3 then event "CANAL_PACKET_PERFORM" (s.performed ids) (s.finishPacket e.packet seq 4 0 [])
      else
      let a := (s.targetOf e.packet .write).toOption.bind fun l => l.head?.map (·.flat)
      event "CANAL_PACKET_PERFORM" (s.performed ids)
        ((s.logPacket e.packet (placed (a.getD 0) (e.packet.payload.take e.packet.len))).markPerformed peer seq)
    | _ => event "CANAL_PACKET_PERFORM" false s

/-! ### Answers at the requester (05 R135, R146, R147) -/

/-- An answer is recorded as performed as it arrives; none for a duplicate. -/
def State.recordAnswer (s : State) (p : Packet) : Option State :=
  let peer := p.srcPackage
  let r := s.recv peer
  let n := expandSeq r.low p.seq.toNat
  let fresh := match r.entries.find? fun e => e.seq == n with
    | some e => (match e.state with
      | .hole _ _ _ => true
      | _ => false)
    | none => true
  if r.stale n || !fresh then none
  else some (((s.logPacket p []).onRecv peer fun r => { r with
    entries := r.entries.filter (fun e => e.seq != n) ++ [⟨n, p, .performed, s.canal.cycles⟩] }).markPerformed peer n)

/-- The request an answer belongs to. -/
def State.requestOf (s : State) (p : Packet) : Option Request :=
  s.canal.requests.find? fun r => r.peer == p.srcPackage && (match r.seq with
    | some q => q % 2 ^ 40 == p.opb.toNat % 2 ^ 40
    | none => false)

/-- The trip that a request serves. -/
def State.tripOf (s : State) (r : Request) : Option Trip :=
  (s.core r.core).landings.findSome? fun l => match l.trip with
    | some t => (match t.route with
      | .canal _ nums => if nums.contains r.num then some t else none
      | _ => none)
    | none => none

/-- A selector read that has been refused or lost (05 R146): loads and atomics that wait for it are lost with it, writes dropped and logged
at this package, and commands faulted. -/
def State.loseSelector (s : State) (c id cause : Nat) (tval : Word) : State :=
  let trips := ((s.core c).landings.filterMap (·.trip)).filter fun t => t.after.contains id
  let s := trips.foldl (fun s t => s.loseTrip c t.id cause tval) s
  let gone := s.posted.filter fun p => p.after.contains id
  let s := gone.foldl (fun s p => (s.unpost p.id).logAt p.die 9 8 1 p.agent.place p.tenant 0) s
  let s := s.onCanal fun k => { k with inject := k.inject.filter fun j => !j.after.contains id }
  (s.unpost id).onCore c fun k => { k with
    cmds := adjust (fun x => x.after.contains id) (fun x => { x with faulted := some tval, faultCause := cause }) k.cmds }

/-- Whether the data of a read response agree with what has been done already: a selector word holds the bit that the access took, which
stood for it until now (01 R531). -/
def State.answerFits (s : State) (p : Packet) : Bool :=
  s.posted.all fun q => match q.kind with
    | .selector (some (i, bit)) =>
      (match s.requestOf p with
        | some r => r.asker != .selector q.id || (leNat (p.payload.take 8)).testBit i == bit
        | none => true)
    | _ => true

/-- Bytes given to the one who asked. -/
def State.giveAnswer (s : State) (r : Request) (bs : List Byte) : State :=
  let s := s.onCanal fun k => { k with requests := k.requests.filter fun q => q.num != r.num }
  let c := r.core
  match r.asker with
  | .trip =>
    match s.tripOf r with
    | some t =>
      let left := match t.route with
        | .canal peer nums => Route.canal peer (nums.filter fun x => x != r.num)
        | x => x
      s.giveTrip c t.id (placed r.addr bs) left
    | none => s
  | .cmd id => s.onCmd c id fun k => { k with asked := k.asked.filter (fun x => x != r.num), got := k.got ++ placed r.addr bs }
  | .stream n => s.onStream c n (fun x => x.asked.contains r.num) fun x =>
      { x with asked := x.asked.filter (fun y => y != r.num), got := x.got ++ placed r.addr bs }
  | .acquire n => s.giveAcquire c n (BitVec.ofNat 64 (leNat (bs.take 8)))
  | .selector id => s.unpost id
  | .side _ | .decrement _ => s

/-- A refusal given to the one who asked. -/
def State.giveRefusal (s : State) (r : Request) (reason : Nat) : State :=
  let cause := refusalCause reason
  let tval := refusalTval reason (r.seq.getD 0)
  let s := s.onCanal fun k => { k with requests := k.requests.filter fun q => q.num != r.num }
  let c := r.core
  match r.asker with
  | .trip =>
    match s.tripOf r with
    | some t => (s.dropRequests t).loseTrip c t.id cause tval
    | none => s
  | .cmd id => s.onCmd c id fun k => { k with asked := [], got := [], faulted := some tval, faultCause := cause }
  | .stream n => s.onStream c n (fun x => x.asked.contains r.num) fun x => { x with asked := [], got := [], lost := some (cause, tval) }
  | .acquire n => s.onSeat c n fun st => { st with held := some (cause, tval, 0) }
  | .decrement n => s.onSeat c n fun st => if st.held.isNone then { st with held := some (cause, tval, 0) } else st
  | .selector id => s.loseSelector c id cause tval
  | .side _ => s

/-- What an answer brings its request: data, an old value, or a reason. -/
def State.give (s : State) (r : Request) (p : Packet) : State :=
  match p.type.toNat with
  | 1 => s.giveAnswer r (p.payload.take r.len)
  | 4 => s.giveAnswer r (leBytes (min 8 r.len) p.opa.toNat)
  | _ => s.giveRefusal r (field p.opa 3 0)

/-- An answer for this package leaves its input buffer. -/
def State.takeAnswer (s : State) (p : Packet) : State :=
  if p.trimmed then s.makeHole (crossed p)
  else
    match s.recordAnswer (crossed p) with
    | none => s
    | some s =>
      match s.requestOf p with
      | none => s
      | some r => s.give r p

/-- An answer of a type comes by a link: for a request of this package, or to go on. -/
def State.answerIn (s : State) (name : String) (type : Nat) (p : Packet) : Res :=
  s.comesBy name (p.type.toNat == type) p fun s => some (s.takeAnswer p)

def execCanalReadResponse (p : Packet) (s : State) : Res :=
  if p.dstPackage = s.package && !p.trimmed && !s.answerFits p then event "CANAL_READ_RESPONSE" false s
  else s.answerIn "CANAL_READ_RESPONSE" 1 p
def execCanalAtomicResponse (p : Packet) (s : State) : Res := s.answerIn "CANAL_ATOMIC_RESPONSE" 4 p
def execCanalRefusal (p : Packet) (s : State) : Res := s.answerIn "CANAL_REFUSAL" 8 p

/-! ### Holes and acknowledgements (05 R132, R133, R140) -/

/-- Control packets come by a link. -/
def State.controlIn (s : State) (name : String) (type : Nat) (p : Packet) (act : State → State) : Res :=
  s.comesBy name (p.type.toNat == type) p fun s => some (act s)

/-- A re-request: the packet of that SEQ leaves again from the store by its minimal route, or waits for one, and its window's trim counter
rises (05 R133). -/
def State.reRequest (s : State) (p : Packet) : State :=
  let mine (e : StoreEntry) : Bool := e.peer == p.srcPackage && e.seq % 2 ^ 40 == p.opa.toNat % 2 ^ 40
  match s.canal.store.find? mine with
  | none => s
  | some e =>
    let s := match e.win with
      | some w => { s with wallow := tput s.wallow w { tget Wallow.reset s.wallow w with trims := (tget Wallow.reset s.wallow w).trims + 1 } }
      | none => s
    (s.onCanal fun k => { k with store := adjust mine (fun e => { e with resent := true }) k.store }).sendOrHold { e.packet with det := false } false

def execCanalReRequest (p : Packet) (s : State) : Res := s.controlIn "CANAL_RE_REQUEST" 5 p fun s => s.reRequest p

/-- LOW of a destination: store entries below it are freed, their windows' OUT falls, and their writes are performed. -/
def State.acknowledge (s : State) (p : Packet) : State :=
  let peer := p.srcPackage
  let low := expandSeq (tget 0 s.canal.sendSeq peer - s.unackedSeqs peer) (p.opa.toNat % 2 ^ 40)
  let done (e : StoreEntry) : Bool := e.peer == peer && e.seq < low
  let gone := s.canal.store.filter done
  let s := s.onCanal fun k => { k with store := k.store.filter fun e => !done e }
  gone.foldl (fun s e =>
    let s := match e.win with
      | some w =>
        let x := tget Wallow.reset s.wallow w
        { s with wallow := tput s.wallow w { x with out := x.out - e.units } }
      | none => s
    { s with posted := s.posted.filter fun q => !(q.id == e.id && (match q.kind with
      | .packet a b _ => a == peer && b == some e.seq
      | _ => false)) }) s

def execCanalAcknowledgement (p : Packet) (s : State) : Res := s.controlIn "CANAL_ACKNOWLEDGEMENT" 6 p fun s => s.acknowledge p

/-- Whether a channel record is of a packet of a peer at or above a SEQ, in an epoch: no channel state (05 R150). -/
def ChannelRecord.above (r : ChannelRecord) (epoch peer low seq : Nat) : Bool :=
  match r.msg with
  | .packet p => r.epoch == epoch && p.srcPackage == peer && seq ≤ expandSeq low p.seq.toNat
  | _ => false

/-- A marker fixes the cut of its job (05 R150). What was performed before it came and lies above the cut is no channel state. -/
def State.takeMarker (s : State) (p : Packet) : State :=
  let j := p.job.toNat
  let low := (s.recv p.srcPackage).low
  let cut := expandSeq low p.seq.toNat
  (s.onRecv p.srcPackage fun r => { r with markers := r.markers.filter (fun m => m.1 != j) ++ [(j, cut)] }).onJob j fun x =>
    { x with channel := x.channel.filter fun r => !r.above x.epoch p.srcPackage low cut }

def execCanalSnapshotMarker (p : Packet) (s : State) : Res := s.controlIn "CANAL_SNAPSHOT_MARKER" 7 p fun s => s.takeMarker p

/-- A packet of a reserved type is discarded and logged. -/
def State.discard (s : State) (p : Packet) : State :=
  (s.onCanal fun k => { k with dropped := k.dropped + 1 }).logFabric p.type.toNat p.via.toNat

def execCanalReservedType (p : Packet) (s : State) : Res :=
  event "CANAL_RESERVED_TYPE" (9 ≤ p.type.toNat && s.linkUp p.via.toNat) ((s.countIn p).discard p)

/-! ### Input buffers (05 R136) -/

/-- A packet for this package leaves its input buffer; none while it has to wait there. -/
def State.take (s : State) (p : Packet) : Option State :=
  match p.type.toNat with
  | 0 | 2 | 3 => s.takeRequest p
  | 1 | 4 | 8 => some (s.takeAnswer p)
  | 5 => some (s.reRequest p)
  | 6 => some (s.acknowledge p)
  | 7 => some (s.takeMarker p)
  | _ => some (s.discard p)

/-- The first packet of a lane leaves its input buffer, trimmed if the port is congested. -/
def State.leaveBuffer (s : State) (p : Packet) : Option State :=
  let s := (s.drainIn p).onLink p.via.toNat fun l => { l with buffer := l.buffer.erase p }
  match s.trimPort p with
  | none => none
  | some port => if s.trims port p then s.cutAt port p else if p.dstPackage = s.package then s.take p else s.forward p

/-- A packet leaves the input buffers of a port, if the first of some lane may. -/
def State.drainPort (s : State) (port : Nat) : State :=
  ((List.range 12).findSome? fun lane => ((s.link port).buffer.find? fun p => p.lane == lane).bind s.leaveBuffer).getD s

/-- One cycle of the Canal clock: the next packet of a die arrives at the XI, a posted write's payload in the retransmit store (05 R126,
R137, R138), and packets that waited for a route or in an input buffer leave. -/
def State.canalTick (s : State) : State :=
  let s := (s.onCanal fun k => { k with
    cycles := k.cycles + 1
    inject := match k.inject.findIdx? fun j => !j.stored with
      | some i => k.inject.modify i fun j => { j with stored := true }
      | none => k.inject }).sendWaiting
  (s.canal.links.map (·.1)).foldl State.drainPort s

/-- A bucket with what it has gained: RATE tokens each 1,024 link cycles; it holds at most DEPTH. -/
def Recv.refilled (r : Recv) (k : Canal) : Recv :=
  let periods := (k.cycles - r.refillAt) / 1024
  { r with tokens := min k.tokenDepth (r.tokens + k.tokenRate * periods), refillAt := r.refillAt + 1024 * periods }

/-- A re-request for a hole (05 R132). -/
def execCanalHoleRerequest (peer seq : Nat) (s : State) : Res :=
  let s := s.onRecv peer fun r => r.refilled s.canal
  let r := s.recv peer
  match r.entries.find? fun e => e.seq == seq with
  | none => event "CANAL_HOLE_REREQUEST" false s
  | some e =>
    match e.state with
    | .hole sent again since =>
      let k := sent + 1
      let due := k == 1 || (again && since + s.canal.backoff * 2 ^ min (k - 2) 8 ≤ s.canal.cycles)
      if !due || r.tokens = 0 then event "CANAL_HOLE_REREQUEST" false s
      else
        let s := (s.sendVc0 peer 5 (seq % 2 ^ 40) (k % 256) 0).onRecv peer fun r => { r with
          tokens := r.tokens - 1
          entries := adjust (fun e => e.seq == seq) (fun e => { e with state := .hole k false since }) r.entries }
        .next (if k = 12 then s.logFabric k seq else s)
    | _ => event "CANAL_HOLE_REREQUEST" false s

/-- A bucket gains its tokens; one that is spent from has gained them before. -/
def execCanalTokenRefill (peer : Nat) (s : State) : Res :=
  event "CANAL_TOKEN_REFILL" ((s.recv peer).refillAt + 1024 ≤ s.canal.cycles) (s.onRecv peer fun r => r.refilled s.canal)

/-- LOW is acknowledged: at most once in 64 link cycles, once in 1,024 while something is unacknowledged. -/
def execCanalAckSend (peer : Nat) (s : State) : Res :=
  let r := s.recv peer
  let due := (r.acked < r.low && r.ackAt + 64 ≤ s.canal.cycles) || (!r.entries.isEmpty && r.ackAt + 1024 ≤ s.canal.cycles)
  event "CANAL_ACK_SEND" due
    ((s.sendVc0 peer 6 (r.low % 2 ^ 40) 0 0).onRecv peer fun r => { r with acked := r.low, ackAt := s.canal.cycles })

/-- RWDOG expires for a request or a write that still waits: refused with reason 2. -/
def execResponderWatchdog (peer seq : Nat) (s : State) : Res :=
  match (s.recv peer).entries.find? fun e => e.seq == seq with
  | none => event "RESPONDER_WATCHDOG" false s
  | some e =>
    event "RESPONDER_WATCHDOG" (e.state == .waiting && e.since + field s.canal.rwdog 31 0 ≤ s.canal.cycles)
      ((s.refusePacket e.packet 2).markPerformed peer seq)

/-! ### Links (05 R130, R136, R141-R145) -/

/-- Whether a packet holds credits for all its flits (05 R142). -/
def Link.credits (l : Link) (p : Packet) : Bool :=
  (tget (0 : BitVec 16) l.sent p.lane - tget 0 l.peerFreed p.lane).toNat + p.flits ≤ laneCapacity p.vc.toNat

/-- The packet an output port serves next (05 R130). -/
def State.nextOut (s : State) (port : Nat) : Option Packet :=
  let l := s.link port
  let q := tget [] s.canal.out port
  let head (vc : Nat) : Option Packet := (q.find? fun p => p.vc.toNat == vc).bind fun p => if l.credits p then some p else none
  match head 0 with
  | some p => some p
  | none => [1, 2, 3].findSome? fun i => head ((l.served + i - 1) % 3 + 1)

/-- Freed and received counts of a link's receiver (05 R142). -/
def Link.freedCounts (l : Link) : List (BitVec 16) := (List.range 12).map fun i => tget 0 l.freed i
def Link.receivedCounts (l : Link) : List (BitVec 16) := (List.range 12).map fun i => tget 0 l.received i

/-- A control flit of a port, with what it acknowledges. -/
def State.control (s : State) (port : Nat) (k : Control) : Sent := .control k (s.link port).rpnIn

/-- A link cycle in which nothing leaves. -/
def State.idleCycle (s : State) (port : Nat) : State := s.onLink port fun l => { l with cycles := l.cycles + 1 }

/-- The next packet of a port, or an IDLE flit between packets (05 R141), in as many cycles as it has flits. -/
def State.sendNext (s : State) (port : Nat) : State :=
  let l := s.link port
  let idle := s.control port (.idle l.freedCounts)
  match s.nextOut port with
  | some p =>
    let p' := { p with counts := l.freedCounts }
    if l.may (.packet p') then
      ((s.onLink port fun l => { l with
        sent := tput l.sent p.lane (tget 0 l.sent p.lane + BitVec.ofNat 16 p.flits)
        served := if p.vc = 0 then l.served else p.vc.toNat }).onCanal fun k =>
          { k with out := tput k.out port ((tget [] k.out port).erase p) }).sendOn port (.packet p')
    else s.idleCycle port
  | none => if l.may idle then s.sendOn port idle else s.idleCycle port

/-- The reserved window of a Lade (04 R118): the slot that waits for it leaves, or the five flit times pass. -/
def State.ladeWindow (s : State) (r : Ring) (port : Nat) : State :=
  let s := s.onLink port fun l => { l with windowAt := l.windowAt + (s.lade r).p }
  match s.ladeWaiting r port with
  | some x =>
    if (s.link port).may (.lade x.2) then
      ({ s with flume := { s.flume with leaving := s.flume.leaving.erase x } } : State).sendOn port (.lade x.2)
    else s.onLink port fun l => { l with cycles := l.cycles + 5 }
  | none => s.onLink port fun l => { l with cycles := l.cycles + 5 }

/-- One link cycle of a port, at a message boundary: KEYSW once a new key is agreed, after which the link sends under the new key from counter
0 (05 R145); else what a rekey has still to send; else a Lade window that is due; else the next packet or IDLE. -/
def State.linkCycle (s : State) (port : Nat) : State :=
  let l := s.link port
  if !s.linkUp port then s
  else
    match l.agreed, l.rekeying with
    | some (key, salt), _ =>
      if !l.may (s.control port .keysw) then s.idleCycle port
      else
        (s.sendOn port (s.control port .keysw)).onLink port fun l => { l with
          generation := l.generation + 1, flits := 0, key := key, salt := salt, asked := false, agreed := none, stopped := none }
    | none, k :: rest =>
      if !l.may (s.control port k) then s.idleCycle port
      else (s.sendOn port (s.control port k)).onLink port fun l => { l with rekeying := rest }
    | none, [] =>
      match s.ladeOf port with
      | some r => if l.windowAt + (s.lade r).p ≤ l.cycles then s.ladeWindow r port else s.sendNext port
      | none => s.sendNext port

/-- A control flit has come by a port. -/
def State.controlFlit (s : State) (port : Nat) (f : Link → Link) : State := s.onLink port fun l => { f l with rpnIn := l.rpnIn + 1 }

def execLinkIdle (port : Nat) (freed : List (BitVec 16)) (s : State) : Res :=
  event "LINK_IDLE" (s.linkUp port && freed.length == 12)
    (s.controlFlit port fun l => { l with peerFreed := (List.range 12).map fun i => (i, freed.getD i 0) })

/-- Flits of a lane among messages of the replay buffer. -/
def laneFlits (lane : Nat) (l : List Framed) : Nat :=
  l.foldl (fun n r => match r.sent with
    | .packet p => if p.lane = lane then n + p.flits else n
    | _ => n) 0

/-- Whether a RESYNC's received counts are SENT less the flits in flight, for some part of the replay buffer in flight (05 R142). -/
def Link.agrees (l : Link) (received : List (BitVec 16)) : Bool :=
  (List.range (l.replay.length + 1)).any fun k => (List.range 12).all fun i =>
    (tget (0 : BitVec 16) l.sent i - received.getD i 0) == BitVec.ofNat 16 (laneFlits i (l.replay.drop k))

/-- RESYNC: received counts that differ from SENT less the flits in flight are a link error: the link retrains. -/
def execLinkResync (port : Nat) (freed received : List (BitVec 16)) (s : State) : Res :=
  let s1 := s.controlFlit port fun l => { l with peerFreed := (List.range 12).map fun i => (i, freed.getD i 0) }
  event "LINK_RESYNC" (s.linkUp port && freed.length == 12 && received.length == 12)
    (if (s.link port).agrees received then s1
     else (s1.onLink port fun l => { l with retraining := true }).logMgmt 6 8 0 port 0)

def execLinkAdv (port : Nat) (occupancy : List Byte) (s : State) : Res :=
  event "LINK_ADV" (s.linkUp port && occupancy.length == 31) (s.controlFlit port fun l => { l with adv := occupancy })

/-- Occupancy of the 31 output ports, in units of 16 flits (05 R141). -/
def State.occupancies (s : State) : List Byte :=
  (List.range 31).map fun i => BitVec.ofNat 8 (min 255 ((if i = 30 then s.egressFlits else s.queueFlits i) / 16))

/-- Every 256 link cycles. -/
def execLinkAdvTimer (port : Nat) (s : State) : Res :=
  let l := s.link port
  let x := s.control port (.adv s.occupancies)
  event "LINK_ADV_TIMER" (s.linkUp port && l.advAt + 256 ≤ l.cycles && l.may x)
    ((s.onLink port fun l => { l with advAt := l.advAt + 256 }).sendOn port x)

/-- Every 1,024 link cycles. -/
def execLinkResyncTimer (port : Nat) (s : State) : Res :=
  let l := s.link port
  let x := s.control port (.resync l.freedCounts l.receivedCounts)
  event "LINK_RESYNC_TIMER" (s.linkUp port && l.resyncAt + 1024 ≤ l.cycles && l.may x)
    ((s.onLink port fun l => { l with resyncAt := l.resyncAt + 1024 }).sendOn port x)

/-- Whether replay number `a` lies before `b`. -/
def rpnBefore (a b : BitVec 16) : Bool := a != b && (b - a).toNat < 2 ^ 15

/-- The flits of a message from an RPN on. -/
def Framed.from (r : Framed) (rpn : BitVec 16) : Framed :=
  let gone := if rpnBefore r.rpn rpn then min (rpn - r.rpn).toNat r.flits.length else 0
  { r with rpn := r.rpn + BitVec.ofNat 16 gone, flits := r.flits.drop gone }

/-- Flits of the replay buffer from an RPN on. -/
def Link.since (l : Link) (rpn : BitVec 16) : List Framed := (l.replay.map fun r => r.from rpn).filter fun r => !r.flits.isEmpty

/-- The receiver acknowledges an RPN: flits before it leave the replay buffer; a retraining that succeeded is a transient event. -/
def execRpnAcknowledgement (port rpn : Nat) (s : State) : Res :=
  let l := s.link port
  let s1 := s.onLink port fun l => { l with replay := l.since (BitVec.ofNat 16 rpn), replays := 0, retraining := false }
  event "RPN_ACKNOWLEDGEMENT" (s.linkUp port) (if l.retraining then s1.logMgmt 6 8 1 port 0 else s1)

/-- A flit failed its CRC or a message its tag (05 R143). At this end, which a number above 65,535 stands for, a replay request leaves for
the RPN looked for next. At the peer's, every flit from the RPN it names on leaves again, identically; a second request finds the link
retraining. While sending is stopped nothing encrypted leaves, again or as a request (R145). -/
def execLinkReplayRequest (port rpn : Nat) (s : State) : Res :=
  let l := s.link port
  let ask := s.control port (.replay l.rpnIn)
  let again := l.since (BitVec.ofNat 16 rpn)
  if 2 ^ 16 ≤ rpn then event "LINK_REPLAY_REQUEST" (s.linkUp port && l.may ask) (s.sendOn port ask)
  else
    event "LINK_REPLAY_REQUEST" (s.linkUp port && (l.stopped.isNone || again.all fun r => r.sent.plain))
      ((s.onLink port fun l => { l with replays := l.replays + 1, retraining := l.retraining || 1 ≤ l.replays }).onCanal fun k =>
        { k with gone := k.gone ++ again.map fun r => (port, r) })

/-- Whether a packet that is routed again may take a detour: one of this package's own that is no resend (05 R129, R143). -/
def State.mayDetour (s : State) (p : Packet) : Bool :=
  p.srcPackage == s.package && !s.canal.store.any fun e => e.peer == p.dstPackage && e.seq % 2 ^ 40 == p.seq.toNat && e.resent

/-- A link is retired: its packets are routed again, a Lade whose ring it belongs to stops, and the event is logged. -/
def State.retireLink (s : State) (port : Nat) : State :=
  let l := s.link port
  let sent := l.replay.filterMap fun r => match r.sent with
    | .packet p => some p
    | _ => none
  let back := sent ++ tget [] s.canal.out port
  let rings := [Ring.row, .col].filter fun r => s.onLade r port
  let s := s.onLink port fun l => { l with retired := true, retraining := false, replay := [] }
  let s := s.onCanal fun k => { k with out := tdel k.out port }
  let s := back.foldl (fun s p => s.sendOrHold p (s.mayDetour p)) s
  (rings.foldl State.stopLade s).logMgmt 7 8 port port 0

/-- A link is retired: a port below 32 is this package's, after a failed retraining; 32·(1 + p) + k is port k of package p (16·row + column),
which stops a Lade that its link belongs to here as well (04 R120). -/
def execLinkRetire (port : Nat) (s : State) : Res :=
  if port < 32 then event "LINK_RETIRE" (s.linkUp port && (s.link port).retraining) (s.retireLink port)
  else
    let package := port / 32 - 1
    let b := portPeer package (port % 32)
    let along (r : Ring) : Bool :=
      let n := (s.lade r).n
      let (x, y) := if r = .row then (package % 16, b % 16) else (package / 16, b / 16)
      let mine := if r = .row then package / 16 == s.prow && b / 16 == s.prow else package % 16 == s.pcol && b % 16 == s.pcol
      0 < (s.lade r).h && mine && ((x + 1) % n == y || (y + 1) % n == x)
    let rings := [Ring.row, .col].filter along
    event "LINK_RETIRE" (package != s.package && port % 32 < 30 && !rings.isEmpty) (rings.foldl State.stopLade s)

/-! ### Rekeying (05 R145) -/

/-- What this end sends for an agreement on a key of a generation: its fragments. -/
def agreementFlits (port generation : Nat) : List Control := (Config.agreement port generation).map Control.rkmsg

/-- The peer asks for a rekey of a generation: this end's root of trust takes part. -/
def execLinkRkreq (port generation : Nat) (s : State) : Res :=
  event "LINK_RKREQ" (s.linkUp port && generation == (s.link port).peerGeneration + 1)
    (s.controlFlit port fun l => { l with peerAsked := true, rekeying := l.rekeying ++ agreementFlits port generation })

/-- A fragment of a signed key agreement; with the last the roots of trust hold a new key. -/
def execLinkRkmsg (port : Nat) (fragment : List Byte) (s : State) : Res :=
  let l := s.link port
  event "LINK_RKMSG" (s.linkUp port && (l.asked || l.peerAsked))
    (s.controlFlit port fun l =>
      let fragments := l.fragments ++ [fragment]
      match Config.agreedKey port (if l.asked then l.generation + 1 else l.peerGeneration + 1) fragments with
      | none => { l with fragments := fragments }
      | some k => { l with fragments := [], agreed := if l.asked then some k else l.agreed, peerAsked := false })

/-- The peer sends under its next key from the next flit on. -/
def execLinkKeysw (port : Nat) (s : State) : Res :=
  event "LINK_KEYSW" (s.linkUp port) (s.controlFlit port fun l => { l with peerGeneration := l.peerGeneration + 1 })

/-- A rekey is asked for: RKREQ, and this end's part of the agreement. -/
def Link.ask (l : Link) (port : Nat) : Link :=
  { l with
    asked := true
    rekeying := l.rekeying ++ (.rkreq (l.generation + 1) :: (if l.asked then [] else agreementFlits port (l.generation + 1))) }

/-- The flit counter has reached 2^47. -/
def execRekeyStart (port : Nat) (s : State) : Res :=
  let l := s.link port
  event "REKEY_START" (s.linkUp port && 2 ^ 47 ≤ l.flits && !l.asked) (s.onLink port fun l => l.ask port)

/-- A message would end above 2^48 − 3: nothing encrypted leaves from now on, only RKREQ and RKMSG. -/
def execRekeyStop (port : Nat) (s : State) : Res :=
  let l := s.link port
  let next := match s.nextOut port with
    | some p => p.flits
    | none => 1
  let slot := match (s.ladeOf port).bind fun r => s.ladeWaiting r port with
    | some _ => 5
    | none => 0
  event "REKEY_STOP" (s.linkUp port && l.stopped.isNone && l.flits + max next slot > 2 ^ 48 - 3)
    (s.onLink port fun l => { l.ask port with stopped := some s.canal.cycles })

/-- 2^20 link cycles, on the Canal clock, in the stopped state: the link has failed. -/
def execRekeyTimeout (port : Nat) (s : State) : Res :=
  let due := match (s.link port).stopped with
    | some t => decide (t + 2 ^ 20 ≤ s.canal.cycles)
    | none => false
  event "REKEY_TIMEOUT" (s.linkUp port && due) (s.retireLink port)

end Sys2Proof.Machine
end

