-- ==== Sys2Proof/Machine/Launch.lean ====
section
/-! DEFINITION. Launch queues, launch records and their acceptance (17 R423-R430), streams (04 R105-R107, 17 R428), task creation (17 R431) and
the completion of a launch (17 R436). -/

namespace Sys2Proof.Machine

/-! ### Queue descriptors and rings (17 R423-R426) -/

/-- Offset of a queue's descriptor in the I/O cistern (the place is the model's). -/
def queueOff (q : Nat) : Nat := q % 64 * 64
def State.queueDw (s : State) (q i : Nat) : Word := BitVec.ofNat 64 (s.loadNat (Home.ioc.at (queueOff q + 8 * i)) 8)
/-- A field of a descriptor written by a unit of the XI. -/
def State.setQueueDw (s : State) (q i v : Nat) : State := s.performBytes none (placed (Home.ioc.at (queueOff q + 8 * i)) (leBytes 8 v))
def State.queueOn (s : State) (q : Nat) : Bool := bitOf (s.queueDw q 3) 63
def State.queueHead (s : State) (q : Nat) : Nat := (s.queueDw q 1).toNat
def State.queueTail (s : State) (q : Nat) : Nat := (s.queueDw q 2).toNat
/-- Entries of a ring: LOG2C of 13 to 15 is 12. -/
def State.queueSize (s : State) (q : Nat) : Nat := 2 ^ min 12 (field (s.queueDw q 3) 48 45)

/-- Offset of the entry of a counter value. -/
def State.ringOff (s : State) (q n : Nat) : Nat := field (s.queueDw q 3) 18 0 * 64 + n % s.queueSize q * 64

/-- Whether the entry at HEAD is ready. -/
def State.consumable (s : State) (q : Nat) : Bool :=
  let h := s.queueHead q
  s.queueOn q && s.loadNat (Home.ioc.at (s.ringOff q h + 8)) 8 == h / s.queueSize q + 1

/-- The lowest free slots of the launch table. -/
def State.freeSlots (s : State) : List Nat := (List.range 64).filter fun k => !s.launches.any fun l => l.1 == k

/-- A launch record copied into a slot. -/
def State.copyRecord (s : State) (off k : Nat) : State := s.performBytes none (placed (Home.ioc.at (launchOff k)) (s.load (Home.ioc.at off) 256))

/-! ### What a record says (17 R427) -/

/-- Dies of the mask, ascending, and the tasks of one die in order (y, x, s). -/
def State.slotDies (s : State) (k : Nat) : List Nat := (List.range 16).filter fun d => (s.launchDw k 2).getLsbD d
def State.slotCoords (s : State) (k d : Nat) : List Nat :=
  let w := s.launchDw k 2
  (List.range (field w 24 22 + 1)).flatMap fun y => (List.range (field w 27 25 + 1)).flatMap fun x => (List.range (field w 30 28 + 1)).map fun t =>
    d * 512 + (field w 18 16 + y) % 8 * 64 + (field w 21 19 + x) % 8 * 8 + t
/-- Cores of the field. -/
def State.slotCores (s : State) (k : Nat) : List Nat := sortAddrs ((s.slotDies k).flatMap fun d => (s.slotCoords k d).map coordCore)
def State.slotSpawns (s : State) (k : Nat) : Bool := bitOf (s.launchDw k 2) 63

/-- Reserved bits of a launch record, doubleword by doubleword. -/
def recordReserved (i : Nat) (w : Word) : Bool :=
  match i with
  | 1 | 3 => field w 63 55 != 0 || field w 3 0 != 0
  | 0 | 4 | 6 | 7 | 8 | 10 | 11 => field w 63 55 != 0
  | 5 => field w 31 13 != 0
  | 9 => field w 31 5 != 0
  | 12 => field w 63 32 != 0
  | 13 => field w 63 57 != 0 || field w 31 25 != 0
  | 2 | 14 => false
  | 23 => field w 62 10 != 0
  | _ => if 15 ≤ i ∧ i ≤ 22 then field w 62 17 != 0 else w != 0

/-! ### Streams (04 R94-R107, 17 R428) -/

/-- A stream request as read: its doubleword 0 and its items, station and gate-entry image. -/
structure StreamReq where
  dw0 : Word
  items : List (Nat × GateBits)
deriving DecidableEq, Repr

/-- The array of stream requests of a launch, and the `n` items of its `i`-th request. -/
def State.streamBytes (s : State) (k : Nat) : Except Word (List Byte) :=
  s.readVirt ((s.slotDies k).headD 0) (s.slotCtx k) false (field (s.launchDw k 10) 54 0) (32 * field (s.launchDw k 9) 4 0)
def State.streamItems (s : State) (k : Nat) (bs : List Byte) (i n : Nat) : Except Word (List Byte) :=
  s.readVirt ((s.slotDies k).headD 0) (s.slotCtx k) false (leNat ((bs.drop (32 * i + 8)).take 8) % 2 ^ 55) (64 * n)

/-- Requests of a launch; an error is reason 7 or 8. -/
def State.streamReqs (s : State) (k : Nat) : Except Nat (List StreamReq) :=
  match s.streamBytes k with
  | .error _ => .error 7
  | .ok bs =>
    (List.range (field (s.launchDw k 9) 4 0)).foldr (fun i acc =>
      let dw (j : Nat) : Word := BitVec.ofNat 64 (leNat ((bs.drop (32 * i + 8 * j)).take 8))
      let n := field (dw 0) 39 32
      match acc with
      | .error e => .error e
      | .ok l =>
        if field (dw 0) 63 40 ≠ 0 ∨ bitOf (dw 0) 31 ∨ field (dw 1) 63 55 ≠ 0 ∨ dw 2 ≠ 0 ∨ dw 3 ≠ 0 then .error 8
        else if field (dw 0) 8 7 = 3 ∨ field (dw 0) 6 5 = 3 ∨ field (dw 0) 18 12 = 0 ∨ 104 < field (dw 0) 18 12 ∨ n = 0 ∨ 32 < n then .error 8
        else
          match s.streamItems k bs i n with
          | .error _ => .error 7
          | .ok es =>
            let e (j w : Nat) : Nat := leNat ((es.drop (64 * j + 8 * w)).take 8)
            let bad := (List.range n).any fun j => e j 0 / 32 != 0 || e j 5 != 0 || e j 6 != 0 || e j 7 != 0 || e j 1 % 16 != 0 ||
              e j 2 / 2 ^ 20 % 16 != 0
            if bad then .error 8
            else .ok (⟨dw 0, (List.range n).map fun j => (e j 0, BitVec.ofNat 256 (leNat ((es.drop (64 * j + 8)).take 32)))⟩ :: l)) (.ok [])

/-- The ring of a code. -/
def ringOf (n : Nat) : Ring := if n = 1 then .row else if n = 2 then .col else .flume

/-- Slots of a ring that streams own. -/
def State.ownedSlots (s : State) (ring : Nat) : List Nat := (s.flume.streams.filter fun r => r.ring == ring).flatMap (·.slots)

/-- Slot numbers of a ring, by lane: 16 of 128 on the Flume, one per direction on a Lade. -/
def State.laneSlots (s : State) (ring : Nat) : List (List Nat) :=
  if ring = 0 then (List.range 16).map fun l => (List.range 128).map (l * 128 + ·)
  else [0, 1].map fun dir => (List.range (s.rotation (ringOf ring))).map (dir * 1024 + ·)

/-- Whether a slot counts as best-effort: its class now, and no change of it to owned pending (04 R107). -/
def State.bestEffort (s : State) (ring n : Nat) : Bool :=
  let key := slotKey (ringOf ring) n
  !(tget Slot.reset s.flume.slots key).owned && tget false s.flume.classes key == false

/-- The slots given to a stream: unowned ones of its direction, such that 24 best-effort slots stay in each lane (04 R106): released slots
whose class has not changed back yet, and the lowest best-effort ones. -/
def State.chooseSlots (s : State) (ring dir n : Nat) : Option (List Nat) :=
  let owned := s.ownedSlots ring
  let lanes := (s.laneSlots ring).filter fun l => dir == 0 || (match l.head? with
    | some x => x / 1024 + 1 == dir
    | none => false)
  let open_ := lanes.flatMap fun l =>
    let free := l.filter fun x => !owned.contains x && s.bestEffort ring x
    (l.filter fun x => !owned.contains x && !s.bestEffort ring x) ++ free.take (free.length - 24)
  if open_.length < n then none
  else
    let one := [0, 1].findSome? fun b =>
      let mine := open_.filter fun x => x / 1024 == b
      if n ≤ mine.length then some (mine.take n) else none
    one

/-- The lowest stream id not in use. -/
def State.freeStream (s : State) : Nat := ((List.range 4096).find? fun i => !s.flume.streams.any fun r => r.id == i).getD 0

/-- Gate key of an item's station in a ring. -/
def itemKey (ring station slot : Nat) : Nat := gateKey (ringOf ring) station slot

/-- Whether an item's station has its gate table in this package: any of the Flume, and this XI on a Lade (04 R119). -/
def State.ownItem (s : State) (ring station : Nat) : Bool := ring == 0 || station == s.ladeStation (ringOf ring)

/-- A class change asked of station 0 for the slots of a ring: the latest for a slot counts (04 R107). -/
def State.askClass (s : State) (ring : Nat) (slots : List Nat) (owned : Bool) : State :=
  { s with flume := { s.flume with classes := slots.foldl (fun t n => tput t (slotKey (ringOf ring) n) owned) s.flume.classes } }

/-- One stream opened for a launch slot: every destination entry first, the origin's last (04 R96), and the class changes of its slots; an
error is reason 8. Entries of other packages' stations on a Lade are written by their own headgates. -/
def State.openStream (s : State) (k : Nat) (r : StreamReq) : Except Nat State :=
  let ring := field r.dw0 6 5
  let origin := field r.dw0 4 0
  let tenant := s.slotTenant k
  let key := field r.dw0 30 19
  let id := s.freeStream
  let items := r.items.map fun x => (x.1, gatePut (gatePut x.2 0 30 19 id) 3 15 0 0)
  let keyOk := (s.key key).valid && ((s.key key).tenant == tenant || (s.key key).tenant == 0)
  let refused := items.any fun x => (ring == 0 && 20 < x.1) ||
    (if s.ownItem ring x.1 then s.gateRefused (itemKey ring x.1 0) x.2 (some (field r.dw0 11 9)) tenant
     else gateMalformed (itemKey ring x.1 0) x.2 (some (field r.dw0 11 9)))
  if !keyOk || refused then .error 8
  else
    match s.chooseSlots ring (field r.dw0 8 7) (field r.dw0 18 12) with
    | none => .error 8
    | some slots =>
      let mine := items.filter fun x => s.ownItem ring x.1
      let order := mine.filter (fun x => gateAct x.2 != 1) ++ mine.filter fun x => gateAct x.2 == 1
      let others := (List.range 21).filter fun st => ring == 0 && !items.any fun x => x.1 == st
      let s := slots.foldl (fun s n =>
        let s := others.foldl (fun s st => if s.gateCommitted (itemKey ring st n) = 0 then s else s.writeGate (itemKey ring st n) 0) s
        order.foldl (fun s x => s.writeGate (itemKey ring x.1 n) x.2) s) s
      let s := s.askClass ring slots true
      .ok { s with flume := { s.flume with streams := s.flume.streams ++ [⟨id, ring, slots, origin, k, s.slotJob k, key, none⟩] } }

/-- All streams of a launch, or none (17 R429). -/
def State.openStreams (s : State) (k : Nat) : Except Nat State :=
  match s.streamReqs k with
  | .error e => .error e
  | .ok rs => rs.foldl (fun acc r => match acc with
    | .error e => .error e
    | .ok s => s.openStream k r) (.ok s)

/-- A launch's streams are released: each origin entry becomes PASS (04 R96). -/
def State.releaseStreams (s : State) (k : Nat) : State :=
  (s.flume.streams.filter fun r => r.launch == k && r.closing.isNone).foldl (fun s r =>
    let s := if s.ownItem r.ring r.origin then r.slots.foldl (fun s n => s.writeGate (itemKey r.ring r.origin n) 0) s else s
    { s with flume := { s.flume with
      streams := adjust (fun x => x.id == r.id) (fun x => { x with closing := some (s.ringTime (ringOf r.ring)) }) s.flume.streams } }) s

/-- One rotation after a stream's release its other entries, and any other entry for its slots, become PASS, and its slots best-effort
(04 R96, R107). -/
def execStreamCloseFollowup (k : Nat) (s : State) : Res :=
  match s.flume.streams[k]? with
  | none => event "STREAM_CLOSE_FOLLOWUP" false s
  | some r =>
    match r.closing with
    | none => event "STREAM_CLOSE_FOLLOWUP" false s
    | some t =>
      let mine (key : Nat) : Bool := r.slots.contains (key % 2048) &&
        (if r.ring = 0 then key / 2048 < 21 else key / 2048 == (if r.ring = 1 then 21 else 22))
      let keys := (s.flume.gates ++ s.flume.gatesDue).filter fun g => mine g.1 || (gateStream g.2 == r.id && gateAct g.2 != 0)
      let s1 := (sortAddrs (keys.map (·.1))).foldl (fun s g => s.writeGate g 0) s
      let s1 := s1.askClass r.ring r.slots false
      event "STREAM_CLOSE_FOLLOWUP" (t + s.rotation (ringOf r.ring) ≤ s.ringTime (ringOf r.ring))
        { s1 with flume := { s1.flume with streams := s1.flume.streams.eraseIdx k } }

/-! ### Checks (17 R429) -/

/-- The template's entries break R32 or R408: a role in a space that its row does not permit, or an output that is a pair. -/
def pureTemplateBad (t : Tab LteBits) : Bool :=
  t.any fun p =>
    let space := lteSpace p.2
    match lteRead p.2 20 with
    | 0 => false
    | 1 => !(space == 1 || space == 2 || space == 6)
    | 2 => !(space == 1 || space == 2 || space == 6) || lteShadow p.2
    | 3 => !(space == 1 || space == 2)
    | _ => true

/-- Whether a read of the launch record's objects faults (reason 7). -/
def State.unreadable (s : State) (k : Nat) : Bool :=
  let d := (s.slotDies k).headD 0
  let ctx := s.slotCtx k
  let dw (i : Nat) : Nat := field (s.launchDw k i) 54 0
  let reads := [(dw 0, Config.textLength ctx (dw 0)), (dw 4, 2048), (dw 6, field (s.launchDw k 5) 12 0),
    (dw 7, field (s.launchDw k 9) 63 48), (dw 8, field (s.launchDw k 9) 47 32)]
  reads.any (fun r => match s.readVirt d ctx false r.1 r.2 with
    | .ok _ => false
    | .error _ => true) ||
  (match s.streamBytes k with
    | .error _ => true
    | .ok bs => (List.range (field (s.launchDw k 9) 4 0)).any fun i =>
        let n := bs.getD (32 * i + 4) 0
        1 ≤ n.toNat && n.toNat ≤ 32 && (match s.streamItems k bs i n.toNat with
          | .error _ => true
          | .ok _ => false))

/-- The first check that a copied record fails, before its streams are asked for. -/
def State.launchReason (s : State) (k q : Nat) (spawned : Bool) : Option Nat :=
  let dw (i : Nat) : Word := s.launchDw k i
  let w := dw 2
  let tenant := s.slotTenant k
  let ctx := s.slotCtx k
  let dies := s.slotDies k
  let d := dies.headD 0
  let snap := bitOf w 61
  let job := field (dw 23) 9 0
  let tasks := dies.length * (field w 24 22 + 1) * (field w 27 25 + 1) * (field w 30 28 + 1)
  let knownJob := match s.jobs.find? fun j => j.1 == job with
    | some j => j.2.tenant == tenant && j.2.ctx == ctx
    | none => false
  let badTemplate := match s.template d k with
    | some t => pureTemplateBad t
    | none => false
  if (List.range 32).any (fun i => recordReserved i (dw i)) || field (dw 5) 12 0 > 4096 || field (dw 9) 63 48 > 32768 ||
      field (dw 9) 47 32 > 32768 || field (dw 9) 4 0 > 16 then some 1
  else if field w 18 16 + field w 24 22 > 7 ∨ field w 21 19 + field w 27 25 > 7 ∨ (!bitOf w 63 ∧ dies.isEmpty) then some 2
  else if tenant ≠ field (s.queueDw q 3) 58 49 ∨ tenant ≠ s.ctxTenant d ctx ∨ (bitOf (dw 23) 63 ∧ !knownJob) then some 3
  else if (s.slotCores k).any (fun c => s.ownerOf (dieOf c) c != .owned tenant) then some 4
  else if bitOf w 59 && (badTemplate || field (dw 9) 63 32 != 0 || snap) then some 5
  else if (bitOf w 60 ∧ !bitOf w 59) ∨ (snap ∧ field (dw 13) 56 32 = 0) ∨ (snap ∧ !bitOf (dw 23) 63) then some 6
  else if s.unreadable k then some 7
  else
    match s.openStreams k with
    | .error e => some e
    | .ok _ => if !(spawned || bitOf w 63) && (dw 12).toNat < tasks then some 9 else none

/-! ### Acceptance (17 R430) -/

/-- Code lines of a launch leave the instruction caches of its cores (02 R54). -/
def State.flushCode (s : State) (k : Nat) : State :=
  let va := field (s.launchDw k 0) 54 0
  let lo := va / 64
  let n := (va % 64 + Config.textLength (s.slotCtx k) va + 63) / 64
  let ctx := s.slotCtx k
  (s.slotCores k).foldl (fun s c => s.onCore c fun x =>
    { x with icache := x.icache.filter fun e => !(e.1.1 == ctx && lo ≤ e.1.2 && e.1.2 < lo + n) }) s

/-- Lines of a launch's code object as memory holds them (02 R54). -/
def State.codeLines (s : State) (k : Nat) : Tab (BitVec 512) :=
  let va := field (s.launchDw k 0) 54 0
  let n := (va % 64 + Config.textLength (s.slotCtx k) va + 63) / 64
  (List.range n).filterMap fun i =>
    match s.codeLine (64 * (s.slotDies k).headD 0) (s.slotCtx k) false (64 * (va / 64 + i)) with
    | .ok (l, _) => some (va / 64 + i, l)
    | .error _ => none

/-- A digest of bytes of the launch's context, 0 where there is no program. -/
def State.objectDigest (s : State) (k va n : Nat) : BitVec 256 :=
  if n = 0 then 0
  else match s.readVirt ((s.slotDies k).headD 0) (s.slotCtx k) false va n with
    | .ok bs => BitVec.ofNat 256 (leNat (sha256 bs))
    | .error _ => 0

/-- Cores of a launch that are marked for map-out are mapped to spares while the die has one of its four (18 R451): ORIENT.SPARES counts them
(19 R472). -/
def State.mapSpares (s : State) (k : Nat) : State :=
  (s.slotCores k).foldl (fun s c =>
    if !(s.core c).mapOut || 4 ≤ field (s.die (dieOf c)).orient 11 8 then s
    else (s.onCore c fun x => { x with mapOut := false }).onDie (dieOf c) fun x =>
      { x with orient := putField x.orient 11 8 (field x.orient 11 8 + 1) }) s

/-- ACCEPTED rises; the launch holds its slot (17 R427, R430). PRIO is bounded by MAXPRIO (17 R429), and the forced save limit of its job is
2^20 (15 R397). -/
def State.enterLaunch (s : State) (k q : Nat) (parent : Option Nat) : State :=
  let acc := field (s.queueDw q 4) 63 32
  let lid := q % 64 * 2 ^ 26 + acc % 2 ^ 26
  let dw (i : Nat) : Word := s.launchDw k i
  let w := dw 2
  let prio := min (field w 35 32) (field (s.queueDw q 3) 62 59)
  let code := field (dw 0) 54 0
  let l : Launch := { Launch.reset with
    queue := q, lid := lid, parent := parent, diesLeft := if bitOf w 63 then [] else s.slotDies k
    digest := s.objectDigest k code (Config.textLength (s.slotCtx k) code)
    ldDigest := s.objectDigest k (field (dw 7) 54 0) (field (dw 9) 63 48)
    stDigest := s.objectDigest k (field (dw 8) 54 0) (field (dw 9) 47 32)
    code := s.codeLines k }
  let s := s.setQueueDw q 4 ((acc + 1) % 2 ^ 32 * 2 ^ 32 + field (s.queueDw q 4) 31 0)
  let s := s.performBytes none (placed (Home.ioc.at (launchOff k + 16)) (leBytes 8 (putField w 35 32 prio).toNat))
  let s := if s.slotJob k = 0 then s else s.onJob (s.slotJob k) fun j => { j with limit := 2 ^ 20 }
  (({ s with launches := tput s.launches k l }).flushCode k).mapSpares k

/-- Records of the successors of a slot: K and offset, those made on demand or the others (17 R427, R430). -/
def State.successorRecords (s : State) (k : Nat) (spawned : Bool) : List (Nat × Nat) :=
  (List.range 8).filterMap fun i =>
    let w := s.launchDw k (15 + i)
    let off := field w 16 0 * 256
    if bitOf w 63 && (s.load (Home.ioc.at (off + 23)) 1).headD 0 / 128 == (if spawned then 1 else 0) then some (i, off) else none

/-- The record in slot `k` is checked, and its launch enters the slot with its streams (17 R429, R430 steps 1 to 3); an error is the reason
of its refusal. -/
def State.vet (s : State) (q k : Nat) (parent : Option Nat) : Except Nat State :=
  match s.launchReason k q parent.isSome with
  | some r => .error r
  | none =>
    match s.openStreams k with
    | .error e => .error e
    | .ok s => .ok (s.enterLaunch k q parent)

/-- The slots of a launch and of those it stands under. -/
def State.lineage (s : State) : Nat → Nat → List Nat
  | 0, _ => []
  | fuel + 1, k => k :: (match (s.launch k).parent with
    | some p => s.lineage fuel p
    | none => [])

/-- The completion block of a record and the release on its sync object (17 R436). -/
def State.writeCompletion (s : State) (k status reason : Nat) (l : Launch) : State :=
  let off := field (s.launchDw k 13) 24 0
  let block := leBytes 8 (reason * 256 + status) ++ leBytes 8 (l.failed % 2 ^ 32 * 2 ^ 32 + l.done % 2 ^ 32) ++ leBytes 8 (l.hits % 2 ^ 32) ++
    leBytes 8 l.lid ++ leBytes 16 0
  (s.performBytes none (placed (Home.ioc.at (off + 16)) block)).releaseAt (Home.ioc.at off) none

/-- A refusal (17 R430). -/
def State.refuseLaunch (s : State) (k q reason : Nat) : State :=
  let w := s.queueDw q 4
  (s.setQueueDw q 4 (field w 63 32 * 2 ^ 32 + (field w 31 0 + 1) % 2 ^ 32)).writeCompletion k 1 reason { Launch.reset with lid := (s.launch k).lid }

/-- A launch leaves its slot, and its streams are released. -/
def State.dropLaunch (s : State) (k : Nat) : State :=
  let s := s.releaseStreams k
  { s with launches := tdel s.launches k }

/-- A spawned successor in slot `k` is refused, and with it its parent `p` and what that stands under; nothing of the tree is left. -/
def State.refuseTree (s : State) (q k p reason : Nat) : State :=
  let up := s.lineage 64 p
  let root := up.getLastD p
  let tree := (s.launches.map (·.1)).filter fun x => (s.lineage 64 x).contains root
  tree.foldl State.dropLaunch ((k :: up).foldl (fun s x => s.refuseLaunch x q reason) s)

/-- The spawned successors of a slot, with the slot. -/
def State.spawnsOf (s : State) (k : Nat) : List (Nat × Nat × Nat) := (s.successorRecords k true).map fun x => (k, x.1, x.2)

/-- Step 4 of an acceptance (17 R430): the spawned successors below slot `root` are accepted one after another while slots are free. -/
def State.acceptSpawned (q root : Nat) : Nat → State → State
  | 0, s => s
  | fuel + 1, s =>
    match (s.launch root).spawnLeft, s.freeSlots with
    | (p, i, off) :: rest, n :: _ =>
      let s := s.copyRecord off n
      match s.vet q n (some p) with
      | .error r => s.refuseTree q n p r
      | .ok s =>
        State.acceptSpawned q root fuel
          ((s.onLaunch p fun l => { l with spawned := tput l.spawned i n }).onLaunch root fun l => { l with spawnLeft := s.spawnsOf n ++ rest })
    | _, _ => s

/-- A record copied into the lowest free slot is accepted, as far as slots are free for its spawned successors, or refused; none where no
slot is free. -/
def State.takeRecord (s : State) (q off : Nat) : Option State :=
  match s.freeSlots with
  | [] => none
  | k :: _ =>
    let s := s.copyRecord off k
    match s.vet q k none with
    | .error r => some (s.refuseLaunch k q r)
    | .ok s => some (State.acceptSpawned q k 64 (s.onLaunch k fun l => { l with spawnLeft := s.spawnsOf k }))

/-- The launch of a queue that waits for slots for its spawned successors, where one is free. -/
def State.waitingRoot (s : State) (q : Nat) : Option Nat :=
  if s.freeSlots.isEmpty then none else (s.launches.find? fun k => k.2.queue == q && !k.2.spawnLeft.isEmpty).map (·.1)

/-- Whether the launch unit looks at a queue now: woken, or 256 slot times after its last look while T > H. -/
def State.queueDue (s : State) (q : Nat) : Bool :=
  s.queueOn q && (s.awake.contains q || (s.queueHead q < s.queueTail q && tget 0 s.polled q + 256 ≤ s.flume.time))

/-- The launch unit goes on with a launch of the queue that waits for slots, or looks at the queue, the next in ascending
order of those that are due with a consumable entry. -/
def execLaunchQueuePoll (q : Nat) (s : State) : Res :=
  match s.waitingRoot q with
  | some root => .next (State.acceptSpawned q root 64 s)
  | none =>
    let turn := !s.consumable q || roundRobin 64 s.lastQueue ((List.range 64).filter fun i => s.queueDue i && s.consumable i) == some q
    if !(q < 64 && s.queueDue q && turn) then event "LAUNCH_QUEUE_POLL" false s
    else
      let h := s.queueHead q
      let s := { s with polled := tput s.polled q s.flume.time }
      if !s.consumable q then .next { s with awake := s.awake.filter fun x => x != q }
      else
        let lrec := s.loadNat (Home.ioc.at (s.ringOff q h)) 8 % 2 ^ 17
        match (s.setQueueDw q 1 (h + 1)).takeRecord q (lrec * 256) with
        | none => event "LAUNCH_QUEUE_POLL" false s
        | some s => .next { s with lastQueue := q }

/-! ### Creation and completion (17 R431, R436) -/

/-- A task of a record fails without a seat. -/
def State.failRecord (s : State) (d rec : Nat) : State :=
  (s.logAt d 13 0 0 0 (s.recTenant d rec) (s.recCoord d rec)).settle d rec true false

/-- The records of a launch on its next die are created, in the order of R431, when its spawned successors are accepted and the die has
room for all of them. On a die in reset or bypass they end FAILED (19 R468). -/
def execTaskCreation (slot d : Nat) (s : State) : Res :=
  let l := s.launch slot
  let coords := s.slotCoords slot d
  let recs := s.freeRecords d coords.length 0
  let w := s.launchDw slot 2
  if l.diesLeft.head? ≠ some d ∨ !l.spawnLeft.isEmpty ∨ recs.length < coords.length then event "TASK_CREATION" false s
  else
    let s := s.onLaunch slot fun l => { l with diesLeft := l.diesLeft.drop 1 }
    .next ((List.range coords.length).foldl (fun s i =>
      let coord := coords.getD i 0
      let stage := coord % 8
      let next := recs.getD (i + 1) 0
      let succ : Word := if bitOf w 31 ∧ stage < field w 30 28 then BitVec.ofNat 64 (2 ^ 50 + 2 ^ 20 + d * 2 ^ 16 + next) else 0
      let dep := (s.launchDw slot 14).toNat / 2 ^ (8 * stage) % 256
      match s.freeSave slot with
      | some save =>
        let s := s.createRecord d (recs.getD i 0) slot coord dep save succ
        if (s.die d).inReset then s.failRecord d (recs.getD i 0) else s
      | none => s) s)

/-- Whether every task of a launch has ended, no task of what it stands under can spawn more, and its spawned successors are complete. -/
def State.launchEnded (s : State) (k : Nat) : Bool :=
  (s.lineage 64 k).all (fun x =>
    let l := s.launch x
    l.diesLeft.isEmpty && l.spawnLeft.isEmpty && l.done + l.failed == l.total) &&
    (s.launch k).spawned.all fun x => !s.launches.any fun y => y.1 == x.2 && y.2.parent == some k

/-- Whether writes of a launch's tasks that 06 R176 covers are still on their way, those to other packages until their local completion. -/
def State.launchWrites (s : State) (k : Nat) : Bool :=
  s.posted.any fun p => (match p.task with
    | some t => (s.launch k).tasks.contains t
    | none => false) && (match p.kind with
    | .packet _ _ w => w && !s.stored p.id
    | x => x.isWrite)

/-- Successor records are started as if consumed from the queue, as far as slots are free; those left. -/
def State.startNext (q : Nat) : List Nat → State → List Nat × State
  | [], s => ([], s)
  | off :: rest, s =>
    match s.takeRecord q off with
    | some s => State.startNext q rest s
    | none => (off :: rest, s)

/-- Steps 4 and 5 of a completion (17 R436): the slot is free once every successor has been started. -/
def State.finishLaunch (s : State) (slot : Nat) (next : List Nat) : State :=
  let (left, s) := State.startNext (s.launch slot).queue next s
  if left.isEmpty then { s with launches := tdel s.launches slot }
  else s.onLaunch slot fun l => { l with starting := some left, tasks := [] }

/-- A launch completes (17 R436), or goes on to start its successors when slots are free. -/
def execLaunchCompletion (slot : Nat) (s : State) : Res :=
  let l := s.launch slot
  match l.starting with
  | some next => event "LAUNCH_COMPLETION" (!s.freeSlots.isEmpty) (s.finishLaunch slot next)
  | none =>
    if !(s.launches.any fun l => l.1 == slot) || !s.launchEnded slot || s.launchWrites slot then event "LAUNCH_COMPLETION" false s
    else
      let s1 := (s.releaseStreams slot).writeCompletion slot (if l.failed = 0 then 0 else 2) 0 l
      let s1 := l.tasks.foldl (fun s t => s.setRecState t.1 t.2 0) s1
      .next (s1.finishLaunch slot (if l.failed = 0 then (s1.successorRecords slot false).map (·.2) else []))

end Sys2Proof.Machine
end

