-- ==== Sys2Proof/Machine/Reuse.lean ====
section
/-! DEFINITION. The reuse of pure tasks: keys, lookups, hits and insertions (15 R400-R410), and what follows the end of a task (15 R392). -/

namespace Sys2Proof.Machine

/-! ### The reuse table (15 R404, R405) -/

/-- Flat address of doubleword `i` of an entry. -/
def State.reuseAt (s : State) (d e i : Nat) : Nat := (Home.cist d).at ((s.die d).reuseBase + e % 32768 * 64 + 8 * i)
def State.reuseDw (s : State) (d e i : Nat) : Word := BitVec.ofNat 64 (s.loadNat (s.reuseAt d e i) 8)
def State.setReuseDw (s : State) (d e i v : Nat) : State := s.performBytes none (placed (s.reuseAt d e i) (leBytes 8 v))
/-- ST: 0 empty, 1 INSERTING, 2 VALID. -/
def State.reuseState (s : State) (d e : Nat) : Nat := field (s.reuseDw d e 4) 53 52
def State.reuseKey (s : State) (d e : Nat) : BitVec 256 := BitVec.ofNat 256 (s.loadNat (s.reuseAt d e 0) 32)

/-- First entry and size of a tenant's partition: ascending tenant id, at most 32,768 in all. -/
def State.partition (s : State) (d tenant : Nat) : Nat × Nat :=
  let before := (List.range tenant).foldl (fun n t => n + s.quotaEntries d t) 0
  let lo := min 32768 before
  (lo, min (s.quotaEntries d tenant) (32768 - lo))

def State.partitionEntries (s : State) (d tenant : Nat) : List Nat :=
  let p := s.partition d tenant
  (List.range p.2).map (p.1 + ·)

/-- The entry of a tenant with a key. -/
def State.entryOf (s : State) (d tenant : Nat) (key : BitVec 256) : Option Nat :=
  (s.partitionEntries d tenant).find? fun e => s.reuseState d e != 0 && s.reuseKey d e == key

/-- An entry made empty, with a reuse event in the log. -/
def State.emptyEntry (s : State) (d e tenant coord : Nat) : State :=
  (s.performBytes none (placed (s.reuseAt d e 0) (List.replicate 64 0))).logAt d 12 8 0 e tenant coord

/-! ### Keys (15 R400, R401) -/

/-- The agent that hashes, copies and inserts for a task. -/
def taskAgent (core tenant ctx : Nat) : Issuing := ⟨core, 8, tenant, ctx, false, true, 0, false, false, false, false, true⟩

/-- Entries of a template with a role, ascending. -/
def roleEntries (t : Tab LteBits) (role : Nat) : List (Nat × LteBits) := t.filter fun p => lteRead p.2 20 == role

/-- The key of a pure task and the state with its digests cached, or nothing where its arguments cannot be read. -/
def State.taskKey (s : State) (d rec : Nat) : Option (BitVec 256 × State) :=
  let k := s.recSlot d rec
  let w := taskAgent (s.recCore d rec) (s.slotTenant k) (s.slotCtx k)
  let alen := field (s.launchDw k 5) 12 0
  match s.template d k, s.readVirt d (s.slotCtx k) false (field (s.launchDw k 6) 54 0) alen with
  | some t, .ok args =>
    let parts : Option (List Byte × State) := (roleEntries t 1).foldl (fun acc p =>
      match acc with
      | none => none
      | some (bs, s) =>
        match s.regionDigest w p.1 p.2 with
        | .error _ => none
        | .ok (h, s) => some (bs ++ [BitVec.ofNat 8 p.1] ++ List.replicate 7 0 ++ h, s)) (some ([], s))
    match parts with
    | none => none
    | some (regions, s) =>
      let outs := (roleEntries t 2).flatMap fun p =>
        leBytes 8 (lteGet p.2 1 63 0) ++ [BitVec.ofNat 8 (lteRead p.2 11), BitVec.ofNat 8 (lteRead p.2 10), BitVec.ofNat 8 p.1] ++ List.replicate 5 0
      let keyed := if bitOf (s.recDw d rec 0) 23 then leBytes 8 (s.recCoord d rec) else []
      let msg := saltOf d (s.slotTenant k) ++ leBytes 32 (s.launch k).digest.toNat ++ leBytes 8 alen ++ args ++ regions ++ outs ++ keyed
      some (BitVec.ofNat 256 (leNat (sha256 msg)), s)
  | _, _ => none

/-- A task's key that missed. -/
def State.missedKey (s : State) (d rec : Nat) : Option (BitVec 256) :=
  (s.taskKeys.find? fun x => x.1 == d && x.2.1 == rec).map (·.2.2)

/-- A ready pure task, once what its creation releases is performed (R391), is keyed and looked up among its tenant's entries (15 R406): a
hit is copied, a miss is queued. -/
def execReuseLookup (d record : Nat) (s : State) : Res :=
  let ready := s.recState d record == 2 && s.recPure d record && !s.queued d record && !bitOf (s.recDw d record 5) 15 &&
    (s.missedKey d record).isNone && s.madeReady d record
  if !ready then event "REUSE_LOOKUP" false s
  else
    match s.taskKey d record with
    | none => .next (s.queueTask d record false)
    | some (key, s) =>
      match s.entryOf d (s.recTenant d record) key with
      | some e =>
        if s.reuseState d e = 2 then
          .next { s.setRecDw d record 5 (BitVec.ofNat 64 (2 ^ 15 + e)) with hitting := s.hitting ++ [(d, record, e)] }
        else .next ({ s with taskKeys := s.taskKeys ++ [(d, record, key)] }.queueTask d record false)
      | none => .next ({ s with taskKeys := s.taskKeys ++ [(d, record, key)] }.queueTask d record false)

/-! ### Results (15 R404-R407) -/

/-- Places of the elements of output entries, with the size of each; none where one cannot be written (03 R71). -/
def State.outputSpots (s : State) (w : Issuing) (outs : List (Nat × LteBits)) : Option (List (Nat × Spot)) :=
  outs.foldl (fun acc p =>
    match acc, s.regionSpots w .store p.1 p.2 with
    | some l, .ok xs =>
      if xs.any fun x => (s.spotMapFault w.core w.ctx x).isSome then none else some (l ++ xs.map fun x => (regionUnit p.2, x))
    | _, _ => none) (some [])

/-- Bytes at those places. -/
def State.outputBytes (s : State) (xs : List (Nat × Spot)) : List Byte :=
  xs.flatMap fun x => (List.range x.1).map fun j => s.byteKeyed x.2.material (x.2.flat + j)

/-- One element written at its place. -/
def State.writeSpot (s : State) (d ctx : Nat) (x : Spot) (bs : List Byte) : State :=
  match x.leaf, x.va with
  | some l, some va => s.performThrough d ctx va l x.material (placed x.flat bs)
  | _, _ => s.performBytes x.material (placed x.flat bs)

/-- Bytes written at the places, in order. -/
def State.writeOutputs (s : State) (d ctx : Nat) (xs : List (Nat × Spot)) (bs : List Byte) : State :=
  (xs.foldl (fun (acc : State × List Byte) x => (acc.1.writeSpot d ctx x.2 (acc.2.take x.1), acc.2.drop x.1)) (s, bs)).1

/-- Whether some place lies in an ARMED granule (03 R70). -/
def State.outputsHeld (s : State) (d ctx : Nat) (xs : List (Nat × Spot)) : Bool :=
  xs.any fun x => match x.2.leaf, x.2.va with
    | some l, some va => s.heldArmed d ctx va l
    | _, _ => false

/-- Virtual address of an entry's block in its tenant's result store. -/
def State.blockVa (s : State) (d tenant e : Nat) : Nat := s.quotaBase d tenant + field (s.reuseDw d e 4) 14 0 * s.quotaBlock d tenant

/-- A hit's copy is complete: the task is DONE, and its successors are decremented. Where the store or an output cannot be translated the
task runs instead. -/
def execReuseHitComplete (d record : Nat) (s : State) : Res :=
  match s.hitting.find? fun x => x.1 == d && x.2.1 == record with
  | none => event "REUSE_HIT_COMPLETE" false s
  | some (_, _, e) =>
    let k := s.recSlot d record
    let tenant := s.slotTenant k
    let w := taskAgent (s.recCore d record) tenant (s.slotCtx k)
    let stored := s.readVirt d (s.quotaCtx d tenant) true (s.blockVa d tenant e) (field (s.reuseDw d e 5) 31 0)
    let outs := (s.template d k).bind fun t => s.outputSpots w (roleEntries t 2)
    let s1 := { s with hitting := s.hitting.filter fun x => !(x.1 == d && x.2.1 == record) }
    match stored, outs with
    | .ok bs, some xs =>
      if s.outputsHeld d (s.slotCtx k) xs then event "REUSE_HIT_COMPLETE" false s
      else
        let s := s1.writeOutputs d (s1.slotCtx k) xs bs
        let s := s.setReuseDw d e 6 (s.die d).cyc
        let s := s.setRecDw d record 0 (setBit (s.recDw d record 0) 20 true)
        .next ((s.releaseSuccessors d record).settle d record false true)
    | .error _, _ => .next (((s1.emptyEntry d e tenant (s.recCoord d record)).setRecDw d record 5 0).queueTask d record false)
    | _, none => .next ((s1.setRecDw d record 5 0).queueTask d record false)

/-- The entry that an insertion takes: the least recently stamped of the tenant's, none of them being inserted or copied from. -/
def State.victimEntry (s : State) (d tenant : Nat) : Option Nat :=
  let free := (s.partitionEntries d tenant).filter fun e => s.reuseState d e != 1 && !s.hitting.any fun x => x.1 == d && x.2.2 == e
  free.foldl (fun (m : Option Nat) e => match m with
    | some b => if (s.reuseDw d e 6).toNat < (s.reuseDw d b 6).toNat then some e else some b
    | none => some e) none

/-- An insertion begins for a task that missed, if no entry has its key: the record names the entry (15 R388). -/
def State.beginInsert (s : State) (d rec : Nat) : State :=
  let k := s.recSlot d rec
  let tenant := s.slotTenant k
  match s.missedKey d rec, s.template d k with
  | some key, some t =>
    let s := { s with taskKeys := s.taskKeys.filter fun x => !(x.1 == d && x.2.1 == rec) }
    if (s.entryOf d tenant key).isSome then s
    else
      match s.victimEntry d tenant with
      | none => s
      | some e =>
        let blk := e - (s.partition d tenant).1
        let s := s.setRecDw d rec 5 (BitVec.ofNat 64 (2 ^ 15 + e))
        let s := s.performBytes none
          (placed (s.reuseAt d e 0) (leBytes 32 key.toNat ++ leBytes 8 (tenant % 1024 * 2 ^ 54 + 2 ^ 52 + blk % 2 ^ 15) ++ List.replicate 24 0))
        { s with inserting := s.inserting ++ [⟨d, rec, e, s.recCore d rec, tenant, s.slotCtx k, roleEntries t 2⟩] }
  | _, _ => { s with taskKeys := s.taskKeys.filter fun x => !(x.1 == d && x.2.1 == rec) }

/-- Bytes written at virtual addresses of a context on a die; none where a page cannot be written. -/
def State.writeVirt (s : State) (d ctx : Nat) (va : Nat) (bs : List Byte) : Option State :=
  (pagesOf va bs.length).foldl (fun (acc : Option State) p =>
    acc.bind fun s => match s.mapOn d ctx true .write p.1 with
      | .error _ => none
      | .ok m =>
        if (s.mapFault d ctx p.1 m.leaf).isSome then none
        else some (s.performThrough d ctx p.1 m.leaf m.material (placed m.flat ((bs.drop (p.1 - va)).take p.2)))) (some s)

/-- The first page of a range of virtual addresses whose write an ARMED granule holds (03 R70). -/
def State.rangeHeld (s : State) (d ctx va n : Nat) : Bool :=
  (pagesOf va n).any fun p => match s.mapOn d ctx true .write p.1 with
    | .error _ => false
    | .ok m => s.heldArmed d ctx p.1 m.leaf

/-- The outputs of a task are in the block of its entry, which becomes VALID. -/
def execReuseInsertComplete (d record : Nat) (s : State) : Res :=
  match s.inserting.find? fun x => x.die == d && x.record == record with
  | none => event "REUSE_INSERT_COMPLETE" false s
  | some x =>
    let e := x.entry
    let s1 := { s with inserting := s.inserting.erase x }
    let held : Bool := match s.outputSpots (taskAgent x.core x.tenant x.ctx) x.outputs with
      | none => false
      | some xs => s.rangeHeld d (s.quotaCtx d x.tenant) (s.blockVa d x.tenant e) (s.outputBytes xs).length
    let copied : Option (State × Nat) :=
      match s.outputSpots (taskAgent x.core x.tenant x.ctx) x.outputs with
      | none => none
      | some xs =>
        let bs := s.outputBytes xs
        if s.quotaBlock d x.tenant < bs.length then none
        else (s1.writeVirt d (s.quotaCtx d x.tenant) (s.blockVa d x.tenant e) bs).map fun s => (s, bs.length)
    if held then event "REUSE_INSERT_COMPLETE" false s
    else match copied with
    | none =>
      let t := s1.emptyEntry d e x.tenant 0
      .next (if t.recState d record = 6 then t.setRecDw d record 5 0 else t)
    | some (s, n) =>
      let s := (s.setReuseDw d e 5 n).setReuseDw d e 6 (s.die d).cyc
      .next (s.setReuseDw d e 4 (putField (s.reuseDw d e 4) 53 52 2).toNat)

/-! ### The end of a task (15 R392, 06 R176) -/

/-- Whether a posted item is waited for until it is performed: all but what goes to another package, for which local
completion is enough (05 R138). -/
def Posted.owed (p : Posted) : Bool :=
  match p.kind with
  | .packet _ _ _ => false
  | _ => true

/-- Whether the end of a task waits for a posted item: for a Canal write until it is in the retransmit store (05 R138). -/
def State.owing (s : State) (p : Posted) : Bool := p.owed || !s.stored p.id

/-- Whether an engine command is complete, its Canal writes at local completion. -/
def State.cmdSettled (s : State) (k : Cmd) : Bool :=
  k.complete || (k.rows.isEmpty && k.faulted.isNone && k.ne * k.nr ≤ k.moved &&
    k.going.isEmpty && k.unacked.all fun i => s.posted.all fun p => p.id != i || !s.owing p)

/-- Every write of an ended task has been performed. -/
def State.taskWritten (s : State) (d rec : Nat) : Bool :=
  let c := s.recCore d rec
  (s.posted.all fun p => p.task != some (d, rec) || !s.owing p) &&
    ((s.core c).cmds.all fun k => k.task != some (d, rec) || s.cmdSettled k) &&
    (s.core c).flight.all fun l => l.seat != 8

/-- The successors of an ended task are decremented, and it is DONE; a pure task that missed begins its insertion. -/
def execTaskEndSuccessors (d record : Nat) (s : State) : Res :=
  event "TASK_END_SUCCESSORS" (s.recState d record == 5 && s.taskWritten d record)
    (((s.releaseSuccessors d record).settle d record false false).beginInsert d record)

end Sys2Proof.Machine
end

