-- ==== Sys2Proof/Machine/Snapshot.lean ====
section
/-! DEFINITION. Jobs and their snapshots (18 R453-R456, R523, R524), rollback (R457, R458, R525), and uncorrectable reads (R451). -/

namespace Sys2Proof.Machine

/-! ### Places of a job on this package -/

/-- Places of a snapshot: XC dies 0-15, the XI 16, the XM dies 17-20. -/
def snapPlaces : List Nat := List.range 21

/-- The station of a place. -/
def placeStation (p : Nat) : Nat := if p < 16 then stationOf p else if p = 16 then 0 else 5 * (p - 17) + 1

/-- Launch slots of a job. -/
def State.jobSlots (s : State) (j : Nat) : List Nat := (s.launches.map (·.1)).filter fun k => s.slotJob k == j

/-- Whether a job is registered. -/
def State.jobKnown (s : State) (j : Nat) : Bool := s.jobs.any fun x => x.1 == j

/-! ### Registration (18 R453) -/

/-- A registration; one whose id is in use, or whose context another job has, is refused and changes nothing. -/
def execJobRegister (job tenant ctx : Nat) (packages : List Nat) (s : State) : Res :=
  let free := !s.jobKnown job && s.jobs.all fun x => x.2.ctx != ctx
  event "JOB_REGISTER" (1 ≤ job && job < 1024 && tenant < 1024 && ctx < 4096)
    (if free then s.onJob job fun j => { j with tenant := tenant, ctx := ctx, packages := packages, committed := some (s.ctxEpoch 0 ctx) } else s)

/-- Markers of a job are forgotten. -/
def State.dropMarkers (s : State) (j : Nat) : State :=
  s.onCanal fun k => { k with recv := k.recv.map fun r => (r.1, { r.2 with markers := r.2.markers.filter fun m => m.1 != j }) }

/-- A job is deregistered after its last launch. -/
def execJobDeregister (job : Nat) (s : State) : Res :=
  event "JOB_DEREGISTER" (s.jobKnown job && (s.jobSlots job).isEmpty) ({ s with jobs := tdel s.jobs job } |>.dropMarkers job)

/-! ### Saving and arming (18 R454) -/

def execSnapshotRequestReceipt (d job : Nat) (s : State) : Res :=
  let j := s.job job
  event "SNAPSHOT_REQUEST_RECEIPT" (d < 21 && j.phase == .saving && !j.asked.contains d)
    (s.onJob job fun j => { j with asked := j.asked ++ [d], received := if d < 16 then tput j.received d (s.die d).cyc else j.received })

/-- Cores of a job on a die. -/
def State.jobCores (s : State) (job d : Nat) : List Nat :=
  sortAddrs ((s.jobSlots job).flatMap fun k => (s.slotCores k).filter fun c => dieOf c == d)

/-- Blocks of 64 KiB of a cistern or of the I/O cistern that carry a tenant's tag. -/
def State.tenantBlocks (s : State) (tenant : Nat) (h : Home) (n : Nat) : List (Nat × Nat) :=
  ((List.range n).filter fun i => s.tagOf h (65536 * i) == some tenant).map fun i => (h.at (65536 * i), 65536)

/-- Status objects and completion blocks of a job's launches: flat address and length (18 R524). -/
def State.statusRanges (s : State) (job : Nat) : List (Nat × Nat) :=
  (s.jobSlots job).flatMap fun k =>
    let w := s.launchDw k 13
    (if field w 56 32 = 0 then [] else [(Home.ioc.at (field w 56 32), 16)]) ++ [(Home.ioc.at (field w 24 0), 64)]

/-- The job's blocks of a cistern or of the I/O cistern at a place: its tenant's; where the tenant has other jobs, those that are this
job's. -/
def State.jobBlocks (s : State) (job p : Nat) (h : Home) (n : Nat) : List (Nat × Nat) :=
  let tenant := (s.job job).tenant
  let alone := s.jobs.all fun j => j.1 == job || j.2.tenant != tenant
  (s.tenantBlocks tenant h n).filter fun b => alone || Config.blockJob p (offsetOf b.1 / 65536) == job

/-- Memory of a job at a place. -/
def State.jobRanges (s : State) (job p : Nat) : List (Nat × Nat) :=
  if p < 16 then
    ((s.jobCores job p).flatMap fun c =>
      [((Home.spad c).at 0, (Home.spad c).size), ((Home.basin c).at 0, (Home.basin c).size), ((Home.drawer c).at 0, (Home.drawer c).size)]) ++
      s.jobBlocks job p (.cist p) 256
  else if p = 16 then s.jobBlocks job p .ioc 512
  else []

/-- Whether an address lies in one of the ranges. -/
def inRanges (l : List (Nat × Nat)) (a : Nat) : Bool := l.any fun r => r.1 ≤ a && a < r.1 + r.2

/-- Streams of a job, and the keys of its gate entries at a station. -/
def State.jobStreams (s : State) (job : Nat) : List Nat := (s.flume.streams.filter fun r => r.job == job).map (·.id)
def keyPlace (key : Nat) : Nat := placeOf (key / 2048)

/-- Gate entries of a job at a place, as the headgate last wrote them. -/
def State.jobGates (s : State) (job p : Nat) : Tab (BitVec 256) :=
  let ids := s.jobStreams job
  let keys := sortAddrs ((s.flume.gates ++ s.flume.gatesDue).map (·.1))
  ((keys.filter fun k => keyPlace k == p).map fun k => (k, s.gateCommitted k)).filter fun g => gateAct g.2 != 0 && ids.contains (gateStream g.2)

/-- Station counters that gate entries of a job bump or compare. -/
def gateCounters (gates : Tab (BitVec 256)) : List Nat :=
  sortAddrs (gates.flatMap fun g =>
    (if gateCen g.2 then [32 * (g.1 / 2048) + gateCnt g.2] else []) ++ (if gateArm g.2 then [32 * (g.1 / 2048) + gateAcnt g.2] else []))

/-- Task records of a job on a die. -/
def State.jobRecords (s : State) (job d : Nat) : List Nat :=
  (s.jobSlots job).flatMap fun k => ((s.launch k).tasks.filter fun t => t.1 == d).map (·.2)

/-- What the die saves of the job. -/
def State.savedOf (s : State) (job p : Nat) : Saved :=
  let ranges := s.jobRanges job p
  let apart := s.statusRanges job
  let gates := s.jobGates job p
  { epoch := (s.job job).epoch
    place := p
    ranges := ranges
    cells := s.mem.filter fun c => inRanges ranges c.1 && !inRanges apart c.1
    gates := gates
    counters := (gateCounters gates).map fun k => (k, tget 0 s.flume.counters k)
    records := if p < 16 then (s.jobRecords job p).map fun r => (r, s.load (s.recAt p r) 128) else []
    tasks := s.savedTasks.filter fun t => p < 16 && t.die == p && t.image.job == job
    launches := if p = 16 then (s.jobSlots job).map fun k => (k, s.launch k) else [] }

/-- Seats of a job: core and number. -/
def State.jobSeats (s : State) (job : Nat) : List (Nat × Nat) :=
  s.cores.flatMap fun k => (k.2.seats.filter fun q => q.2.st != .free && q.2.job == job).map fun q => (k.1, q.1)

/-- Packets of a job at the injection point that will take a pair SEQ as writes or requests do. -/
def State.jobInject (s : State) (job : Nat) : Bool :=
  s.canal.inject.any fun i => i.packet.job.toNat == job && (i.packet.type == 0 || i.packet.type == 2 || i.packet.type == 3)

/-- EPOCH of a context record (03 R60). -/
def State.setEpoch (s : State) (d ctx e : Nat) : State := s.performBytes none (placed (s.ctxAt d ctx + 8) (leBytes 8 e))

/-- The die arms: EPOCH := e, and its parity for the job is inverted (04 R108). -/
def State.armPlace (s : State) (job p : Nat) : State :=
  let j := s.job job
  let s := if p < 16 then s.setEpoch p j.ctx j.epoch else s
  let x := (placeStation p, job)
  let f := s.flume
  { s with flume := { f with parity := if f.parity.contains x then f.parity.filter (fun y => y != x) else f.parity ++ [x] } }

/-- Other packages of a job. -/
def State.jobPeers (s : State) (job : Nat) : List Nat := (s.job job).packages.filter fun q => q != s.package

/-- Markers to the other packages (05 R150). -/
def State.sendMarkers (s : State) (job : Nat) : State :=
  (s.jobPeers job).foldl (fun s q =>
    s.sendOrHold { s.packetTo 7 0 q 0 0 0 0 job 0 1 with
      opa := BitVec.ofNat 64 (s.job job).epoch, seq := BitVec.ofNat 40 (tget 0 s.canal.sendSeq q) } false) s

/-- Whether a die's stations have delivered nothing of a job that is still to be performed: it was delivered before the ARMING, and is to
stand in the copy (18 R455). -/
def State.deliveriesDone (s : State) (d job : Nat) : Bool :=
  (s.posted.all fun p => p.job != job || (match p.kind, p.agent with
    | .visit _ station _ _, _ => placeOf station != d
    | .write _ _, .station station => placeOf station != d
    | _, _ => true)) &&
  s.flume.flagsDue.all fun f => match f.flag with
    | some (c, _, _) => dieOf c != d
    | none => true

/-- The die has saved its part, and arms. -/
def execSnapshotSaved (d job : Nat) (s : State) : Res :=
  let j := s.job job
  let quiet := (s.jobSeats job).all (fun x => dieOf x.1 != d) && !s.jobInject job && s.deliveriesDone d job
  if !(d < 21 && j.phase == .saving && j.asked.contains d && !j.armed.contains d && quiet) then event "SNAPSHOT_SAVED" false s
  else
    let saved := s.savedOf job d
    let s := (s.armPlace job d).onJob job fun j => { j with saved := j.saved ++ [saved], armed := j.armed ++ [d] }
    .next (if snapPlaces.all (s.job job).armed.contains then
        (s.sendMarkers job).onJob job fun j => { j with phase := .arming }
      else s)

/-- Every die of every package has armed, and the markers have left (05 R150): the job's seats resume. -/
def execSnapshotResume (job : Nat) (s : State) : Res :=
  let tasks := s.savedTasks.filter fun t => t.image.job == job && t.why == some .snapshot && !s.queued t.die t.record
  let marked := s.canal.waiting.all fun p => p.1.type != 7 || p.1.job.toNat != job
  event "SNAPSHOT_RESUME" ((s.job job).phase == .arming && marked)
    (tasks.foldl (fun s t => s.queueTask t.die t.record false) (s.onJob job fun j => { j with phase := .running }))

/-! ### The sweep (18 R454, 03 R69, R71) -/

/-- Leaves below a table entry of `level + 1` with their virtual addresses. -/
def State.leavesFrom (s : State) (base : Nat) : Nat → Word → List (Nat × Leaf)
  | level, table =>
    (List.range 8192).flatMap fun i =>
      let va := base + i * 2 ^ (16 + 13 * level)
      let at_ := (entryHome table).at (entryFrame table * 65536 + i * 8)
      let e : Word := BitVec.ofNat 64 (s.loadKeyed (some (s.key 0).material) at_ 8)
      match entryFault level e with
      | some _ => []
      | none =>
        if bitOf e 1 then [(va, ⟨e, level, at_, 0⟩)]
        else
          match level with
          | 0 => []
          | n + 1 => s.leavesFrom va n e

/-- Every mapped leaf of a context on a die. -/
def State.leaves (s : State) (d ctx : Nat) : List (Nat × Leaf) :=
  match entryFault 3 (s.ctxRoot d ctx) with
  | some _ => []
  | none => (s.leavesFrom 0 2 (s.ctxRoot d ctx)).map fun x => (x.1, { x.2 with tenant := s.ctxTenant d ctx })

/-- A granule is copied if it is ARMED, and becomes SAVED with D clear. -/
def State.sweepOne (s : State) (d ctx va : Nat) (l : Leaf) : State :=
  let leaf := s.current l
  if s.armed d ctx va leaf then (s.copyGranule d ctx va leaf).markSaved d ctx va leaf false else s

/-- The sweep of a die's tables. -/
def State.sweep (s : State) (d ctx : Nat) : State :=
  (s.leaves d ctx).foldl (fun s x =>
    (List.range (if x.2.level = 1 then 8192 else 1)).foldl (fun s i => s.sweepOne d ctx (x.1 + 65536 * i) x.2) s) s

/-- Whether the channel log of every source is complete (18 R523), and no slot loaded before its die's ARMING is on its way. -/
def State.logsComplete (s : State) (job : Nat) : Bool :=
  ((s.jobPeers job).all fun q => match (s.recv q).markers.find? fun m => m.1 == job with
    | some m => decide (m.2 ≤ (s.recv q).low)
    | none => false) &&
  s.flume.slots.all fun h => !(h.2.state.isBusy && h.2.job.toNat == job && h.2.epar != s.parityOf 0 job)

def execSnapshotSweepComplete (job : Nat) (s : State) : Res :=
  let j := s.job job
  event "SNAPSHOT_SWEEP_COMPLETE" (j.phase == .running && !j.abandoned && s.logsComplete job)
    (((List.range 16).foldl (fun s d => s.sweep d j.ctx) s).onJob job fun j => { j with phase := .committing })

/-! ### The manifest (18 R456) -/

/-- The 64 bytes of a packet's header, its hop-local counts zero (05 R123). -/
def headerBytes (p : Packet) : List Byte := headerFront p ++ leBytes 24 0

/-- A delivery with its header and payload. -/
def Delivery.bytes : Delivery → List Byte
  | .packet p => headerBytes p ++ (p.payload ++ List.replicate (64 * p.pfl.toNat - p.payload.length) 0)
  | .slot _ h => slotHeader h ++ leBytes 256 h.payload.toNat

/-- Copies that a manifest of the job names, by ascending virtual address: the newest of each granule, and its number. -/
def Job.newest (j : Job) : Tab (Nat × Copied) :=
  (List.range j.copies.length).foldl (fun t i => match j.copies[i]? with
    | some c => tput t c.va (i, c)
    | none => t) []

/-- One granule entry: the copy's offset is its number times 64 KiB (the model's). -/
def granuleEntry (x : Nat × Nat × Copied) : List Byte :=
  leBytes 8 (x.1 / 65536 * 65536 + x.2.2.key % 4096) ++ leBytes 8 x.2.2.epoch ++ leBytes 8 (x.2.1 * 65536) ++ leBytes 8 0 ++ sha256 x.2.2.bytes

/-- Channel records of an epoch, by receiving die, then in the order performed. -/
def Job.records (j : Job) (e : Nat) : List ChannelRecord :=
  snapPlaces.flatMap fun d => j.channel.filter fun r => r.epoch == e && r.die == d

/-- The manifest of the job's epoch. -/
def Job.manifestBytes (j : Job) (signature : List Byte) : List Byte :=
  let entries := j.newest.flatMap granuleEntry
  let log := (j.records j.epoch).flatMap fun r => r.msg.bytes
  let front := leBytes 4 0x464E4D58 ++ leBytes 4 1 ++ leBytes 8 j.epoch ++ leBytes 8 j.newest.length ++ leBytes 8 (j.records j.epoch).length
  front ++ sha256 (front ++ entries ++ log) ++ entries ++ log ++ signature

/-- The manifest is written and signed, and the status object is released (15 R396). -/
def execManifestCommit (job : Nat) (signature : List Byte) (s : State) : Res :=
  let j := s.job job
  event "MANIFEST_COMMIT" (j.phase == .committing)
    (((s.onJob job fun j => { j with
        manifest := j.manifestBytes signature, committed := some j.epoch, phase := .idle, asked := [], armed := []
        saved := j.saved.filter fun x => x.epoch == j.epoch }).dropMarkers job).releaseAt (Home.ioc.at j.status) none)

/-! ### Rollback (18 R457, R458, R525) -/

/-- The task of a seat of a job is discarded with all that its seat has in flight. -/
def State.discardSeat (s : State) (c n : Nat) : State :=
  (s.onCore c fun k => { k with flight := k.flight.filter fun l => l.seat != n }).freeSeat c n

/-- Whether the side cores of a core run a program of a job's: of a launch of its that covers the core, and of no other's. -/
def State.jobProgram (s : State) (job c : Nat) (programs : Nat × Nat) : Bool :=
  let runs (k : Nat) : Bool := (s.launch k).programs == programs && (s.slotCores k).contains c
  programs != (0, 0) && (s.jobSlots job).any runs && (s.launches.map (·.1)).all fun k => s.slotJob k == job || !runs k

/-- Step 1: seats, engine commands, chunks of streams in flight, and side-core programs. -/
def State.stopJob (s : State) (job : Nat) : State :=
  let running := s
  let s := (s.jobSeats job).foldl (fun s x => s.discardSeat x.1 x.2) s
  { s with
    cores := s.cores.map fun q =>
      let k := q.2
      let gone := (k.cmds.filter fun x => x.job == job).map (·.id)
      let mine := running.jobProgram job q.1 k.programs
      (q.1, { k with
        cmds := k.cmds.filter fun x => x.job != job
        rows := k.rows.filter fun r => match r.2 with
          | .pending id => !gone.contains id
          | .faulted id _ => !gone.contains id
          | .ready => true
        loader := if mine then .reset else k.loader
        storer := if mine then .reset else k.storer })
    savedTasks := s.savedTasks.filter fun t => t.image.job != job
    flume := { s.flume with slots := s.flume.slots.map fun h =>
      (h.1, if h.2.state.isBusy && h.2.owned && h.2.job.toNat == job then h.2.emptied else h.2) } }

/-- Step 2: nothing of the job is on its way; what awaits an acknowledgement leaves the retransmit store. -/
def State.jobSettled (s : State) (job : Nat) : Bool :=
  (s.posted.all fun p => p.job != job) && !(s.canal.inject.any fun i => i.packet.job.toNat == job) &&
    (s.canal.recv.all fun r => r.2.entries.all fun e => e.packet.job.toNat != job || e.state == .performed) &&
    (s.canal.links.all fun l => l.2.buffer.all fun p => p.job.toNat != job) && (s.canal.waiting.all fun p => p.1.job.toNat != job) &&
    (s.flume.queues.all fun q => q.2.all fun m => m.job != job) &&
    s.flume.slots.all fun h => !(h.2.state.isBusy && !h.2.owned && h.2.job.toNat == job)

/-- Where the page of a leaf begins, and its 64 KiB blocks. -/
def Leaf.page (l : Leaf) : Nat × Nat := ((entryHome l.entry).at (entryFrame l.entry * 65536), if l.level = 1 then 8192 else 1)

/-- What every die's tables give for every granule of a list, as far as they map it. -/
def State.leavesOf (s : State) (ctx : Nat) (xs : List Copied) : List (Leaf × Copied) :=
  (List.range 16).flatMap fun d => xs.filterMap fun x => match s.walk d ctx x.va with
    | .ok l => some (l, x)
    | .error _ => none

/-- Whether a 64 KiB block, by its number, lies in a page. -/
def pageHas (p : Nat × Nat) (block : Nat) : Bool := p.1 / 65536 ≤ block && block < p.1 / 65536 + p.2

/-- Pages of the granules that hold a poisoned one (R525). -/
def State.lostPages (s : State) (ctx : Nat) (xs : List Copied) : List (Nat × Nat) :=
  (((s.leavesOf ctx xs).map fun x => x.1.page).filter fun p => s.poison.any fun g => pageHas p (g / 1024)).eraseDups

/-- Every granule of a lost page has a copy that agrees with HASH of its manifest entry. -/
def State.lostSound (s : State) (j : Job) : Bool :=
  let all := j.newest
  let xs := all.map fun x => x.2.2
  let lost := s.lostPages j.ctx xs
  let mine := (s.leavesOf j.ctx xs).filter fun x => lost.contains x.1.page
  mine.all fun x => (j.manifest.drop (96 + 64 * (all.findIdx fun y => y.1 == x.2.va))).take 32 == sha256 x.2.bytes

/-- The page at a fresh frame, a die of HBM and FRAME, of the KIND of an old one. -/
def freshPage (old : Nat × Nat) (f : Nat × Nat) : Nat × Nat :=
  ((match homeOf old.1 with
    | .hbm _ => Home.hbm f.1
    | h => h).at (f.2 * 65536), old.2)

/-- Whether a frame is fresh: aligned, installed, whole, not retired, and no page of the job's. -/
def State.isFresh (s : State) (ctx : Nat) (xs : List Copied) (old f : Nat × Nat) : Bool :=
  let p := freshPage old f
  f.1 < 16 && f.2 % p.2 == 0 && (f.2 + p.2) * 65536 ≤ (homeOf old.1).size && !(s.poison.any fun g => pageHas p (g / 1024)) &&
    !(s.retired.any (pageHas p)) && (s.leavesOf ctx xs).all fun x => !pageHas p ((s.through x.1 x.2.va).flat / 65536)

/-- A lost page goes to a fresh frame: its leaves name it, its granules come from their copies, the old frame is retired, and no
translation of it stays cached (R525). -/
def State.remapPage (s : State) (ctx : Nat) (xs : List Copied) (old f : Nat × Nat) : State :=
  let mine := (s.leavesOf ctx xs).filter fun x => x.1.page == old
  let homes := (mine.map fun x => x.1.home).eraseDups
  let s := homes.foldl (fun s h => s.onEntry h fun w => putField (putField w 63 32 f.2) 15 12 f.1) s
  let s := (s.leavesOf ctx xs).foldl (fun s x =>
    if x.1.page == freshPage old f then
      let m := s.through x.1 x.2.va
      s.performBytes m.material (placed m.flat x.2.bytes)
    else s) s
  let blocks (p : Nat × Nat) : List Nat := (List.range p.2).map (p.1 / 65536 + ·)
  let s := s.dropDigests (blocks old ++ blocks (freshPage old f))
  mine.foldl (fun s x => s.dropTlb fun t => t.covers ctx x.2.va) { s with retired := s.retired ++ blocks old }

/-- Every lost page goes to the fresh frame chosen for it; none if a choice is missing or is not fresh. -/
def State.remapPages (s : State) (ctx : Nat) (xs : List Copied) : List (Nat × Nat) → List (Nat × Nat) → Option State
  | [], _ => some s
  | _ :: _, [] => none
  | p :: ps, f :: fs => if s.isFresh ctx xs p f then (s.remapPage ctx xs p f).remapPages ctx xs ps fs else none

/-- Step 3 for one granule: written back if D = 1 or ESTAMP = e + 1 mod 16 on some die's tables. -/
def State.writeBack (s : State) (d ctx e : Nat) (x : Copied) : State :=
  match s.walk d ctx x.va with
  | .error _ => s
  | .ok l =>
    let m := s.through l x.va
    let (stamp, dirty) := if l.level = 1 then
        (match s.mapEntry d ctx x.va with
          | .ok (b, _) => (b / 16, b / 8 % 2 == 1)
          | .error _ => (16, false))
      else (entryStamp l.entry, bitOf l.entry 7)
    if entrySnap l.entry ≠ 0 ∧ (dirty ∨ stamp = (e + 1) % 16) then
      let s := if bitOf l.entry 5 then s.dropDigests [m.flat / 65536] else s
      (s.performBytes m.material (placed m.flat x.bytes)).markSaved d ctx x.va l false
    else s

/-- Step 4: the memories, gate entries and counters of a place. -/
def State.restorePlace (s : State) (job : Nat) (x : Saved) : State :=
  let apart := s.statusRanges job
  let gone (a : Nat) : Bool := inRanges x.ranges a && !inRanges apart a
  let old := (s.mem.filter fun c => gone c.1).map fun c => (c.1, blank)
  let s := s.performBytes none (old ++ x.cells.filter fun c => gone c.1)
  let s := x.gates.foldl (fun s g => s.writeGate g.1 g.2) s
  { s with flume := { s.flume with counters := x.counters.foldl (fun t k => tset 0 t k.1 k.2) s.flume.counters } }

/-- Step 5: a channel record is performed directly, a gate entry's as the entry's next delivery. -/
def State.reinject (s : State) (r : ChannelRecord) : State :=
  let s := match r.msg with
    | .packet p =>
      if p.type = 3 then
        (match s.atomicRequest p with
          | .ok (_, t) => t
          | .error _ => s)
      else if p.type ≠ 2 then s
      else
        (match s.targetOf p .write with
          | .error _ => s
          | .ok l => (l.foldl (fun (acc : State × Nat) x =>
              (acc.1.performBytes x.material (placed x.flat ((p.payload.drop acc.2).take x.len)), acc.2 + x.len)) (s, 0)).1)
    | .slot station h =>
      let kind := h.stream.toNat / 256
      if !h.owned && kind == 3 then
        (match dieOfStation station with
          | some d => s.decrement d (h.tgt.toNat % 65536) (h.payload.toNat % 2 ^ 64) (s.recTenant d (h.tgt.toNat % 65536)) 10
          | none => s)
      else if !h.owned && kind == 4 then
        (match targetAt station h.tgt with
          | some a => (s.atomicAt (atomicOfPayload h.payload.toNat) a).2
          | none => s)
      else s.performBytes (s.streamMaterial h.key.toNat) r.bytes
  let s := match r.gate with
    | some key => s.writeGate key (gateAdvance (s.gateCommitted key))
    | none => s
  let s := match r.flag with
    | some (c, n, f) => s.setFlag c n f false
    | none => s
  match r.counter with
  | some k => { s with flume := { s.flume with bumps := s.flume.bumps ++ [k] } }
  | none => s

/-- A seat as rollback brings it back (R458). -/
def State.rolledSeat (s : State) (t : SavedTask) : SavedTask :=
  let st := { t.image with tstat := setBit t.image.tstat tstatRB true }
  let st := if bitOf (s.recDw t.die t.record 0) 21 then
      { st with pc := BitVec.ofNat 55 (field (s.recDw t.die t.record 2) 54 0), drained := some ⟨[], .zero, false, none⟩, pend := none, pendFrom := none, pendRtt := false }
    else st
  { t with image := st }

/-- Step 6: records and launches of the epoch; tasks made since do not exist. -/
def State.restoreRecords (s : State) (job : Nat) (saved : List Saved) : State :=
  let launches := saved.flatMap (·.launches)
  let s := ((s.jobSlots job).filter fun k => (s.launch k).starting.isNone).foldl (fun s k =>
    let now := s.launch k
    let gone := match launches.find? fun x => x.1 == k && x.2.lid == now.lid with
      | some x => now.tasks.filter fun t => !x.2.tasks.contains t
      | none => now.tasks
    let s := now.tasks.foldl (fun s t => s.onCore (s.recCore t.1 t.2) fun c => { c with fifos := c.fifos.map fun q => (q.1, q.2.filter fun r => !(q.1 % 64 == k && r == t.2)) }) s
    let s := gone.foldl (fun s t => s.setRecState t.1 t.2 0) s
    match launches.find? fun x => x.1 == k && x.2.lid == now.lid with
    | some x => s.onLaunch k fun _ => x.2
    | none => s.onLaunch k fun l => { l with tasks := [], saves := [], total := 0, done := 0, failed := 0, hits := 0, diesLeft := if s.slotSpawns k then [] else s.slotDies k }) s
  let live := (s.jobSlots job).flatMap fun k => (s.launch k).tasks
  saved.foldl (fun s x => x.records.foldl (fun s r =>
    if !live.contains (x.place, r.1) then s
    else
      let s := { s.performBytes none (placed (s.recAt x.place r.1) r.2) with taskKeys := s.taskKeys.filter fun k => !(k.1 == x.place && k.2.1 == r.1) }
      if s.recState x.place r.1 = 2 ∧ !s.recPure x.place r.1 then s.queueTask x.place r.1 false else s) s) s

/-- A job without a committed manifest ends: every task of its launches that has not ended fails. -/
def State.endJob (s : State) (job : Nat) : State :=
  let s := (s.jobSeats job).foldl (fun s x => s.failTask x.1 x.2 (causeWord false 24 0) 0) s
  let s := { s with savedTasks := s.savedTasks.filter fun t => t.image.job != job }
  (s.jobSlots job).foldl (fun s k =>
    let s := s.onLaunch k fun l => { l with diesLeft := [] }
    (s.launch k).tasks.foldl (fun s t =>
      let st := s.recState t.1 t.2
      if st = 1 ∨ st = 2 ∨ st = 4 then
        let s := s.logAt t.1 13 0 (causeInfo (causeWord false 24 0)) 0 (s.slotTenant k) (s.recCoord t.1 t.2)
        let s := s.onCore (s.recCore t.1 t.2) fun c => { c with fifos := c.fifos.map fun q => (q.1, q.2.filter fun r => !(q.1 % 64 == k && r == t.2)) }
        s.settle t.1 t.2 true false
      else s) s) s

/-- A job as it was when epoch `e` committed. -/
def Job.upTo (j : Job) (e : Nat) : Job :=
  { j with
    copies := j.copies.filter fun c => c.epoch ≤ e
    channel := j.channel.filter fun r => r.epoch ≤ e
    saved := j.saved.filter fun x => x.epoch == e
    phase := .idle, epoch := e, asked := [], armed := [], abandoned := false }

/-- Steps 1 and 2: the job is stopped, its units of the retransmit store are free, and each lost page is at its fresh frame. -/
def State.remapped (s : State) (job e : Nat) (frames : List (Nat × Nat)) : Option State :=
  let j := (s.job job).upTo e
  let xs := j.newest.map fun x => x.2.2
  let s := (s.stopJob job).onCanal fun k => { k with store := k.store.filter fun x => x.packet.job.toNat != job }
  s.remapPages j.ctx xs (s.lostPages j.ctx xs) frames

/-- Steps 3 to 6. -/
def State.rolledBack (s : State) (job e : Nat) (dies : List Nat) : State :=
  let j := (s.job job).upTo e
  let s := (List.range 16).foldl (fun s d => s.setEpoch d j.ctx e) s
  let s := (List.range 16).foldl (fun s d => j.newest.foldl (fun s x => s.writeBack d j.ctx e x.2.2) s) s
  let s := j.saved.foldl (fun s x => s.restorePlace job x) s
  let s := s.restoreRecords job j.saved
  let s := (j.records e).foldl State.reinject s
  let tasks := (j.saved.flatMap (·.tasks)).filter fun t => s.recState t.die t.record == 4
  let s := { s with savedTasks := s.savedTasks ++ tasks.map s.rolledSeat }
  let s := (tasks.filter fun t => t.why == some .snapshot || t.why == some .priority).foldl (fun s t => s.queueTask t.die t.record false) s
  let s := (s.onJob job fun _ => j).dropMarkers job
  dies.foldl (fun s d => s.logAt d 16 0 (e % 2 ^ 32) job j.tenant 0) s

/-- The rollback of a job to the epoch of its committed manifest. Whether the signature verifies, and the fresh frames of lost pages (a
die of HBM and FRAME each), come with the event; a signature or a copy that fails ends the job. -/
def execRollback (job : Nat) (verified : Bool) (frames : List (Nat × Nat)) (s : State) : Res :=
  let j := s.job job
  match j.committed with
  | none => event "ROLLBACK" false s
  | some e =>
    if job = 0 || j.manifest.isEmpty || !s.jobSettled job then event "ROLLBACK" false s
    else if !verified then .next (s.endJob job)
    else
      match s.remapped job e frames with
      | none => event "ROLLBACK" false s
      | some u =>
        if s.lostSound (j.upTo e) then .next (u.rolledBack job e (sortAddrs ((s.jobSlots job).flatMap s.slotDies))) else .next (u.endJob job)

/-! ### Uncorrectable reads (18 R451) -/

/-- An event of a memory, in the log of its die or in the management log, with its syndrome. -/
def State.logMemory (s : State) (cls addr : Nat) : State :=
  let info := (Config.syndrome s.nextPost).toNat
  let s := { s with nextPost := s.nextPost + 1 }
  match homeOf addr with
  | .spad c => s.logAt (dieOf c) cls 4 info (offsetOf addr) 0 0
  | .basin c => s.logAt (dieOf c) cls 4 info (offsetOf addr) 0 0
  | .drawer c => s.logAt (dieOf c) cls 6 info (offsetOf addr) 0 0
  | .cist d => s.logAt d cls 4 info (offsetOf addr) 0 0
  | .hbm d => s.logAt d cls 4 info (offsetOf addr) 0 0
  | .instr c _ => s.logAt (dieOf c) cls 9 info (offsetOf addr) 0 0
  | .data c _ => s.logAt (dieOf c) cls 9 info (offsetOf addr) 0 0
  | _ => s.logMgmt cls 8 info (offsetOf addr) 0

/-- The place in its log of the next event of a memory. -/
def State.memoryLogPlace (s : State) (addr : Nat) : Nat :=
  match homeOf addr with
  | .spad c => (s.die (dieOf c)).log.place
  | .basin c => (s.die (dieOf c)).log.place
  | .drawer c => (s.die (dieOf c)).log.place
  | .cist d => (s.die d).log.place
  | .hbm d => (s.die d).log.place
  | .instr c _ => (s.die (dieOf c)).log.place
  | .data c _ => (s.die (dieOf c)).log.place
  | _ => s.mgmtLog.place

/-- The core whose SRAM an address is in. -/
def sramCore (addr : Nat) : Option Nat :=
  match homeOf addr with
  | .spad c => some c
  | .basin c => some c
  | .drawer c => some c
  | .instr c _ => some c
  | .data c _ => some c
  | _ => none

/-- The job of a seat or of an engine command. -/
def State.readerJob (s : State) (reader : Option (Nat × Nat × Nat)) : Nat :=
  match reader with
  | none => 0
  | some (c, n, k) => if n < 8 then (s.seatAt c n).job else (match s.cmd c k with
    | some x => x.job
    | none => 0)

/-- Code 24 at the reader: a value on its way, an engine command, or the bundle of the running seat. -/
def State.readerFaults (s : State) (c n k : Nat) (tval : Word) : State :=
  if 8 ≤ n then s.onCmd c k fun x => { x with faulted := some tval, faultCause := 24 }
  else
    match s.awayAt c k with
    | some (_, t) => (s.dropRequests t).loseTrip c t.id 24 tval
    | none => if (s.core c).running = some n then s.trapHere c n 24 tval 0 else s.onSeat c n fun st => { st with held := some (24, tval, 0) }

/-- A 64 KiB block of a cistern or of the I/O cistern is retired. -/
def State.retireBlock (s : State) (block : Nat) : State := if s.retired.contains block then s else { s with retired := s.retired ++ [block] }

/-- An uncorrectable read is read once more: it succeeds (`again`), or the fault is lasting. For a reader of a core above 1,023, which is
none, and a success, it was the ECC that corrected the read. -/
def execUncorrectableRead (addr : Nat) (again : Bool) (reader : Option (Nat × Nat × Nat)) (s : State) : Res :=
  let known := match reader with
    | none => true
    | some (c, n, k) => if 1024 ≤ c then again else if n < 8 then (s.seatAt c n).st != .free else (s.cmd c k).isSome
  let corrected := reader.any fun r => 1024 ≤ r.1
  if offsetOf addr ≥ (homeOf addr).size || !known then event "UNCORRECTABLE_READ" false s
  else if again then event "UNCORRECTABLE_READ" (!s.poisoned [addr]) (s.logMemory (if corrected then 1 else 2) addr)
  else
    let s1 := s.logMemory 3 addr
    let s1 := if encrypted addr && !s1.poisoned [addr] then { s1 with poison := s1.poison ++ [addr / 64] } else s1
    let s1 := match homeOf addr with
      | .cist _ => s1.retireBlock (addr / 65536)
      | .ioc => s1.retireBlock (addr / 65536)
      | _ => s1
    let s1 := match sramCore addr with
      | some c => s1.onCore c fun k => { k with mapOut := true }
      | none => s1
    let j := s.readerJob reader
    let s1 := match reader with
      | none => s1
      | some (c, n, k) => s1.readerFaults c n k (BitVec.ofNat 64 (s.memoryLogPlace addr))
    if j = 0 then .next s1
    else if s.manifested j then
      .next (if (s.job j).phase == .idle || (s.job j).phase == .committing then s1 else s1.onJob j fun x => { x with abandoned := true })
    else .next (s1.endJob j)

/-! ### A failed hop of the Flume (18 R451) -/

/-- Every job of the package ends, and the package is reported failed on every port. -/
def State.stopJobs (s : State) : State :=
  let s := (s.jobs.map (·.1)).foldl State.endJob s
  let s := (List.range 4).foldl (fun s p => s.replyHost p .packageFailed) s
  { s with jobs := s.jobs.map fun j => (j.1, { j.2 with abandoned := true }) }

/-- A Flume hop fails: its link layer's retry succeeds (`again`), or the failure is lasting and the Flume stops. -/
def execFlumeHopFailure (station : Nat) (again : Bool) (s : State) : Res :=
  event "FLUME_HOP_FAILURE" (station < 21 && !s.flume.stopped)
    (if again then s.logStation 4 station 0 0
     else (({ s with flume := { s.flume with stopped := true } } : State).logStation 3 station 0 0).stopJobs)

end Sys2Proof.Machine
end

