-- ==== Sys2Proof/Machine/Host.lean ====
section
/-! DEFINITION. The host side: inbound writes, reads and atomics (19 R459-R465; 06 R179; 17 R425), management registers, and keys
(03 R77-R81; 19 R469). -/

namespace Sys2Proof.Machine

/-! ### What an access reaches (19 R462-R466) -/

/-- TENANT, CTXID, WBASE and TDIS of a die function (19 R464). -/
def State.dfTenant (s : State) (d : Nat) : Nat := field (s.die d).dfctl 63 54
def State.dfCtx (s : State) (d : Nat) : Nat := field (s.die d).dfctl 53 42
def State.dfBase (s : State) (d : Nat) : Nat := field (s.die d).dfctl 41 3 * 65536
def State.tdis (s : State) (d : Nat) : Nat := field (s.die d).dfctl 2 1

/-- Whether a die's function takes a request: present on the port, its TDI not in ERROR, and in RUN only from its own stream. -/
def State.dieTakes (s : State) (a : HostAccess) (d : Nat) : Bool :=
  field s.hostSide.applied (2 * d + 1) (2 * d) == a.port.val && s.tdis d != 3 && !bitOf (s.die d).dfctl 0 &&
    (s.tdis d != 2 || a.ide.map (·.val) == some d)

/-- What an access through function 0 reaches: nothing, everything, or what is a tenant's (19 R465). -/
inductive Reach where
  | nothing
  | everything
  | tenant (t : Nat)
deriving DecidableEq, Repr

/-- The entry of a port's requester table for a Requester ID. -/
def State.requester (s : State) (port rid : Nat) : Option Nat :=
  (List.range 64).findSome? fun i =>
    let w := tget (0 : Word) s.hostSide.rqt (port * 64 + i)
    if bitOf w 63 && field w 15 0 == rid then some (field w 41 32) else none

def State.reachOf (s : State) (a : HostAccess) : Reach :=
  let other : Reach :=
    if field (tget (0 : Word) s.hostSide.mreq a.port.val) 15 0 = a.rid.toNat then .everything
    else match s.requester a.port.val a.rid.toNat with
      | some t => .tenant t
      | none => .nothing
  match a.ide with
  | some d => if s.tdis d.val = 2 then .tenant (s.dfTenant d.val) else other
  | none => other

/-- Whether an access may touch every block of a range of the I/O cistern. -/
def State.reachesBlocks (s : State) (r : Reach) (off len : Nat) : Bool :=
  match r with
  | .nothing => false
  | .everything => true
  | .tenant t => (List.range ((off + len - 1) / 65536 + 1 - off / 65536)).all fun i => s.tagOf .ioc (65536 * (off / 65536 + i)) == some t

/-- Whether an access may touch the page of a queue. -/
def State.reachesQueue (s : State) (r : Reach) (q : Nat) : Bool :=
  match r with
  | .nothing => false
  | .everything => true
  | .tenant t => field (s.queueDw q 3) 58 49 == t

/-- Queue and page offset of an offset of function 0's BAR0. -/
def queuePage (off : Nat) : Option (Nat × Nat) :=
  if 0x100000 ≤ off ∧ off < 0x140000 then some ((off - 0x100000) / 4096, off % 4096) else none

/-- Where a byte of a die's BAR2 lies (19 R463); none reads all ones. -/
def bar2Byte (d off : Nat) : Option Nat :=
  if off < 128 * 2 ^ 20 then some ((Home.spad (d * 64 + off / 2 ^ 21)).at (off % 2 ^ 21))
  else if off < 160 * 2 ^ 20 then
    let o := off - 128 * 2 ^ 20
    some ((Home.basin (d * 64 + o / 2 ^ 19)).at (o % 2 ^ 19))
  else none

/-- Addresses of `n` bytes of a die's BAR2. -/
def bar2Bytes (d off n : Nat) : List (Option Nat) := (List.range n).map fun i => bar2Byte d (off + i)

/-- Whether the tenant of a die's function owns every core that a range of BAR2 touches. -/
def State.reachesCores (s : State) (d off n : Nat) : Bool :=
  s.dfTenant d != 0 && (bar2Bytes d off n).all fun a => match a with
    | some a => !s.refusedAt 1024 (s.dfTenant d) [a]
    | none => true

/-- A page piece of a die's translated window: flat address, length, material, leaf and virtual address. -/
abbrev WindowPart := Nat × Nat × Option (BitVec 512) × Leaf × Nat

/-- A range of BAR4 translated (19 R463); none where it is refused, meets host memory, or faults, a write
also in reading the granule map (03 R71). -/
def State.windowParts (s : State) (d off n : Nat) (want : Want) : Option (List WindowPart) :=
  let ctx := s.dfCtx d
  if s.dfTenant d = 0 ∨ s.ctxTenant d ctx ≠ s.dfTenant d then none
  else
    (pagesOf (s.dfBase d + off) n).foldr (fun p acc =>
      match s.mapOn d ctx false want (p.1 % 2 ^ 55), acc with
      | .ok m, some l =>
          if entryKind m.leaf.entry = 2 ∨ (want = .write ∧ (s.mapFault d ctx (p.1 % 2 ^ 55) m.leaf).isSome) then none
          else some ((m.flat, p.2, m.material, m.leaf, p.1 % 2 ^ 55) :: l)
      | _, _ => none) (some [])

/-! ### The ordering point (06 R179) -/

/-- The route of a home. -/
def routeOf (a : Nat) : Nat := match homeOf a with
  | .ioc => 0
  | .tier2 => 1
  | .hbm d => 32 + d
  | .spad c => 64 + dieOf c
  | .basin c => 64 + dieOf c
  | _ => 2

/-- Route of an item of the ordering point, on its way to a die (05 R135) or not. -/
def PostKind.route (k : PostKind) : Nat := match k with
  | .write bs _ => (bs.head?.map fun b => routeOf b.1).getD 0
  | .message m => ((targetAt m.dest m.tgt).map routeOf).getD 0
  | .visit _ _ _ v => (v.addrs.head?.map routeOf).getD 0
  | _ => 0

/-- Whether an item of the ordering point is a write, no read or atomic at its die. -/
def PostKind.inbound (k : PostKind) : Bool :=
  match k with
  | .visit _ _ _ (.read _ _ _ _) | .visit _ _ _ (.act _ _) => false
  | _ => true

/-- Writes of a port that are not yet acknowledged, and those of one route. -/
def State.unacked (s : State) (port : Nat) : List Nat := (s.posted.filter fun p => p.agent == .host port && p.kind.inbound).map (·.id)
def State.unackedOn (s : State) (port route : Nat) : List Nat :=
  (s.posted.filter fun p => p.agent == .host port && p.kind.inbound && p.kind.route == route).map (·.id)

/-- An inbound write enters the ordering point behind earlier writes of its port on its route. -/
def State.enterWrite (s : State) (port tenant die ctx : Nat) (bs : List (Nat × Byte)) (m : Option (BitVec 512)) (leaf : Option Leaf)
    (va : Option Nat) : State :=
  let after := s.unackedOn port ((bs.head?.map fun b => routeOf b.1).getD 0)
  s.post { Posted.of (.host port) die tenant ctx 0 3 with kind := .write bs m, after := after, leaf := leaf, va := va }

/-- A write into the flag-class window waits for every earlier write of its port. -/
def State.enterFlagClass (s : State) (port : Nat) (bs : List (Nat × Byte)) : State :=
  s.post { Posted.of (.host port) 0 0 0 0 3 with kind := .flagClass bs, after := s.unacked port }

/-- Whether a block of the I/O cistern is a flag-class window (19 R465). -/
def State.flagClassAt (s : State) (off : Nat) : Bool := s.hostSide.classes.getLsbD (off / 65536)

/-- A refused write is dropped and logged (18 R452 CLASS 9). -/
def State.refuseHost (s : State) (a : HostAccess) : State :=
  if a.fn.val = 0 then s.logMgmt 9 8 1 a.rid.toNat 0
  else s.logAt (a.fn.val - 1) 9 8 1 a.rid.toNat (s.dfTenant (a.fn.val - 1)) 0

/-- A write of TAIL enters behind earlier writes of its port into the I/O cistern (17 R425). -/
def State.enterTail (s : State) (port q : Nat) (value : Word) : State :=
  let before := s.unackedOn port 0
  if before.isEmpty then s.writeTail q value
  else s.post { Posted.of (.host port) 0 0 0 0 3 with kind := .tail q value, after := before }

/-- A write into a queue's page: what it brings of TAIL (17 R425), with zeros for the bytes of TAIL that it lacks; the rest of the page is
read-only to the host. -/
def State.enterQueuePage (s : State) (port q o : Nat) (data : List Byte) : State :=
  let part (i : Nat) : Option Byte := if o ≤ 16 + i then data[16 + i - o]? else none
  if (List.range 8).all fun i => (part i).isNone then s
  else s.enterTail port q (BitVec.ofNat 64 (leNat ((List.range 8).map fun i => (part i).getD 0)))

/-- An inbound write (06 R179, 19 R463-R466). Writes of BAR4 and whole ones of TAIL have events of their own. In function 0's BAR0 the host
writes the queue pages and the doorbell page; other registers are not the host's, and drop its writes. -/
def execHostPostedWrite (a : HostAccess) (data : List Byte) (s : State) : Res :=
  let n := data.length
  let fits := 1 ≤ n && n ≤ 512
  let port := a.port.val
  if a.fn.val = 0 then
    if a.bar = 0 then
      match queuePage a.off with
      | some (q, o) =>
        event "HOST_POSTED_WRITE" (fits && !(o == 16 && n == 8) && o + n ≤ 4096)
          (if s.reachesQueue (s.reachOf a) q then s.enterQueuePage port q o data else s.refuseHost a)
      | none =>
        let bs := (placed (doorbell + (a.off - 0x200000)) data).filter fun b => b.1 < doorbell + 8
        event "HOST_POSTED_WRITE" (fits && a.off + n ≤ 2 ^ 24)
          (if s.reachOf a = .nothing then s.refuseHost a
           else if a.off < 0x200000 ∨ 0x201000 ≤ a.off then s
           else if s.reachOf a ≠ .everything then s.refuseHost a
           else if bs.isEmpty then s
           else s.enterWrite port 0 0 0 bs none none none)
    else if a.bar = 2 then
      let bs := placed (Home.ioc.at a.off) data
      event "HOST_POSTED_WRITE" (fits && a.off + n ≤ Home.ioc.size)
        (if !s.reachesBlocks (s.reachOf a) a.off n then s.refuseHost a
         else if s.flagClassAt a.off then s.enterFlagClass port bs
         else s.enterWrite port 0 0 0 bs none none none)
    else event "HOST_POSTED_WRITE" false s
  else
    let d := a.fn.val - 1
    if a.bar = 0 then event "HOST_POSTED_WRITE" (fits && a.off + n ≤ 65536) s
    else if a.bar = 2 then
      let bs := (placed 0 data).filterMap fun b => (bar2Byte d (a.off + b.1)).map fun x => (x, b.2)
      event "HOST_POSTED_WRITE" (fits && a.off + n ≤ 256 * 2 ^ 20)
        (if !s.dieTakes a d then s
         else if !s.reachesCores d a.off n then s.refuseHost a
         else if bs.isEmpty then s
         else s.enterWrite port (s.dfTenant d) d 0 bs none none none)
    else event "HOST_POSTED_WRITE" false s

/-- The first held flag-class write of a port is performed, as a release at .sys. -/
def execFlagClassWritePerform (port : Nat) (s : State) : Res :=
  match s.posted.find? fun p => p.agent == .host port && (match p.kind with
      | .flagClass _ => true
      | _ => false) with
  | none => event "FLAG_CLASS_WRITE_PERFORM" false s
  | some p =>
    match p.kind with
    | .flagClass bs => event "FLAG_CLASS_WRITE_PERFORM" (s.performed p.after) ((s.unpost p.id).writeBytes none bs)
    | _ => event "FLAG_CLASS_WRITE_PERFORM" false s

/-! ### Reads (19 R463) -/

/-- Management registers of function 0's BAR0, in the order of their numbers. -/
def hostRegisters : List MgmtReg :=
  (List.range 4).map .xmwin ++ [.fabctl, .rrctl, .hsalt, .rwdog, .fmap] ++ (List.range 8).map .windowClass ++ (List.range 4).map .mreq ++
    (List.range 256).map (fun i => .rqt (i / 64) i) ++ (List.range 1024).map .tctx ++
    (List.range 31).map .trims

/-- Where a table of a die stands in its cistern. -/
def Die.tableBase (x : Die) : DieTable → Nat
  | .contexts => x.ctxBase
  | .tasks => x.taskBase
  | .reuse => x.reuseBase
  | .quotas => x.quotaBase
def Die.setTableBase (x : Die) (t : DieTable) (a : Nat) : Die :=
  match t with
  | .contexts => { x with ctxBase := a }
  | .tasks => { x with taskBase := a }
  | .reuse => { x with reuseBase := a }
  | .quotas => { x with quotaBase := a }

/-- What a management register holds. -/
def State.register (s : State) : MgmtReg → Word
  | .fabctl => s.canal.fabctl
  | .rrctl => s.canal.rrctl
  | .hsalt => s.canal.hsalt
  | .rwdog => s.canal.rwdog
  | .tctx t => tget 0 s.canal.tctx (t % 1024)
  | .best n => BitVec.ofNat 64 (s.bestOf n)
  | .slctl d => (s.die (d % 16)).slctl
  | .fmap => s.hostSide.fmap
  | .dfctl d => (s.die (d % 16)).dfctl
  | .windowClass i => BitVec.ofNat 64 (s.hostSide.classes.toNat / 2 ^ (64 * (i % 8)))
  | .mreq p => tget 0 s.hostSide.mreq (p % 4)
  | .rqt p e => tget 0 s.hostSide.rqt (p % 4 * 64 + e % 64)
  | .xmwin m => s.xmwin (m % 4)
  | .treeNode c t => (tget (0 : BitVec 23) (s.core (c % 1024)).router.nodes (t % 32)).setWidth 64
  | .blockTag (some d) b => BitVec.ofNat 64 (tget 0 (s.die (d % 16)).tags (b % 256))
  | .blockTag none b => BitVec.ofNat 64 (tget 0 s.iocTags (b % 512))
  | .tableBase d t => BitVec.ofNat 64 ((s.die (d % 16)).tableBase t)
  | .trims p => (tget (0 : BitVec 32) s.canal.trims (p % 31)).setWidth 64

/-- The register of function 0's BAR0 that a byte belongs to, by its number, PCAP after the others, and its offset. -/
def registerAt (off : Nat) : Option (Nat × Nat) :=
  (List.range (hostRegisters.length + 1)).findSome? fun i =>
    let p := Config.registerPlace i
    if p ≤ off ∧ off < p + 8 then some (i, p) else none

/-- Byte `j` of a register of function 0's BAR0; of PCAP, the draw and the temperature are what is measured (19 R474). -/
def State.registerBits (s : State) (stamp off i j : Nat) : Byte :=
  match hostRegisters[i]? with
  | some r => BitVec.ofNat 8 ((s.register r).toNat / 256 ^ j)
  | none => if j < 4 then BitVec.ofNat 8 (field s.hostSide.pcap 15 0 / 256 ^ j) else Config.registerByte stamp off

/-- A byte that function 0's BAR0 gives: a queue page's DW0 to DW2, zero in its rest, or a byte of a management register. -/
def State.bar0Byte (s : State) (stamp off : Nat) : Byte :=
  match queuePage off with
  | some (q, o) => if o < 24 then s.byte (Home.ioc.at (queueOff q + o)) else 0
  | none =>
    if 0x200000 ≤ off ∧ off < 0x201000 then 0
    else match registerAt off with
      | some (i, p) => s.registerBits stamp off i (off - p)
      | none => Config.registerByte stamp off

/-- A byte of a die function's BAR0: DFCTL, and registers without a stated place. -/
def State.dieByte (s : State) (stamp d off : Nat) : Byte :=
  if off < 8 then BitVec.ofNat 8 ((s.die d).dfctl.toNat / 256 ^ off) else Config.registerByte stamp off

/-- What a byte of a host's read comes from: a value of its own, or an address under key material and a key id. -/
abbrev ReadByte := (Byte ⊕ Nat) × Option (BitVec 512) × Nat

/-- A byte of a memory that is read without translation. -/
def plainByte (a : Nat) : ReadByte := (.inr a, none, 0)

/-- A read, or an atomic, of a host begins (06 R154, R179). -/
def State.startRead (s : State) (port tenant : Nat) (left : List ReadByte) (atomic : Option Atomic) : State :=
  { s with nextPost := s.nextPost + 1, hostSide := { s.hostSide with
      reads := s.hostSide.reads ++ [⟨port, s.nextPost, tenant, left, [], none, atomic⟩] } }

/-- A host's read ends with what it has taken. -/
def State.endRead (s : State) (r : HostRead) : State :=
  let got := match r.atomic with
    | some x => r.got.take x.size
    | none => r.got
  ({ s with hostSide := { s.hostSide with reads := s.hostSide.reads.filter fun x => x.id != r.id } } : State).replyHost r.port (.data got)

/-- The next part of a host's read: bytes that are none of a memory's; of a die, a message of the XI for the next run (04 R110); else the
next unit of its home (06 R154). An atomic goes the same ways. Data that cannot be corrected end it with Unsupported Request. -/
def State.readOn (s : State) (r : HostRead) : State :=
  match r.asked, r.left with
  | some _, _ => s
  | none, [] => s.endRead r
  | none, (.inl b, _) :: rest => s.onHostRead r.id fun x => { x with left := rest, got := x.got ++ [b] }
  | none, (.inr a, m, key) :: _ =>
    let run := ((r.left.take 256).zipIdx.takeWhile fun c => c.1 == (Sum.inr (a + c.2), m, key)).map fun c => a + c.2
    if s.poisoned run then s.endHostRead r
    else if (homeDie a).isSome then
      if 256 ≤ s.xiTags.length then s
      else
        let tag := freeTag s.xiTags
        let s := match r.atomic with
          | none => s.xiAsk 1 tag a 2 (BitVec.ofNat 2048 run.length) key 0
          | some x => s.xiAsk 4 tag a 19 (atomicPayload x x.op.code) 0 0
        s.onHostRead r.id fun x => { x with asked := some (tag, a) }
    else
      match r.atomic with
      | some x =>
        let (old, s) := s.atomicAt x a
        s.endRead { r with got := leBytes 8 old }
      | none =>
        let part := run.takeWhile fun x => x / unitOf x == a / unitOf a
        s.onHostRead r.id fun x => { x with left := x.left.drop part.length, got := x.got ++ part.map fun b => s.byteKeyed m b }

/-- The XI's own part of a Canal cycle: the hosts' reads go on. -/
def State.hostTick (s : State) : State := s.hostSide.reads.foldl State.readOn s

/-- The class of a BAR in a function: 6 stands for its configuration space. -/
def configurationBar : Nat := 6

/-- A byte of function 0's BAR0 as a read takes it: a queue page's DW0 to DW2 from the I/O cistern, the rest at once. -/
def State.bar0Read (s : State) (stamp off : Nat) : ReadByte :=
  match queuePage off with
  | some (q, o) => if o < 24 then plainByte (Home.ioc.at (queueOff q + o)) else (.inl 0, none, 0)
  | none => (.inl (s.bar0Byte stamp off), none, 0)

/-- An inbound read, once every earlier write of its port is acknowledged. A read that reaches nothing completes with Unsupported Request
(19 R465); the configuration space of a function that the port does not present reads all ones (R462). -/
def execHostRead (a : HostAccess) (len : Nat) (s : State) : Res :=
  let port := a.port.val
  let ok := 1 ≤ len && len ≤ 4096 && (s.unacked port).isEmpty
  let stamp := s.nextPost
  let no := s.replyHost port .unsupported
  let upTo (f : Nat → ReadByte) : List ReadByte := (List.range len).map fun i => f (a.off + i)
  let own (f : Nat → Byte) : List ReadByte := upTo fun o => (.inl (f o), none, 0)
  let d := a.fn.val - 1
  if a.bar = configurationBar then
    let here := a.fn.val == 0 || field s.hostSide.applied (2 * d + 1) (2 * d) == port
    event "HOST_READ" (ok && a.off + len ≤ 4096)
      (s.startRead port 0 (own fun o => if here then Config.registerByte stamp (a.fn.val * 4096 + o) else 0xFF) none)
  else if a.fn.val = 0 then
    if a.bar = 0 then
      let mine := s.reachOf a != .nothing && match queuePage a.off with
        | some (q, _) => s.reachesQueue (s.reachOf a) q && a.off / 4096 == (a.off + len - 1) / 4096
        | none => true
      event "HOST_READ" (ok && a.off + len ≤ 2 ^ 24) (if mine then s.startRead port 0 (upTo (s.bar0Read stamp)) none else no)
    else if a.bar = 2 then
      event "HOST_READ" (ok && a.off + len ≤ Home.ioc.size)
        (if s.reachesBlocks (s.reachOf a) a.off len then s.startRead port 0 (upTo fun o => plainByte (Home.ioc.at o)) none else no)
    else event "HOST_READ" false s
  else if a.bar = 0 then
    event "HOST_READ" (ok && a.off + len ≤ 65536) (if s.dieTakes a d then s.startRead port 0 (own (s.dieByte stamp d)) none else no)
  else if a.bar = 2 then
    event "HOST_READ" (ok && a.off + len ≤ 256 * 2 ^ 20)
      (if s.dieTakes a d && s.reachesCores d a.off len then
        s.startRead port (s.dfTenant d) ((bar2Bytes d a.off len).map fun x => match x with
          | some x => plainByte x
          | none => (.inl 0xFF, none, 0)) none
       else no)
  else event "HOST_READ" false s

/-! ### Atomics (19 R459, R463) -/

/-- A host's atomic as one of the machine's. -/
def hostAtomic (op : HostAtomicOp) (wide : Bool) (value compare : Word) : Atomic :=
  let op : AtomicOp := match op with
    | .fetchAdd => .add
    | .swap => .xch
    | .cas => .cas
  ⟨op, if wide then 8 else 4, 7, value, compare⟩

/-- Where a host atomic may act. -/
def State.atomicPlace (s : State) (a : HostAccess) (size : Nat) : Option Nat :=
  if a.off % size ≠ 0 then none
  else if a.fn.val = 0 then
    if a.bar = 2 ∧ a.off + size ≤ Home.ioc.size ∧ s.reachesBlocks (s.reachOf a) a.off size then some (Home.ioc.at a.off) else none
  else
    let d := a.fn.val - 1
    if a.bar = 2 ∧ s.dieTakes a d ∧ s.reachesCores d a.off size then
      (match bar2Byte d a.off with
        | some x => (match homeOf x with
          | .basin _ => some x
          | _ => none)
        | none => none)
    else none

/-- An AtomicOp behind earlier writes of its port on its route; elsewhere Unsupported Request. -/
def execHostAtomic (a : HostAccess) (op : HostAtomicOp) (wide : Bool) (value compare : Word) (s : State) : Res :=
  let size := if wide then 8 else 4
  let queue := a.fn.val == 0 && a.bar == 0 && op == .fetchAdd && (match queuePage a.off with
    | some (q, o) => if o = 0 then some q else none
    | none => none) != none
  let owner : Nat := if a.fn.val = 0 then 0 else s.dfTenant (a.fn.val - 1)
  let place := if queue then (queuePage a.off).bind fun q => if s.reachesQueue (s.reachOf a) q.1 then some (Home.ioc.at (queueOff q.1)) else none
    else s.atomicPlace a size
  match place with
  | none => event "HOST_ATOMIC" (!(queue && wide)) (s.replyHost a.port.val .unsupported)
  | some x =>
    event "HOST_ATOMIC" (!(queue && wide) && (s.unackedOn a.port.val (routeOf x)).isEmpty)
      (s.startRead a.port.val owner ((List.range size).map fun i => plainByte (x + i)) (some (hostAtomic op wide value compare)))

/-- A FetchAdd on RESV of a queue's page (17 R425). -/
def execHostFetchaddResv (a : HostAccess) (amount : Word) (s : State) : Res :=
  match queuePage a.off with
  | none => event "HOST_FETCHADD_RESV" false s
  | some (q, o) =>
    let old := (s.queueDw q 0).toNat
    event "HOST_FETCHADD_RESV" (a.fn.val == 0 && a.bar == 0 && o == 0 && (s.unackedOn a.port.val 0).isEmpty)
      (if s.reachesQueue (s.reachOf a) q then
        (s.setQueueDw q 0 ((old + amount.toNat) % 2 ^ 64)).replyHost a.port.val (.data (leBytes 8 old))
       else s.replyHost a.port.val .unsupported)

/-- A write of the whole of TAIL of a queue's page. -/
def execQueueTailWrite (a : HostAccess) (value : Word) (s : State) : Res :=
  match queuePage a.off with
  | none => event "QUEUE_TAIL_WRITE" false s
  | some (q, o) =>
    event "QUEUE_TAIL_WRITE" (a.fn.val == 0 && a.bar == 0 && o == 16)
      (if s.reachesQueue (s.reachOf a) q then s.enterTail a.port.val q value else s.refuseHost a)

/-! ### The translated window (19 R463) -/

/-- A read or a write through a die's BAR4. -/
def execHostBar4Access (a : HostAccess) (len : Nat) (data : Option (List Byte)) (s : State) : Res :=
  let d := a.fn.val - 1
  let port := a.port.val
  let ok := a.fn.val != 0 && a.bar == 4 && a.off + len ≤ 64 * 2 ^ 30 && 1 ≤ len
  match data with
  | none =>
    let bytes (x : WindowPart) : List ReadByte := (List.range x.2.1).map fun i => (.inr (x.1 + i), x.2.2.1, entryKey x.2.2.2.1.entry)
    event "HOST_BAR4_ACCESS" (ok && len ≤ 4096 && (s.unacked port).isEmpty)
      (match s.dieTakes a d, s.windowParts d a.off len .read with
        | true, some l => s.startRead port (s.dfTenant d) (l.flatMap bytes) none
        | _, _ => s.replyHost port .unsupported)
  | some bytes =>
    event "HOST_BAR4_ACCESS" (ok && bytes.length == len && len ≤ 512)
      (if !s.dieTakes a d then s
       else match s.windowParts d a.off len .write with
        | none => s.refuseHost a
        | some l => (l.foldl (fun (acc : State × Nat) x =>
            (acc.1.enterWrite port (s.dfTenant d) d (s.dfCtx d) (placed x.1 ((bytes.drop acc.2).take x.2.1)) x.2.2.1 (some x.2.2.2.1)
              (some x.2.2.2.2), acc.2 + x.2.1)) (s, 0)).1)

/-! ### Keys (03 R77-R81; 19 R469) -/

/-- The record of the doorbell served next: its offset. -/
def State.keyRecord (s : State) : Option Nat := s.hostSide.doorbells.head?.map fun i => 0x080000 + i * 64

/-- Doubleword of a key request record. -/
def State.keyDw (s : State) (off i : Nat) : Word := BitVec.ofNat 64 (s.loadNat (Home.ioc.at (off + 8 * i)) 8)

/-- A request ends: its doorbell is served, and STATUS is written last. -/
def State.endRequest (s : State) (off status : Nat) : State :=
  { s with hostSide := { s.hostSide with doorbells := s.hostSide.doorbells.drop 1 } }.performBytes none
    (placed (Home.ioc.at (off + 8)) (leBytes 8 status))

/-- A request of an OP, when it is served. -/
def State.keyRequest (s : State) (name : String) (op : Nat) (act : Nat → Word → State × Nat) (ready : Nat → Bool) : Res :=
  match s.keyRecord with
  | none => event name false s
  | some off =>
    let w := s.keyDw off 0
    let id := field w 27 16
    if s.hostSide.doorbells.headD 0 ≥ 8128 || field w 7 0 ≠ op then event name false s
    else if id = 0 then .next (s.endRequest off 6)
    else if !ready id then event name false s
    else
      let (s, status) := act id w
      .next (s.endRequest off status)

/-- TDIs whose key list a LOAD of a tenant joins (19 R469). -/
def State.listsOf (s : State) (tenant : Nat) : List Nat := (List.range 16).filter fun d => tenant != 0 && s.tdis d == 0 && s.dfTenant d == tenant

/-- Session and sequence number of the wrapped key that a request names, 128 B of the I/O cistern (19 R470). -/
def State.wrapNumber (s : State) (blob : Nat) : Nat × Nat :=
  let bs := s.load (Home.ioc.at blob) 8
  (leNat (bs.take 4), leNat (bs.drop 4))

/-- The material that a wrapped key holds (19 R470): none where its session has ended, its number is not above those the session has
used, or the tag fails. -/
def State.wrapped (s : State) (blob : Nat) : Option (BitVec 512) :=
  let bs := s.load (Home.ioc.at blob) 128
  let (session, number) := s.wrapNumber blob
  let used := s.hostSide.wraps.any fun x => x.1 == session && decide (number ≤ x.2)
  match Config.wrapKey s.nextPost session with
  | none => none
  | some key =>
    if used then none
    else (gcmOpen key (bs.take 8 ++ List.replicate 4 0) (bs.take 8) ((bs.drop 8).take 64) ((bs.drop 72).take 16)).map fun t =>
      BitVec.ofNat 512 (leNat t)

/-- The number of a wrapped key is used (19 R470), and so is the request's. -/
def State.wrapUsed (s : State) (blob : Nat) : State :=
  let (session, number) := s.wrapNumber blob
  { s with hostSide := { s.hostSide with wraps := tput s.hostSide.wraps session number }, nextPost := s.nextPost + 1 }

/-- A wrapped key is loaded into a slot (03 R80): `material` is what the root of trust unwraps. -/
def execKeyLoad (material : Option (BitVec 512)) (s : State) : Res :=
  let blob := ((s.keyRecord.map fun off => s.keyDw off 2).getD 0).toNat
  s.keyRequest "KEY_LOAD" 1 (fun id w =>
    let tenant := field w 41 32
    let lists := s.listsOf tenant
    if (s.key id).valid then (s, 3)
    else if blob % 64 ≠ 0 ∨ Home.ioc.size < blob + 128 then (s, 6)
    else match material with
      | none => (s, 2)
      | some m =>
        let s := s.wrapUsed blob
        if lists.any fun d => (s.die d).keyList.length ≥ 64 then (s, 6)
        else
          let s := { s with keys := tput s.keys id ⟨true, tenant, m⟩ }
          (lists.foldl (fun s d => s.onDie d fun x => { x with keyList := x.keyList ++ [id] }) s, 1)) fun _ => material == s.wrapped blob

/-- Whether a posted item was translated with a key: a write, a message to HBM on its way, or one that has arrived. -/
def PostKind.uses (k : PostKind) (id : Nat) (m : BitVec 512) : Bool :=
  match k with
  | .write _ x => x == some m
  | .message x | .heldMessage _ x => x.tgt.toNat / 2 ^ 49 % 8 == 3 && x.key == id
  | .visit _ _ _ (.write _ x) => x == some m
  | .visit _ _ _ (.read _ _ x _) => x == some m
  | _ => false

/-- Whether a read message to HBM under a key is queued or in a slot (04 R110). -/
def State.readsUnder (s : State) (id : Nat) : Bool :=
  let hbm (tgt : BitVec 52) : Bool := tgt.toNat / 2 ^ 49 % 8 == 3
  (s.flume.queues.any fun q => q.2.any fun m => m.kind == 1 && hbm m.tgt && m.key == id) ||
  s.flume.slots.any fun x => !x.2.owned && x.2.state.isBusy && x.2.stream.toNat / 256 == 1 && hbm x.2.tgt && x.2.key.toNat == id

/-- Whether something translated with a key is still on its way: posted work, loads, stream reads, and pages that a drawer claim has
looked up. -/
def State.keyInUse (s : State) (id : Nat) : Bool :=
  let m := (s.key id).material
  let under (t : Tab (BitVec 512)) : Bool := t.any fun p => p.2 == m
  (s.posted.any fun p => p.kind.uses id m || p.leaf.any fun l => entryKey l.entry == id) || s.readsUnder id ||
  (s.hostSide.reads.any fun r => r.left.any fun b => b.2.1 == some m) ||
  s.cores.any fun k =>
    (k.2.landings.any fun l => match l.trip with
      | some t => under t.material
      | none => false) ||
    (k.2.seats.any fun q => q.2.stream.toList.any fun t => t.reads.any fun r => under r.material) ||
    k.2.cmds.any fun c => !c.complete && (c.ahead ++ c.aheadTo).any fun p => entryKey p.2.entry == id

/-- A key leaves: translations that use it, its material, and its place in key lists but those of locked or running TDIs, which cannot
change (19 R466). -/
def State.retireKey (s : State) (id : Nat) : State :=
  let s := s.dropTlb fun t => entryKey t.leaf.entry == id
  { s with keys := tput s.keys id .reset, dies := s.dies.map fun x =>
      (x.1, if field x.2.dfctl 2 1 = 1 ∨ field x.2.dfctl 2 1 = 2 then x.2 else { x.2 with keyList := x.2.keyList.filter fun k => k != id }) }

def execKeyRetire (s : State) : Res :=
  s.keyRequest "KEY_RETIRE" 2 (fun id w =>
    if !(s.key id).valid then (s, 5)
    else if (s.key id).tenant ≠ field w 41 32 then (s, 4)
    else (s.retireKey id, 1)) fun id => !(s.key id).valid || !s.keyInUse id

def execKeyQuery (s : State) : Res :=
  s.keyRequest "KEY_QUERY" 3 (fun id _ =>
    let k := s.key id
    let info := k.tenant * 2 + (if k.valid then 1 else 0)
    match s.keyRecord with
    | some off => (s.performBytes none (placed (Home.ioc.at (off + 24)) (leBytes 8 info)), 1)
    | none => (s, 1)) fun _ => true

/-- Another OP fails with status 6. -/
def execKeyBadRequest (s : State) : Res :=
  match s.keyRecord with
  | none => event "KEY_BAD_REQUEST" false s
  | some off =>
    let op := field (s.keyDw off 0) 7 0
    event "KEY_BAD_REQUEST" (s.hostSide.doorbells.headD 0 < 8128 && (op == 0 || 3 < op)) (s.endRequest off 6)

/-- An index that names no record is ignored and logged. -/
def execKeyDoorbellInvalid (s : State) : Res :=
  event "KEY_DOORBELL_INVALID" (8128 ≤ s.hostSide.doorbells.headD 0)
    ({ s with hostSide := { s.hostSide with doorbells := s.hostSide.doorbells.drop 1 } }.logMgmt 9 8 0 (s.hostSide.doorbells.headD 0) 0)

/-! ### Registers of the package (05 R134, R139, R146; 17 R440; 19 R462-R465, R474) -/

/-- A write of an allowance register. -/
def execWallowWrite (i : Nat) (value : Word) (s : State) : Res :=
  event "WALLOW_WRITE" (i < 16) (s.csrWrite 0 0 (32 + i) value)

/-- A write of the package cap. -/
def execPcapWrite (value : Word) (s : State) : Res :=
  event "PCAP_WRITE" true
    { s with hostSide := { s.hostSide with pcap := putField s.hostSide.pcap 15 0 (max 4000 (min 10000 (field value 15 0))) } }

/-- PCLS of the launch of highest priority that has READY or RESIDENT tasks, matrix-bound on a tie. -/
def State.packageClass (s : State) : Option Bool :=
  let live := (s.launches.map (·.1)).filter fun k => (s.launch k).tasks.any fun t => s.recState t.1 t.2 == 2 || s.recState t.1 t.2 == 3
  let top := live.foldl (fun m k => max m (field (s.launchDw k 2) 35 32)) 0
  let best := live.filter fun k => field (s.launchDw k 2) 35 32 == top
  if best.isEmpty then none else some (best.all fun k => bitOf (s.launchDw k 2) 58)

/-- Tchisudan writes the package power class into every die. -/
def execPowerClassChange (s : State) : Res :=
  match s.packageClass with
  | none => event "POWER_CLASS_CHANGE" false s
  | some c => .next ((List.range 16).foldl (fun s d => s.onDie d fun x => { x with memBound := c }) s)

/-- Bits of a register that a write stores. -/
def maskTo (v : Word) (fields : List (Nat × Nat)) : Word := fields.foldl (fun w f => putField w f.1 f.2 (field v f.1 f.2)) 0

/-- Whether windows of the second tier do not overlap (03 R64). -/
def State.windowsApart (s : State) : Bool :=
  (List.range 4).all fun i => (List.range 4).all fun j =>
    i == j || (s.xmWindow i).2 ≤ (s.xmWindow j).1 || (s.xmWindow j).2 ≤ (s.xmWindow i).1

/-- FMAP as written: entries of locked TDIs stay (19 R466). -/
def State.newFmap (s : State) (v : Word) : Word :=
  (List.range 16).foldl (fun w d =>
    if s.tdis d = 1 ∨ s.tdis d = 2 then w else putField w (2 * d + 1) (2 * d) (field v (2 * d + 1) (2 * d))) s.hostSide.fmap

/-- A register without an event of its own is written under its access codes (00 R7). -/
def State.writeRegister (s : State) (r : MgmtReg) (v : Word) : State :=
  let onHost (f : HostSide → HostSide) : State := { s with hostSide := f s.hostSide }
  match r with
  | .fabctl => s.onCanal fun k => { k with fabctl := putField (maskTo v [(31, 16)]) 12 0 (min 4096 (field v 12 0)) }
  | .rrctl => s.onCanal fun k =>
      let k := { k with rrctl := putField (putField (maskTo v [(47, 32)]) 31 16 (max 1 (field v 31 16))) 15 0 (max 1 (field v 15 0)) }
      { k with recv := k.recv.map fun r => (r.1, { r.2 with tokens := min r.2.tokens k.tokenDepth }) }
  | .hsalt => s.onCanal fun k => { k with hsalt := v }
  | .rwdog => s.onCanal fun k => { k with rwdog := maskTo v [(31, 0)] }
  | .tctx t => s.onCanal fun k => { k with tctx := tset 0 k.tctx (t % 1024) (maskTo v [(63, 63), (11, 0)]) }
  | .best n =>
    if (dieOfStation n).isSome ∨ 20 < n then s
    else { s with flume := { s.flume with bests := tput s.flume.bests n (max 1 (field v 3 0)) } }
  | .slctl d => s.onDie (d % 16) fun x => { x with slctl := BitVec.ofNat 64 (max 4096 (field v 31 0)) }
  | .fmap => onHost fun h => { h with fmap := s.newFmap v }
  | .dfctl d =>
    if s.tdis (d % 16) = 1 ∨ s.tdis (d % 16) = 2 then s
    else s.onDie (d % 16) fun x => { x with dfctl := putField x.dfctl 63 3 (field v 63 3) }
  | .windowClass i => onHost fun h =>
      let lo := 64 * (i % 8)
      { h with classes := BitVec.ofNat 512 (h.classes.toNat - h.classes.toNat / 2 ^ lo % 2 ^ 64 * 2 ^ lo + v.toNat * 2 ^ lo) }
  | .mreq p => onHost fun h => { h with mreq := tset 0 h.mreq (p % 4) (maskTo v [(15, 0)]) }
  | .rqt p e => onHost fun h => { h with rqt := tset 0 h.rqt (p % 4 * 64 + e % 64) (maskTo v [(63, 63), (41, 32), (15, 0)]) }
  | .xmwin m =>
    let t := onHost fun h => { h with xmwin := tput h.xmwin (m % 4) v }
    if s.hostSide.booted || !t.windowsApart then s else t
  | .treeNode c t => s.onCore (c % 1024) fun k => { k with router := { k.router with nodes := tset 0 k.router.nodes (t % 32) (v.setWidth 23) } }
  | .blockTag (some d) b => s.onDie (d % 16) fun x => { x with tags := tset 0 x.tags (b % 256) (field v 9 0) }
  | .blockTag none b => { s with iocTags := tset 0 s.iocTags (b % 512) (field v 9 0) }
  | .tableBase d t => s.onDie (d % 16) fun x => x.setTableBase t (field v 23 6 * 64)
  | .trims _ => s

def execManagementRegisterWrite (r : MgmtReg) (value : Word) (s : State) : Res :=
  event "MANAGEMENT_REGISTER_WRITE" true (s.writeRegister r value)

end Sys2Proof.Machine
end

