-- ==== Sys2Proof/Machine/Matrix.lean ====
section
/-! DEFINITION. The M slots (13 R334-R355): plane shifts, pushes, the remote operand stream, the cursor and the counter, drains, tile
status and raw moves. -/

namespace Sys2Proof.Machine

/-! ### Blocks and planes (13 R338, R339) -/

/-- Bytes of an element, and bits that a cell gives it. -/
def mSize : MFmt → Nat
  | .rx8 => 1 | .b16 => 2 | .fp16 => 2 | .fp32 => 4

/-- The floating-point format of a push. -/
def mFp : MFmt → FpFmt
  | .b16 => .b16 | .fp16 => .f16 | _ => .f32

/-- Block `kb` of a drawer row: 64 elements (13 R338). -/
def blockOf (fmt : MFmt) (kb : Nat) (r : Row) : List Nat :=
  let w := 8 * mSize fmt
  (List.range 64).map fun k => r.toNat / 2 ^ (w * (64 * kb + k)) % 2 ^ w

/-- A plane of the issuing seat by its physical number (13 R334). -/
def Seat.plane (st : Seat) (p : Bool) : Tab Row := if p then st.p1 else st.p0

/-- Cell (k, j) of a plane read in a format (13 R339). -/
def cell (fmt : MFmt) (p : Tab Row) (k j : Nat) : Nat := rowWord (tget 0 p k) j % 2 ^ (8 * mSize fmt)

/-- One column sum of a push (13 R343, 08 R219, R231, R232). -/
def columnSum (fmt : MFmt) (p : Tab Row) (a : List Nat) (j : Nat) : Nat :=
  let pairs := (List.range 64).map fun k => (a.getD k 0, cell fmt p k j)
  match fmt with
  | .rx8 => rx8Dot pairs
  | _ =>
    let f := mFp fmt
    pairs.foldl (fun s x => FpFmt.f32.round .rne ((FpFmt.f32.val s).add ((f.val x.1).mul (f.val x.2)))) 0

/-- The complete column sums of a push. -/
def columnSums (fmt : MFmt) (p : Tab Row) (a : List Nat) : Row := rowOfWords ((List.range 64).map (columnSum fmt p a))

/-! ### What M slots share -/

/-- A drawer row read by a beat (13 R336). -/
def State.beat (s : State) (drawer row : Nat) (act : Row → State → State) : State :=
  let key := drawer * 64 + row
  match tget RowState.ready s.me.rows key with
  | .ready => act (s.drawerRow s.cx.core key) s
  | .pending _ => s.stall (s.waitFor .drawer)
  | .faulted _ tval => s.raise 16 tval

/-- A cursor instruction: its row, and the advance, which lands after 1 counted cycle (13 R343). -/
def State.atCursor (s : State) (act : Nat → State → State) : State :=
  let st := s.seat
  act st.cursor (s.fly .m 1 (.cursor ((st.cursor + st.stride) % 2048)) none)

/-- Counted cycles for which a push occupies the grid (13 R344). -/
def occupancy : MFmt → Nat
  | .rx8 => 1 | .b16 => 4 | .fp16 => 4 | .fp32 => 16

/-- A push of 64 elements (13 R343, R344). -/
def State.push (s : State) (add : Bool) (fmt : MFmt) (a : List Nat) : State :=
  let k := s.me
  if k.idx < k.gridUntil then s.raise 17 (BitVec.ofNat 64 ((k.gridUntil - k.idx) % 256))
  else
    let st := s.seat
    let sums := columnSums fmt (st.plane st.act) a
    let s := s.onCore s.cx.core fun k => { k with gridUntil := k.idx + occupancy fmt }
    s.atCursor fun c s => s.fly .m 68 (.push c add fmt sums) none

/-! ### Planes (13 R341, R342) -/

def execMnop (_ : Mn) (s : State) : Res := .next s

/-- A shift of 64 elements into the plane that is shadow now. -/
def State.shiftIn (s : State) (xs : List Nat) : State := s.fly .m 4 (.shift (!s.seat.act) (rowOfWords xs)) none

def execMshb (f : Mblk) (s : State) : Res :=
  s.guarded f.g fun s => s.beat f.drawer.val f.row.val fun r s => s.shiftIn (blockOf f.fmt f.kb.val r)

def execMshr (f : Mshr) (s : State) : Res :=
  s.guarded f.g fun s =>
    let v := s.me.latches.v0
    s.shiftIn ((List.range 64).map fun k => laneGet 32 v ((if f.half then 64 else 0) + k) % 2 ^ (8 * mSize f.fmt))

def execMswp (f : Mn) (s : State) : Res := s.guarded f.g fun s => s.fly .m 1 .swap none

/-! ### Pushes from drawers (13 R343) -/

def execMpsa (f : Mblk) (s : State) : Res :=
  s.guarded f.g fun s => s.beat f.drawer.val f.row.val fun r s => s.push true f.fmt (blockOf f.fmt f.kb.val r)

def execMpss (f : Mblk) (s : State) : Res :=
  s.guarded f.g fun s => s.beat f.drawer.val f.row.val fun r s => s.push false f.fmt (blockOf f.fmt f.kb.val r)

/-! ### Pushes from the remote operand stream (13 R346) -/

/-- The stream an MPR slot goes on with, or begins, and the one it sets aside until it commits. -/
def State.streamFor (s : State) (e off : Nat) : Stream × Option Stream :=
  let st := s.seat
  let begun : Stream := ⟨e, st.entry e, 0, off, [], true, []⟩
  match st.stream with
  | some t =>
    if t.entry = e then ({ t with offset := off }, st.aside)
    else (begun, if t.fresh then st.aside else some { t with reads := [] })
  | none => (begun, st.aside)

/-- The SEQ of a Canal request of a list, 0 where none has one. -/
def State.seqOf (s : State) (nums : List Nat) : Nat :=
  (s.canal.requests.findSome? fun r => if nums.contains r.num then r.seq else none).getD 0

/-- The row of an MPR slot, checked, awaited, and pushed. A refusal of the row's own read is raised, then a time-out of it: of every read
that goes beyond the core's own memories (13 R346, 02 R49, R50). -/
def State.streamPush (s : State) (f : Mblk) (add : Bool) : State :=
  let (t, aside) := s.streamFor f.drawer.val f.row.val
  let row := f.row.val + t.count
  let w := { s.issuing with bad := lteSize t.bits != mSize f.fmt }
  match s.form w .load t.entry 0 t.bits [64 * f.kb.val, row, 0, 0] 64 with
  | .error x => s.raise x.cause x.tval
  | .ok fm =>
    match s.spots w .load fm (List.range 64) with
    | .error x => s.raise x.cause x.tval
    | .ok _ =>
      let key := 4 * row + f.kb.val
      let mine := t.reads.find? fun r => r.row == row && r.blocks.any fun b => b.1 == f.kb.val
      match mine.bind (·.lost) with
      | some (cause, tval) => s.raise cause tval
      | none =>
        match t.ahead.find? fun p => p.1 == key with
        | some p =>
          let ahead := t.ahead.filter fun q => q.1 / 4 != row
          let s := s.onMe fun st =>
            { st with stream := some { t with count := t.count + 1, ahead := ahead, fresh := false }, aside := none }
          (s.push add f.fmt (blockOf f.fmt 0 p.2)).busy
        | none =>
          let since := match s.myWait with
            | some v => v.since
            | none => s.cyc
          if !throughPort t.bits && since + (s.die (dieOf s.cx.core)).xto ≤ s.cyc then
            s.raise 36 (BitVec.ofNat 64 (s.seqOf ((mine.map (·.asked)).getD []) % 2 ^ 40 * 256))
          else (s.onMe fun st => { st with stream := some t, aside := aside }).stall (s.waitFor .stream)

def execMpra (f : Mblk) (s : State) : Res := s.guarded f.g fun s => s.streamPush f true
def execMprs (f : Mblk) (s : State) : Res := s.guarded f.g fun s => s.streamPush f false

/-- The blocks of row `row` of a stream that can be read: KB and the places of its elements. -/
def State.streamBlocks (s : State) (w : Issuing) (t : Stream) (row : Nat) : List (Nat × List Spot) :=
  (List.range (4 / lteSize t.bits)).filterMap fun kb =>
    match s.form w .load t.entry 0 t.bits [64 * kb, row, 0, 0] 64 with
    | .error _ => none
    | .ok fm =>
      match s.spots w .load fm (List.range 64) with
      | .error _ => none
      | .ok xs => some (kb, xs)

/-- The agent a seat's own reads are checked for, outside a slot; its stamp names the next selector read. -/
def State.issuingFor (s : State) (c n : Nat) : Issuing :=
  let st := s.seatAt c n
  ⟨c, n, st.tenant, st.ctx, st.sup, st.pure, c + 1024 * (2 ^ 96 + s.nextPost), false, false, false, false, false⟩

/-- The next row the stream asks for: from P on, in order, the first that lacks a block it could have and that no read is out for (13 R346).
The rows looked at pass all that are there or asked for, by as many as PFD.DEPTH. -/
def State.streamNext (s : State) (w : Issuing) (st : Seat) (t : Stream) : Option (Nat × List (Nat × List Spot)) :=
  ((List.range (field st.pfd 5 0 + t.ahead.length + t.reads.length)).map (t.offset + t.count + ·)).findSome? fun row =>
    let have_ (kb : Nat) : Bool := (t.ahead.any fun p => p.1 == 4 * row + kb) || t.reads.any fun r => r.row == row && r.blocks.any fun b => b.1 == kb
    let lack := (s.streamBlocks w t row).filter fun b => !have_ b.1
    if lack.isEmpty then none else some (row, lack)

/-- Requests of a read that have left and are not answered. -/
def StreamRead.out (r : StreamRead) : Nat := if r.lost.isSome then 0 else r.going.length + r.asked.length + r.tags.length
/-- Requests of a read that have not left. -/
def StreamRead.unsent (r : StreamRead) : Nat := if r.lost.isSome then 0 else r.todo.length

/-- Reads of a stream that are not for rows it has passed. -/
def Stream.live (t : Stream) : List StreamRead := t.reads.filter fun r => t.offset + t.count ≤ r.row

/-- A read of a row begins: its pages are looked up, its selector is read, and its requests, of at most 256 B each, wait to leave (05 R148, 03
R72-R74, 01 R531). 03 R74 does not rank the misses of these reads: the model ranks them 3, after the copy engine's. -/
def State.streamAsk (s : State) (c n row : Nat) (t : Stream) (lack : List (Nat × List Spot)) : State :=
  let st := s.seatAt c n
  let w := s.issuingFor c n
  let spots := lack.flatMap (·.2)
  let blocks := lack.map fun b => (b.1, spotBytes (lteSize t.bits) b.2)
  let direct := lteSpace t.bits != 7 && !overFlume c t.bits
  let (id, s) := (s.noteMisses w 3 spots).newTrip
  let item := { Posted.of (.seat c n) (dieOf c) st.tenant st.ctx st.job 4 with num := st.writes, task := some (dieOf c, st.record) }
  let (sel, s) := s.askSelector item c t.bits w.stamp
  let r : StreamRead :=
    ⟨row, id, blocks, spotKeys spots, direct, sel, runs 256 (blocks.flatMap (·.2)), [], [], [], [], none⟩
  s.onSeat c n fun st => { st with stream := st.stream.map fun t => { t with reads := t.reads ++ [r] } }

/-- Whether the next request of a read may leave: its selector is there, what is ordered before it has left, and there is a tag. -/
def State.streamMay (s : State) (c n : Nat) (t : Stream) (r : StreamRead) : Bool :=
  match r.todo with
  | [] => false
  | run :: _ =>
    r.lost.isNone && s.performed r.after &&
      (if lteSpace t.bits = 7 then (s.heldBefore c n r.id (s.readPacket c (s.seatAt c n).tenant 0 t.bits run)).isEmpty
       else r.direct || (s.mayJoin c n r.id ((List.range run.2).map (run.1 + ·)) && (s.tagsInUse (dieOf c)).length < 256))

/-- The next request of a read leaves. -/
def State.streamSend (s : State) (c n : Nat) (t : Stream) (r : StreamRead) : State :=
  match r.todo with
  | [] => s
  | run :: rest =>
    let st := s.seatAt c n
    let keep (s : State) (f : StreamRead → StreamRead) : State :=
      s.onStream c n (fun x => x.id == r.id) fun x => f { x with todo := rest }
    if r.direct then keep s fun x => { x with going := x.going ++ [run] }
    else if lteSpace t.bits = 7 then
      let (num, s) := s.askPeer c (ltePackage t.bits) (s.readPacket c st.tenant st.job t.bits run) (.stream n) run.1 run.2
      keep s fun x => { x with asked := x.asked ++ [num] }
    else
      let (s, tags) := s.askFlume c r.id st.job t.bits ((List.range run.2).map (run.1 + ·))
      keep s fun x => { x with tags := x.tags ++ tags }

/-- Bytes of the requests of a read that are read in their place, one unit next (06 R154). -/
def StreamRead.nextPart (r : StreamRead) : List Nat :=
  let going := r.lacks.filter fun a => r.going.any fun q => q.1 ≤ a && a < q.1 + q.2
  pickUnit (r.id * 2 ^ 24 + going.length) unitOf going

/-- The blocks of a read whose bytes are all there join those read ahead. -/
def Stream.finish (t : Stream) (id : Nat) : Stream :=
  let got (r : StreamRead) : Tab Byte := r.got.foldl (fun m p => tput m p.1 p.2) []
  match t.reads.find? fun r => r.id == id && r.lost.isNone && r.lacks.isEmpty with
  | none => t
  | some r =>
    { t with
      ahead := t.ahead ++ r.blocks.map fun b => (4 * r.row + b.1, rowOf (b.2.map fun a => tget 0 (got r) a))
      reads := t.reads.filter fun x => x.id != id }

/-- Whether a read of a stream can go on: a unit of it can be read in its place, or all its answers are there. -/
def State.streamHere (s : State) (c n : Nat) (r : StreamRead) : Bool :=
  let part := r.nextPart
  r.lost.isNone && (r.lacks.isEmpty || (!part.isEmpty && s.firstThere c n r.id part && !s.poisoned part && !s.cutOff c part))

/-- A read of a stream goes on: a unit arrives, its blocks are complete, or the target refuses it (01 R24, 03 R83). -/
def State.streamTake (s : State) (c n : Nat) (t : Stream) (r : StreamRead) : State :=
  let st := s.seatAt c n
  let part := r.nextPart
  if s.refusedAt (if namesCore t.bits then 1024 else c) st.tenant part then
    (s.logRefusalAt (part.headD 0) (c * 8 + n % 8) st.tenant).onStream c n (fun x => x.id == r.id) fun x =>
      { x with lost := some (refusalCause 1, refusalTval 1 0) }
  else
    let bytes := part.map fun a => (a, s.byteKeyed ((r.material.find? fun p => p.1 == a / 64).map (·.2)) a)
    let there (x : StreamRead) : StreamRead :=
      let x := { x with got := x.got ++ bytes }
      { x with going := x.going.filter fun q => x.lacks.any fun a => q.1 ≤ a && a < q.1 + q.2 }
    (s.onStream c n (fun x => x.id == r.id) there).onSeat c n fun st => { st with stream := st.stream.map (·.finish r.id) }

/-- The remote operand stream of a seat goes on: while fewer than PFD.DEPTH requests are out, the next request leaves, or the next row is
begun; else a read that can go on does (13 R346, 05 R148). -/
def execPrefetchReadArrival (c n : Nat) (s : State) : Res :=
  let st := s.seatAt c n
  let depth := field st.pfd 5 0
  match st.stream with
  | none => event "PREFETCH_READ_ARRIVAL" false s
  | some t =>
    let out := t.live.foldl (fun k r => k + r.out) 0
    let unsent := t.live.foldl (fun k r => k + r.unsent) 0
    match (if out < depth then t.reads.find? fun r => s.streamMay c n t r else none) with
    | some r => .next (s.streamSend c n t r)
    | none =>
      match (if out + unsent < depth then s.streamNext (s.issuingFor c n) st t else none) with
      | some (row, lack) => .next (s.streamAsk c n row t lack)
      | none =>
        match t.reads.find? fun r => s.streamHere c n r with
        | none => event "PREFETCH_READ_ARRIVAL" false s
        | some r => .next (s.streamTake c n t r)

/-! ### Basin control (13 R347-R349) -/

def execMbas (f : Mbas) (s : State) : Res :=
  s.guarded f.g fun s => s.fly .m 1 (.basinCtl f.cursor.val f.stride.val false) none
def execMbasKeep (f : Mbas) (s : State) : Res :=
  s.guarded f.g fun s => s.fly .m 1 (.basinCtl f.cursor.val f.stride.val true) none

/-- The same word in all 64 columns. -/
def wholeRow (w : Nat) : Row := rowOfWords (List.replicate 64 w)

def execMzro (f : Mn) (s : State) : Res :=
  s.guarded f.g fun s => s.atCursor fun c s => s.fly .m 68 (.arrayRow c 0) none

def execMpoi (f : Mpoi) (s : State) : Res :=
  s.privileged f.g fun s =>
    s.atCursor fun c s =>
      s.fly .m 68 (.arrayRow c (wholeRow (if f.fmt = .rx8 then 0x80000000 else 0x7FC00000))) none

def execMkst (f : Mkst) (s : State) : Res := s.guarded f.g fun s => s.fly .m 1 (.kstep f.val.val) none

def execMkrd (f : Mn) (s : State) : Res :=
  s.guarded f.g fun s => s.fly .m 2 .nothing (some ((s.seat.kstep.setWidth 64).setWidth 4096))

/-! ### Drains (13 R350, R352) -/

/-- The output format of a drain's code: 0 FP32, 1 FP16, 2 B16. -/
def drainFmt : Nat → FpFmt
  | 1 => .f16 | 2 => .b16 | _ => .f32

/-- One drained element and its status bits POI, INF, NAN (13 R350, R352). -/
def drainElem (src : DrainSrc) (f : FpFmt) (w sa sb : Nat) : Nat × BitVec 3 :=
  let (x, poi) := match src with
    | .k27 => k27Drain f w sa sb
    | .f32 => (f.round .rne (FpFmt.f32.val w), false)
  let v := f.val x
  (x, BitVec.ofNat 3 ((if poi then 4 else 0) + (if v.isInf then 2 else 0) + (if v.isNan then 1 else 0)))

/-- The 64 elements of a drain of row `c`, and the OR of their status. -/
def State.drain (s : State) (src : DrainSrc) (f : FpFmt) (c : Nat) : List Nat × BitVec 3 :=
  let st := s.seat
  let r := s.basinRow s.cx.core c
  let es := (List.range 64).map fun j =>
    drainElem src f (rowWord r j) (tget 0 st.sa (c % 64)).toNat (tget 0 st.sb j).toNat
  (es.map (·.1), es.foldl (fun b e => b ||| e.2) 0)

/-- A basin row drained at the cursor: its elements and their delivery, and the status, 4 counted cycles after the data. -/
def State.drained (s : State) (src : DrainSrc) (f : FpFmt) (deliver : List Nat → State → State) : State :=
  s.atCursor fun c s =>
    let (xs, bits) := s.drain src f c
    (deliver xs s).fly .m 16 (.tileOr (c / 128) bits) none

/-- Bytes of elements of `n` bytes each. -/
def elemBytes (n : Nat) (xs : List Nat) : List Byte := xs.flatMap (leBytes n)

/-- MDRD: 64 elements into a drawer row. -/
def execMdrd (f : Mdrd) (s : State) : Res :=
  s.guarded f.g fun s => s.drained f.src (drainFmt f.out.val) fun xs s =>
    s.fly .m 12 (.drawerBytes (f.drawer.val * 64 + f.row.val) (if f.half then 128 else 0)
      (elemBytes (if f.out.val = 0 then 4 else 2) xs)) none

/-- MDRV: 64 lanes of a V operand register. -/
def execMdrv (f : Mdrv) (s : State) : Res :=
  s.guarded f.g fun s => s.drained f.src (drainFmt f.out.val) fun xs s =>
    s.fly .v 12 (.vhalf (24 + f.o.val) f.half (rowOfWords xs)) (some 0)

/-- MDRB: one basin row, or two for C32; K27 words move unchanged and set no status. -/
def execMdrb (f : Mdrb) (s : State) : Res :=
  s.guarded f.g fun s =>
    let b := f.brow.val
    if f.out.val = 2 then
      s.atCursor fun c s => s.fly .m 12 (.basinRow b (s.basinRow s.cx.core c)) none
    else
      s.drained f.src .f32 fun xs s =>
        if f.out.val = 0 then s.fly .m 12 (.basinRow b (rowOfWords xs)) none
        else
          let pairs (l : List Nat) : Row := rowOfWords (l.flatMap fun x => [x, 0])
          (s.fly .m 12 (.basinRow b (pairs (xs.take 32))) none).fly .m 12 (.basinRow (b + 1) (pairs (xs.drop 32))) none

/-- MTSR: status cleared after 4 counted cycles. -/
def execMtsr (f : Mtsr) (s : State) : Res := s.guarded f.g fun s => s.fly .m 4 (.tileClear f.all f.n.val) none

/-! ### Raw moves and the drain fence (13 R353, R354) -/

/-- MBLD. The Waits column of 10 R269 is blank for it, and 13 R336, R353 and 07 R195 stall it on a PENDING row: the model stalls it. -/
def execMbld (f : Mrow) (s : State) : Res :=
  s.guarded f.g fun s => s.beat f.drawer.val f.row.val fun r s =>
    s.atCursor fun c s => s.fly .m 12 (.basinRow c r) none

def execMbst (f : Mrow) (s : State) : Res :=
  s.guarded f.g fun s => s.atCursor fun c s =>
    s.fly .m 12 (.drawerBytes (f.drawer.val * 64 + f.row.val) 0 (rowBytes (s.basinRow s.cx.core c))) none

/-- Operations that MSYN waits for. -/
def Effect.inArray : Effect → Bool
  | .push _ _ _ _ => true
  | .arrayRow _ _ => true
  | .basinRow _ _ => true
  | .drawerBytes _ _ _ => true
  | .vhalf _ _ _ => true
  | _ => false

/-- Operations that advance while MSYN stalls: those and the status of drains. -/
def Effect.advances (e : Effect) : Bool :=
  e.inArray || (match e with
    | .tileOr _ _ => true
    | _ => false)

/-- Whether the latest push in flight of a core is the seat's: the multiply grid is occupied by no later one (13 R344). -/
def Core.gridIs (k : Core) (n : Nat) : Bool :=
  let pushes := k.flight.filter fun l => match l.effect with
    | .push _ _ _ _ => true
    | _ => false
  let last := pushes.foldl (fun m l => max m l.ord) 0
  pushes.any fun l => l.ord == last && l.seat == n

/-- MSYN: every stage of the seat's operations, the multiply grid among them, advances once per core cycle of the stall. -/
def State.advanceArray (s : State) (c n : Nat) : State :=
  s.onCore c fun k => { k with
    gridUntil := if k.gridIs n then k.gridUntil - 1 else k.gridUntil
    flight := k.flight.map fun l => if l.seat = n ∧ l.effect.advances then { l with due := l.due - 1 } else l }

def execMsyn (f : Mn) (s : State) : Res :=
  s.guarded f.g fun s =>
    if s.me.flight.any fun l => l.seat == s.cx.seat && l.effect.inArray then s.stall (s.waitFor .array) else s

end Sys2Proof.Machine
end

