-- ==== Sys2Proof/Machine/Package.lean ====
section
/-! DEFINITION. The package as a whole: owners of cores and the scrub (03 R83-R85), die resets and interfaces (19 R466-R468; 04 R109),
measurements and boot (19 R471, R472), ports (R462), and power (17 R442; 19 R475). -/

namespace Sys2Proof.Machine

/-! ### Owners and the scrub (03 R83, R84) -/

/-- Bytes of memory removed where a test on the flat address holds: they read as blank. -/
def State.wipe (s : State) (gone : Nat → Bool) : State := { s with mem := s.mem.filter fun c => !gone c.1 }

/-- Whether a flat address lies in the memories of a core. -/
def inCore (c a : Nat) : Bool := match homeOf a with
  | .spad k => k == c
  | .basin k => k == c
  | .drawer k => k == c
  | .instr k _ => k == c
  | .data k _ => k == c
  | _ => false

/-- The scrub of a core, complete. -/
def State.scrub (s : State) (c : Nat) : State :=
  (s.wipe (inCore c)).onCore c fun k =>
    { k with seats := [], rows := [], latches := .zero, icache := [], fetching := none, tlb := [], loader := .reset, storer := .reset, dcnt := [],
             flight := [], lteDue := [], scrubbing := false }

def execScrubComplete (c : Nat) (s : State) : Res := event "SCRUB_COMPLETE" (s.core c).scrubbing (s.scrub c)

/-- The owner of a core in the tables of all dies. -/
def State.setOwner (s : State) (c : Nat) (o : Owner) : State :=
  (List.range 16).foldl (fun s d => s.onDie d fun x => { x with owners := tput x.owners c o }) s

/-- Whether every die holds TRANSIT for a core. -/
def State.inTransit (s : State) (c : Nat) : Bool := (List.range 16).all fun d => s.ownerOf d c == .transit

/-- Whether a best-effort message goes to a core's memory. -/
def messageTo (c station : Nat) (tgt : BitVec 52) : Bool := (targetAt station tgt).any (inCore c)

/-- Whether a packet goes to a core's memory and is not performed yet, in an input buffer or at this package's router. -/
def State.packetsTo (s : State) (c : Nat) : Bool :=
  let to_ (p : Packet) : Bool := p.dstPackage == s.package && p.dstCore == c && (p.sub == 0 || p.sub == 1) && (p.type == 0 || p.type == 2 || p.type == 3)
  (s.canal.links.any fun l => l.2.buffer.any to_) || s.canal.recv.any fun r => r.2.entries.any fun e => e.state.here && to_ e.packet

/-- Whether no seat of a core is resident, nothing of the core is in flight, and no request to or from it is on its way (03 R83). -/
def State.drainedCore (s : State) (c : Nat) : Bool :=
  let k := s.core c
  (List.range 8).all (fun i => (k.seat i).st == .free) && k.flight.isEmpty && k.landings.all (fun l => l.trip.isNone) &&
    k.cmds.all (fun x => x.complete) &&
    s.posted.all (fun p => !p.agent.ofCore c && !(p.kind.addrs.any (inCore c))) &&
    (s.cores.all fun q => (q.2.landings.all fun l => match l.trip with
      | some t => !(t.here && t.addrs.any (inCore c))
      | none => true) &&
      q.2.seats.all fun x => x.2.stream.toList.all fun t => t.reads.all fun r => !(r.direct && r.lacks.any (inCore c))) &&
    (s.flume.queues.all fun q => q.2.all fun m => !messageTo c m.dest m.tgt) &&
    (s.flume.slots.all fun h => h.2.owned || !h.2.state.isBusy ||
      (List.range 21).all fun st => !(h.2.dest.getLsbD st && messageTo c st h.2.tgt)) &&
    !s.packetsTo c && s.hostSide.reads.all fun r => r.left.all fun b => match b.1 with
      | .inr a => !inCore c a
      | .inl _ => true

/-- Supervisor software changes the owner of a core: TRANSIT on all dies; then, once the core is drained, the scrub starts and the new
owner is written. -/
def execCoreOwnerChange (c tenant : Nat) (s : State) : Res :=
  if !s.inTransit c then event "CORE_OWNER_CHANGE" (c < 1024 && tenant < 1024) (s.setOwner c .transit)
  else
    event "CORE_OWNER_CHANGE" (c < 1024 && tenant < 1024 && s.drainedCore c)
      ((s.onCore c fun k => { k with scrubbing := true }).setOwner c (.owned tenant))

/-! ### Die reset (19 R467, R468; 04 R109) -/

/-- Cores of a die. -/
def dieCores (d : Nat) : List Nat := (List.range 64).map (d * 64 + ·)

/-- Step 2: resident, saved and ready tasks of the die fail, and, with their launch's completion in view (R468), those that wait. -/
def State.failDie (s : State) (d : Nat) : State :=
  let seats := (dieCores d).flatMap fun c => ((List.range 8).filter fun n => (s.seatAt c n).st != .free).map fun n => (c, n)
  let s := seats.foldl (fun s x => s.failTask x.1 x.2 (0 : Word) 0) s
  let saved := s.savedTasks.filter fun t => t.die == d
  let s := saved.foldl (fun s t => s.failRecord d t.record) { s with savedTasks := s.savedTasks.filter fun t => t.die != d }
  let ready := (s.launches.flatMap fun k => k.2.tasks.filter fun t => t.1 == d).filter fun t => s.recState t.1 t.2 == 1 || s.recState t.1 t.2 == 2
  ready.foldl (fun s t => s.failRecord t.1 t.2) s

/-- Jobs with tasks on a die: a snapshot in progress is abandoned (R468). -/
def State.abandonJobs (s : State) (d : Nat) : State :=
  let on (j : Nat) : Bool := s.launches.any fun k => s.slotJob k.1 == j && k.2.tasks.any fun t => t.1 == d
  { s with jobs := s.jobs.map fun j => (j.1, if on j.1 && j.2.phase != .idle then { j.2 with abandoned := true } else j.2) }

/-- Streams with an entry at a station, with their origin there, or whose LOAD names it as a destination. -/
def State.streamsThrough (s : State) (station : Nat) : List Nat :=
  ((s.flume.gates ++ s.flume.gatesDue).filter fun g => (g.1 / 2048 == station && gateAct g.2 != 0) ||
    (g.1 / 2048 < 21 && gateAct g.2 == 1 && (gateDest g.2).testBit station)).map (fun g => gateStream g.2) ++
    (s.flume.streams.filter fun r => r.ring == 0 && r.origin == station).map (·.id)

/-- Step 3: the station enters bypass, and what it had queued is lost. -/
def State.bypassStation (s : State) (station : Nat) : State :=
  let ids := s.streamsThrough station
  let s := s.serrStreams (fun x => x < 21 && x != station) fun id => ids.contains id
  let f := s.flume
  let mine := (f.queues.filter fun q => q.1 / 16 == station).flatMap fun q => q.2.map (·.id)
  { s with
    flume := { f with
      bypass := if f.bypass.contains station then f.bypass else f.bypass ++ [station]
      refused := f.refused.filter (fun r => r.1 != station && r.2.1 != station)
      queues := f.queues.filter (fun q => q.1 / 16 != station), waits := f.waits.filter (fun q => q.1 / 16 != station)
      held := f.held.filter fun q => q / 16 != station }
    posted := s.posted.filter fun p => !mine.contains p.id }

/-- Whether an item comes from a die's agents, or would write memory that its reset clears. -/
def Posted.ofDie (p : Posted) (d : Nat) : Bool :=
  (match p.agent with
    | .seat c _ => dieOf c == d
    | .engine c => dieOf c == d
    | .side c _ => dieOf c == d
    | _ => false) && (match p.kind with
      | .packet _ _ _ => false
      | .message _ => false
      | .visit _ _ _ _ => false
      | _ => true) ||
  p.kind.addrs.any fun a => match homeOf a with
    | .spad c => dieOf c == d
    | .basin c => dieOf c == d
    | .cist k => k == d
    | _ => false

/-- Step 5: memories and state of the die. -/
def State.clearDie (s : State) (d : Nat) : State :=
  let old := s.die d
  let s := s.wipe fun a => match homeOf a with
    | .spad c => dieOf c == d
    | .basin c => dieOf c == d
    | .drawer c => dieOf c == d
    | .instr c _ => dieOf c == d
    | .data c _ => dieOf c == d
    | .cist k => k == d && tget 0 old.tags (offsetOf a / 65536) != 0
    | _ => false
  { s with
    cores := s.cores.map fun k => (k.1, if dieOf k.1 = d then { Core.reset with mapOut := k.2.mapOut } else k.2)
    posted := s.posted.filter fun p => !p.ofDie d
    mesh := s.mesh.filter fun m => dieOf m.core != d
    spawned := s.spawned.filter fun x => x.1 != d
    taskKeys := s.taskKeys.filter fun x => x.1 != d
    inserting := s.inserting.filter fun x => x.die != d
    hitting := s.hitting.filter fun x => x.1 != d
    dies := tput s.dies d { Die.reset with
      orient := old.orient, owners := old.owners, tags := old.tags, ctxBase := old.ctxBase, taskBase := old.taskBase, reuseBase := old.reuseBase
      quotaBase := old.quotaBase, log := old.log, memBound := old.memBound, throttled := old.throttled
      dfctl := putField old.dfctl 2 0 6, inReset := true } }

/-- Steps 1 to 3: RST, the TDI in ERROR, its tasks FAILED, its cores in TRANSIT, its station in bypass. -/
def State.startReset (s : State) (d : Nat) : State :=
  let s := s.onDie d fun x => { x with dfctl := putField x.dfctl 2 0 7, inReset := true }
  let s := (s.abandonJobs d).failDie d
  let s := (dieCores d).foldl (fun s c => s.setOwner c .transit) s
  s.bypassStation (stationOf d)

/-- Steps 4 to 6: the TDI is left in ERROR, and the die in bypass until it is re-admitted. -/
def State.endReset (s : State) (d : Nat) : State := ((s.die d).keyList.foldl State.retireKey s).clearDie d

/-- Whether the reset of a die can retire its keys (03 R81): what other dies have translated with them is over. -/
def State.keysIdle (s : State) (d : Nat) : Bool :=
  let rest := s.clearDie d
  (s.die d).keyList.all fun id => !rest.keyInUse id

/-- A reset that has begun goes on once its keys can be retired. -/
def State.resetTick (s : State) (d : Nat) : State := if bitOf (s.die d).dfctl 0 && s.keysIdle d then s.endReset d else s

/-- A function-level reset, or a lasting fault of the die's fabric: none while one is in progress. -/
def execDieReset (d : Nat) (s : State) : Res := event "DIE_RESET" (d < 16 && !bitOf (s.die d).dfctl 0) (s.startReset d)

/-- Tchisudan re-admits a die: its station leaves bypass, and credits towards it are whole. -/
def execDieReadmit (d : Nat) (s : State) : Res :=
  let st := stationOf d
  event "DIE_READMIT" (d < 16 && (s.die d).inReset && !bitOf (s.die d).dfctl 0)
    ({ s with flume := { s.flume with
        bypass := s.flume.bypass.filter fun x => x != st
        used := s.flume.used.filter fun u => u.1 % 32 != st && u.1 / 32 != st
        owed := s.flume.owed.filter fun u => u.1 % 32 != st && u.1 / 32 != st } }.onDie d fun x => { x with inReset := false })

/-! ### Interfaces and measurements (19 R466, R471) -/

/-- The port that presents a die's function. -/
def State.portOf (s : State) (d : Nat) : Nat := field s.hostSide.applied (2 * d + 1) (2 * d)
def State.setTdis (s : State) (d v : Nat) : State := s.onDie d fun x => { x with dfctl := putField x.dfctl 2 1 v }
/-- Digest of a measurement. -/
def State.measure (s : State) (i : Nat) : Nat := (tget (0 : BitVec 256) s.hostSide.measured i).toNat
def State.measures (s : State) : List Nat := (List.range 6).map fun i => s.measure (i + 1)

/-- A TDISP message; one that its state does not admit is answered without effect. -/
def execTdispMessage (d : Nat) (m : TdispMsg) (s : State) : Res :=
  let p := s.portOf d
  let done (s : State) : State := s.replyHost p .done
  let no := s.replyHost p .unsupported
  event "TDISP_MESSAGE" (d < 16 && !(m == .stopInterface && bitOf (s.die d).dfctl 0))
    (match m with
      | .lockInterface => if s.tdis d = 0 then done (s.setTdis d 1) else no
      | .startInterface => if s.tdis d = 1 then done (s.setTdis d 2) else no
      | .stopInterface => if s.tdis d = 2 then done (s.startReset d) else done (s.setTdis d 0)
      | .getState => s.replyHost p (.answer [s.tdis d])
      | .getReport => s.replyHost p (.answer ([s.dfTenant d, s.dfCtx d, field (s.die d).dfctl 41 3] ++ (s.die d).keyList ++ s.measures)))

/-- Measurement blocks on the mailbox of a function: 1 to 6, and 7 with the die's DFCTL. -/
def execSpdmRequest (fn index : Nat) (s : State) : Res :=
  let p := if fn = 0 then 0 else s.portOf (fn - 1)
  event "SPDM_REQUEST" (fn < 17)
    (if 1 ≤ index ∧ index ≤ 6 then s.replyHost p (.answer [s.measure index])
     else if index = 7 then s.replyHost p (.answer (s.measures ++ (if fn = 0 then [] else [(s.die (fn - 1)).dfctl.toNat])))
     else s.replyHost p .unsupported)

/-- A conventional reset of a port applies FMAP for the dies that it presents or will present (R462). -/
def execPortReset (port : Nat) (s : State) : Res :=
  let h := s.hostSide
  event "PORT_RESET" (port < 4)
    { s with hostSide := { h with applied := (List.range 16).foldl (fun w d =>
        let new := field h.fmap (2 * d + 1) (2 * d)
        if field w (2 * d + 1) (2 * d) = port ∨ new = port then putField w (2 * d + 1) (2 * d) new else w) h.applied } }

/-! ### Boot (19 R471, R472; 03 R77) -/

/-- Stages that start: those before the first whose signature fails. -/
def started (l : List FirmwareStage) : List FirmwareStage := l.takeWhile (·.genuine)

/-- A digest as a number. -/
def digestOf (bs : List Byte) : BitVec 256 := BitVec.ofNat 256 (leNat (sha256 bs))

/-- What bring-up leaves when the last stage has run. -/
def State.broughtUp (s : State) (stamp : Nat) : State :=
  let rows := Config.bringUp 0 % 16 + 1
  let cols := Config.bringUp 1 % 16 + 1
  let s := { s with
    keys := tput s.keys 0 ⟨true, 0, Config.rootKey stamp⟩
    dom := Config.bringUp 2 % 64, prow := Config.bringUp 3 % rows, pcol := Config.bringUp 4 % cols
    canal := { s.canal with rows := rows, cols := cols } }
  let s := s.openPorts.foldl (fun s p => s.onLink p fun l => { l with key := (Config.firstKey stamp p).1, salt := (Config.firstKey stamp p).2 }) s
  (List.range 16).foldl (fun s d => s.onDie d fun x =>
    { x with orient := BitVec.ofNat 64 (Config.bringUp (16 + d) / 4 % 5 * 256 + Config.bringUp (16 + d) % 4) }) s

/-- The root of trust verifies and starts the stages in order; bring-up follows the last. -/
def execBoot (stages : List FirmwareStage) (fuses : List Byte) (s : State) : Res :=
  let ran := started stages
  let measured := (List.range ran.length).foldl (fun t i => match ran[i]? with
    | some x => tput t (i + 1) (digestOf x.image)
    | none => t) (tput [] 6 (digestOf fuses))
  let stamp := s.nextPost
  let s1 := { s with nextPost := stamp + 1, hostSide := { s.hostSide with
    measured := measured, power := true, booted := ran.length == 5, cxl := (List.range 4).filter (Config.portMode stamp) } }
  event "BOOT" (stages.length == 5 && (!s.hostSide.booted || !s.hostSide.power)) (if ran.length = 5 then s1.broughtUp stamp else s1)

/-! ### Power (17 R442; 19 R475) -/

/-- The controller of a die begins or ends the swallowing of clock pulses. -/
def execThrottle (d : Nat) (on : Bool) (s : State) : Res := event "THROTTLE" (d < 16) (s.onDie d fun x => { x with throttled := on })

/-- The package powers down: nothing survives but the snapshot areas. The schedule, and what the ports are told, are outside it. -/
def execThermalShutdown (s : State) : Res :=
  let off := (s.logMgmt 3 8 0 0 0).mgmtLog
  event "THERMAL_SHUTDOWN" s.hostSide.power
    { State.reset with
      agenda := s.agenda
      mgmtLog := off
      nextPost := s.nextPost
      jobs := s.jobs.map fun j => (j.1, { j.2 with phase := .idle, asked := [], armed := [] })
      hostSide := { HostSide.reset with
        power := false, replies := s.hostSide.replies ++ (List.range 4).map fun p => (p, .linkDown) } }

end Sys2Proof.Machine
end

