-- ==== Sys2Proof/Machine/Scalar.lean ====
section
/-! DEFINITION. The S slots (11 R271-R288, 10 R266). TLBI stands with the system instructions. -/

namespace Sys2Proof.Machine

/-! ### Shared forms -/

/-- A two-source integer instruction (11 R273). -/
def intOp (lat : Nat) (op : Word → Word → Word) (f : S3) (s : State) : Res :=
  s.guarded f.g fun s =>
    let u := sUnit f.x
    s.result u f.d lat (op (s.srcInt u f.a) (s.srcInt u f.b))

/-- A single-source integer instruction (11 R273). -/
def intUnary (op : Word → Word) (f : S2) (s : State) : Res :=
  s.guarded f.g fun s => s.result (sUnit f.x) f.d 1 (op (s.srcInt (sUnit f.x) f.a))

/-- An instruction that also reads its destination (11 R274). -/
def intMerge (op : Word → Word → Word → Word) (f : S3) (s : State) : Res :=
  s.guarded f.g fun s =>
    let u := sUnit f.x
    s.result u f.d 1 (op (s.dstOld u f.d) (s.srcInt u f.a) (s.srcInt u f.b))

/-- An FP operand of a scalar slot: the low bits of its source in the format (09 R242, R243). -/
def State.srcFp (s : State) (u : UnitId) (fmt : FpFmt) (x : Src) : Nat := (s.src u (.fp fmt) x).toNat % 2 ^ fmt.width

/-- A two-source FP instruction (11 R278). -/
def fpOp (lat : Nat) (fmt : FpFmt) (op : Nat → Nat → Nat) (f : S3) (s : State) : Res :=
  s.guarded f.g fun s =>
    let u := sUnit f.x
    s.result u f.d lat (BitVec.ofNat 64 (op (s.srcFp u fmt f.a) (s.srcFp u fmt f.b)))

/-- A fused multiply-add into the destination (11 R278). -/
def fpFused (fmt : FpFmt) (f : S3) (s : State) : Res :=
  s.guarded f.g fun s =>
    let u := sUnit f.x
    let old := (s.dstOld u f.d).toNat % 2 ^ fmt.width
    s.result u f.d 4 (BitVec.ofNat 64 (fmt.fma (s.srcFp u fmt f.a) (s.srcFp u fmt f.b) old))

/-- A square root (11 R278). -/
def fpRoot (fmt : FpFmt) (f : S2) (s : State) : Res :=
  s.guarded f.g fun s => s.result (sUnit f.x) f.d 18 (BitVec.ofNat 64 (fmt.sqrt (s.srcFp (sUnit f.x) fmt f.a)))

/-! ### Integer operations (11 R273, R274) -/

def wordMulh (a b : Word) : Word := BitVec.ofInt 64 (a.toInt * b.toInt / 2 ^ 64)
def wordMulhu (a b : Word) : Word := BitVec.ofNat 64 (a.toNat * b.toNat / 2 ^ 64)
/-- Truncated signed division; -1 for a zero divisor (11 R273). -/
def wordDiv (a b : Word) : Word := if b = 0 then BitVec.allOnes 64 else BitVec.ofInt 64 (a.toInt.tdiv b.toInt)
def wordDivu (a b : Word) : Word := if b = 0 then BitVec.allOnes 64 else a / b
/-- Signed remainder with the sign of the dividend; the dividend for a zero divisor. -/
def wordRem (a b : Word) : Word := if b = 0 then a else BitVec.ofInt 64 (a.toInt.tmod b.toInt)
def wordRemu (a b : Word) : Word := if b = 0 then a else a % b
/-- Shift amounts are taken modulo 64. -/
def wordShl (a b : Word) : Word := a <<< (b.toNat % 64)
def wordShr (a b : Word) : Word := a >>> (b.toNat % 64)
def wordSar (a b : Word) : Word := a.sshiftRight (b.toNat % 64)
def wordRotl (a b : Word) : Word := a.rotateLeft (b.toNat % 64)
/-- Leading zeros of a `w`-bit number. -/
def leadingZeros (w n : Nat) : Nat := if n % 2 ^ w = 0 then w else w - 1 - Nat.log2 (n % 2 ^ w)
/-- Trailing zeros among the low `w` bits. -/
def trailingZeros : Nat → Nat → Nat
  | 0, _ => 0
  | w + 1, n => if n % 2 = 1 then 0 else 1 + trailingZeros w (n / 2)
/-- Set bits among the low `w` bits. -/
def countOnes : Nat → Nat → Nat
  | 0, _ => 0
  | w + 1, n => n % 2 + countOnes w (n / 2)
def wordClz (a : Word) : Word := BitVec.ofNat 64 (leadingZeros 64 a.toNat)
def wordCtz (a : Word) : Word := BitVec.ofNat 64 (trailingZeros 64 a.toNat)
def wordPopc (a : Word) : Word := BitVec.ofNat 64 (countOnes 64 a.toNat)
def wordMin (a b : Word) : Word := if a.toInt ≤ b.toInt then a else b
def wordMax (a b : Word) : Word := if a.toInt ≤ b.toInt then b else a
def wordMinu (a b : Word) : Word := if a.toNat ≤ b.toNat then a else b
def wordMaxu (a b : Word) : Word := if a.toNat ≤ b.toNat then b else a
def wordAddw (a b : Word) : Word := ((a + b).setWidth 32).signExtend 64
/-- SEL: d is the bit mask. -/
def wordSel (d a b : Word) : Word := (a &&& d) ||| (b &&& ~~~d)
/-- BEXT: control word b. -/
def wordBext (a b : Word) : Word :=
  let pos := field b 5 0
  let len := field b 13 8 + 1
  let f := a.toNat / 2 ^ pos % 2 ^ len
  if bitOf b 16 ∧ len + pos ≤ 64 ∧ f / 2 ^ (len - 1) % 2 = 1 then BitVec.ofInt 64 ((f : Int) - 2 ^ len) else BitVec.ofNat 64 f
/-- BINS: control word b. -/
def wordBins (d a b : Word) : Word :=
  let pos := field b 5 0
  let m : Word := BitVec.ofNat 64 ((2 ^ (field b 13 8 + 1) - 1) * 2 ^ pos)
  (d &&& ~~~m) ||| ((a <<< pos) &&& m)

def execAdd (f : S3) (s : State) : Res := intOp 1 (· + ·) f s
def execSub (f : S3) (s : State) : Res := intOp 1 (· - ·) f s
def execMul (f : S3) (s : State) : Res := intOp 3 (· * ·) f s
def execMulh (f : S3) (s : State) : Res := intOp 3 wordMulh f s
def execMulhu (f : S3) (s : State) : Res := intOp 3 wordMulhu f s
def execDiv (f : S3) (s : State) : Res := intOp 34 wordDiv f s
def execDivu (f : S3) (s : State) : Res := intOp 34 wordDivu f s
def execRem (f : S3) (s : State) : Res := intOp 34 wordRem f s
def execRemu (f : S3) (s : State) : Res := intOp 34 wordRemu f s
def execAnd (f : S3) (s : State) : Res := intOp 1 (· &&& ·) f s
def execOr (f : S3) (s : State) : Res := intOp 1 (· ||| ·) f s
def execXor (f : S3) (s : State) : Res := intOp 1 (· ^^^ ·) f s
def execAndn (f : S3) (s : State) : Res := intOp 1 (fun a b => a &&& ~~~b) f s
def execShl (f : S3) (s : State) : Res := intOp 1 wordShl f s
def execShr (f : S3) (s : State) : Res := intOp 1 wordShr f s
def execSar (f : S3) (s : State) : Res := intOp 1 wordSar f s
def execRotl (f : S3) (s : State) : Res := intOp 1 wordRotl f s
def execClz (f : S2) (s : State) : Res := intUnary wordClz f s
def execCtz (f : S2) (s : State) : Res := intUnary wordCtz f s
def execPopc (f : S2) (s : State) : Res := intUnary wordPopc f s
def execMin (f : S3) (s : State) : Res := intOp 1 wordMin f s
def execMax (f : S3) (s : State) : Res := intOp 1 wordMax f s
def execMinu (f : S3) (s : State) : Res := intOp 1 wordMinu f s
def execMaxu (f : S3) (s : State) : Res := intOp 1 wordMaxu f s
def execSel (f : S3) (s : State) : Res := intMerge wordSel f s
def execBext (f : S3) (s : State) : Res := intOp 1 wordBext f s
def execBins (f : S3) (s : State) : Res := intMerge wordBins f s
def execAddw (f : S3) (s : State) : Res := intOp 1 wordAddw f s

/-- MOVI (11 R275). -/
def execMovi (f : Smovi) (s : State) : Res :=
  s.guarded f.g fun s => s.result (sUnit f.x) f.d 1 (f.imm.signExtend 64)

/-! ### Predicates (11 R276, R277) -/

/-- A condition written to pair j, seen by guards two bundles later. -/
def State.setPair (s : State) (u : UnitId) (lat j : Nat) (c : Bool) : State := s.fly u lat (.pair j c) none

def execCmp (f : Scmp) (s : State) : Res :=
  s.guarded f.g fun s =>
    let u := sUnit f.x
    s.setPair u 2 f.j.val (cmpHolds f.cond (s.srcInt u f.a) (s.srcInt u f.b))

def execFcmp (f : Sfcmp) (s : State) : Res :=
  s.guarded f.g fun s =>
    let u := sUnit f.x
    let c := ConstForm.fp (fcmpFmt f.cond)
    s.setPair u 2 f.j.val (fcmpHolds f.cond (s.src u c f.a) (s.src u c f.b))

def execQop (f : Sqop) (s : State) : Res :=
  s.guarded f.g fun s => s.setPair (sUnit f.x) 2 f.j.val (predApply f.op (s.seat.pred f.p.val) (s.seat.pred f.r.val))

/-! ### Floating point (11 R278-R281) -/

def execFadds (f : S3) (s : State) : Res := fpOp 4 .f32 FpFmt.f32.add f s
def execFaddd (f : S3) (s : State) : Res := fpOp 4 .f64 FpFmt.f64.add f s
def execFsubs (f : S3) (s : State) : Res := fpOp 4 .f32 FpFmt.f32.sub f s
def execFsubd (f : S3) (s : State) : Res := fpOp 4 .f64 FpFmt.f64.sub f s
def execFmuls (f : S3) (s : State) : Res := fpOp 4 .f32 FpFmt.f32.mul f s
def execFmuld (f : S3) (s : State) : Res := fpOp 4 .f64 FpFmt.f64.mul f s
def execFmas (f : S3) (s : State) : Res := fpFused .f32 f s
def execFmad (f : S3) (s : State) : Res := fpFused .f64 f s
def execFdivs (f : S3) (s : State) : Res := fpOp 16 .f32 FpFmt.f32.div f s
def execFdivd (f : S3) (s : State) : Res := fpOp 16 .f64 FpFmt.f64.div f s
def execFsqrs (f : S2) (s : State) : Res := fpRoot .f32 f s
def execFsqrd (f : S2) (s : State) : Res := fpRoot .f64 f s
def execFmins (f : S3) (s : State) : Res := fpOp 2 .f32 FpFmt.f32.min f s
def execFmaxs (f : S3) (s : State) : Res := fpOp 2 .f32 FpFmt.f32.max f s
def execFmind (f : S3) (s : State) : Res := fpOp 2 .f64 FpFmt.f64.min f s
def execFmaxd (f : S3) (s : State) : Res := fpOp 2 .f64 FpFmt.f64.max f s

/-- Source format of an FCVT code: an FP format, or a signed integer width (11 R279). -/
def fcvtFrom : Nat → FpFmt ⊕ Nat
  | 0 | 2 | 4 | 6 | 7 => .inl .f32
  | 1 | 8 | 9 | 14 => .inl .f64
  | 3 | 15 => .inl .f16
  | 5 => .inl .b16
  | 10 | 12 => .inr 32
  | _ => .inr 64

/-- Target format of an FCVT code. -/
def fcvtTo : Nat → FpFmt ⊕ Nat
  | 0 | 12 | 13 | 15 => .inl .f64
  | 1 | 3 | 5 | 10 | 11 => .inl .f32
  | 2 | 14 => .inl .f16
  | 4 => .inl .b16
  | 6 | 8 => .inr 32
  | _ => .inr 64

/-- FCVT: exact conversions ignore RM, since they round nothing (11 R279, 08 R213). -/
def fcvt (code : Nat) (rm : Rm) (x : Word) : Word :=
  let v := match fcvtFrom code with
    | .inl f => f.val (x.toNat % 2 ^ f.width)
    | .inr w => FpVal.ofInt (sint w x.toNat)
  match fcvtTo code with
  | .inl f => BitVec.ofNat 64 (f.round rm v)
  | .inr w => BitVec.ofInt 64 (v.toSat rm w)

def execFcvt (f : Sfcvt) (s : State) : Res :=
  s.guarded f.g fun s =>
    let u := sUnit f.x
    let form := match fcvtFrom f.code.val with
      | .inl fmt => ConstForm.fp fmt
      | .inr _ => .int 64
    s.result u f.d 3 (fcvt f.code.val f.rm (s.src u form f.a))

/-- Formats of FCLS (11 R280). -/
def fclsFmt : FclsFmt → FpFmt
  | .fp32 => .f32 | .fp64 => .f64 | .fp16 => .f16 | .b16 => .b16

def execFcls (f : Sfcls) (s : State) : Res :=
  s.guarded f.g fun s =>
    let u := sUnit f.x
    s.result u f.d 1 (BitVec.ofNat 64 ((fclsFmt f.fmt).cls (s.srcFp u (fclsFmt f.fmt) f.a)))

/-- A pair result: registers 2i and 2i + 1, or the latch alone with the first at age 1 (11 R281). -/
def State.pairResult (s : State) (u : UnitId) (p : PairDst) (lat : Nat) (x y : Nat) : State :=
  let dst (k : Nat) : Dst :=
    match p with
    | .regs i => let n := 2 * i.val + k
                 if n < 24 then .main (Fin.ofNat 24 n) else .opnd (Fin.ofNat 8 (n - 24))
    | .latch => .latch
  (s.result u (dst 0) lat (BitVec.ofNat 64 x)).result u (dst 1) lat (BitVec.ofNat 64 y)

/-- TWOS and TWOP share their form (11 R281). -/
def pairOp (op : FpFmt → Nat → Nat → Nat × Nat) (f : Spair) (s : State) : Res :=
  s.guarded f.g fun s =>
    let u := sUnit f.x
    let fmt := if f.wide then FpFmt.f64 else .f32
    let r := op fmt (s.srcFp u fmt f.a) (s.srcFp u fmt f.b)
    s.pairResult u f.p 4 r.1 r.2

def execTwos (f : Spair) (s : State) : Res := pairOp FpFmt.twoSum f s
def execTwop (f : Spair) (s : State) : Res := pairOp FpFmt.twoProd f s

/-! ### Moves, g registers, sequencer and CSRs (11 R282-R286) -/

/-- MOVX: the value lands in another unit's file and in the issuing unit's latch (11 R282). -/
def execMovx (f : Smovx) (s : State) : Res :=
  s.guarded f.g fun s =>
    let u := sUnit f.x
    let v := s.srcInt u f.a
    let e := match dstPhys s.seat.rrb f.d with
      | none => Effect.nothing
      | some ix =>
        match f.target with
        | .s0 => .file .s0 ix v
        | .s1 => .file .s1 ix v
        | .l0 => .file .l0 ix v
        | .l1 => .file .l1 ix v
        | .v => .vfile ix (v.setWidth 4096)
    s.fly u 3 e (some (v.setWidth 4096))

def execGset (f : Sgset) (s : State) : Res :=
  s.guarded f.g fun s =>
    let u := sUnit f.x
    let v := s.srcInt u f.a
    s.fly u 2 (.greg f.n.val v) (some (v.setWidth 4096))

/-- LIDX: a level that is not active reads 0 (11 R284). -/
def lidxValue (st : Seat) (level : Nat) (fld : LidxField) : Word :=
  match st.levels[level]? with
  | none => 0
  | some l =>
    match fld with
    | .idx => l.idx.setWidth 64
    | .cnt => l.count.setWidth 64
    | .rem => (l.count - 1 - l.idx).setWidth 64

def execLidx (f : Slidx) (s : State) : Res :=
  s.guarded f.g fun s => s.result (sUnit f.x) f.d 1 (lidxValue s.seat f.level.val f.field)

def execCycr (f : S1) (s : State) : Res :=
  s.effectful f.g fun s => s.result (sUnit f.x) f.d 2 (BitVec.ofNat 64 s.cyc)

def execTsrd (f : Stsrd) (s : State) : Res :=
  s.guarded f.g fun s =>
    let u := sUnit f.x
    s.fly u 2 (.tileRead u (dstPhys s.seat.rrb f.d) f.n.val) (some 0)

/-- CSRs a pure task may use (11 R286). -/
def csrPure (i : Nat) : Bool := i == 8 || i == 9
/-- CSRs user code may write; TVEC per field (11 R286). -/
def csrUserWrite (i : Nat) : Bool := i == 7 || i == 8 || i == 9 || i == 12 || i == 14 || i == 16

/-- CSRR, and CSRW below. Of a privileged-instruction trap and a purity violation of one slot, 11 R286 and 15 R409 do not say which comes first:
the model raises the privileged-instruction trap. -/
def execCsrr (f : Scsrr) (s : State) : Res :=
  s.guarded f.g fun s =>
    if !s.seat.sup ∧ f.csr.val = 2 then s.raise 3 s.slotTval
    else if s.seat.pure ∧ !csrPure f.csr.val then s.impure
    else s.result (sUnit f.x) f.d 2 (s.csrRead s.cx.core s.cx.seat f.csr.val)

def execCsrw (f : Scsrw) (s : State) : Res :=
  s.guarded f.g fun s =>
    let u := sUnit f.x
    if !s.seat.sup ∧ !csrUserWrite f.csr.val then s.raise 3 s.slotTval
    else if s.seat.pure ∧ !csrPure f.csr.val then s.impure
    else
      let code := if f.csr.val = 7 ∧ !s.seat.sup then tvecUser else f.csr.val
      (s.fly u 2 (.csr code (s.srcInt u f.b)) none).busy

end Sys2Proof.Machine
end

