-- ==== Sys2Proof/Machine/Side.lean ====
section
/-! DEFINITION. The loader and the storer of a core (16 R411-R422): RV64I with M, Zicsr, Zba and Zbb, the Xjaind instructions, and the
exceptions that stop a side core. The core and the side that execute stand in the context. -/

namespace Sys2Proof.Machine

/-! ### The executing side core -/

def Core.side (k : Core) (storer : Bool) : Side := if storer then k.storer else k.loader
def State.side (s : State) : Side := s.me.side s.cx.storer
def State.setSideAt (s : State) (c : Nat) (storer : Bool) (x : Side) : State :=
  s.onCore c fun k => if storer then { k with storer := x } else { k with loader := x }
def State.onSide (s : State) (f : Side → Side) : State := s.setSideAt s.cx.core s.cx.storer (f s.side)

/-- A register; x0 reads zero. -/
def Side.reg (x : Side) (r : Reg5) : Word := if r = 0 then 0 else tget 0 x.regs r.val
/-- A register written; a write to x0 is discarded. -/
def Side.setReg (x : Side) (r : Reg5) (v : Word) : Side := if r = 0 then x else { x with regs := tset 0 x.regs r.val v }

/-- CAUSE of SCFLT; 0 while the side core runs. -/
def Side.cause (x : Side) : Nat := field x.scflt 7 0
def Side.runs (x : Side) : Bool := x.loaded && x.cause == 0

/-- The side core goes on at `pc` with the instruction counted. -/
def Side.retire (x : Side) (pc : Word) : Side := { x with pc := pc, instret := x.instret + 1, waiting := false, acquiring := none }

/-- A side core stopped: SCFLT, and the event in the die's log (16 R422, 18 R452 CLASS 14). -/
def State.stopSideAt (s : State) (c : Nat) (storer : Bool) (cause val : Nat) : State :=
  let x := (s.core c).side storer
  let w := BitVec.ofNat 64 (val % 2 ^ 32 * 2 ^ 32 + x.pc.toNat % 2 ^ 15 * 2 ^ 17 + cause % 256)
  let s := s.setSideAt c storer { x with scflt := w, waiting := false, acquiring := none }
  let tenant := match s.ownerOf (dieOf c) c with
    | .owned t => t
    | .transit => 0
  s.logAt (dieOf c) 14 9 cause w.toNat tenant 0

def State.stopSide (s : State) (cause val : Nat) : State := s.stopSideAt s.cx.core s.cx.storer cause val

/-- The instruction completes with a register written. -/
def State.sideResult (s : State) (d : Reg5) (v : Word) : State := s.onSide fun x => (x.setReg d v).retire (x.pc + 4)
/-- The instruction completes. -/
def State.sideDone (s : State) : State := s.onSide fun x => x.retire (x.pc + 4)
/-- The side core waits; the instruction executes again. -/
def State.sideWait (s : State) : State := s.onSide fun x => { x with waiting := true }

/-! ### RV64 arithmetic -/

/-- A 32-bit result sign-extended. -/
def sext32 (n : Nat) : Word := BitVec.ofInt 64 (sint 32 (n % 2 ^ 32))
def low32 (w : Word) : Nat := w.toNat % 2 ^ 32

/-- Division of width `w`: the all-ones quotient for a zero divisor, the dividend where the quotient overflows. -/
def rvDiv (w : Nat) (a b : Nat) : Int := if b % 2 ^ w = 0 then -1 else (sint w a).tdiv (sint w b)
def rvRem (w : Nat) (a b : Nat) : Int := if b % 2 ^ w = 0 then sint w a else (sint w a).tmod (sint w b)

def rvOp (o : RvOp) (a b : Word) : Word :=
  let x := low32 a
  let y := low32 b
  match o with
  | .add => a + b
  | .sub => a - b
  | .sll => a <<< (b.toNat % 64)
  | .slt => if a.toInt < b.toInt then 1 else 0
  | .sltu => if a.toNat < b.toNat then 1 else 0
  | .xor => a ^^^ b
  | .srl => a >>> (b.toNat % 64)
  | .sra => a.sshiftRight (b.toNat % 64)
  | .or => a ||| b
  | .and => a &&& b
  | .addw => sext32 (x + y)
  | .subw => sext32 (x + 2 ^ 32 - y)
  | .sllw => sext32 (x * 2 ^ (y % 32))
  | .srlw => sext32 (x / 2 ^ (y % 32))
  | .sraw => BitVec.ofInt 64 (sint 32 x / 2 ^ (y % 32))
  | .mul => a * b
  | .mulh => BitVec.ofInt 64 (a.toInt * b.toInt / 2 ^ 64)
  | .mulhsu => BitVec.ofInt 64 (a.toInt * (b.toNat : Int) / 2 ^ 64)
  | .mulhu => BitVec.ofNat 64 (a.toNat * b.toNat / 2 ^ 64)
  | .div => BitVec.ofInt 64 (rvDiv 64 a.toNat b.toNat)
  | .divu => if b = 0 then BitVec.allOnes 64 else BitVec.ofNat 64 (a.toNat / b.toNat)
  | .rem => BitVec.ofInt 64 (rvRem 64 a.toNat b.toNat)
  | .remu => if b = 0 then a else BitVec.ofNat 64 (a.toNat % b.toNat)
  | .mulw => sext32 (x * y)
  | .divw => sext32 (BitVec.ofInt 32 (rvDiv 32 x y)).toNat
  | .divuw => if y = 0 then BitVec.allOnes 64 else sext32 (x / y)
  | .remw => sext32 (BitVec.ofInt 32 (rvRem 32 x y)).toNat
  | .remuw => if y = 0 then sext32 x else sext32 (x % y)
  | .sh1add => b + a * 2
  | .sh2add => b + a * 4
  | .sh3add => b + a * 8
  | .adduw => b + BitVec.ofNat 64 x
  | .sh1adduw => b + BitVec.ofNat 64 (x * 2)
  | .sh2adduw => b + BitVec.ofNat 64 (x * 4)
  | .sh3adduw => b + BitVec.ofNat 64 (x * 8)
  | .andn => a &&& ~~~b
  | .orn => a ||| ~~~b
  | .xnor => ~~~(a ^^^ b)
  | .max => if a.toInt < b.toInt then b else a
  | .maxu => if a.toNat < b.toNat then b else a
  | .min => if a.toInt < b.toInt then a else b
  | .minu => if a.toNat < b.toNat then a else b
  | .rol => a.rotateLeft (b.toNat % 64)
  | .ror => a.rotateRight (b.toNat % 64)
  | .rolw => sext32 ((BitVec.ofNat 32 x).rotateLeft (y % 32)).toNat
  | .rorw => sext32 ((BitVec.ofNat 32 x).rotateRight (y % 32)).toNat

def rvOpImm (o : RvOpImm) (a i : Word) : Word :=
  match o with
  | .addi => a + i
  | .slti => if a.toInt < i.toInt then 1 else 0
  | .sltiu => if a.toNat < i.toNat then 1 else 0
  | .xori => a ^^^ i
  | .ori => a ||| i
  | .andi => a &&& i
  | .addiw => sext32 (low32 a + low32 i)

def rvShImm (o : RvShImm) (a : Word) (n : Nat) : Word :=
  let x := low32 a
  match o with
  | .slli => a <<< n
  | .srli => a >>> n
  | .srai => a.sshiftRight n
  | .rori => a.rotateRight n
  | .slliuw => BitVec.ofNat 64 (x * 2 ^ n)
  | .slliw => sext32 (x * 2 ^ n)
  | .srliw => sext32 (x / 2 ^ n)
  | .sraiw => BitVec.ofInt 64 (sint 32 x / 2 ^ n)
  | .roriw => sext32 ((BitVec.ofNat 32 x).rotateRight n).toNat

/-- Set bits of a number of `w` bits, trailing and leading zeros. -/
def onesIn (w x : Nat) : Nat := ((List.range w).filter fun i => x.testBit i).length
def trailing (w x : Nat) : Nat := ((List.range w).find? fun i => x.testBit i).getD w
def leading (w x : Nat) : Nat := ((List.range w).find? fun i => x.testBit (w - 1 - i)).getD w

def rvUnary (o : RvUnary) (a : Word) : Word :=
  let bytes := leBytes 8 a.toNat
  match o with
  | .clz => BitVec.ofNat 64 (leading 64 a.toNat)
  | .ctz => BitVec.ofNat 64 (trailing 64 a.toNat)
  | .cpop => BitVec.ofNat 64 (onesIn 64 a.toNat)
  | .clzw => BitVec.ofNat 64 (leading 32 (low32 a))
  | .ctzw => BitVec.ofNat 64 (trailing 32 (low32 a))
  | .cpopw => BitVec.ofNat 64 (onesIn 32 (low32 a))
  | .sextb => BitVec.ofInt 64 (sint 8 (a.toNat % 256))
  | .sexth => BitVec.ofInt 64 (sint 16 (a.toNat % 65536))
  | .zexth => BitVec.ofNat 64 (a.toNat % 65536)
  | .orcb => BitVec.ofNat 64 (leNat (bytes.map fun b => if b = 0 then 0 else 255))
  | .rev8 => BitVec.ofNat 64 (leNat bytes.reverse)

def rvTaken (o : RvBranch) (a b : Word) : Bool :=
  match o with
  | .beq => a == b
  | .bne => a != b
  | .blt => a.toInt < b.toInt
  | .bge => b.toInt ≤ a.toInt
  | .bltu => a.toNat < b.toNat
  | .bgeu => b.toNat ≤ a.toNat

/-- Bytes of a load, and whether its value is sign-extended. -/
def rvLoadForm : RvLoad → Nat × Bool
  | .lb => (1, true) | .lh => (2, true) | .lw => (4, true) | .ld => (8, true) | .lbu => (1, false) | .lhu => (2, false) | .lwu => (4, false)
def rvStoreSize : RvStore → Nat
  | .sb => 1 | .sh => 2 | .sw => 4 | .sd => 8

/-! ### What an RV64 instruction does -/

/-- What comes of an RV64 instruction: a register and the next PC, with bytes stored in the data store and a CSR write, or a stop. -/
inductive RvOut where
  | go (rd : Reg5) (v : Word) (pc : Word)
  | put (off size v : Nat)
  | seat (rd : Reg5) (v : Word) (jseat : Nat)
  | stop (cause val : Nat)
deriving DecidableEq, Repr

/-- The data store's addresses (16 R412). -/
def dataOffset (a size : Nat) : Option Nat := if 0x10000 ≤ a ∧ a + size ≤ 0x14000 then some (a - 0x10000) else none

/-- A jump, or the stop of a misaligned target. -/
def rvJump (rd : Reg5) (link target : Word) : RvOut := if target.toNat % 4 ≠ 0 then .stop 5 target.toNat else .go rd link target

/-- A CSR read: cycle, instret and JSEAT (16 R413). -/
def Side.csr (x : Side) (n : Nat) : Option Word :=
  if n = 0xC00 then some x.cycle else if n = 0xC02 then some x.instret else if n = 0x800 then some (BitVec.ofNat 64 x.jseat) else none

/-- A Zicsr instruction: a write of a counter, or of a CSR that is not there, is illegal. -/
def Side.csrOp (x : Side) (word : Nat) (k : RvCsrOp) (rd : Reg5) (n : Nat) (v : Word) (writes : Bool) : RvOut :=
  match x.csr n with
  | none => .stop 3 word
  | some old =>
    if !writes then .go rd old (x.pc + 4)
    else if n ≠ 0x800 then .stop 3 word
    else
      let new := match k with
        | .rw => v
        | .rs => old ||| v
        | .rc => old &&& ~~~v
      .seat rd old (field new 2 0)

/-- An RV64 instruction on a side core; `data` reads the data store. -/
def Side.rv (x : Side) (word : Nat) (data : Nat → Nat → Nat) (i : RvInstr) : RvOut :=
  let next := x.pc + 4
  match i with
  | .lui rd imm => .go rd (BitVec.ofInt 64 (sint 32 (imm.toNat * 4096))) next
  | .auipc rd imm => .go rd (x.pc + BitVec.ofInt 64 (sint 32 (imm.toNat * 4096))) next
  | .jal rd off => rvJump rd next (x.pc + off.signExtend 64 * 2)
  | .jalr rd rs1 imm => rvJump rd next ((x.reg rs1 + imm.signExtend 64) &&& ~~~1)
  | .branch k rs1 rs2 off =>
    if rvTaken k (x.reg rs1) (x.reg rs2) then rvJump 0 0 (x.pc + off.signExtend 64 * 2) else .go 0 0 next
  | .load k rd rs1 imm =>
    let a := (x.reg rs1 + imm.signExtend 64).toNat
    let (size, sx) := rvLoadForm k
    if a % size ≠ 0 then .stop 5 a
    else match dataOffset a size with
      | none => .stop 6 a
      | some off => .go rd (extend size sx (data off size)) next
  | .store k rs1 rs2 imm =>
    let a := (x.reg rs1 + imm.signExtend 64).toNat
    if a % rvStoreSize k ≠ 0 then .stop 5 a
    else match dataOffset a (rvStoreSize k) with
      | none => .stop 6 a
      | some off => .put off (rvStoreSize k) (x.reg rs2).toNat
  | .opImm k rd rs1 imm => .go rd (rvOpImm k (x.reg rs1) (imm.signExtend 64)) next
  | .shImm k rd rs1 sh => .go rd (rvShImm k (x.reg rs1) sh.val) next
  | .op k rd rs1 rs2 => .go rd (rvOp k (x.reg rs1) (x.reg rs2)) next
  | .unary k rd rs1 => .go rd (rvUnary k (x.reg rs1)) next
  | .csr k rd rs1 n => x.csrOp word k rd n.toNat (x.reg rs1) (k == .rw || rs1 != 0)
  | .csrImm k rd u n => x.csrOp word k rd n.toNat (BitVec.ofNat 64 u.val) (k == .rw || u != 0)
  | .fence => .go 0 0 next
  | .fenceI => .go 0 0 next
  | .wfi => .go 0 0 next
  | .ecall => .stop 1 0
  | .ebreak => .stop 2 0

/-- A number in a side core's data store. -/
def State.sideData (s : State) (c : Nat) (storer : Bool) (off n : Nat) : Nat := s.loadNat ((Home.data c storer).at off) n

def execSideCoreRv64Instruction (i : RvInstr) (s : State) : Res :=
  match s.side.rv s.cx.word (s.sideData s.cx.core s.cx.storer) i with
  | .go rd v pc => .next (s.onSide fun x => (x.setReg rd v).retire pc)
  | .put off size v => .next ((s.store (placed ((Home.data s.cx.core s.cx.storer).at off) (leBytes size v))).sideDone)
  | .seat rd v j => .next (s.onSide fun x => ({ x.setReg rd v with jseat := j }).retire (x.pc + 4))
  | .stop cause val => .next (s.stopSide cause val)

/-! ### Fetch and exceptions (16 R411, R412, R422) -/

/-- The word at a side core's PC; none outside the instruction store. -/
def State.sideWord (s : State) (c : Nat) (storer : Bool) : Option Nat :=
  let pc := ((s.core c).side storer).pc.toNat
  if pc + 4 ≤ 0x8000 then some (s.loadNat ((Home.instr c storer).at pc) 4) else none

/-- The exception that a side core's next instruction raises, other than the access faults of Xjaind: cause and VAL. -/
def State.sideException (s : State) (c : Nat) (storer : Bool) : Option (Nat × Nat) :=
  let x := (s.core c).side storer
  if x.pc.toNat % 4 ≠ 0 then some (5, x.pc.toNat)
  else
    match s.sideWord c storer with
    | none => some (4, x.pc.toNat)
    | some w =>
      if !sideLegal w then some (3, w)
      else
        match decodeRv w with
        | none => none
        | some i => (match x.rv w (s.sideData c storer) i with
          | .stop cause val => some (cause, val)
          | _ => none)

/-- A side-core cycle is counted (16 R413). -/
def State.sideCount (s : State) (c : Nat) (storer : Bool) : State :=
  let x := (s.core c).side storer
  s.setSideAt c storer { x with cycle := x.cycle + 1 }

/-- An exception, ECALL or EBREAK stops a side core. -/
def execSideCoreException (c : Nat) (storer : Bool) (s : State) : Res :=
  if !((s.core c).side storer).runs then event "SIDE_CORE_EXCEPTION" false s
  else
    match s.sideException c storer with
    | none => event "SIDE_CORE_EXCEPTION" false s
    | some (cause, val) => .next ((s.sideCount c storer).stopSideAt c storer cause val)

/-- Firmware writes a stopped side core's PC and clears CAUSE. -/
def execScfltWrite (c : Nat) (storer : Bool) (pc : Word) (s : State) : Res :=
  let x := (s.core c).side storer
  event "SCFLT_WRITE" (x.loaded && x.cause != 0) (s.setSideAt c storer { x with pc := pc, scflt := putField x.scflt 7 0 0 })

/-! ### Queues (16 R415, R416) -/

/-- The seat that JSEAT names. -/
def State.jseat (s : State) : Seat := s.me.seat s.side.jseat
def State.onJseat (s : State) (f : Seat → Seat) : State := s.onSeat s.cx.core s.side.jseat f

/-- Whether a side core's access to a seat's queues waits: no task is there, or it is being saved. -/
def Seat.queueShut (st : Seat) : Bool := st.st == .free || st.st == .loading || st.leaving

def execJqPush (r : Reg5) (s : State) : Res :=
  let st := s.jseat
  if st.queueShut || st.inq.length ≥ 16 then .next s.sideWait
  else
    let v := s.side.reg r
    .next ((s.onJseat fun st => { st with inq := st.inq ++ [v] }).sideDone)

def execJqPull (d : Reg5) (s : State) : Res :=
  let st := s.jseat
  match st.outq with
  | [] => .next s.sideWait
  | v :: rest => if st.queueShut then .next s.sideWait else .next ((s.onJseat fun st => { st with outq := rest }).sideResult d v)

/-- STATE of the level word. -/
def SeatState.code : SeatState → Nat
  | .free => 0 | .loading => 1 | .runnable => 2 | .running => 3 | .parked => 4

def execJqPullLev (d : Reg5) (s : State) : Res :=
  let st := s.jseat
  let coord := if st.st = .free then 0 else st.coord % 8192
  let dcnt := (tget 0 s.me.dcnt s.side.jseat).toNat
  .next (s.sideResult d (BitVec.ofNat 64
    (dcnt * 2 ^ 32 + coord * 2 ^ 16 + st.st.code * 2 ^ 13 + st.outq.length % 32 * 2 ^ 8 + st.inq.length % 32)))

/-! ### Engine commands (16 R417) -/

/-- The tenant of the executing core. -/
def State.coreTenant (s : State) : Nat :=
  match s.ownerOf (dieOf s.cx.core) s.cx.core with
  | .owned t => t
  | .transit => 0

/-- The agent of a side core's accesses. -/
def State.sideIssuing (s : State) : Issuing :=
  ⟨s.cx.core, 8, s.coreTenant, s.jseat.ctx, false, false, (s.me.idx * 16 + 8 + bit s.cx.storer) * 1024 + s.cx.core, false, false, false, false, false⟩

/-- The side core as an issuer. -/
def Context.issuer (x : Context) : Issuer := if x.storer then .storer else .loader

/-- VAL of an Xjaind access fault (16 R422): coordinate, entry, kind. -/
def sideVal (coord e kind : Nat) : Nat := coord % 2 ^ 16 * 2 ^ 16 + e % 32 * 2 ^ 8 + kind % 256

/-- The Xjaind access fault of a check that failed. -/
def State.sideFail (s : State) (f : Fail) : State :=
  s.stopSide 7 (sideVal (field f.tval 63 48) (field f.tval 4 0) (if f.cause = 10 then 7 else probeCode f.cause))

def execJCpy (d a b : Reg5) (s : State) : Res :=
  let x := s.side
  match s.acceptCopy s.sideIssuing x.jseat s.cx.issuer .cpy (x.reg a) (x.reg b) s.jseat.job 0 none [] [] with
  | .error f => .next (s.sideFail f)
  | .ok (p, t) => .next (t.sideResult d (BitVec.ofNat 64 p))

def execJDclm (d a b : Reg5) (s : State) : Res :=
  let x := s.side
  match s.acceptClaim s.sideIssuing x.jseat s.cx.issuer (x.reg a) (x.reg b) s.jseat.job none [] [] with
  | .error f => .next (s.sideFail f)
  | .ok (p, t) => .next (t.sideResult d (BitVec.ofNat 64 p))

/-- j.wtc: once CYC has reached the promise, the status of the side core's own commands; those reported complete are remembered. -/
def execJWtc (d a : Reg5) (s : State) : Res :=
  let p := (s.side.reg a).toNat
  if s.cyc < p then .next s.sideWait
  else
    let due := s.me.cmds.filter fun k => k.issuer == s.cx.issuer && k.promise ≤ p
    let status := cmdStatus due
    let s := s.sideResult d (BitVec.ofNat 64 status)
    .next (if status = 0 then s.onSide fun x => { x with seen := x.seen ++ due.map (·.id) } else s)

/-! ### Entries (16 R418) -/

/-- Field codes of 14 R357. -/
def fieldNamed (code : Nat) : Bool := code < 28 || (32 ≤ code && code < 40)

def execJLte (d a : Reg5) (s : State) : Res :=
  let w := s.side.reg a
  let code := field w 13 8
  let b := s.jseat.entry (field w 4 0)
  .next (s.sideResult d (if fieldNamed code then ltGet b code else Config.unnamedField code b))

def execJLteW (a v : Reg5) (s : State) : Res :=
  let w := s.side.reg a
  let code := field w 13 8
  let e := field w 4 0
  let b := s.jseat.entry e
  if !lteUserField code || lteLocked b then .next (s.stopSide 7 (sideVal 0 e 7))
  else
    let x := s.side.reg v
    .next ((s.onCore s.cx.core fun k => { k with lteDue := k.lteDue ++ [⟨s.side.jseat, e, code, x.toNat, false⟩] }).sideDone)

/-! ### Release and acquire (16 R419) -/

/-- A posted item of the side core without a kind yet. -/
def State.sideItem (s : State) (reach : Nat) : Posted :=
  Posted.of (.side s.cx.core s.cx.storer) (dieOf s.cx.core) s.coreTenant s.jseat.ctx s.jseat.job reach

/-- j.rel and j.pub: what they cover has been reported complete, and so performed. -/
def State.sideRelease (s : State) (e : Nat) (pair : Bool) : State :=
  let b := s.jseat.entry e
  match s.bindCheck s.sideIssuing e b pair with
  | some f => s.sideFail f
  | none => (s.release (s.sideItem 4) s.cx.core b (if pair then some (lteRead b 18) else none) []).sideDone

def execJPub (e _sc : Reg5) (s : State) : Res := .next (s.sideRelease e.val true)
def execJRel (e _sc : Reg5) (s : State) : Res := .next (s.sideRelease e.val false)

/-- j.acq: the read of an object of this package is performed; one of another package travels, and the side core waits for it, whatever the
entry names by then. -/
def execJAcq (e _sc : Reg5) (s : State) : Res :=
  let b := s.jseat.entry e.val
  let c := s.cx.core
  match s.side.acquiring, s.bindCheck s.sideIssuing e.val b false with
  | some num, _ => .next (if s.canal.requests.any fun r => r.num == num then s.sideWait else s.sideDone)
  | none, some f => .next (s.sideFail f)
  | none, none =>
    let o := (syncObject c b).getD 0
    if farObject o then
      let num := s.nextPost
      .next ((s.askAcquire c s.coreTenant s.jseat.job o (.side s.cx.storer)).onSide fun x => { x with waiting := true, acquiring := some num })
    else if s.posted.any fun p => p.agent == .side c s.cx.storer && meetsAny p.kind.addrs ((List.range 16).map (o + ·)) then .next s.sideWait
    else .next s.sideDone

/-! ### Flags, messages, time (16 R420) -/

def execJFlag (a : Reg5) (s : State) : Res :=
  let w := s.side.reg a
  .next ((s.setFlag s.cx.core s.side.jseat (field w 4 0) (bitOf w 9)).sideDone)

/-- A side core's bytes leave for another die's station as messages, a run each (14 R532), or wait to: the last brings the flag (R377). -/
def State.sideMessages (s : State) (item : Posted) (b : LteBits) (bs : List (Nat × Byte)) (tag : Nat) (now : Bool) : State :=
  let station := stationOf (dieOf s.cx.core)
  let mem : Tab Byte := bs.foldl (fun t p => tput t p.1 p.2) []
  let rs := runs 256 (mem.map (·.1))
  rs.zipIdx.foldl (fun s r =>
    let data := leNat ((List.range r.1.2).map fun i => tget 0 mem (r.1.1 + i))
    let last := r.2 + 1 == rs.length
    let m : BeMsg := ⟨s.nextPost, if last then 6 else 0, if last then tag else 0, stationOf (lteDie b),
      tgtOf (lteSub b) (lteCore b 0) (offsetOf r.1.1), r.1.2, BitVec.ofNat 2048 data, 0, item.job⟩
    if now then (s.post { item with kind := .message m }).enqueue station m else s.post { item with kind := .heldMessage station m }) s

def execJSbeq (e ctl dat : Reg5) (s : State) : Res :=
  let c := s.cx.core
  let b := s.jseat.entry e.val
  let k := s.side.reg ctl
  let len := field k 7 0 + 1
  let size := lteSize b
  let bad := !(lteSpace b == 4 || lteSpace b == 5) || len % size != 0
  if len > 8 then .next (s.stopSide 7 (sideVal 0 e.val (Config.sideKind s.nextPost).toNat))
  else
    let w := { s.sideIssuing with bad := bad }
    match s.form w .store e.val 0 b [field k 47 32, field k 63 48, 0, 0] (max 1 (len / size)) with
    | .error f => .next (s.sideFail f)
    | .ok fm =>
      match s.spots w .store fm [0] with
      | .error f => .next (s.sideFail f)
      | .ok xs =>
        let bytes := sbeqBytes c b (fm.offs.headD 0) (leBytes len (s.side.reg dat).toNat)
        let target := lteCore b (if lteSpace b = 4 then dieOf c else lteDie b)
        let seat := field k 15 13
        let flag := field k 12 8
        let (sel, s) := s.askSelector (s.sideItem 4) c b s.sideIssuing.stamp
        let item := { s.sideItem (dieReach b) with bound := syncObject c b, after := sel, named := namesCore b }
        if overFlume c b then
          .next (s.sideMessages item b bytes (seat * 32 + flag) sel.isEmpty).sideDone
        else
          let id := s.nextPost
          let s := s.post { item with kind := .write bytes none, reach := accessReach c b xs }
          .next ((s.post { item with kind := .flag target seat flag false, after := [id] }).sideDone)

def execJCyc (d : Reg5) (s : State) : Res := .next (s.sideResult d (BitVec.ofNat 64 s.cyc))

/-! ### One side-core cycle -/

/-- A side core's cycle begins: the counter counts, and the context names the side core and its word. -/
def State.sideOpen (s : State) (c : Nat) (storer : Bool) (word : Nat) : State :=
  { s.sideCount c storer with cx := { Context.reset with core := c, storer := storer, word := word } }

/-- The word a side core fetches, or the exception of its fetch: cause and VAL (16 R412, R422). -/
def State.sideFetch (s : State) (c : Nat) (storer : Bool) : Except (Nat × Nat) Nat :=
  let x := (s.core c).side storer
  if x.pc.toNat % 4 ≠ 0 then .error (5, x.pc.toNat)
  else
    match s.sideWord c storer with
    | none => .error (4, x.pc.toNat)
    | some w => if sideLegal w then .ok w else .error (3, w)

/-- A side core of a loaded program that stands still only counts the cycle. -/
def State.sideIdle (s : State) (c : Nat) (storer : Bool) : State :=
  let x := (s.core c).side storer
  s.setSideAt c storer { x with cycle := if x.loaded then x.cycle + 1 else x.cycle }

end Sys2Proof.Machine
end

