-- ==== Sys2Proof/Machine/Dispatch.lean ====
section
/-! DEFINITION. One arm per constructor of `Instr`: the one call of that instruction's meaning. -/

namespace Sys2Proof.Machine

/-- The meaning of one step of the part (10 R260, 95). -/
def exec (i : Instr) (s : State) : Host.Outcome State Fault Refusal :=
  match i with
  | .psc f => Sys2Proof.Machine.execPsc f s
  | .pim f => Sys2Proof.Machine.execPim f s
  | .pimh f => Sys2Proof.Machine.execPimh f s
  | .nopb f => Sys2Proof.Machine.execNopb f s
  | .bpt f => Sys2Proof.Machine.execBpt f s
  | .bptr f => Sys2Proof.Machine.execBptr f s
  | .bptrRel f => Sys2Proof.Machine.execBptrRel f s
  | .btr f => Sys2Proof.Machine.execBtr f s
  | .bcl f => Sys2Proof.Machine.execBcl f s
  | .bclA f => Sys2Proof.Machine.execBclA f s
  | .brtn f => Sys2Proof.Machine.execBrtn f s
  | .brtnA f => Sys2Proof.Machine.execBrtnA f s
  | .lset f => Sys2Proof.Machine.execLset f s
  | .lsetReg f => Sys2Proof.Machine.execLsetReg f s
  | .lstr f => Sys2Proof.Machine.execLstr f s
  | .lbrk f => Sys2Proof.Machine.execLbrk f s
  | .lrrb f => Sys2Proof.Machine.execLrrb f s
  | .yld f => Sys2Proof.Machine.execYld f s
  | .yldp f => Sys2Proof.Machine.execYldp f s
  | .wtc f => Sys2Proof.Machine.execWtc f s
  | .wfl f => Sys2Proof.Machine.execWfl f s
  | .wmon f => Sys2Proof.Machine.execWmon f s
  | .tspn f => Sys2Proof.Machine.execTspn f s
  | .tend f => Sys2Proof.Machine.execTend f s
  | .trap f => Sys2Proof.Machine.execTrap f s
  | .trapSv f => Sys2Proof.Machine.execTrapSv f s
  | .rtt f => Sys2Proof.Machine.execRtt f s
  | .ask f => Sys2Proof.Machine.execAsk f s
  | .askr f => Sys2Proof.Machine.execAskr f s
  | .snap f => Sys2Proof.Machine.execSnap f s
  | .snapw f => Sys2Proof.Machine.execSnapw f s
  | .add f => Sys2Proof.Machine.execAdd f s
  | .sub f => Sys2Proof.Machine.execSub f s
  | .mul f => Sys2Proof.Machine.execMul f s
  | .mulh f => Sys2Proof.Machine.execMulh f s
  | .mulhu f => Sys2Proof.Machine.execMulhu f s
  | .div f => Sys2Proof.Machine.execDiv f s
  | .divu f => Sys2Proof.Machine.execDivu f s
  | .rem f => Sys2Proof.Machine.execRem f s
  | .remu f => Sys2Proof.Machine.execRemu f s
  | .and f => Sys2Proof.Machine.execAnd f s
  | .or f => Sys2Proof.Machine.execOr f s
  | .xor f => Sys2Proof.Machine.execXor f s
  | .andn f => Sys2Proof.Machine.execAndn f s
  | .shl f => Sys2Proof.Machine.execShl f s
  | .shr f => Sys2Proof.Machine.execShr f s
  | .sar f => Sys2Proof.Machine.execSar f s
  | .rotl f => Sys2Proof.Machine.execRotl f s
  | .clz f => Sys2Proof.Machine.execClz f s
  | .ctz f => Sys2Proof.Machine.execCtz f s
  | .popc f => Sys2Proof.Machine.execPopc f s
  | .min f => Sys2Proof.Machine.execMin f s
  | .max f => Sys2Proof.Machine.execMax f s
  | .minu f => Sys2Proof.Machine.execMinu f s
  | .maxu f => Sys2Proof.Machine.execMaxu f s
  | .sel f => Sys2Proof.Machine.execSel f s
  | .bext f => Sys2Proof.Machine.execBext f s
  | .bins f => Sys2Proof.Machine.execBins f s
  | .addw f => Sys2Proof.Machine.execAddw f s
  | .cmp f => Sys2Proof.Machine.execCmp f s
  | .fcmp f => Sys2Proof.Machine.execFcmp f s
  | .qop f => Sys2Proof.Machine.execQop f s
  | .movx f => Sys2Proof.Machine.execMovx f s
  | .fadds f => Sys2Proof.Machine.execFadds f s
  | .faddd f => Sys2Proof.Machine.execFaddd f s
  | .fsubs f => Sys2Proof.Machine.execFsubs f s
  | .fsubd f => Sys2Proof.Machine.execFsubd f s
  | .fmuls f => Sys2Proof.Machine.execFmuls f s
  | .fmuld f => Sys2Proof.Machine.execFmuld f s
  | .fmas f => Sys2Proof.Machine.execFmas f s
  | .fmad f => Sys2Proof.Machine.execFmad f s
  | .fdivs f => Sys2Proof.Machine.execFdivs f s
  | .fdivd f => Sys2Proof.Machine.execFdivd f s
  | .fsqrs f => Sys2Proof.Machine.execFsqrs f s
  | .fsqrd f => Sys2Proof.Machine.execFsqrd f s
  | .fmins f => Sys2Proof.Machine.execFmins f s
  | .fmaxs f => Sys2Proof.Machine.execFmaxs f s
  | .fmind f => Sys2Proof.Machine.execFmind f s
  | .fmaxd f => Sys2Proof.Machine.execFmaxd f s
  | .fcvt f => Sys2Proof.Machine.execFcvt f s
  | .fcls f => Sys2Proof.Machine.execFcls f s
  | .twos f => Sys2Proof.Machine.execTwos f s
  | .twop f => Sys2Proof.Machine.execTwop f s
  | .csrr f => Sys2Proof.Machine.execCsrr f s
  | .csrw f => Sys2Proof.Machine.execCsrw f s
  | .gset f => Sys2Proof.Machine.execGset f s
  | .lidx f => Sys2Proof.Machine.execLidx f s
  | .cycr f => Sys2Proof.Machine.execCycr f s
  | .movi f => Sys2Proof.Machine.execMovi f s
  | .tsrd f => Sys2Proof.Machine.execTsrd f s
  | .tlbi f => Sys2Proof.Machine.execTlbi f s
  | .vadd f => Sys2Proof.Machine.execVadd f s
  | .vsub f => Sys2Proof.Machine.execVsub f s
  | .vmul f => Sys2Proof.Machine.execVmul f s
  | .vfma f => Sys2Proof.Machine.execVfma f s
  | .vfms f => Sys2Proof.Machine.execVfms f s
  | .vdiv f => Sys2Proof.Machine.execVdiv f s
  | .vsqrt f => Sys2Proof.Machine.execVsqrt f s
  | .vmin f => Sys2Proof.Machine.execVmin f s
  | .vmax f => Sys2Proof.Machine.execVmax f s
  | .vabs f => Sys2Proof.Machine.execVabs f s
  | .vneg f => Sys2Proof.Machine.execVneg f s
  | .vexp2 f => Sys2Proof.Machine.execVexp2 f s
  | .vlog2 f => Sys2Proof.Machine.execVlog2 f s
  | .vrcp f => Sys2Proof.Machine.execVrcp f s
  | .vrsq f => Sys2Proof.Machine.execVrsq f s
  | .vcmp f => Sys2Proof.Machine.execVcmp f s
  | .vsel f => Sys2Proof.Machine.execVsel f s
  | .vany f => Sys2Proof.Machine.execVany f s
  | .vanyMask f => Sys2Proof.Machine.execVanyMask f s
  | .vall f => Sys2Proof.Machine.execVall f s
  | .vallMask f => Sys2Proof.Machine.execVallMask f s
  | .vkop f => Sys2Proof.Machine.execVkop f s
  | .vand f => Sys2Proof.Machine.execVand f s
  | .vor f => Sys2Proof.Machine.execVor f s
  | .vxor f => Sys2Proof.Machine.execVxor f s
  | .vshl f => Sys2Proof.Machine.execVshl f s
  | .vshr f => Sys2Proof.Machine.execVshr f s
  | .vsar f => Sys2Proof.Machine.execVsar f s
  | .vbcst f => Sys2Proof.Machine.execVbcst f s
  | .vxtr f => Sys2Proof.Machine.execVxtr f s
  | .viota f => Sys2Proof.Machine.execViota f s
  | .vperm f => Sys2Proof.Machine.execVperm f s
  | .vbfly f => Sys2Proof.Machine.execVbfly f s
  | .vrotl f => Sys2Proof.Machine.execVrotl f s
  | .vreda f => Sys2Proof.Machine.execVreda f s
  | .vredm f => Sys2Proof.Machine.execVredm f s
  | .vcvt f => Sys2Proof.Machine.execVcvt f s
  | .vpck f => Sys2Proof.Machine.execVpck f s
  | .vupk f => Sys2Proof.Machine.execVupk f s
  | .vcmul f => Sys2Proof.Machine.execVcmul f s
  | .vcmac f => Sys2Proof.Machine.execVcmac f s
  | .vtws f => Sys2Proof.Machine.execVtws f s
  | .vcadd f => Sys2Proof.Machine.execVcadd f s
  | .vhad f => Sys2Proof.Machine.execVhad f s
  | .vsgn f => Sys2Proof.Machine.execVsgn f s
  | .vqnt f => Sys2Proof.Machine.execVqnt f s
  | .vdq f => Sys2Proof.Machine.execVdq f s
  | .vcrt f => Sys2Proof.Machine.execVcrt f s
  | .vres f => Sys2Proof.Machine.execVres f s
  | .vsett f => Sys2Proof.Machine.execVsett f s
  | .vmovkToMask f => Sys2Proof.Machine.execVmovkToMask f s
  | .vmovkToReg f => Sys2Proof.Machine.execVmovkToReg f s
  | .vcls f => Sys2Proof.Machine.execVcls f s
  | .vround f => Sys2Proof.Machine.execVround f s
  | .vmulh f => Sys2Proof.Machine.execVmulh f s
  | .vabsd f => Sys2Proof.Machine.execVabsd f s
  | .vclz f => Sys2Proof.Machine.execVclz f s
  | .vpopc f => Sys2Proof.Machine.execVpopc f s
  | .vsatn f => Sys2Proof.Machine.execVsatn f s
  | .vscl f => Sys2Proof.Machine.execVscl f s
  | .vmix f => Sys2Proof.Machine.execVmix f s
  | .vsplt f => Sys2Proof.Machine.execVsplt f s
  | .vzero f => Sys2Proof.Machine.execVzero f s
  | .ltset f => Sys2Proof.Machine.execLtset f s
  | .ltget f => Sys2Proof.Machine.execLtget f s
  | .ltcpy f => Sys2Proof.Machine.execLtcpy f s
  | .vld f => Sys2Proof.Machine.execVld f s
  | .vldRaw f => Sys2Proof.Machine.execVldRaw f s
  | .vst f => Sys2Proof.Machine.execVst f s
  | .vstRaw f => Sys2Proof.Machine.execVstRaw f s
  | .sld f => Sys2Proof.Machine.execSld f s
  | .sst f => Sys2Proof.Machine.execSst f s
  | .vgth f => Sys2Proof.Machine.execVgth f s
  | .vsct f => Sys2Proof.Machine.execVsct f s
  | .cpy f => Sys2Proof.Machine.execCpy f s
  | .cpya f => Sys2Proof.Machine.execCpya f s
  | .pub f => Sys2Proof.Machine.execPub f s
  | .dclm f => Sys2Proof.Machine.execDclm f s
  | .drel f => Sys2Proof.Machine.execDrel f s
  | .dwr f => Sys2Proof.Machine.execDwr f s
  | .lscl f => Sys2Proof.Machine.execLscl f s
  | .aadd f => Sys2Proof.Machine.execAadd f s
  | .aaddf f => Sys2Proof.Machine.execAaddf f s
  | .aaddk f => Sys2Proof.Machine.execAaddk f s
  | .amin f => Sys2Proof.Machine.execAmin f s
  | .amax f => Sys2Proof.Machine.execAmax f s
  | .aminu f => Sys2Proof.Machine.execAminu f s
  | .amaxu f => Sys2Proof.Machine.execAmaxu f s
  | .axch f => Sys2Proof.Machine.execAxch f s
  | .acas f => Sys2Proof.Machine.execAcas f s
  | .aand f => Sys2Proof.Machine.execAand f s
  | .aor f => Sys2Proof.Machine.execAor f s
  | .axor f => Sys2Proof.Machine.execAxor f s
  | .tdec f => Sys2Proof.Machine.execTdec f s
  | .bind f => Sys2Proof.Machine.execBind f s
  | .unbd f => Sys2Proof.Machine.execUnbd f s
  | .acq f => Sys2Proof.Machine.execAcq f s
  | .rel f => Sys2Proof.Machine.execRel f s
  | .acqt f => Sys2Proof.Machine.execAcqt f s
  | .fnc f => Sys2Proof.Machine.execFnc f s
  | .fni f => Sys2Proof.Machine.execFni f s
  | .fnw f => Sys2Proof.Machine.execFnw f s
  | .sflg f => Sys2Proof.Machine.execSflg f s
  | .scnt f => Sys2Proof.Machine.execScnt f s
  | .sbeq f => Sys2Proof.Machine.execSbeq f s
  | .redp f => Sys2Proof.Machine.execRedp f s
  | .redw f => Sys2Proof.Machine.execRedw f s
  | .qpop f => Sys2Proof.Machine.execQpop f s
  | .qpsh f => Sys2Proof.Machine.execQpsh f s
  | .qlev f => Sys2Proof.Machine.execQlev f s
  | .walw f => Sys2Proof.Machine.execWalw f s
  | .mona f => Sys2Proof.Machine.execMona f s
  | .digq f => Sys2Proof.Machine.execDigq f s
  | .hgset f => Sys2Proof.Machine.execHgset f s
  | .hgget f => Sys2Proof.Machine.execHgget f s
  | .manr f => Sys2Proof.Machine.execManr f s
  | .pref f => Sys2Proof.Machine.execPref f s
  | .bld f => Sys2Proof.Machine.execBld f s
  | .bst f => Sys2Proof.Machine.execBst f s
  | .bzero f => Sys2Proof.Machine.execBzero f s
  | .cpyw f => Sys2Proof.Machine.execCpyw f s
  | .lthdr f => Sys2Proof.Machine.execLthdr f s
  | .sprb f => Sys2Proof.Machine.execSprb f s
  | .mnop f => Sys2Proof.Machine.execMnop f s
  | .mshb f => Sys2Proof.Machine.execMshb f s
  | .mshr f => Sys2Proof.Machine.execMshr f s
  | .mswp f => Sys2Proof.Machine.execMswp f s
  | .mpsa f => Sys2Proof.Machine.execMpsa f s
  | .mpss f => Sys2Proof.Machine.execMpss f s
  | .mpra f => Sys2Proof.Machine.execMpra f s
  | .mprs f => Sys2Proof.Machine.execMprs f s
  | .mdrd f => Sys2Proof.Machine.execMdrd f s
  | .mdrv f => Sys2Proof.Machine.execMdrv f s
  | .mdrb f => Sys2Proof.Machine.execMdrb f s
  | .mbas f => Sys2Proof.Machine.execMbas f s
  | .mbasKeep f => Sys2Proof.Machine.execMbasKeep f s
  | .mzro f => Sys2Proof.Machine.execMzro f s
  | .mkst f => Sys2Proof.Machine.execMkst f s
  | .mkrd f => Sys2Proof.Machine.execMkrd f s
  | .mtsr f => Sys2Proof.Machine.execMtsr f s
  | .mbld f => Sys2Proof.Machine.execMbld f s
  | .mbst f => Sys2Proof.Machine.execMbst f s
  | .msyn f => Sys2Proof.Machine.execMsyn f s
  | .mpoi f => Sys2Proof.Machine.execMpoi f s
  | .jqPush x => Sys2Proof.Machine.execJqPush x s
  | .jqPull d => Sys2Proof.Machine.execJqPull d s
  | .jqPullLev d => Sys2Proof.Machine.execJqPullLev d s
  | .jCpy d x t => Sys2Proof.Machine.execJCpy d x t s
  | .jWtc d x => Sys2Proof.Machine.execJWtc d x s
  | .jDclm d x t => Sys2Proof.Machine.execJDclm d x t s
  | .jLte d x => Sys2Proof.Machine.execJLte d x s
  | .jLteW x t => Sys2Proof.Machine.execJLteW x t s
  | .jFlag x => Sys2Proof.Machine.execJFlag x s
  | .jCyc d => Sys2Proof.Machine.execJCyc d s
  | .jPub e x => Sys2Proof.Machine.execJPub e x s
  | .jAcq e x => Sys2Proof.Machine.execJAcq e x s
  | .jRel e x => Sys2Proof.Machine.execJRel e x s
  | .jSbeq e x t => Sys2Proof.Machine.execJSbeq e x t s
  | .sideCoreRv64Instruction y => Sys2Proof.Machine.execSideCoreRv64Instruction y s
  | .sideCoreException c storer => Sys2Proof.Machine.execSideCoreException c storer s
  | .scfltWrite c storer pc => Sys2Proof.Machine.execScfltWrite c storer pc s
  | .resultLand c => Sys2Proof.Machine.execResultLand c s
  | .pushLand c => Sys2Proof.Machine.execPushLand c s
  | .icacheFill c => Sys2Proof.Machine.execIcacheFill c s
  | .outerLoadArrival c k => Sys2Proof.Machine.execOuterLoadArrival c k s
  | .remoteTimeout c k => Sys2Proof.Machine.execRemoteTimeout c k s
  | .remoteRefusal c k => Sys2Proof.Machine.execRemoteRefusal c k s
  | .postedWritePerform id => Sys2Proof.Machine.execPostedWritePerform id s
  | .releasePerform id => Sys2Proof.Machine.execReleasePerform id s
  | .armedGranuleCopy d ctx va => Sys2Proof.Machine.execArmedGranuleCopy d ctx va s
  | .pageWalk d => Sys2Proof.Machine.execPageWalk d s
  | .pageWalkComplete d k => Sys2Proof.Machine.execPageWalkComplete d k s
  | .copyComplete c id => Sys2Proof.Machine.execCopyComplete c id s
  | .copyFault c id => Sys2Proof.Machine.execCopyFault c id s
  | .drawerRowFilled c id => Sys2Proof.Machine.execDrawerRowFilled c id s
  | .tlbiComplete id => Sys2Proof.Machine.execTlbiComplete id s
  | .promiseReached c n => Sys2Proof.Machine.execPromiseReached c n s
  | .stationFlagSet k => Sys2Proof.Machine.execStationFlagSet k s
  | .flagTimeout c n => Sys2Proof.Machine.execFlagTimeout c n s
  | .monitorFire c n => Sys2Proof.Machine.execMonitorFire c n s
  | .monitorTimeout c n => Sys2Proof.Machine.execMonitorTimeout c n s
  | .wmonTimeout c n => Sys2Proof.Machine.execWmonTimeout c n s
  | .parkWake c n => Sys2Proof.Machine.execParkWake c n s
  | .parkTimeoutWake c n => Sys2Proof.Machine.execParkTimeoutWake c n s
  | .acqtReread c n => Sys2Proof.Machine.execAcqtReread c n s
  | .leaveGrant d => Sys2Proof.Machine.execLeaveGrant d s
  | .reductionPacketArrival c k => Sys2Proof.Machine.execReductionPacketArrival c k s
  | .reductionRouterTimeout c tree => Sys2Proof.Machine.execReductionRouterTimeout c tree s
  | .reductionWaitTimeout c n => Sys2Proof.Machine.execReductionWaitTimeout c n s
  | .spanWatchdog c => Sys2Proof.Machine.execSpanWatchdog c s
  | .taskRelease d record fail => Sys2Proof.Machine.execTaskRelease d record fail s
  | .issueSelect c => Sys2Proof.Machine.execIssueSelect c s
  | .sluiceBind c => Sys2Proof.Machine.execSluiceBind c s
  | .dispatchComplete c n => Sys2Proof.Machine.execDispatchComplete c n s
  | .scratchFillComplete c n => Sys2Proof.Machine.execScratchFillComplete c n s
  | .seatRestoreComplete c n => Sys2Proof.Machine.execSeatRestoreComplete c n s
  | .preemptRequest c n why => Sys2Proof.Machine.execPreemptRequest c n why s
  | .forcedSave c n => Sys2Proof.Machine.execForcedSave c n s
  | .seatSaveComplete c n => Sys2Proof.Machine.execSeatSaveComplete c n s
  | .taskEndSuccessors d record => Sys2Proof.Machine.execTaskEndSuccessors d record s
  | .reuseLookup d record => Sys2Proof.Machine.execReuseLookup d record s
  | .reuseHitComplete d record => Sys2Proof.Machine.execReuseHitComplete d record s
  | .hostFetchaddResv a amount => Sys2Proof.Machine.execHostFetchaddResv a amount s
  | .queueTailWrite a value => Sys2Proof.Machine.execQueueTailWrite a value s
  | .hostPostedWrite a data => Sys2Proof.Machine.execHostPostedWrite a data s
  | .flagClassWritePerform port => Sys2Proof.Machine.execFlagClassWritePerform port s
  | .hostRead a len => Sys2Proof.Machine.execHostRead a len s
  | .hostAtomic a op wide value compare => Sys2Proof.Machine.execHostAtomic a op wide value compare s
  | .hostBar4Access a len data => Sys2Proof.Machine.execHostBar4Access a len data s
  | .launchQueuePoll q => Sys2Proof.Machine.execLaunchQueuePoll q s
  | .taskCreation slot d => Sys2Proof.Machine.execTaskCreation slot d s
  | .launchCompletion slot => Sys2Proof.Machine.execLaunchCompletion slot s
  | .streamCloseFollowup k => Sys2Proof.Machine.execStreamCloseFollowup k s
  | .gatePass p => Sys2Proof.Machine.execGatePass p s
  | .gateLoad p => Sys2Proof.Machine.execGateLoad p s
  | .gateCopy p => Sys2Proof.Machine.execGateCopy p s
  | .gateAdd p => Sys2Proof.Machine.execGateAdd p s
  | .gateTake p => Sys2Proof.Machine.execGateTake p s
  | .gateEmpty p => Sys2Proof.Machine.execGateEmpty p s
  | .station0ClassChange p => Sys2Proof.Machine.execStation0ClassChange p s
  | .station0EmptyStale p => Sys2Proof.Machine.execStation0EmptyStale p s
  | .beTakeSlot p => Sys2Proof.Machine.execBeTakeSlot p s
  | .beHold p => Sys2Proof.Machine.execBeHold p s
  | .beResend p => Sys2Proof.Machine.execBeResend p s
  | .beWrite p => Sys2Proof.Machine.execBeWrite p s
  | .beReadRequest p => Sys2Proof.Machine.execBeReadRequest p s
  | .beReadResponse p => Sys2Proof.Machine.execBeReadResponse p s
  | .beCounterDecrement p => Sys2Proof.Machine.execBeCounterDecrement p s
  | .beAtomicRequest p => Sys2Proof.Machine.execBeAtomicRequest p s
  | .beAtomicResponse p => Sys2Proof.Machine.execBeAtomicResponse p s
  | .beSbeqMessage p => Sys2Proof.Machine.execBeSbeqMessage p s
  | .beReservedKind p => Sys2Proof.Machine.execBeReservedKind p s
  | .ladeBringUp ring n hops => Sys2Proof.Machine.execLadeBringUp ring n hops s
  | .canalInject k => Sys2Proof.Machine.execCanalInject k s
  | .canalTrim port p => Sys2Proof.Machine.execCanalTrim port p s
  | .canalReadRequest p => Sys2Proof.Machine.execCanalReadRequest p s
  | .canalReadResponse p => Sys2Proof.Machine.execCanalReadResponse p s
  | .canalPostedWrite p => Sys2Proof.Machine.execCanalPostedWrite p s
  | .canalAadd p => Sys2Proof.Machine.execCanalAadd p s
  | .canalAaddf p => Sys2Proof.Machine.execCanalAaddf p s
  | .canalAaddk p => Sys2Proof.Machine.execCanalAaddk p s
  | .canalAmin p => Sys2Proof.Machine.execCanalAmin p s
  | .canalAmax p => Sys2Proof.Machine.execCanalAmax p s
  | .canalAminu p => Sys2Proof.Machine.execCanalAminu p s
  | .canalAmaxu p => Sys2Proof.Machine.execCanalAmaxu p s
  | .canalAxch p => Sys2Proof.Machine.execCanalAxch p s
  | .canalAcas p => Sys2Proof.Machine.execCanalAcas p s
  | .canalAand p => Sys2Proof.Machine.execCanalAand p s
  | .canalAor p => Sys2Proof.Machine.execCanalAor p s
  | .canalAxor p => Sys2Proof.Machine.execCanalAxor p s
  | .canalAcquireRead p => Sys2Proof.Machine.execCanalAcquireRead p s
  | .canalTaskDecrement p => Sys2Proof.Machine.execCanalTaskDecrement p s
  | .canalPublication p => Sys2Proof.Machine.execCanalPublication p s
  | .canalReservedAop p => Sys2Proof.Machine.execCanalReservedAop p s
  | .canalAtomicResponse p => Sys2Proof.Machine.execCanalAtomicResponse p s
  | .canalReRequest p => Sys2Proof.Machine.execCanalReRequest p s
  | .canalAcknowledgement p => Sys2Proof.Machine.execCanalAcknowledgement p s
  | .canalSnapshotMarker p => Sys2Proof.Machine.execCanalSnapshotMarker p s
  | .canalRefusal p => Sys2Proof.Machine.execCanalRefusal p s
  | .canalReservedType p => Sys2Proof.Machine.execCanalReservedType p s
  | .canalPacketPerform peer seq => Sys2Proof.Machine.execCanalPacketPerform peer seq s
  | .canalHoleRerequest peer seq => Sys2Proof.Machine.execCanalHoleRerequest peer seq s
  | .canalTokenRefill peer => Sys2Proof.Machine.execCanalTokenRefill peer s
  | .canalAckSend peer => Sys2Proof.Machine.execCanalAckSend peer s
  | .responderWatchdog peer seq => Sys2Proof.Machine.execResponderWatchdog peer seq s
  | .linkIdle port freed => Sys2Proof.Machine.execLinkIdle port freed s
  | .linkResync port freed received => Sys2Proof.Machine.execLinkResync port freed received s
  | .linkAdv port occupancy => Sys2Proof.Machine.execLinkAdv port occupancy s
  | .linkRkreq port generation => Sys2Proof.Machine.execLinkRkreq port generation s
  | .linkRkmsg port fragment => Sys2Proof.Machine.execLinkRkmsg port fragment s
  | .linkKeysw port => Sys2Proof.Machine.execLinkKeysw port s
  | .linkAdvTimer port => Sys2Proof.Machine.execLinkAdvTimer port s
  | .linkResyncTimer port => Sys2Proof.Machine.execLinkResyncTimer port s
  | .linkReplayRequest port rpn => Sys2Proof.Machine.execLinkReplayRequest port rpn s
  | .linkRetire port => Sys2Proof.Machine.execLinkRetire port s
  | .rekeyStart port => Sys2Proof.Machine.execRekeyStart port s
  | .rekeyStop port => Sys2Proof.Machine.execRekeyStop port s
  | .rekeyTimeout port => Sys2Proof.Machine.execRekeyTimeout port s
  | .keyLoad material => Sys2Proof.Machine.execKeyLoad material s
  | .keyRetire => Sys2Proof.Machine.execKeyRetire s
  | .keyQuery => Sys2Proof.Machine.execKeyQuery s
  | .keyBadRequest => Sys2Proof.Machine.execKeyBadRequest s
  | .keyDoorbellInvalid => Sys2Proof.Machine.execKeyDoorbellInvalid s
  | .wallowWrite y value => Sys2Proof.Machine.execWallowWrite y value s
  | .pcapWrite value => Sys2Proof.Machine.execPcapWrite value s
  | .powerClassChange => Sys2Proof.Machine.execPowerClassChange s
  | .managementRegisterWrite r value => Sys2Proof.Machine.execManagementRegisterWrite r value s
  | .throttle d on => Sys2Proof.Machine.execThrottle d on s
  | .thermalShutdown => Sys2Proof.Machine.execThermalShutdown s
  | .dieReset d => Sys2Proof.Machine.execDieReset d s
  | .dieReadmit d => Sys2Proof.Machine.execDieReadmit d s
  | .tdispMessage d m => Sys2Proof.Machine.execTdispMessage d m s
  | .spdmRequest fn index => Sys2Proof.Machine.execSpdmRequest fn index s
  | .portReset port => Sys2Proof.Machine.execPortReset port s
  | .boot stages fuses => Sys2Proof.Machine.execBoot stages fuses s
  | .coreOwnerChange c tenant => Sys2Proof.Machine.execCoreOwnerChange c tenant s
  | .scrubComplete c => Sys2Proof.Machine.execScrubComplete c s
  | .jobRegister job tenant ctx packages => Sys2Proof.Machine.execJobRegister job tenant ctx packages s
  | .jobDeregister job => Sys2Proof.Machine.execJobDeregister job s
  | .snapshotRequestReceipt d job => Sys2Proof.Machine.execSnapshotRequestReceipt d job s
  | .snapshotSaved d job => Sys2Proof.Machine.execSnapshotSaved d job s
  | .snapshotResume job => Sys2Proof.Machine.execSnapshotResume job s
  | .snapshotSweepComplete job => Sys2Proof.Machine.execSnapshotSweepComplete job s
  | .manifestCommit job signature => Sys2Proof.Machine.execManifestCommit job signature s
  | .uncorrectableRead addr again reader => Sys2Proof.Machine.execUncorrectableRead addr again reader s
  | .flumeHopFailure station again => Sys2Proof.Machine.execFlumeHopFailure station again s
  | .rollback job verified frames => Sys2Proof.Machine.execRollback job verified frames s
  | .illegalBundle c => Sys2Proof.Machine.execIllegalBundle c s
  | .reuseInsertComplete d record => Sys2Proof.Machine.execReuseInsertComplete d record s
  | .acquireReadPerformed c n => Sys2Proof.Machine.execAcquireReadPerformed c n s
  | .prefetchReadArrival c n => Sys2Proof.Machine.execPrefetchReadArrival c n s
  | .rpnAcknowledgement port rpn => Sys2Proof.Machine.execRpnAcknowledgement port rpn s

end Sys2Proof.Machine
end

