-- ==== Sys2Proof/Machine/Cycle.lean ====
section
/-! DEFINITION. One core cycle of a core (07 R185-R198, 02 R43-R55, 09 R248-R252): results land, the core freezes, selects, fetches and
issues one bundle whose slots act together or not at all. -/

namespace Sys2Proof.Machine

/-! ### The slots of a bundle -/

/-- Whether a slot word is a WMON. -/
def isWmon (w : Nat) : Bool := opOf w == 0x12

/-- Place of a class in the order in which the slots of a bundle are evaluated: P, S, V, M, L, B. Every slot reads the state as the bundle
began, so the order shows only in what is shared: a scratchpad load reads before a store of L1 (02 R46), control passes last, and a WMON
sees no monitor that a MONA of its own bundle arms, which it does at the commit (11 R302, 14 R383). -/
def turnOf (w : Nat) : Nat :=
  if isWmon w then 1 else match classRank (opOf w) with
  | 1 => 5
  | 4 => 4
  | 5 => 3
  | 2 => 1
  | 3 => 2
  | _ => 0

/-- The slots with their positions and words, in the order of evaluation. -/
def inTurn (ws : List Nat) (is : List Instr) : List (Nat × Nat × Instr) :=
  let all := (List.range is.length).zip (ws.zip is)
  (List.range 6).flatMap fun t => all.filter fun x => turnOf x.2.1 == t

/-- How far a bundle has come: its state, the trap of the lowest position so far, whether a slot stalls, and what the slots before
the B slot asked the seat to wait for. -/
structure Run where
  s : State
  trap : Option (Nat × Nat × Word)
  stalled : Bool
  waits : List Wait
deriving DecidableEq, Repr

/-- A trap at position `p`, unless one of a lower position stands. -/
def Run.trapAt (r : Run) (p cause : Nat) (tval : Word) : Run :=
  match r.trap with
  | some (q, _, _) => if q < p then r else { r with trap := some (p, cause, tval) }
  | none => { r with trap := some (p, cause, tval) }

/-- One slot of the bundle; the run, or the stop of the machine. -/
def Run.slot (r : Run) (pos w : Nat) (i : Instr) : Run ⊕ Res :=
  match exec i { r.s with cx := { r.s.cx with pos := pos, word := w, out := .go } } with
  | .next t =>
    match t.cx.out with
    | .go => .inl { r with s := t, waits := t.seat.waits }
    | .after => .inl { r with s := t }
    | .stall => .inl { r with s := { t with cx := { t.cx with out := .go } }, stalled := true, waits := t.seat.waits }
    | .trap cause tval slot => .inl (r.trapAt slot cause tval)
  | stop => .inr stop

/-- The slots of the bundle one after another. -/
def Run.all (r : Run) : List (Nat × Nat × Instr) → Run ⊕ Res
  | [] => .inl r
  | (pos, w, i) :: rest =>
    match r.slot pos w i with
    | .inl r' => r'.all rest
    | .inr stop => .inr stop

/-- Whether an acting slot of the bundle reads a bypass latch (07 R198). -/
def readsLatch (st : Seat) (ws : List Nat) : Bool :=
  ws.any fun w => classRank (opOf w) != 0 && st.pred (bitsAt w 18 4) && (slotChk w).srcs.any fun x => 32 ≤ x && x < 46

/-- Core cycles that the core freezes after a bundle (02 R43, R46, R47): rows of the basin, lines of the scratchpad's banks. -/
def freezeOf (rows banks : List Nat) : Nat :=
  let rs := sortAddrs rows
  let even := (rs.filter fun r => r % 2 == 0).length
  let odd := (rs.filter fun r => r % 2 == 1).length
  let most := (List.range 32).foldl (fun m b => max m (((banks.filter fun l => l % 32 == b).length + 1) / 2)) 1
  max (max even odd - 1) (most - 1)

/-- The issue context of the bundle at the PC of seat `n`. -/
def State.openBundle (s : State) (c n len : Nat) : State :=
  let st := s.seatAt c n
  { s with cx := { Context.reset with
      core := c, seat := n, length := len, addr := st.pc, firstId := s.nextPost, inLevel := st.inq.length,
      outLevel := st.outq.length + st.pushing.length } }

/-- A bundle of `len` words that traps: nothing of it has acted (09 R252). -/
def State.bundleTrap (s : State) (c n pos cause : Nat) (tval : Word) (len : Nat) : State :=
  (s.trapAt c n pos cause tval len).countTrap c n

/-- A bundle that stalls: its waits go on, its requests stand, and no pipeline advances but MSYN's (07 R195). -/
def State.bundleStall (s : State) (c n : Nat) (r : Run) : State :=
  let d := dieOf c
  let asks := (r.s.die d).asks
  let stream := (r.s.seatAt c n).stream
  let aside := (r.s.seatAt c n).aside
  let scan := (r.s.seatAt c n).scan
  let line := (r.s.core c).fetching
  let since := (r.s.core c).fetchSince
  let s := s.onDie d fun k => { k with asks := asks }
  let s := s.onCore c fun k => ({ k with fetching := line, fetchSince := since }).setSeat n
    { k.seat n with waits := r.waits, stream := stream, aside := aside, scan := scan }
  if r.waits.any fun w => w.kind == .array then s.advanceArray c n else s

/-- A bundle that commits (09 R252), with the freeze its L slots cost. -/
def State.bundleCommit (s : State) (c : Nat) : State :=
  let t := if s.cx.out = .after then s else s.commit
  let f := freezeOf s.cx.rows s.cx.banks
  let t := t.onCore c fun k => { k with freeze := k.freeze + f }
  { t with cx := { t.cx with out := .go } }

/-- The bundle `b` of words `ws` issues on seat `n` (09 R251, R252): a trap comes before a stall, a stall before the commit. -/
def State.issue (s : State) (c n : Nat) (ws : List Nat) (b : Bundle) : Res :=
  let s1 := s.openBundle c n b.length
  let s2 := if readsLatch (s1.seatAt c n) ws then s1.busy else s1
  let s2 := s2.onSeat c n fun st => { st with body := st.recording ws }
  match Run.all ⟨s2, none, false, (s2.seatAt c n).waits⟩ (inTurn ws b.slots) with
  | .inr stop => stop
  | .inl r =>
    match r.trap with
    | some (pos, cause, tval) => .next (s.bundleTrap c n pos cause tval b.length)
    | none => if r.stalled then .next (s.bundleStall c n r) else .next (r.s.bundleCommit c)

/-! ### The core cycle -/

/-- A trip that is due and has not arrived freezes the core; one that is lost holds its seat's next bundle (02 R49, R50). -/
def Landing.late (i : Nat) (l : Landing) : Bool :=
  l.seat < 8 && l.due ≤ i && (match l.travel with
    | .away _ => true
    | _ => false)

/-- A load lost by a refusal or a time-out holds its seat's next bundle, unless another holds it already: then it stays in flight, and the
trap banks it for the same bundle (02 R50, 18 R443). -/
def Core.hold (k : Core) (l : Landing) : Core :=
  match l.travel with
  | .lost cause tval =>
    let st := k.seat l.seat
    if st.held.isSome then k
    else ({ k with flight := k.flight.erase l }).setSeat l.seat { st with held := some (cause, tval, l.ord) }
  | _ => k

/-- Loads lost by a refusal or a time-out, at their horizon: the seats' next bundles are held. -/
def Core.holdLost (k : Core) : Core :=
  (sortLandings (k.flight.filter fun l => l.due ≤ k.idx && (match l.travel with
    | .lost _ _ => true
    | _ => false))).foldl Core.hold k

/-- One core cycle of the dispatch or the restore of every seat (07 R186). -/
def Core.loadTick (k : Core) : Core :=
  { k with seats := k.seats.map fun q => (q.1, { q.2 with loading := q.2.loading - 1 }) }

/-- The running seat's span counts a core cycle (07 R197). -/
def Core.spanTick (k : Core) : Core :=
  match k.running with
  | some n => k.setSeat n { k.seat n with span := (k.seat n).span + 1 }
  | none => k

/-- The trap of the held bundle (02 R50): its distance from the load's bundle stands in TVAL[63:48], but for uncorrectable data, whose TVAL
is the index of a log entry alone (18 R447). -/
def State.heldTrap (s : State) (c n cause : Nat) (tval : Word) (ord : Nat) : State :=
  let dist := (s.core c).idx - ord / 16
  s.bundleTrap c n (ord % 16) cause (if cause = 24 then tval else putField tval 63 48 dist) 0

/-- The bundle at the PC of a seat is fetched and issues: a held bundle traps, and a line that is not cached is awaited. -/
def State.nextBundle (s : State) (c n : Nat) : Res :=
  let st := s.seatAt c n
  match st.held with
  | some (cause, tval, ord) => .next (s.heldTrap c n cause tval ord)
  | none =>
    match s.bundleAt c n with
    | .error (.miss va) => .next (s.awaitLine c st.ctx va)
    | .error (.fault t) => .next (s.bundleTrap c n 0 15 t 0)
    | .error (.word _) => .next s
    | .ok ws =>
      match decodeBundle ws with
      | .error (cause, tval) => .next (s.bundleTrap c n (field tval 10 8) cause tval 0)
      | .ok b => s.issue c n ws b

/-- The first trip that a freeze waits for. -/
def Core.lateTrip (k : Core) : Option Trip :=
  (sortLandings (k.flight.filter fun l => l.late k.idx)).findSome? Landing.trip

/-- The core waits in a freeze for a value from an outer home (02 R49); a freeze that has lasted XTO ends the wait for it (R50). -/
def State.freezeOn (s : State) (c : Nat) : State :=
  let d := s.die (dieOf c)
  let spent := match (s.core c).frozenSince with
    | some f => decide (f + d.xto ≤ d.cyc)
    | none => false
  match spent, (s.core c).lateTrip with
  | true, some t => (s.timeOut c t).onCore c fun k => k.holdLost
  | _, _ => s.onCore c fun k => { k with frozenSince := some (k.frozenSince.getD d.cyc) }

/-- A trap of the running seat waits while a load or an atomic of the seat still travels (18 R443), and is then taken; a wait that has lasted
XTO ends as a freeze does (02 R50). -/
def State.trapWaits (s : State) (c n : Nat) (x : Trapping) : State :=
  let d := s.die (dieOf c)
  match s.tripsOf c n with
  | [] => ((s.takeTrap c n x.cause x.tval x.slot x.tpc).onCore c fun k => { k with frozenSince := none }).countTrap c n
  | t :: _ =>
    match (s.core c).frozenSince with
    | some f => if f + d.xto ≤ d.cyc then s.timeOut c t else s
    | none => s.onCore c fun k => { k with frozenSince := some d.cyc }

/-- Whether the core freezes for a value: one is late, and the running seat's next bundle is not held for a trap (02 R49, R50). -/
def Core.waits (k : Core) : Bool :=
  k.flight.any (fun l => l.late k.idx) && (match k.running with
    | some n => (k.seat n).held.isNone
    | none => true)

/-- The running seat's turn: firmware acts at its vector, else the results of its frame take flight again (18 R449) and the bundle at the
PC issues. -/
def State.runSeat (s : State) (c n : Nat) : Res :=
  if (s.seatAt c n).firmware then .next ((s.firmwareActs c n).onCore c fun k => { k with frozenSince := none, idx := k.idx + 1 })
  else
    let s0 := s.onCore c fun k => (k.replay n).holdLost
    if (s0.core c).waits then .next (s0.freezeOn c)
    else (s0.onCore c fun k => { k with frozenSince := none }).nextBundle c n

/-- The core cycle of a core after its landings: the span watchdog, a freeze (02 R43, R46, R49; 06 R165), a bubble, or the running seat's
turn. -/
def State.cycleOn (s : State) (c : Nat) : Res :=
  let k := s.core c
  let trap := k.running.bind fun n => ((k.seat n).trapping).map fun x => (n, x)
  match trap with
  | some (n, x) => .next ((s.onCore c Core.spanTick).trapWaits c n x)
  | none =>
  if (match k.running with
    | some n => s.overSpan c n
    | none => false) then .next (s.watchdog c (k.running.getD 0))
  else if k.freeze ≠ 0 then .next (s.onCore c fun k => { k.spanTick with freeze := k.freeze - 1 })
  else if k.waits then .next ((s.onCore c Core.spanTick).freezeOn c)
  else if s.fenced c then .next (s.onCore c Core.spanTick)
  else if k.bubble then .next (s.onCore c fun k => { k with bubble := false, idx := k.idx + 1, frozenSince := none })
  else
    let t := s.onCore c fun k => (if k.running.isNone then k.select else k).spanTick
    match (t.core c).running with
    | none => .next (t.onCore c fun k => { k with idx := k.idx + 1, frozenSince := none })
    | some n => t.runSeat c n

/-- One core cycle of core `c`. -/
def State.coreCycle (s : State) (c : Nat) : Res :=
  ((((s.landLte c false).landDue c (s.core c).idx).settlePushes c).onCore c fun k => k.holdLost.loadTick).cycleOn c

end Sys2Proof.Machine
end

