-- ==== Sys2Proof/Machine/Round.lean ====
section
/-! DEFINITION. The standard round of turns that the step takes when its agenda is empty: two core cycles of every core that holds anything, one
cycle of its side cores and of each mesh, one slot time, a Canal cycle, a cycle of each link, and every internal event that may have come about. -/

namespace Sys2Proof.Machine

/-- Events of one seat. -/
noncomputable def seatEvents (c n : Nat) : List Instr :=
  [.dispatchComplete c n, .scratchFillComplete c n, .seatRestoreComplete c n, .preemptRequest c n .priority, .preemptRequest c n .snapshot,
    .forcedSave c n, .seatSaveComplete c n, .promiseReached c n, .flagTimeout c n, .monitorFire c n, .monitorTimeout c n, .wmonTimeout c n,
    .parkWake c n, .parkTimeoutWake c n, .acqtReread c n, .acquireReadPerformed c n, .prefetchReadArrival c n, .reductionWaitTimeout c n]

/-- Events of one core. -/
noncomputable def State.coreEvents (s : State) (c : Nat) : List Instr :=
  let k := s.core c
  [.icacheFill c] ++ (k.router.held.map fun h => .reductionRouterTimeout c h.1) ++ (k.seats.flatMap fun q => seatEvents c q.1) ++
    (k.landings.filter fun l => l.trip.isSome).flatMap (fun l => [.outerLoadArrival c l.ord, .remoteRefusal c l.ord, .remoteTimeout c l.ord]) ++
    (k.cmds.flatMap fun x => [.drawerRowFilled c x.id, .copyFault c x.id, .copyComplete c x.id]) ++
    ((List.range s.mesh.length).map fun i => .reductionPacketArrival c i) ++ [.scrubComplete c, .sluiceBind c]

/-- Events of one die. -/
noncomputable def State.dieEvents (s : State) (d : Nat) : List Instr :=
  [.leaveGrant d, .pageWalk d] ++ (List.range (s.die d).walks.length).map fun i => .pageWalkComplete d i

/-- Events of the posted work and of the ordering point. -/
noncomputable def State.postedEvents (s : State) : List Instr :=
  (s.posted.flatMap fun p => (match p.va with
    | some va => [.armedGranuleCopy p.die p.ctx va]
    | none => []) ++ [.postedWritePerform p.id, .releasePerform p.id, .tlbiComplete p.id]) ++
    ((List.range s.flume.flagsDue.length).map fun i => .stationFlagSet i) ++ (List.range 4).map fun p => .flagClassWritePerform p

/-- Events of the launch unit, of tasks and of jobs. -/
noncomputable def State.launchEvents (s : State) : List Instr :=
  ((List.range 64).map fun q => .launchQueuePoll q) ++
    (s.launches.flatMap fun k => ((k.2.diesLeft.take 1).map fun d => .taskCreation k.1 d) ++
      (k.2.tasks.flatMap fun t => [.reuseLookup t.1 t.2, .reuseHitComplete t.1 t.2, .taskEndSuccessors t.1 t.2, .reuseInsertComplete t.1 t.2]) ++
      [.launchCompletion k.1]) ++
    ((List.range s.flume.streams.length).map fun k => .streamCloseFollowup k) ++
    s.jobs.flatMap fun j => ((List.range 21).flatMap fun d => [.snapshotRequestReceipt d j.1, .snapshotSaved d j.1]) ++
      [.snapshotResume j.1, .snapshotSweepComplete j.1]

/-- Events of the Canal. -/
noncomputable def State.canalEvents (s : State) : List Instr :=
  ((List.range s.canal.inject.length).map fun k => .canalInject k) ++
    (s.canal.recv.flatMap fun r => (r.2.entries.flatMap fun e =>
      [.canalPacketPerform r.1 e.seq, .canalHoleRerequest r.1 e.seq, .responderWatchdog r.1 e.seq]) ++ [.canalAckSend r.1, .canalTokenRefill r.1]) ++
    s.openPorts.flatMap fun p => [.linkAdvTimer p, .linkResyncTimer p, .rekeyStart p, .rekeyStop p, .rekeyTimeout p]

/-- The standard round. -/
noncomputable def State.round (s : State) : List Turn :=
  let cores := s.cores.map (·.1)
  let cycle : List Turn := (List.range 16).map Turn.tick ++ cores.map Turn.core
  cycle ++ cycle ++ (cores.flatMap fun c => [.side c false, .side c true] ++ (s.core c).cmds.map fun k => .engine c k.id) ++
    (List.range 16).map Turn.mesh ++ [.slotTime, .canalCycle] ++ s.openPorts.map Turn.link ++
    (cores.flatMap s.coreEvents ++ (List.range 16).flatMap s.dieEvents ++ s.postedEvents ++ s.launchEvents ++ s.canalEvents).map Turn.chance

/-- CYC of a die counts (02 R57), and a reset of the die goes on (19 R467). -/
def State.tick (s : State) (d : Nat) : State := (s.onDie d fun x => { x with cyc := (x.cyc + 1) % 2 ^ 64 }).resetTick d

/-- A die's mesh counts (14 R380). -/
def State.meshTick (s : State) (d : Nat) : State := s.onDie d fun x => { x with meshCyc := x.meshCyc + 1 }

/-- A copy engine's turn: the next run of a command that it holds. -/
def State.engineTurn (s : State) (c id : Nat) : State := s.moveCmd c id

/-- What is left when an event cannot come about: nothing has happened. -/
def orNothing (s : State) (r : Res) : Res := match r with
  | .refused (.notEnabled _) => .next s
  | r => r

/-- A side-core word where the loader of core 0 fetches next; the loader runs, and has the next turn. -/
def State.placeSideWord (s : State) (w : Nat) : State :=
  let x := s.core 0 |>.loader
  let pc : Word := if x.pc.toNat % 4 = 0 ∧ x.pc.toNat + 4 ≤ 0x8000 then x.pc else 0
  let s := s.store (placed ((Home.instr 0 false).at pc.toNat) (leBytes 4 w))
  { s.setSideAt 0 false { x with loaded := true, pc := pc, scflt := putField x.scflt 7 0 0 } with agenda := [.side 0 false] }

/-- A bundle word where seat 0 of core 0 fetches next: in the instruction cache; the seat runs, nothing freezes or holds it, and its core
has the next turn. -/
def State.placeBundleWord (s : State) (w : Nat) : State :=
  let k := s.core 0
  let st := k.seat 0
  let line : BitVec 512 := BitVec.ofNat 512 (w % 2 ^ 32 * 2 ^ (8 * (st.pc.toNat % 64)))
  let st := { st with st := .running, held := none, trapping := none, firmware := false, waits := [], span := 0 }
  let k := ({ k with running := some 0, freeze := 0, bubble := false, flight := [], icache := [((st.ctx, st.pc.toNat / 64), line)] }).setSeat 0 st
  { s.setCore 0 k with agenda := [.core 0] }

end Sys2Proof.Machine
end

