-- ==== Sys2Proof/Machine/Step.lean ====
section
/-! DEFINITION. One step of the package: the next turn of the agenda, or a new round. -/

namespace Sys2Proof.Machine

/-- One side-core cycle: the word at the PC executes, unless its fetch stops the side core (16 R411, R422). -/
noncomputable def State.sideCycle (s : State) (c : Nat) (storer : Bool) : Host.Outcome State Fault Refusal :=
  if !((s.core c).side storer).runs then .next (s.sideIdle c storer)
  else
    match s.sideFetch c storer with
    | .error (cause, val) => .next ((s.sideCount c storer).stopSideAt c storer cause val)
    | .ok w =>
      match decodeSide w with
      | some i => exec i (s.sideOpen c storer w)
      | none => .next ((s.sideCount c storer).stopSideAt c storer 3 w)

/-- One turn. -/
noncomputable def State.turn (s : State) (t : Turn) : Host.Outcome State Fault Refusal :=
  match t with
  | .core c => s.coreCycle c
  | .side c storer => s.sideCycle c storer
  | .tick d => .next (s.tick d)
  | .mesh d => .next (s.meshTick d)
  | .engine c id => .next (s.engineTurn c id)
  | .slotTime => .next s.endSlotTime
  | .link port => .next (s.linkCycle port)
  | .canalCycle => .next s.canalTick.hostTick
  | .event i => exec i s
  | .chance i => orNothing s (exec i s)

/-- Whether a turn can be taken without power: a boot. -/
def Turn.boots (t : Turn) : Bool := match t with
  | .event (.boot _ _) => true
  | _ => false

/-- One step: the first turn of the agenda; an empty agenda takes a standard round. -/
noncomputable def step (s : State) : Host.Outcome State Fault Refusal :=
  match s.agenda with
  | [] => if s.hostSide.power then .next { s with agenda := s.round } else .fault .poweredDown
  | t :: rest => if s.hostSide.power || t.boots then State.turn { s with agenda := rest } t else .fault .poweredDown

/-- The word `w` placed where the next step fetches: for a side-core word the loader of core 0, else a bundle of seat 0 of core 0. -/
def State.withFetchWord (s : State) (_nbits w : Nat) : State :=
  let s := { s with hostSide := { s.hostSide with power := true } }
  if sideLegal w then s.placeSideWord w else s.placeBundleWord w

end Sys2Proof.Machine
end

