-- ==== Sys2Proof/Safety.lean ====
section
/-! DEFINITION. What claims about runs are stated in: reachability, the canonical form of memory, and the invariants of the state. -/

namespace Sys2Proof.Machine

/-- `t` follows `s` after some steps. -/
inductive Reaches : State → State → Prop where
  | here (s : State) : Reaches s s
  | step {s t u : State} : Reaches s t → step t = .next u → Reaches s u

/-- Keys strictly rising. -/
def Rising : Tab α → Bool
  | [] => true
  | [_] => true
  | (k, _) :: (k', v') :: t => k < k' && Rising ((k', v') :: t)

/-- The memory is in its canonical form. -/
def State.MemOk (s : State) : Prop := Memory.wf s.mem = true

/-- A run is safe while no step of it faults: a fault is raised only by a package that is powered down (19 R475). -/
def Safe (s : State) : Prop := ∀ t, Reaches s t → ∀ f, step t = .fault f → t.hostSide.power = false

/-- The opcode values that no instruction has (10 R260). -/
def unassignedOp (op : Nat) : Bool :=
  op == 0x03 || (0x1B ≤ op && op ≤ 0x1F) || (0x5C ≤ op && op ≤ 0x5F) || (0x9C ≤ op && op ≤ 0x9F) || (0xDA ≤ op && op ≤ 0xDF) ||
    (0xF4 ≤ op && op ≤ 0xFF)

/-- A bundle's seat is in user mode (07 R188). -/
def State.userMode (s : State) : Prop := s.seat.sup = false

end Sys2Proof.Machine
end

