-- ==== Sys2Proof/Certificates/Slice0/Obligations.lean ====
section
/-! DEFINITION. The statements about the model, for the provers. -/

set_option maxRecDepth 4000

open Sys2Proof Sys2Proof.Machine

/-- Words of the worked examples decode. The slot words that 09, 10, 11, 14 and 16 print in their worked examples decode to the
instructions they print them for: LSTR, LSET, an inert ADD, an inert TLBI, a CPY, and the side-core word of jq.push a0; the
unassigned word of 10 is no instruction. -/
def Obligations.DecodeSpecWords : Prop :=
  decodeSlot 0x05805F87 = some (.lstr { g := 0, n := 5, a := .const 8, level := 7 }) ∧
  decodeSlot 0x05001EC0 = some (.lset { g := 0, len := 1, a := .const 5 }) ∧
  decodeSlot 0x10040000 = some (.add { g := 1, x := false, d := .main 0, a := .main 0, b := .main 0 }) ∧
  decodeSlot 0x2D840000 = some (.tlbi { g := 1, x := false, a := .main 0, b := .main 0 }) ∧
  decodeSlot 0xD4803042 = some (.cpy { g := 0, x := false, d := .main 3, a := .main 1, b := .main 2 }) ∧
  decodeSlot 0x2E040000 = none ∧
  decodeSide 0x0005000B = some (.jqPush 10)

/-- Decoding an encoded slot gives it back. For every well-formed instruction that has a slot word, decoding that word gives the
instruction back, with every operand at every value the encoding admits. -/
def Obligations.SlotRoundTrip : Prop :=
  ∀ (i : Instr) (w : SlotWord), i.wf = true → encodeSlot i = some w → decodeSlot w = some i

/-- Decoding an encoded side-core word gives it back. For every well-formed side-core instruction (RV64 or Xjaind), its encoding is a
32-bit word that the side core decodes to that instruction. -/
def Obligations.SideRoundTrip : Prop :=
  ∀ (i : Instr) (w : Nat), i.wf = true → encodeSide i = some w → w < 2 ^ 32 ∧ decodeSide w = some i

/-- A slot word has one meaning. Every slot word that decodes gives a well-formed instruction, and encoding that instruction gives the
word back with its stop bit clear. -/
def Obligations.DecodedSlotsAreWellFormed : Prop :=
  ∀ (w : SlotWord) (i : Instr), decodeSlot w = some i → i.wf = true ∧ encodeSlot i = some (w &&& 0x7FFFFFFF)

/-- Unassigned opcodes are illegal with reason 32. For every slot word whose opcode value is one of the 32 that the opcode map leaves
unassigned, the decoder answers no instruction, and reason 32 stands among the reasons of the slot, whatever its guard and its
other bits and in every mode, since the decoder reads the word alone; for the class order and the limits the value counts in the
class of its range. -/
def Obligations.UnassignedOpcodes : Prop :=
  ((List.range 256).filter unassignedOp).length = 32 ∧
  ∀ w : SlotWord, unassignedOp (opOf w.toNat) = true →
    decodeSlot w = none ∧ 32 ∈ (slotChk w.toNat).bad ∧
    classRank (opOf w.toNat) = (if opOf w.toNat ≤ 0x03 then 0 else if opOf w.toNat ≤ 0x1F then 1 else if opOf w.toNat ≤ 0x5F then 2
      else if opOf w.toNat ≤ 0x9F then 3 else if opOf w.toNat ≤ 0xDF then 4 else 5)

/-- A side-core turn runs the decoded word. When the first turn of the agenda is a side core's, the package is powered, that side core
runs, and the word at its PC decodes to an instruction i, the step is exec of i at the state in which the turn has left the agenda
and the side core's issue context is open. -/
def Obligations.StepRunsSideWord : Prop :=
  ∀ (s : State) (c : Nat) (storer : Bool) (rest : List Turn) (w : Nat) (i : Instr),
    s.agenda = .side c storer :: rest → s.hostSide.power = true →
    ((s.core c).side storer).runs = true →
    ({ s with agenda := rest } : State).sideFetch c storer = .ok w → decodeSide w = some i →
    step s = exec i (({ s with agenda := rest } : State).sideOpen c storer w)

/-- An event turn runs the event. When the first turn of the agenda is an event and the package is powered, the step is exec of that
event with the turn gone from the agenda; a chance turn is the same, but an event that cannot come about leaves the state as it
is. A package without power takes no step but a boot: the fault poweredDown is the model's choice (log entry on power). -/
def Obligations.StepRunsEvent : Prop :=
  (∀ (s : State) (rest : List Turn) (i : Instr), s.hostSide.power = true →
    (s.agenda = .event i :: rest → step s = exec i { s with agenda := rest }) ∧
    (s.agenda = .chance i :: rest →
      (∀ t, exec i { s with agenda := rest } = .next t → step s = .next t) ∧
      (∀ name, exec i { s with agenda := rest } = .refused (.notEnabled name) → step s = .next { s with agenda := rest }))) ∧
  ∀ s : State, s.hostSide.power = false → (∀ t rest, s.agenda = t :: rest → t.boots = false) → step s = .fault .poweredDown

/-- A core turn issues the bundle at the PC. When the first turn is a core's, then once what is due has landed, if the core is not
frozen, waits for no value and owes no bubble, a seat runs whose span has not expired, which no fence holds, and which has no
firmware action, no trap that waits and no held trap, and the words at its PC decode to a bundle, the step issues that bundle on
that seat, the results of its frame having taken flight again: its slots are run by exec one after another, the lowest trap comes
before a stall and a stall before the commit. -/
def Obligations.StepIssuesBundle : Prop :=
  ∀ (s : State) (c n : Nat) (rest : List Turn) (ws : List Nat) (b : Bundle),
    s.agenda = .core c :: rest → s.hostSide.power = true →
    let s1 : State := { s with agenda := rest }
    let s2 := (((s1.landLte c false).landDue c (s1.core c).idx).settlePushes c).onCore c fun k => k.holdLost.loadTick
    let k := s2.core c
    (k.seat n).trapping = none → k.freeze = 0 → k.waits = false → k.bubble = false → k.running = some n → s2.overSpan c n = false → s2.fenced c = false →
    let s3 := s2.onCore c Core.spanTick
    let s4 := s3.onCore c fun k => (k.replay n).holdLost
    (s3.seatAt c n).firmware = false → (s4.core c).waits = false →
    let s5 := s4.onCore c fun k => { k with frozenSince := none }
    (s5.seatAt c n).held = none → s5.bundleAt c n = .ok ws → decodeBundle ws = .ok b →
    step s = s5.issue c n ws b

/-- A trap, a stall or the commit of a whole bundle. Once the slots of a bundle have run to an end r without a stop of the machine,
issuing it answers a next state: the trap of the lowest position from the state before the bundle if there is one, else the
stalled bundle if a slot stalls, else the commit. Of a bundle that traps or stalls no slot has acted. -/
def Obligations.BundleActsTogether : Prop :=
  ∀ (s : State) (c n : Nat) (ws : List Nat) (b : Bundle) (r : Run),
    let s1 := s.openBundle c n b.length
    let s2 := (if readsLatch (s1.seatAt c n) ws then s1.busy else s1).onSeat c n fun st => { st with body := st.recording ws }
    Run.all ⟨s2, none, false, (s2.seatAt c n).waits⟩ (inTurn ws b.slots) = .inl r →
    (∀ pos cause tval, r.trap = some (pos, cause, tval) → s.issue c n ws b = .next (s.bundleTrap c n pos cause tval b.length)) ∧
    (r.trap = none → r.stalled = true → s.issue c n ws b = .next (s.bundleStall c n r)) ∧
    (r.trap = none → r.stalled = false → s.issue c n ws b = .next (r.s.bundleCommit c))

/-- No slot stops the machine. For every instruction that has a slot word and every state, exec answers a next state: a slot never
ends in a fault or a refusal, whatever its operands, the mode and the state are. -/
def Obligations.SlotsNeverStop : Prop :=
  ∀ (i : Instr) (s : State), (encodeSlot i).isSome = true → ∃ t, exec i s = .next t

/-- A disabled slot does nothing. For every instruction with a guard and every state in which the guard reads false, exec answers the
state unchanged: no access, no write, no latch, no stall or freeze, no trap, no transfer of control, in either mode and for
privileged opcodes too. -/
def Obligations.DisabledSlots : Prop :=
  ∀ (i : Instr) (g : Guard) (s : State), i.guard = some g → s.seat.pred g.val = false → exec i s = .next s

/-- Registers at reset. At reset CYC of every die is 0, WDOG is 0x0040_0000, XTO 0x0100_0000, BEST 4, FLIM 0x0010_0000, every tenant
tag 0; FMAP is 0xFFAA_5500 and PCAP.CAP 10,000; every WALLOW has TENANT 0, LIMIT 16,384 and OUT 0; every seat is FREE in user mode
with REDTO 0x0010_0000, PFD 8, TRIMC 0 and TPC, TCAUSE, TVAL, TSTAT and TVEC 0; every gate entry and station counter is 0; RWDOG
is 2^20. -/
def Obligations.ResetRegisters : Prop :=
  let s := State.reset
  (∀ d, (s.die d).cyc = 0 ∧ (s.die d).wdog = 0x00400000 ∧ (s.die d).xto = 0x01000000 ∧ (s.die d).best = 4 ∧
    s.flim d = 0x00100000 ∧ (∀ k, tget 0 (s.die d).tags k = 0)) ∧
  (∀ k, tget 0 s.iocTags k = 0) ∧ s.hostSide.fmap = 0xFFAA5500 ∧ field s.hostSide.pcap 15 0 = 10000 ∧
  (∀ i, (tget .reset s.wallow i).tenant = 0 ∧ (tget .reset s.wallow i).limit = 16384 ∧ (tget .reset s.wallow i).out = 0) ∧
  (∀ c n, let st := s.seatAt c n
    st.st = .free ∧ st.sup = false ∧ st.redto = 0x00100000 ∧ st.pfd = 8 ∧ st.trimc = 0 ∧ st.tpc = 0 ∧ st.tcause = 0 ∧ st.tval = 0 ∧
      st.tstat = 0 ∧ st.tvec = 0) ∧
  (∀ k, s.gate k = 0 ∧ tget 0 s.flume.counters k = 0) ∧ s.canal.rwdog = 0x00100000

/-- Memory at reset. At reset the memory lists nothing and is in its canonical form; every byte then reads as the blank byte, which is
the model's choice (log entry on blank bytes). -/
def Obligations.ResetMemory : Prop :=
  State.reset.MemOk ∧ ∀ a, State.reset.byte a = blank

/-- Every step keeps the canonical form of memory. For every state whose memory is in its canonical form (addresses strictly rising,
no byte listed that equals what an unlisted address reads as), if the step answers a next state, that state's memory is in the
canonical form too. -/
def Obligations.MemoryStaysCanonical : Prop :=
  ∀ s t : State, s.MemOk → step s = .next t → t.MemOk

/-- A byte reads as it was last written. For every state, after bytes are stored, an address that the list of stored bytes names reads
as its last byte in the list, and every other address reads as before; the canonical form is kept. -/
def Obligations.ReadAfterWrite : Prop :=
  ∀ (s : State) (bs : List (Nat × Byte)) (a : Nat) (b : Byte),
    ((s.store (bs ++ [(a, b)])).byte a = b) ∧
    (∀ x, (∀ p ∈ bs, p.1 ≠ x) → (s.store bs).byte x = s.byte x) ∧
    (s.MemOk → (s.store bs).MemOk)

/-- A landing result writes its register and nothing else. A result of a seat for register ix of unit S0, S1, L0 or L1 that lands
writes that register of the issuing seat; every other register of the four files, the V file, g, masks, predicates, targets, link,
RRB, VTYPE, loop levels, entries, flags, the trap registers, PC and mode of that seat, every other seat, every die and every byte
of memory are unchanged; if the seat runs and the result enters a latch, it becomes age 0 of its unit and the former age 0 becomes
age 1. A result of an ended task (seat 8) changes no seat. A landing that is no push, array row, basin row, drawer write or CSR
write changes no byte of memory, no die and no allowance window; a push, an array row and a basin row change only the 256 bytes of
their basin row, a drawer write only its bytes. -/
def Obligations.Landings : Prop :=
  (∀ (s : State) (c : Nat) (l : Landing) (u : UnitId) (ix : Nat) (v : Word),
     l.effect = .file u ix v → (u = .s0 ∨ u = .s1 ∨ u = .l0 ∨ u = .l1) → l.seat < 8 →
     let t := s.landOne c l
     let a := s.seatAt c l.seat
     let b := t.seatAt c l.seat
     b.reg u ix = v ∧ (∀ w j, (w, j) ≠ (u, ix) → b.reg w j = a.reg w j) ∧
     b.v = a.v ∧ b.g = a.g ∧ b.k = a.k ∧ b.preds = a.preds ∧ b.b = a.b ∧ b.link = a.link ∧ b.rrb = a.rrb ∧ b.vtype = a.vtype ∧
     b.levels = a.levels ∧ b.lte = a.lte ∧ b.flags = a.flags ∧ b.tstat = a.tstat ∧ b.tvec = a.tvec ∧ b.tpc = a.tpc ∧
     b.tcause = a.tcause ∧ b.tval = a.tval ∧ b.pc = a.pc ∧ b.sup = a.sup ∧
     (∀ c' n', (c', n') ≠ (c, l.seat) → t.seatAt c' n' = s.seatAt c' n') ∧ t.dies = s.dies ∧ t.mem = s.mem ∧
     (∀ w, l.latch = some w → (s.core c).running = some l.seat →
       (t.core c).latches.word l.unit false = w.setWidth 64 ∧
         (l.unit ≠ .v → (t.core c).latches.word l.unit true = (s.core c).latches.word l.unit false))) ∧
  (∀ (s : State) (c : Nat) (l : Landing), 8 ≤ l.seat → s.landOne c l = l.effect.onState s c l.seat) ∧
  (∀ (s : State) (c : Nat) (l : Landing),
     let t := s.landOne c l
     match l.effect with
     | .push row _ _ _ => ∀ a, (a < (Home.basin c).at (row * 256) ∨ (Home.basin c).at (row * 256) + 256 ≤ a) → t.byte a = s.byte a
     | .arrayRow row v | .basinRow row v =>
       (∀ a, (a < (Home.basin c).at (row * 256) ∨ (Home.basin c).at (row * 256) + 256 ≤ a) → t.byte a = s.byte a) ∧
         t.basinRow c row = v
     | .drawerBytes key lo bs =>
       ∀ a, (a < (Home.drawer c).at (key * 256 + lo) ∨ (Home.drawer c).at (key * 256 + lo) + bs.length ≤ a) → t.byte a = s.byte a
     | .csr _ _ => ∀ a, t.byte a = s.byte a
     | _ => t.mem = s.mem ∧ t.dies = s.dies ∧ t.wallow = s.wallow)

/-- S and V slots change nothing at issue. For every S slot but TLBI and every V slot, and every state: if the slot raises no trap,
the next state differs from the state at most in the results in flight of the issuing core; a CSRW also marks the seat's iteration
as not idle. So every register, flag, special register, accumulator, PC, mode and latch of every seat, every die, all posted work
and every byte of memory are unchanged until the results land. -/
def Obligations.RegisterSlotsFrame : Prop :=
  ∀ (i : Instr) (w : SlotWord) (s t : State),
    encodeSlot i = some w → (classRank (opOf w.toNat) = 2 ∨ classRank (opOf w.toNat) = 3) → (∀ f, i ≠ .tlbi f) →
    exec i s = .next t → t.cx.out = s.cx.out → s.cx.out = .go →
    t = s ∨ ∃ ls, let u := s.onCore s.cx.core fun k => { k with flight := k.flight ++ ls }
      t = u ∨ ((∃ f, i = .csrw f) ∧ t = u.busy)

/-- Results of the integer S instructions. An acting two-source integer S instruction on unit S0 (X = 0) or S1 (X = 1) answers the
state in which its result is on its way to destination d, seen L counted cycles later, and nothing else changes: sum, difference
and product modulo 2^64, high halves, truncated division and remainder with the values for a zero divisor, bitwise operations,
shifts modulo 64, minima and maxima, BEXT, the low-word sum; SEL and BINS also read d; CLZ, CTZ and POPC have one source; MOVI
gives its sign-extended immediate. -/
def Obligations.ScalarIntegerResults : Prop :=
  (∀ (f : S3) (s : State), s.seat.pred f.g.val = true →
    let u := sUnit f.x
    let a := s.srcInt u f.a
    let b := s.srcInt u f.b
    exec (.add f) s = .next (s.result u f.d 1 (a + b)) ∧
    exec (.sub f) s = .next (s.result u f.d 1 (a - b)) ∧
    exec (.mul f) s = .next (s.result u f.d 3 (a * b)) ∧
    exec (.mulh f) s = .next (s.result u f.d 3 (BitVec.ofInt 64 (a.toInt * b.toInt / 2 ^ 64))) ∧
    exec (.mulhu f) s = .next (s.result u f.d 3 (BitVec.ofNat 64 (a.toNat * b.toNat / 2 ^ 64))) ∧
    exec (.div f) s = .next (s.result u f.d 34 (if b = 0 then -1 else BitVec.ofInt 64 (a.toInt.tdiv b.toInt))) ∧
    exec (.divu f) s = .next (s.result u f.d 34 (if b = 0 then -1 else BitVec.ofNat 64 (a.toNat / b.toNat))) ∧
    exec (.rem f) s = .next (s.result u f.d 34 (if b = 0 then a else BitVec.ofInt 64 (a.toInt.tmod b.toInt))) ∧
    exec (.remu f) s = .next (s.result u f.d 34 (if b = 0 then a else BitVec.ofNat 64 (a.toNat % b.toNat))) ∧
    exec (.and f) s = .next (s.result u f.d 1 (a &&& b)) ∧
    exec (.or f) s = .next (s.result u f.d 1 (a ||| b)) ∧
    exec (.xor f) s = .next (s.result u f.d 1 (a ^^^ b)) ∧
    exec (.andn f) s = .next (s.result u f.d 1 (a &&& ~~~b)) ∧
    exec (.shl f) s = .next (s.result u f.d 1 (a <<< (b.toNat % 64))) ∧
    exec (.shr f) s = .next (s.result u f.d 1 (a >>> (b.toNat % 64))) ∧
    exec (.sar f) s = .next (s.result u f.d 1 (a.sshiftRight (b.toNat % 64))) ∧
    exec (.rotl f) s = .next (s.result u f.d 1 (a.rotateLeft (b.toNat % 64))) ∧
    exec (.min f) s = .next (s.result u f.d 1 (if a.toInt ≤ b.toInt then a else b)) ∧
    exec (.max f) s = .next (s.result u f.d 1 (if a.toInt ≤ b.toInt then b else a)) ∧
    exec (.minu f) s = .next (s.result u f.d 1 (if a.toNat ≤ b.toNat then a else b)) ∧
    exec (.maxu f) s = .next (s.result u f.d 1 (if a.toNat ≤ b.toNat then b else a)) ∧
    exec (.sel f) s = .next (s.result u f.d 1 ((a &&& s.dstOld u f.d) ||| (b &&& ~~~(s.dstOld u f.d)))) ∧
    exec (.bext f) s = .next (s.result u f.d 1 (wordBext a b)) ∧
    exec (.bins f) s = .next (s.result u f.d 1 (wordBins (s.dstOld u f.d) a b)) ∧
    exec (.addw f) s = .next (s.result u f.d 1 (((a + b).setWidth 32).signExtend 64))) ∧
  (∀ (f : S2) (s : State), s.seat.pred f.g.val = true →
    let u := sUnit f.x
    let a := s.srcInt u f.a
    exec (.clz f) s = .next (s.result u f.d 1 (BitVec.ofNat 64 (leadingZeros 64 a.toNat))) ∧
    exec (.ctz f) s = .next (s.result u f.d 1 (BitVec.ofNat 64 (trailingZeros 64 a.toNat))) ∧
    exec (.popc f) s = .next (s.result u f.d 1 (BitVec.ofNat 64 (countOnes 64 a.toNat)))) ∧
  (∀ (f : Smovi) (s : State), s.seat.pred f.g.val = true →
    exec (.movi f) s = .next (s.result (sUnit f.x) f.d 1 (f.imm.signExtend 64)))

/-- Results of the floating-point S instructions. An acting scalar floating-point instruction answers the state in which its result,
computed on the low bits of its sources in FP32 or FP64, is on its way to d: sums, differences, products, quotients, the fused
multiply-add into d, square roots, minima and maxima at their latencies; FCVT converts by its code and rounding mode, FCLS
classifies, and TWOS and TWOP write their pair of results. -/
def Obligations.ScalarFloatResults : Prop :=
  (∀ (f : S3) (s : State), s.seat.pred f.g.val = true →
    let u := sUnit f.x
    let a (k : FpFmt) := s.srcFp u k f.a
    let b (k : FpFmt) := s.srcFp u k f.b
    let d (k : FpFmt) := (s.dstOld u f.d).toNat % 2 ^ k.width
    let give (lat n : Nat) : Res := .next (s.result u f.d lat (BitVec.ofNat 64 n))
    exec (.fadds f) s = give 4 (FpFmt.f32.add (a .f32) (b .f32)) ∧ exec (.faddd f) s = give 4 (FpFmt.f64.add (a .f64) (b .f64)) ∧
    exec (.fsubs f) s = give 4 (FpFmt.f32.sub (a .f32) (b .f32)) ∧ exec (.fsubd f) s = give 4 (FpFmt.f64.sub (a .f64) (b .f64)) ∧
    exec (.fmuls f) s = give 4 (FpFmt.f32.mul (a .f32) (b .f32)) ∧ exec (.fmuld f) s = give 4 (FpFmt.f64.mul (a .f64) (b .f64)) ∧
    exec (.fmas f) s = give 4 (FpFmt.f32.fma (a .f32) (b .f32) (d .f32)) ∧
    exec (.fmad f) s = give 4 (FpFmt.f64.fma (a .f64) (b .f64) (d .f64)) ∧
    exec (.fdivs f) s = give 16 (FpFmt.f32.div (a .f32) (b .f32)) ∧ exec (.fdivd f) s = give 16 (FpFmt.f64.div (a .f64) (b .f64)) ∧
    exec (.fmins f) s = give 2 (FpFmt.f32.min (a .f32) (b .f32)) ∧ exec (.fmaxs f) s = give 2 (FpFmt.f32.max (a .f32) (b .f32)) ∧
    exec (.fmind f) s = give 2 (FpFmt.f64.min (a .f64) (b .f64)) ∧ exec (.fmaxd f) s = give 2 (FpFmt.f64.max (a .f64) (b .f64))) ∧
  (∀ (f : S2) (s : State), s.seat.pred f.g.val = true →
    let u := sUnit f.x
    exec (.fsqrs f) s = .next (s.result u f.d 18 (BitVec.ofNat 64 (FpFmt.f32.sqrt (s.srcFp u .f32 f.a)))) ∧
    exec (.fsqrd f) s = .next (s.result u f.d 18 (BitVec.ofNat 64 (FpFmt.f64.sqrt (s.srcFp u .f64 f.a))))) ∧
  (∀ (f : Sfcvt) (s : State), s.seat.pred f.g.val = true →
    exec (.fcvt f) s = .next (s.result (sUnit f.x) f.d 3 (fcvt f.code.val f.rm
      (s.src (sUnit f.x) (match fcvtFrom f.code.val with
        | .inl k => .fp k
        | .inr _ => .int 64) f.a)))) ∧
  (∀ (f : Sfcls) (s : State), s.seat.pred f.g.val = true →
    exec (.fcls f) s = .next (s.result (sUnit f.x) f.d 1 (BitVec.ofNat 64
      ((fclsFmt f.fmt).cls (s.srcFp (sUnit f.x) (fclsFmt f.fmt) f.a))))) ∧
  (∀ (f : Spair) (s : State), s.seat.pred f.g.val = true →
    let u := sUnit f.x
    let k := if f.wide then FpFmt.f64 else .f32
    let a := s.srcFp u k f.a
    let b := s.srcFp u k f.b
    exec (.twos f) s = .next (s.pairResult u f.p 4 (k.twoSum a b).1 (k.twoSum a b).2) ∧
    exec (.twop f) s = .next (s.pairResult u f.p 4 (k.twoProd a b).1 (k.twoProd a b).2))

/-- Predicates, moves, g registers, sequencer reads, CYC, tile status and CSRs. An acting CMP, FCMP or QOP sends its condition to
predicate pair j, seen by guards two bundles later: q2j the condition, q2j+1 its complement. An acting MOVX sends its value to the
named unit's file and to the issuing unit's latch after 3 counted cycles; GSET to gN after 2; LIDX gives the field of its level;
CYCR, outside a pure task, gives CYC; TSRD reads its tile entry at the landing; CSRR and CSRW, where the mode and purity allow the
CSR, read and write it. Each answers the state with that one result on its way and changes nothing else; a CSRW also marks the
iteration of the spin detector as not idle. -/
def Obligations.ScalarSystemResults : Prop :=
  (∀ (f : Scmp) (s : State), s.seat.pred f.g.val = true →
    let u := sUnit f.x
    exec (.cmp f) s = .next (s.fly u 2 (.pair f.j.val (cmpHolds f.cond (s.srcInt u f.a) (s.srcInt u f.b))) none)) ∧
  (∀ (f : Sfcmp) (s : State), s.seat.pred f.g.val = true →
    let u := sUnit f.x
    let k := ConstForm.fp (fcmpFmt f.cond)
    exec (.fcmp f) s = .next (s.fly u 2 (.pair f.j.val (fcmpHolds f.cond (s.src u k f.a) (s.src u k f.b))) none)) ∧
  (∀ (f : Sqop) (s : State), s.seat.pred f.g.val = true →
    exec (.qop f) s = .next (s.fly (sUnit f.x) 2
      (.pair f.j.val (predApply f.op (s.seat.pred f.p.val) (s.seat.pred f.r.val))) none)) ∧
  (∀ (st : Seat) (j : Nat) (c : Bool), 1 ≤ j → j ≤ 5 →
    ((Effect.pair j c).onSeat st).pred (2 * j) = c ∧ ((Effect.pair j c).onSeat st).pred (2 * j + 1) = !c) ∧
  (∀ (f : Smovx) (s : State), s.seat.pred f.g.val = true →
    let v := s.srcInt (sUnit f.x) f.a
    exec (.movx f) s = .next (s.fly (sUnit f.x) 3 (match dstPhys s.seat.rrb f.d, f.target with
      | none, _ => .nothing
      | some ix, .s0 => .file .s0 ix v
      | some ix, .s1 => .file .s1 ix v
      | some ix, .l0 => .file .l0 ix v
      | some ix, .l1 => .file .l1 ix v
      | some ix, .v => .vfile ix (v.setWidth 4096)) (some (v.setWidth 4096)))) ∧
  (∀ (f : Sgset) (s : State), s.seat.pred f.g.val = true →
    let v := s.srcInt (sUnit f.x) f.a
    exec (.gset f) s = .next (s.fly (sUnit f.x) 2 (.greg f.n.val v) (some (v.setWidth 4096)))) ∧
  (∀ (f : Slidx) (s : State), s.seat.pred f.g.val = true →
    exec (.lidx f) s = .next (s.result (sUnit f.x) f.d 1 (match s.seat.levels[f.level.val]?, f.field with
      | none, _ => 0
      | some l, .idx => l.idx.setWidth 64
      | some l, .cnt => l.count.setWidth 64
      | some l, .rem => (l.count - 1 - l.idx).setWidth 64))) ∧
  (∀ (f : S1) (s : State), s.seat.pred f.g.val = true → s.seat.pure = false →
    exec (.cycr f) s = .next (s.result (sUnit f.x) f.d 2 (BitVec.ofNat 64 (s.die (dieOf s.cx.core)).cyc))) ∧
  (∀ (f : Stsrd) (s : State), s.seat.pred f.g.val = true →
    exec (.tsrd f) s = .next (s.fly (sUnit f.x) 2 (.tileRead (sUnit f.x) (dstPhys s.seat.rrb f.d) f.n.val) (some 0))) ∧
  (∀ (f : Scsrr) (s : State), s.seat.pred f.g.val = true → (s.seat.sup = true ∨ f.csr.val ≠ 2) →
    (s.seat.pure = false ∨ f.csr.val = 8 ∨ f.csr.val = 9) →
    exec (.csrr f) s = .next (s.result (sUnit f.x) f.d 2 (s.csrRead s.cx.core s.cx.seat f.csr.val))) ∧
  (∀ (f : Scsrw) (s : State), s.seat.pred f.g.val = true → (s.seat.sup = true ∨ csrUserWrite f.csr.val = true) →
    (s.seat.pure = false ∨ f.csr.val = 8 ∨ f.csr.val = 9) →
    exec (.csrw f) s = .next (s.fly (sUnit f.x) 2
      (.csr (if f.csr.val = 7 ∧ s.seat.sup = false then tvecUser else f.csr.val) (s.srcInt (sUnit f.x) f.b)) none).busy)

/-- What a CSR write stores. A landing CSR write stores: in RRB the low 3 bits; in VTYPE the low 8; in REDTO the low 32; in WDOG and
XTO of the die the low 32 bits, at least 65,536; in BEST bits [3:0], at least 1; in PFD bits [5:0], between 1 and 32; a user write
of TVEC changes UEN and UVEC unless ULOCK is set. Writes of CYC, DIEID, ORIENT, TCAUSE and SPINC store nothing. No write changes a
byte of memory. -/
def Obligations.CsrWriteLanding : Prop :=
  ∀ (s : State) (c n : Nat) (v : Word),
    let low := v.toNat % 2 ^ 32
    (s.csrWrite c n 8 v).seatAt c n = { s.seatAt c n with rrb := v.setWidth 3 } ∧
    (s.csrWrite c n 9 v).seatAt c n = { s.seatAt c n with vtype := v.setWidth 8 } ∧
    (s.csrWrite c n 12 v).seatAt c n = { s.seatAt c n with redto := v.setWidth 32 } ∧
    ((s.csrWrite c n 10 v).die (dieOf c)).wdog = max 65536 low ∧
    ((s.csrWrite c n 11 v).die (dieOf c)).xto = max 65536 low ∧
    ((s.csrWrite c n 13 v).die (dieOf c)).best = BitVec.ofNat 64 (max 1 (v.toNat % 16)) ∧
    ((s.csrWrite c n 14 v).seatAt c n).pfd = BitVec.ofNat 64 (max 1 (min 32 (v.toNat % 64))) ∧
    (bitOf (s.seatAt c n).tvec 62 = true → (s.csrWrite c n tvecUser v).seatAt c n = s.seatAt c n) ∧
    (bitOf (s.seatAt c n).tvec 62 = false →
      ((s.csrWrite c n tvecUser v).seatAt c n).tvec = BitVec.ofNat 64 (field v 63 63 * 2 ^ 63 + field v 54 4 * 16)) ∧
    (∀ i, i = 0 ∨ i = 1 ∨ i = 2 ∨ i = 4 ∨ i = 15 → s.csrWrite c n i v = s) ∧
    (∀ i, (s.csrWrite c n i v).mem = s.mem)

/-- Prefix slots, NOPB and branch targets. PSC sets the scope and the four g ports of its bundle, PIM and PIMH its immediate, NOPB
nothing. An acting BPT sends its 16 B aligned target to bt and the B latch after 2 counted cycles; BPTR sends a, and BPTR.rel PC +
a, when the value's low four bits are 0; each changes nothing else. -/
def Obligations.PrefixAndTargetResults : Prop :=
  (∀ (f : Ppsc) (s : State),
    let p (x : Option (Fin 31)) : Nat := match x with
      | some n => n.val
      | none => 31
    exec (.psc f) s = .next { s with cx := { s.cx with scope := f.scope.val, ports := [p f.gp0, p f.gp1, p f.gp2, p f.gp3] } }) ∧
  (∀ (f : Pimm) (s : State), exec (.pim f) s = .next { s with cx := { s.cx with pim := some f.val } } ∧
    exec (.pimh f) s = .next { s with cx := { s.cx with pimh := some f.val } }) ∧
  (∀ (f : Bn) (s : State), exec (.nopb f) s = .next s) ∧
  (∀ (f : Bpt) (s : State), s.seat.pred f.g.val = true →
    let v : Word := ((s.cx.addr &&& ~~~(15 : VA)) + f.off.signExtend 55 * 16).setWidth 64
    exec (.bpt f) s = .next (s.fly .b 2 (.target f.t.val v) (some (v.setWidth 4096)))) ∧
  (∀ (f : Bba) (s : State), s.seat.pred f.g.val = true →
    let v := s.srcInt .b f.a
    let r : Word := (s.cx.addr + v.setWidth 55).setWidth 64
    (v.toNat % 16 = 0 → exec (.bptr f) s = .next (s.fly .b 2 (.target f.t.val v) (some (v.setWidth 4096)))) ∧
    (v.toNat % 16 ≠ 0 → exec (.bptr f) s = .next (s.raise 5 v)) ∧
    (r.toNat % 16 = 0 → exec (.bptrRel f) s = .next (s.fly .b 2 (.target f.t.val r) (some (r.setWidth 4096)))) ∧
    (r.toNat % 16 ≠ 0 → exec (.bptrRel f) s = .next (s.raise 5 r)))

/-- Taken transfers. Outside a delay bundle, an acting BTR makes bt, BRTN the link and BRTN.a an aligned a the pending target with two
delay bundles to issue, and changes nothing else of the seat. BCL and BCL.a do the same after the link is on its way with the
address after the second delay bundle, when the words of those bundles can be fetched and that address is aligned. -/
def Obligations.TransferResults : Prop :=
  (∀ (f : Bb) (s : State), s.seat.pred f.g.val = true → s.seat.pend = none →
    let v := (tget 0 s.seat.b f.t.val : Word)
    exec (.btr f) s = .next (s.transfer (v.setWidth 55) true false) ∧
    ∀ link, s.skipBundles s.cx.core s.seat.ctx s.seat.sup 2 (s.cx.addr.toNat + 4 * s.cx.length) = .ok link → (BitVec.ofNat 64 link).toNat % 16 = 0 →
      exec (.bcl f) s = .next ((s.fly .b 2 (.link (BitVec.ofNat 64 link)) (some ((BitVec.ofNat 64 link).setWidth 4096))).transfer
        (v.setWidth 55) false false)) ∧
  (∀ (f : Bn) (s : State), s.seat.pred f.g.val = true → s.seat.pend = none →
    exec (.brtn f) s = .next (s.transfer (s.seat.link.setWidth 55) false false)) ∧
  (∀ (f : Ba) (s : State), s.seat.pred f.g.val = true → s.seat.pend = none →
    let v := s.srcInt .b f.a
    v.toNat % 16 = 0 →
    exec (.brtnA f) s = .next (s.transfer (v.setWidth 55) false false) ∧
    ∀ link, s.skipBundles s.cx.core s.seat.ctx s.seat.sup 2 (s.cx.addr.toNat + 4 * s.cx.length) = .ok link → (BitVec.ofNat 64 link).toNat % 16 = 0 →
      exec (.bclA f) s = .next ((s.fly .b 2 (.link (BitVec.ofNat 64 link)) (some ((BitVec.ofNat 64 link).setWidth 4096))).transfer
        (v.setWidth 55) false false)) ∧
  (∀ (s : State) (t : VA) (btr rtt : Bool),
    let st := (s.transfer t btr rtt).seat
    st.pend = some (t, 2) ∧ st.pendRtt = rtt ∧ (s.transfer t btr rtt).cx.taken = true ∧ (s.transfer t btr rtt).mem = s.mem ∧
      st = { s.seat with pend := st.pend, pendFrom := st.pendFrom, pendRtt := st.pendRtt })

/-- LSET, LSTR, LBRK and LRRB. Outside a delay bundle, an acting LSET or LSET with a register length whose COUNT is not 0 opens, after
1 counted cycle, a level from the next bundle to the len-th bundle, when fewer than six levels are active, 1 to 65,536 bundles are
asked for, their words can be fetched, and the new level ends within the innermost one. LSTR attaches its stride to an active
level or the staged set of at most four; LBRK ends n levels; LRRB sets RRB. -/
def Obligations.LoopResults : Prop :=
  (∀ (f : Blset) (s : State) (stop : Nat), s.seat.pred f.g.val = true → s.seat.pend = none →
    let count := (s.srcInt .b f.a).toNat
    let start := s.cx.addr.toNat + 4 * s.cx.length
    count % 2 ^ 32 ≠ 0 → s.seat.levels.length < 6 → s.closeBundle start (f.len.val + 1) = .ok stop →
    (∀ l, s.seat.levels.head? = some l → stop ≤ l.stop.toNat) →
    exec (.lset f) s = .next (s.fly .b 1 (.loopOpen ⟨BitVec.ofNat 55 start, BitVec.ofNat 55 stop, BitVec.ofNat 32 count, 0, []⟩) none)) ∧
  (∀ (f : Bab) (s : State) (stop : Nat), s.seat.pred f.g.val = true → s.seat.pend = none →
    let count := (s.srcInt .b f.a).toNat
    let len := (s.srcInt .b f.b).toNat
    let start := s.cx.addr.toNat + 4 * s.cx.length
    count % 2 ^ 32 ≠ 0 → s.seat.levels.length < 6 → 1 ≤ len → len ≤ 65536 → s.closeBundle start len = .ok stop →
    (∀ l, s.seat.levels.head? = some l → stop ≤ l.stop.toNat) →
    exec (.lsetReg f) s = .next (s.fly .b 1 (.loopOpen ⟨BitVec.ofNat 55 start, BitVec.ofNat 55 stop, BitVec.ofNat 32 count, 0, []⟩) none)) ∧
  (∀ (f : Blstr) (s : State) (l : List (Nat × Word)), s.seat.pred f.g.val = true → s.seat.strides f.level.val = some l →
    (attach l f.n.val 0).length ≤ 4 →
    exec (.lstr f) s = .next (s.fly .b 1 (.loopStride (if f.level.val = 7 then none else some (s.seat.levels.length - 1 - f.level.val)) f.n.val
      (s.srcInt .b f.a)) none)) ∧
  (∀ (f : Blbrk) (s : State), s.seat.pred f.g.val = true → s.seat.pend = none →
    exec (.lbrk f) s = .next (let t := s.fly .b 1 (.loopBreak f.n.val) none
      { t with cx := { t.cx with broke := true } })) ∧
  (∀ (f : Ba) (s : State), s.seat.pred f.g.val = true →
    exec (.lrrb f) s = .next (s.fly .b 1 (.rrb ((s.srcInt .b f.a).setWidth 3)) none))

/-- A close of level 0. The close of level 0 lands every stride of level 0 added to its g register, and RRB risen by 1, as they stood
when the closing bundle committed: what an earlier result wrote to RRB in between gives way. A level that is not at its last
iteration counts on; one that is ends, and if the enclosing level ends at the same address, that level closes in turn. -/
def Obligations.LoopClose : Prop :=
  ∀ (st : Seat) (l : Level) (rest : List Level) (addr : VA), st.levels = l :: rest →
    let t := (st.closing addr).onSeat st
    let bump := l.strides.foldl (fun g p => tset 0 g p.1 (tget 0 g p.1 + p.2)) st.g
    t.rrb = st.rrb + 1 ∧
    (l.idx + 1 ≠ l.count → t.levels = { l with idx := l.idx + 1 } :: rest ∧ ∀ n, tget 0 t.g n = tget 0 bump n) ∧
    (l.idx + 1 = l.count → (∀ o, rest.head? = some o → o.stop ≠ addr) → t.levels = rest ∧ ∀ n, tget 0 t.g n = tget 0 bump n) ∧
    (l.idx + 1 = l.count → ∀ o more, rest = o :: more → o.stop = addr → o.idx + 1 ≠ o.count →
      t.levels = { o with idx := o.idx + 1 } :: more) ∧
    (∀ later : Seat, ((st.closing addr).onSeat later).rrb = st.rrb + 1) ∧
    t.pc = st.pc ∧ t.lte = st.lte ∧ t.flags = st.flags ∧ t.s0 = st.s0 ∧ t.l0 = st.l0 ∧ t.v = st.v

/-- Yields, the end of a task, software traps and RTT. Outside a delay bundle, an acting YLD or YLDP commits its bundle and gives the
core up with the seat RUNNABLE (YLDP withholding it); TEND, with no faulted command of the task, commits its bundle, makes the
record ENDING and the seat FREE. TRAP commits its bundle and takes the user trap 32 with a, TRAP.sv, outside a pure task, the
supervisor trap 25. RTT, in supervisor mode or in a user handler, makes TPC the pending target. -/
def Obligations.YieldAndEndResults : Prop :=
  (∀ (f : Bn) (s : State), s.seat.pred f.g.val = true → s.seat.pend = none →
    exec (.yld f) s = .next (let t := s.commit.yield false
      { t with cx := { t.cx with out := .after } }) ∧
    exec (.yldp f) s = .next (let t := s.commit.yield true
      { t with cx := { t.cx with out := .after } }) ∧
    ((∀ k ∈ s.me.cmds, k.issuer = .seat s.cx.seat → k.task = s.myTask → k.faulted = none) →
      exec (.tend f) s = .next (let t := (s.commit.setRecState (dieOf s.cx.core) s.seat.record 5).freeSeat s.cx.core s.cx.seat
        { t with cx := { t.cx with out := .after } })) ∧
    ((s.seat.sup = true ∨ (bitOf s.seat.tstat tstatUIP = true ∧ bitOf s.seat.tstat tstatSIP = false)) →
      exec (.rtt f) s = .next (s.transfer (s.seat.tpc.setWidth 55) false true))) ∧
  (∀ (f : Ba) (s : State), s.seat.pred f.g.val = true →
    exec (.trap f) s = .next (s.trapAfter 32 (s.srcInt .b f.a)) ∧
    (s.seat.pure = false → exec (.trapSv f) s = .next (s.trapAfter 25 (s.srcInt .b f.a)))) ∧
  (∀ (s : State) (w : Bool), (((s.yield w).core s.cx.core).running = none) ∧ ((s.yield w).core s.cx.core).bubble = true ∧
    ((s.yield w).seatAt s.cx.core s.cx.seat).st = .runnable ∧ ((s.yield w).core s.cx.core).latches = .zero ∧
    ((s.yield w).core s.cx.core).withheld = (if w then some s.cx.seat else none))

/-- WTC, WFL, WMON, ASK and ASKR. An acting WTC whose promise value CYC has reached, with every due command complete, goes on; WFL of
a flag that is set without error clears it, with its missing register, marks the seat's iteration as not idle, and goes on; WMON
of a monitor that has fired disarms it, and without a monitor goes on; ASK of 0 units, or with its grant, goes on, holding the
units; ASKR gives back at most the units held. Before that, WTC, WFL and WMON stall their bundle. -/
def Obligations.WaitResults : Prop :=
  (∀ (f : Ba) (s : State), s.seat.pred f.g.val = true →
    let v := s.srcInt .b f.a
    (v.toNat ≤ s.cyc → (∀ k ∈ s.dueCmds v.toNat, k.complete = true ∧ k.faulted = none) → exec (.wtc f) s = .next s) ∧
    (s.cyc < v.toNat → s.myWait = none →
      exec (.wtc f) s = .next (s.stall ⟨s.cx.pos, .promise, s.cyc, v.toNat, false, none⟩)) ∧
    (s.seat.monitor = none → exec (.wmon f) s = .next s) ∧
    (∀ m, s.seat.monitor = some m → m.fired = true → exec (.wmon f) s = .next (s.onMe fun st => { st with monitor := none })) ∧
    (∀ m, s.seat.monitor = some m → m.fired = false → s.myWait = none → 0 < v.toNat →
      exec (.wmon f) s = .next (s.stall ⟨s.cx.pos, .monitor, s.cyc, s.cyc + v.toNat, false, none⟩)) ∧
    (v = 0 → exec (.ask f) s = .next s) ∧
    (∀ w, v ≠ 0 → s.seat.leave + v.toNat ≤ 64 → s.myWait = some w → w.ended = true →
      exec (.ask f) s = .next (s.onMe fun st => { st with leave := st.leave + v.toNat })) ∧
    (∃ t, exec (.askr f) s = .next t ∧ t.seat.leave = s.seat.leave - min v.toNat s.seat.leave ∧
      (t.die (dieOf s.cx.core)).grant = (s.die (dieOf s.cx.core)).grant - min v.toNat s.seat.leave ∧ t.mem = s.mem)) ∧
  (∀ (f : Bwfl) (s : State), s.seat.pred f.g.val = true → s.seat.pure = false →
    let n := f.flag.val
    let v := s.srcInt .b f.a
    (s.seat.flags.getLsbD n = true → s.seat.flagErr.getLsbD n = false → exec (.wfl f) s = .next (s.busy.onMe fun st => st.clearFlag n)) ∧
    (s.seat.flags.getLsbD n = false → s.myWait = none → 0 < v.toNat →
      exec (.wfl f) s = .next (s.stall ⟨s.cx.pos, .flag, s.cyc, s.cyc + v.toNat, false, none⟩)))

/-- q12 to q15 follow the sequencer. In every seat q12 is true exactly when level 0 is active and its IDX is 0, q13 exactly when level
0 is active and its IDX equals COUNT - 1, and q14 and q15 are the same for level 1. Each reads false when its level is not active.
No landing of a predicate pair changes them. -/
def Obligations.SequencerPredicates : Prop :=
  ∀ (st : Seat),
    (∀ i, i < 2 → ∀ l, st.levels[i]? = some l →
      (st.pred (12 + 2 * i) = true ↔ l.idx = 0) ∧ (st.pred (13 + 2 * i) = true ↔ l.idx = l.count - 1)) ∧
    (∀ i, i < 2 → st.levels[i]? = none → st.pred (12 + 2 * i) = false ∧ st.pred (13 + 2 * i) = false) ∧
    (∀ j c n, 12 ≤ n → n ≤ 15 → ((Effect.pair j c).onSeat st).pred n = st.pred n) ∧
    (∀ l, (({ st with levels := [] } : Seat).pred 12 = false) ∧
      ((Effect.loopOpen l).onSeat st).pred 12 = (l.idx == 0)) ∧
    ∀ (s : State) (g : Guard) (act : State → State), s.guarded g act = .next (if s.seat.pred g.val then act s else s)

/-- Results of the elementwise V instructions. An acting elementwise V instruction, under an element type that its entry admits and
without a constant 0.5 taken as an integer or K27 element, answers the state in which its elements, each computed from the
elements of the same index in the format of the type, are on their way to d at its latency, and nothing else changes. Integer
results wrap at the width of the type; VFMA and VFMS read d. -/
def Obligations.VectorArithmeticResults : Prop :=
  (∀ (f : V3) (s : State) (t : ElemTy) (fm : FpFmt), s.seat.pred f.g.val = true → elemTy s.seat.et = some t → t.cls = .fp fm →
    let a := s.velems t f.a
    let b := s.velems t f.b
    let d := t.elems (s.vdstOld f.d)
    let give (lat : Nat) (r : List Nat) : Res := .next (s.velementwise t f.d lat r)
    exec (.vadd f) s = give 4 (List.zipWith fm.add a b) ∧ exec (.vsub f) s = give 4 (List.zipWith fm.sub a b) ∧
    exec (.vmul f) s = give 4 (List.zipWith fm.mul a b) ∧ exec (.vdiv f) s = give 20 (List.zipWith fm.div a b) ∧
    exec (.vscl f) s = give 4 (List.zipWith (vsclElem t) a (s.vints t f.b)) ∧
    exec (.vfma f) s = give 4 ((List.range t.n).map fun i => fm.fma (a.getD i 0) (b.getD i 0) (d.getD i 0)) ∧
    exec (.vfms f) s = give 4 ((List.range t.n).map fun i => fm.fms (a.getD i 0) (b.getD i 0) (d.getD i 0))) ∧
  (∀ (f : V3) (s : State) (t : ElemTy), s.seat.pred f.g.val = true → elemTy s.seat.et = some t → t.cls = .int →
    srcIsHalf f.a = false → srcIsHalf f.b = false →
    let a := s.velems t f.a
    let b := s.velems t f.b
    let d := t.elems (s.vdstOld f.d)
    let give (lat : Nat) (r : List Nat) : Res := .next (s.velementwise t f.d lat r)
    exec (.vadd f) s = give 4 (List.zipWith (fun x y => x + y) a b) ∧
    exec (.vsub f) s = give 4 (List.zipWith (fun x y => x + 2 ^ t.w - y) a b) ∧
    exec (.vmul f) s = give 4 (List.zipWith (fun x y => x * y) a b) ∧
    exec (.vfma f) s = give 4 ((List.range t.n).map fun i => a.getD i 0 * b.getD i 0 + d.getD i 0) ∧
    exec (.vfms f) s = give 4 ((List.range t.n).map fun i => uint t.w ((d.getD i 0 : Int) - a.getD i 0 * b.getD i 0))) ∧
  (∀ (f : V3) (s : State) (t : ElemTy), s.seat.pred f.g.val = true → elemTy s.seat.et = some t → t.cls = .int →
    let x := s.vints t f.a
    let y := s.vints t f.b
    let give (r : List Nat) : Res := .next (s.velementwise t f.d 2 r)
    exec (.vshl f) s = give (List.zipWith (fun p q => p * 2 ^ (q % t.w)) x y) ∧
    exec (.vshr f) s = give (List.zipWith (fun p q => p / 2 ^ (q % t.w)) x y) ∧
    exec (.vsar f) s = give (List.zipWith (fun p q => uint t.w (sint t.w p / 2 ^ (q % t.w))) x y)) ∧
  (∀ (f : V3) (s : State) (t : ElemTy), s.seat.pred f.g.val = true → elemTy s.seat.et = some t →
    let x := s.vints t f.a
    let y := s.vints t f.b
    let give (r : List Nat) : Res := .next (s.velementwise t f.d 2 r)
    exec (.vand f) s = give (List.zipWith (· &&& ·) x y) ∧ exec (.vor f) s = give (List.zipWith (· ||| ·) x y) ∧
    exec (.vxor f) s = give (List.zipWith (· ^^^ ·) x y)) ∧
  (∀ (f : V3) (s : State) (t : ElemTy), s.seat.pred f.g.val = true → elemTy s.seat.et = some t → t.cls = .k27 →
    srcIsHalf f.a = false → srcIsHalf f.b = false →
    let a := s.velems t f.a
    let b := s.velems t f.b
    let give (r : List Nat) : Res := .next (s.velementwise t f.d 4 r)
    exec (.vadd f) s = give (List.zipWith k27Add a b) ∧ exec (.vsub f) s = give (List.zipWith k27Sub a b) ∧
    exec (.vmul f) s = give (List.zipWith k27Mul a b)) ∧
  (∀ (f : V3) (s : State) (t : ElemTy), s.seat.pred f.g.val = true → elemTy s.seat.et = some t → t.cls = .c32 →
    exec (.vcadd f) s = .next (s.velementwise t f.d 8 (List.zipWith c32Add (s.velems t f.a) (s.velems t f.b)))) ∧
  (∀ (f : V2) (s : State) (t : ElemTy) (fm : FpFmt), s.seat.pred f.g.val = true → elemTy s.seat.et = some t → t.cls = .fp fm →
    let a := s.velems t f.a
    let give (lat : Nat) (op : FpVal → FpVal) : Res := .next (s.velementwise t f.d lat (a.map fun x => fm.round .rne (op (fm.val x))))
    exec (.vsqrt f) s = give 20 FpVal.sqrt ∧ exec (.vrcp f) s = give 20 FpVal.rcp ∧ exec (.vrsq f) s = give 20 FpVal.rsq ∧
    exec (.vexp2 f) s = give 8 FpVal.exp2 ∧ exec (.vlog2 f) s = give 8 FpVal.log2 ∧ exec (.vabs f) s = give 2 FpVal.abs ∧
    exec (.vneg f) s = give 2 FpVal.neg ∧ exec (.vcls f) s = .next (s.velementwise t f.d 2 (a.map fm.cls)) ∧
    ∀ rm, exec (.vround ⟨f.g, f.d, f.a, rm⟩) s = .next (s.velementwise t f.d 4 (a.map (fm.integral rm)))) ∧
  (∀ (f : V2) (s : State) (t : ElemTy), s.seat.pred f.g.val = true → elemTy s.seat.et = some t → t.cls = .int → srcIsHalf f.a = false →
    let a := s.velems t f.a
    let give (op : Nat → Nat) : Res := .next (s.velementwise t f.d 2 (a.map op))
    exec (.vabs f) s = give (fun x => uint t.w (sint t.w x).natAbs) ∧ exec (.vneg f) s = give (fun x => 2 ^ t.w - x) ∧
    exec (.vclz f) s = give (fun x => if x = 0 then t.w else t.w - 1 - Nat.log2 x) ∧
    exec (.vpopc f) s = give (fun x => ((List.range t.w).filter fun i => x.testBit i).length)) ∧
  (∀ (f : V3x) (s : State) (t : ElemTy) (fm : FpFmt), s.seat.pred f.g.val = true → elemTy s.seat.et = some t → t.cls = .fp fm →
    let a := s.velems t f.a
    let b := s.velems t f.b
    let give (r : List Nat) : Res := .next (s.velementwise t f.d 2 r)
    exec (.vmin f) s = give (List.zipWith fm.min a b) ∧ exec (.vmax f) s = give (List.zipWith fm.max a b) ∧
    exec (.vabsd f) s = .next (s.velementwise t f.d 4 (List.zipWith (fun x y => fm.round .rne ((fm.val x).sub (fm.val y)).abs) a b))) ∧
  (∀ (f : V3x) (s : State) (t : ElemTy), s.seat.pred f.g.val = true → elemTy s.seat.et = some t → t.cls = .int →
    srcIsHalf f.a = false → srcIsHalf f.b = false →
    let a := s.velems t f.a
    let b := s.velems t f.b
    let le (x y : Nat) : Bool := if f.x then x ≤ y else sint t.w x ≤ sint t.w y
    exec (.vmin f) s = .next (s.velementwise t f.d 2 (List.zipWith (fun x y => if le x y then x else y) a b)) ∧
    exec (.vmax f) s = .next (s.velementwise t f.d 2 (List.zipWith (fun x y => if le x y then y else x) a b)) ∧
    exec (.vabsd f) s = .next (s.velementwise t f.d 4 (List.zipWith (fun x y =>
      if f.x then (if x < y then y - x else x - y) else (sint t.w x - sint t.w y).natAbs) a b)) ∧
    exec (.vmulh f) s = .next (s.velementwise t f.d 4 (List.zipWith (fun x y =>
      if f.x then x * y / 2 ^ t.w else uint t.w (sint t.w x * sint t.w y / 2 ^ t.w)) a b)))

/-- Mask enable merges elements. The vector that an elementwise instruction writes holds in each active element the result reduced to
the element width, and in each inactive one the old lane of its register destination whole, or zero where it writes the latch
alone. With MEN clear every element is active; with MEN set element i is active exactly when bit MB(i) of the mask that KSEL names
is set, MB(i) being 2i for types of 64 elements and i for the rest. -/
def Obligations.VectorMerging : Prop :=
  ∀ (s : State) (t : ElemTy) (code : Nat) (old : Vec) (r : List Nat) (i : Nat), elemTy code = some t → i < t.n →
    let k := tget 0 s.seat.k (s.seat.vtype.toNat / 16 % 8)
    let act := !s.seat.vtype.getLsbD 7 || k.getLsbD (if t.n = 64 then 2 * i else i)
    laneGet t.lane (s.merged t (some old) r) i = (if act then r.getD i 0 % 2 ^ t.w else laneGet t.lane old i) ∧
    laneGet t.lane (s.merged t none r) i = (if act then r.getD i 0 % 2 ^ t.w else 0)

/-- The vector-type fault. An acting V slot whose element type is reserved, or which is not among the types of its entry, raises trap
7 before anything commits, with the opcode value of its word in TVAL [15:8] and the element type code in [7:0]. VSETT, VZERO,
VMIX, VKOP, VMOVK, and VANY and VALL over a mask, never raise it: they complete under every VTYPE. -/
def Obligations.VectorTypeFault : Prop :=
  (∀ (s : State),
    let fault : Res := .next (s.raise 7 (BitVec.ofNat 64 (s.cx.word / 2 ^ 23 % 256 * 256 + s.seat.vtype.toNat % 16)))
    let bad (ok : ElemTy → Bool) : Prop := ∀ t, elemTy s.seat.et = some t → ok t = false
    (∀ f : V3, s.seat.pred f.g.val = true →
      (bad tyFIK → exec (.vadd f) s = fault ∧ exec (.vsub f) s = fault ∧ exec (.vmul f) s = fault) ∧
      (bad tyF → exec (.vdiv f) s = fault ∧ exec (.vscl f) s = fault ∧ exec (.vsgn f) s = fault) ∧
      (bad tyFI → exec (.vfma f) s = fault ∧ exec (.vfms f) s = fault ∧ exec (.viota f) s = fault) ∧
      (bad tyI → exec (.vshl f) s = fault ∧ exec (.vshr f) s = fault ∧ exec (.vsar f) s = fault) ∧
      (bad tyAll → exec (.vand f) s = fault ∧ exec (.vor f) s = fault ∧ exec (.vxor f) s = fault ∧ exec (.vsel f) s = fault ∧
        exec (.vbcst f) s = fault ∧ exec (.vxtr f) s = fault ∧ exec (.vperm f) s = fault ∧ exec (.vbfly f) s = fault ∧
        exec (.vrotl f) s = fault ∧ exec (.vsplt f) s = fault) ∧
      (bad tyWideF → exec (.vcmul f) s = fault ∧ exec (.vcmac f) s = fault) ∧
      (bad ElemTy.isC → exec (.vcadd f) s = fault) ∧ (bad ElemTy.isF32 → exec (.vqnt f) s = fault)) ∧
    (∀ f : V3x, s.seat.pred f.g.val = true →
      (bad tyFI → exec (.vmin f) s = fault ∧ exec (.vmax f) s = fault ∧ exec (.vabsd f) s = fault) ∧
      (bad tyI → exec (.vmulh f) s = fault)) ∧
    (∀ f : V2, s.seat.pred f.g.val = true →
      (bad tyF → exec (.vsqrt f) s = fault ∧ exec (.vrcp f) s = fault ∧ exec (.vrsq f) s = fault ∧ exec (.vexp2 f) s = fault ∧
        exec (.vlog2 f) s = fault ∧ exec (.vcls f) s = fault) ∧
      (bad tyFI → exec (.vabs f) s = fault ∧ exec (.vneg f) s = fault) ∧
      (bad tyI → exec (.vclz f) s = fault ∧ exec (.vpopc f) s = fault) ∧
      (bad tyAll → exec (.vreda f) s = fault) ∧ (bad ElemTy.isF32 → exec (.vhad f) s = fault ∧ exec (.vdq f) s = fault) ∧
      (bad tyResidue → exec (.vcrt f) s = fault ∧ exec (.vres f) s = fault)) ∧
    (∀ f : Vround, s.seat.pred f.g.val = true → bad tyF → exec (.vround f) s = fault) ∧
    (∀ f : Vtws, s.seat.pred f.g.val = true → bad tyF → exec (.vtws f) s = fault) ∧
    (∀ f : Vredm, s.seat.pred f.g.val = true → bad tyFI → exec (.vredm f) s = fault) ∧
    (∀ f : Vcvt, s.seat.pred f.g.val = true → bad tyFI → exec (.vcvt f) s = fault) ∧
    (∀ f : Vpart, s.seat.pred f.g.val = true →
      (bad (fun t => t.isI && (t.w == 32 || t.w == 16)) → exec (.vsatn f) s = fault) ∧
      (bad tyDense → exec (.vpck f) s = fault ∧ exec (.vupk f) s = fault)) ∧
    (∀ f : Vcmp, s.seat.pred f.g.val = true → bad (vcondOk f.cond) →
      exec (.vcmp f) s = fault ∧ exec (.vany f) s = fault ∧ exec (.vall f) s = fault)) ∧
  (∀ (s t : State) (i : Instr), s.cx.out = .go → exec i s = .next t →
    (∃ f, i = .vsett f) ∨ (∃ f, i = .vzero f) ∨ (∃ f, i = .vmix f) ∨ (∃ f, i = .vkop f) ∨ (∃ f, i = .vmovkToMask f) ∨
      (∃ f, i = .vmovkToReg f) ∨ (∃ f, i = .vanyMask f) ∨ (∃ f, i = .vallMask f) →
    t.cx.out = .go)

/-- Compares, votes, masks, selection, VTYPE, lane moves and reductions. An acting VCMP sends to mask k the condition of every active
element, at bit i, or at bits 2i and 2i + 1 for 64 elements, an inactive element giving 0. VANY and VALL send to pair j the vote
of the active elements, or of a whole mask. VSEL takes a where the selected mask has a one, else b. VKOP combines two masks, VMOVK
moves 128 bits between a mask and a register, VSETT writes VTYPE for the next bundle, VZERO gives 0. A lane move gives element i
of the result the element of a that the integer elements of b name; VXTR one element and zeros, VIOTA a + i x b. VREDA and VREDM
fold the active elements, an identity in place of inactive ones, in the fixed tree, into element 0. Each changes nothing else. -/
def Obligations.VectorMaskAndMoveResults : Prop :=
  (∀ (f : Vcmp) (s : State) (t : ElemTy), s.seat.pred f.g.val = true → elemTy s.seat.et = some t → vcondOk f.cond t = true →
    ((t.isI || t.isK) = true → srcIsHalf f.a = false ∧ srcIsHalf f.b = false) →
    let cs := List.zipWith (vcond t f.cond) (s.velems t f.a) (s.velems t f.b)
    let voters := ((List.range t.n).filter fun i => s.seat.active t.n i).map fun i => cs.getD i false
    (∃ k : Mask, exec (.vcmp f) s = .next (s.fly .v 3 (.mask f.k.val k) none) ∧
      ∀ j, j < 128 → let i := if t.n = 64 then j / 2 else j
        k.getLsbD j = (s.seat.active t.n i && cs.getD i false)) ∧
    exec (.vany f) s = .next (s.fly .v 3 (.pair f.k.val (voters.any id)) none) ∧
    exec (.vall f) s = .next (s.fly .v 3 (.pair f.k.val (voters.all id)) none)) ∧
  (∀ (f : Vvotm) (s : State), s.seat.pred f.g.val = true →
    let k := tget 0 s.seat.k f.k.val
    exec (.vanyMask f) s = .next (s.fly .v 3 (.pair f.j.val (k != 0)) none) ∧
    exec (.vallMask f) s = .next (s.fly .v 3 (.pair f.j.val (k == BitVec.allOnes 128)) none)) ∧
  (∀ (f : V3) (s : State) (t : ElemTy), s.seat.pred f.g.val = true → elemTy s.seat.et = some t →
    ((t.isI || t.isK) = true → srcIsHalf f.a = false ∧ srcIsHalf f.b = false) →
    exec (.vsel f) s = .next (s.vwhole t f.d 2 ((List.range t.n).map fun i =>
      if s.seat.ksel.getLsbD (maskBit t.n i) then (s.velems t f.a).getD i 0 else (s.velems t f.b).getD i 0))) ∧
  (∀ (f : Vkop) (s : State), s.seat.pred f.g.val = true →
    exec (.vkop f) s = .next (s.fly .v 2
      (.mask f.d.val (maskApply f.op (tget 0 s.seat.k f.a.val) (tget 0 s.seat.k f.b.val))) none)) ∧
  (∀ (f : Vmkto) (s : State), s.seat.pred f.g.val = true →
    exec (.vmovkToMask f) s = .next (s.fly .v 2 (.mask f.k.val ((s.vsrc (.int 64) f.a).setWidth 128)) none)) ∧
  (∀ (f : Vmkfr) (s : State), s.seat.pred f.g.val = true →
    exec (.vmovkToReg f) s = .next (s.vresult f.d 2 ((tget 0 s.seat.k f.k.val).setWidth 4096))) ∧
  (∀ (f : Vsett) (s : State), s.seat.pred f.g.val = true →
    exec (.vsett f) s = .next (s.fly .v 1
      (.csr 9 (BitVec.ofNat 64 ((if f.men then 128 else 0) + f.ksel.val * 16 + f.et.val))) none)) ∧
  (∀ (f : V1) (s : State), s.seat.pred f.g.val = true → exec (.vzero f) s = .next (s.vresult f.d 1 0)) ∧
  (∀ (f : V3) (s : State) (t : ElemTy), s.seat.pred f.g.val = true → elemTy s.seat.et = some t →
    ((t.isI || t.isK) = true → srcIsHalf f.a = false) →
    let a := s.velems t f.a
    let b := s.vints t f.b
    let b0 := b.getD 0 0
    let give (src : Nat → Nat) : Res := .next (s.velementwise t f.d 2 ((List.range t.n).map fun i => a.getD (src i) 0))
    exec (.vbcst f) s = give (fun _ => b0 % t.n) ∧ exec (.vperm f) s = give (fun i => b.getD i 0 % t.n) ∧
    exec (.vbfly f) s = give (fun i => i ^^^ (b0 % t.n)) ∧ exec (.vrotl f) s = give (fun i => (i + t.n - b0 % t.n) % t.n) ∧
    exec (.vsplt f) s = give (fun i => i % (if 1 ≤ b0 ∧ b0 ≤ t.n then b0 else t.n)) ∧
    exec (.vxtr f) s = .next (s.vwhole t f.d 2 ((List.range t.n).map fun i => if i = 0 then a.getD (b0 % t.n) 0 else 0)) ∧
    (srcIsHalf f.b = false → t.cls = .int → exec (.viota f) s =
      .next (s.velementwise t f.d 2 ((List.range t.n).map fun i => a.getD i 0 + i * (s.velems t f.b).getD i 0))) ∧
    (∀ fm, t.cls = .fp fm → exec (.viota f) s = .next (s.velementwise t f.d 2 ((List.range t.n).map fun i =>
      fm.round .rne ((fm.val (a.getD i 0)).add ((FpVal.ofInt i).mul (fm.val ((s.velems t f.b).getD i 0)))))))) ∧
  (∀ (f : V2) (s : State) (t : ElemTy), s.seat.pred f.g.val = true → elemTy s.seat.et = some t →
    ((t.isI || t.isK) = true → srcIsHalf f.a = false) →
    exec (.vreda f) s = .next (match t.cls with
      | .fp fm => s.vreduce t f.d 12 (fm.zero true) fm.add f.a
      | .int => s.vreduce t f.d 12 0 (fun x y => (x + y) % 2 ^ t.w) f.a
      | .k27 => s.vreduce t f.d 12 0 k27Add f.a
      | .c32 => s.vreduce t f.d 12 0x8000000080000000 c32Add f.a)) ∧
  (∀ (f : Vredm) (s : State) (t : ElemTy), s.seat.pred f.g.val = true → elemTy s.seat.et = some t →
    (∀ fm, t.cls = .fp fm → exec (.vredm f) s = .next (s.vreduce t f.d 8 fm.nan (if f.min then fm.min else fm.max) f.a)) ∧
    (t.cls = .int → srcIsHalf f.a = false → exec (.vredm f) s = .next (s.vreduce t f.d 8
      (if f.min then (if f.x then 2 ^ t.w - 1 else 2 ^ (t.w - 1) - 1) else (if f.x then 0 else 2 ^ (t.w - 1)))
      (if f.min then vminElem f.x t else vmaxElem f.x t) f.a)))

/-- Conversion, packing, complex, rotation, quantisation and residues. Under a type of its entry each acting VCVT, VSATN, VPCK, VUPK,
VCMUL, VCMAC, VTWS, VSGN, VHAD, VQNT, VDQ, VCRT and VRES, and VMIX under every type, answers the state in which its result is on
its way to d (VTWS: sum and error in a pair), and nothing else changes. VCVT between types of unlike element count narrows one
half or widens into one half. VCRT of a value without an integer gives 0x8000_0000. -/
def Obligations.VectorFormatResults : Prop :=
  (∀ (f : Vcvt) (s : State) (t u : ElemTy), s.seat.pred f.g.val = true → elemTy s.seat.et = some t → tyFI t = true →
    (t.isI = true → srcIsHalf f.a = false) → elemTy f.toTy.val = some u →
    let r := (s.velems t f.a).map (convert f.rm t u)
    let half := if f.x then 64 else 0
    (t.n = u.n → exec (.vcvt f) s = .next (s.vwhole u f.d 3 r)) ∧
    (t.n = 128 → u.n = 64 → exec (.vcvt f) s = .next (s.vwhole u f.d 3 ((List.range 64).map fun i => r.getD (half + i) 0))) ∧
    (t.n = 64 → u.n = 128 → exec (.vcvt f) s = .next (s.vresult f.d 3 (ofLanes 32 ((List.range 128).map fun j =>
      if half ≤ j ∧ j < half + 64 then r.getD (j - half) 0 else if f.d = .latch then 0 else laneGet 32 (s.vdstOld f.d) j))))) ∧
  (∀ (f : Vpart) (s : State) (t : ElemTy), s.seat.pred f.g.val = true → elemTy s.seat.et = some t →
    ((t.isI || t.isK) = true → srcIsHalf f.a = false) →
    (t.isI = true → t.w = 32 ∨ t.w = 16 → exec (.vsatn f) s = .next (s.velementwise t f.d 3 ((s.velems t f.a).map fun x =>
      uint (satRange f.p.val).2.2 (max (satRange f.p.val).1 (min (satRange f.p.val).2.1 (sint t.w x)))))) ∧
    (t.w = 16 ∨ t.w = 8 →
      (exec (.vupk f) s = .next (s.vwhole t f.d 3 ((List.range t.n).map fun i =>
        (s.vsrcAs t t.form f.a).toNat / 2 ^ (f.p.val % (32 / t.w) * 128 * t.w) / 2 ^ (t.w * i) % 2 ^ t.w))) ∧
      ∃ v : Vec, exec (.vpck f) s = .next (s.vresult f.d 3 v) ∧
        ∀ j, j < 4096 / t.w → laneGet t.w v j =
          if j / 128 = f.p.val % (32 / t.w) then (s.velems t f.a).getD (j % 128) 0
          else if f.d = .latch then 0 else laneGet t.w (s.vdstOld f.d) j)) ∧
  (∀ (f : V3) (s : State) (t : ElemTy) (fm : FpFmt), s.seat.pred f.g.val = true → elemTy s.seat.et = some t → t.cls = .fp fm →
    let a := s.velems t f.a
    let b := s.velems t f.b
    (fm = .f32 ∨ fm = .f64 →
      ∃ v w : Vec, exec (.vcmul f) s = .next (s.vresult f.d 6 v) ∧ exec (.vcmac f) s = .next (s.vresult f.d 6 w) ∧
        ∀ m, 2 * m < t.n → s.seat.active t.n (2 * m) = true →
          let av := fun i => fm.val (a.getD i 0)
          let bv := fun i => fm.val (b.getD i 0)
          let dv := fun i => fm.val ((t.elems (s.vdstOld f.d)).getD i 0)
          laneGet t.lane v (2 * m) = fm.round .rne (((av (2 * m)).mul (bv (2 * m))).sub ((av (2 * m + 1)).mul (bv (2 * m + 1)))) ∧
          laneGet t.lane v (2 * m + 1) = fm.round .rne (((av (2 * m)).mul (bv (2 * m + 1))).add ((av (2 * m + 1)).mul (bv (2 * m)))) ∧
          laneGet t.lane w (2 * m) = fm.round .rne
            (((dv (2 * m)).add ((av (2 * m)).mul (bv (2 * m)))).sub ((av (2 * m + 1)).mul (bv (2 * m + 1)))) ∧
          laneGet t.lane w (2 * m + 1) = fm.round .rne
            (((dv (2 * m + 1)).add ((av (2 * m)).mul (bv (2 * m + 1)))).add ((av (2 * m + 1)).mul (bv (2 * m))))) ∧
    exec (.vsgn f) s = .next (s.velementwise t f.d 2 ((List.range t.n).map fun i => signFlip t.w (a.getD i 0) (s.vscalar f.b + i))) ∧
    (fm = .f32 → exec (.vqnt f) s = .next (s.vwhole t f.d 12
      ((blocks ((List.range t.n).map fun i => signFlip 32 (a.getD i 0) (s.vscalar f.b + i))).flatMap quantBlock)))) ∧
  (∀ (f : Vtws) (s : State) (t : ElemTy) (fm : FpFmt), s.seat.pred f.g.val = true → elemTy s.seat.et = some t → t.cls = .fp fm →
    let r := List.zipWith fm.twoSum (s.velems t f.a) (s.velems t f.b)
    let both (d e : Dst) : Res := .next ((s.velementwise t d 4 (r.map (·.1))).velementwise t e 4 (r.map (·.2)))
    let reg (n : Nat) : Dst := if n < 24 then .main (Fin.ofNat 24 n) else .opnd (Fin.ofNat 8 (n - 24))
    exec (.vtws f) s = match f.p with
      | .regs i => both (reg (2 * i.val)) (reg (2 * i.val + 1))
      | .latch => both .latch .latch) ∧
  (∀ (f : V2) (s : State) (t : ElemTy), s.seat.pred f.g.val = true → elemTy s.seat.et = some t →
    let a := s.velems t f.a
    (t.cls = .fp .f32 →
      exec (.vhad f) s = .next (s.vwhole t f.d 8 ((blocks a).flatMap hadamard)) ∧
      exec (.vdq f) s = .next (s.velementwise t f.d 4 (a.map fun x => dequantise (x % 256) (x / 256 % 256)))) ∧
    (tyResidue t = true → srcIsHalf f.a = false →
      exec (.vcrt f) s = .next (s.velementwise t f.d 8 (a.map fun x =>
        ((k27Crt x).map (uint 32)).getD 0x80000000)) ∧
      exec (.vres f) s = .next (s.velementwise t f.d 3 (a.map fun x => k27OfInt false (sint 32 x))))) ∧
  (∀ (f : V3) (s : State), s.seat.pred f.g.val = true →
    exec (.vmix f) s = .next (s.vresult f.d 8 (ofLanes 64 (List.zipWith (fun x y => mix64 ((x + y) % 2 ^ 64))
      (s.vints ⟨.int, 64, 64⟩ f.a) (s.vints ⟨.int, 64, 64⟩ f.b)))))

/-- Plane shifts, the swap and pushes. MSHB, with its drawer row ready, and MSHR send their 64 elements to the shadow plane after 4
counted cycles, MSWP swaps the planes after 1. MPSA and MPSS, with the row ready and the grid free, occupy the grid for 1, 4 or 16
counted cycles, send the next cursor after 1 and the column sums of the active plane to the basin row of the cursor after 68; MPRA
and MPRS do the same with the next row of their remote operand stream once it is there. MNOP does nothing. -/
def Obligations.MatrixPlaneAndPushResults : Prop :=
  (∀ (f : Mn) (s : State), exec (.mnop f) s = .next s ∧
    (s.seat.pred f.g.val = true →
      exec (.mswp f) s = .next (s.fly .m 1 .swap none))) ∧
  (∀ (f : Mshr) (s : State), s.seat.pred f.g.val = true →
    exec (.mshr f) s = .next (s.fly .m 4 (.shift (!s.seat.act) (rowOfWords ((List.range 64).map
      fun k => laneGet 32 s.me.latches.v0 ((if f.half then 64 else 0) + k) % 2 ^ (8 * mSize f.fmt)))) none)) ∧
  (∀ (f : Mblk) (s : State), s.seat.pred f.g.val = true →
    let key := f.drawer.val * 64 + f.row.val
    let block := blockOf f.fmt f.kb.val (s.drawerRow s.cx.core key)
    let st := s.seat
    tget .ready s.me.rows key = .ready →
    exec (.mshb f) s = .next (s.fly .m 4 (.shift (!st.act) (rowOfWords block)) none) ∧
    (s.me.gridUntil ≤ s.me.idx →
      let b := s.onCore s.cx.core fun k => { k with gridUntil := s.me.idx + (match f.fmt with
        | .rx8 => 1
        | .fp32 => 16
        | _ => 4) }
      let pushed (add : Bool) : State := (b.fly .m 1 (.cursor ((st.cursor + st.stride) % 2048)) none).fly .m 68
        (.push st.cursor add f.fmt (columnSums f.fmt (st.plane st.act) block)) none
      exec (.mpsa f) s = .next (pushed true) ∧ exec (.mpss f) s = .next (pushed false))) ∧
  (∀ (f : Mblk) (s : State), s.seat.pred f.g.val = true → s.me.gridUntil ≤ s.me.idx →
    let t := (s.streamFor f.drawer.val f.row.val).1
    let row := f.row.val + t.count
    let w := { s.issuing with bad := lteSize t.bits != mSize f.fmt }
    ∀ fm xs p, s.form w .load t.entry 0 t.bits [64 * f.kb.val, row, 0, 0] 64 = .ok fm → s.spots w .load fm (List.range 64) = .ok xs →
      (∀ r ∈ t.reads, r.row = row → r.lost = none) → t.ahead.find? (fun q => q.1 == 4 * row + f.kb.val) = some p →
      let b := s.onMe fun st => { st with
        stream := some { t with count := t.count + 1, ahead := t.ahead.filter (fun q => q.1 / 4 != row), fresh := false }, aside := none }
      exec (.mpra f) s = .next (b.push true f.fmt (blockOf f.fmt 0 p.2)).busy ∧
      exec (.mprs f) s = .next (b.push false f.fmt (blockOf f.fmt 0 p.2)).busy ∧ (b.push true f.fmt (blockOf f.fmt 0 p.2)).cx.out = s.cx.out)

/-- Cursor, counter, drains, tile status, raw moves and MSYN. MBAS sets cursor and stride, and clears KSTEP and the stream unless
.keep; MZRO sends a zero row and MPOI, in supervisor mode, the absorbing row, to the cursor's basin row; MKST sets KSTEP, MKRD
latches it; MDRD, MDRV and MDRB drain the cursor's row to a drawer row, half a V operand register or a basin row, with the status
after 16 counted cycles; MTSR clears status; MBLD and MBST move a raw row; MSYN goes on when no operation of the seat is in the
array. Each instruction with the cursor sends the next cursor after 1 counted cycle. -/
def Obligations.MatrixBasinResults : Prop :=
  ∀ (s : State),
    let st := s.seat
    let c := st.cursor
    let b := s.fly .m 1 (.cursor ((c + st.stride) % 2048)) none
    let r := s.basinRow s.cx.core c
    (∀ f : Mbas, st.pred f.g.val = true →
      exec (.mbas f) s = .next (s.fly .m 1 (.basinCtl f.cursor.val f.stride.val false) none) ∧
      exec (.mbasKeep f) s = .next (s.fly .m 1 (.basinCtl f.cursor.val f.stride.val true) none)) ∧
    (∀ f : Mn, st.pred f.g.val = true →
      exec (.mzro f) s = .next (b.fly .m 68 (.arrayRow c 0) none) ∧
      exec (.mkrd f) s = .next (s.fly .m 2 .nothing (some ((st.kstep.setWidth 64).setWidth 4096))) ∧
      (s.me.flight.all (fun l => l.seat != s.cx.seat || !l.effect.inArray) = true → exec (.msyn f) s = .next s)) ∧
    (∀ f : Mpoi, st.pred f.g.val = true → st.sup = true →
      exec (.mpoi f) s = .next (b.fly .m 68
        (.arrayRow c (wholeRow (if f.fmt = .rx8 then 0x80000000 else 0x7FC00000))) none)) ∧
    (∀ f : Mkst, st.pred f.g.val = true → exec (.mkst f) s = .next (s.fly .m 1 (.kstep f.val.val) none)) ∧
    (∀ f : Mtsr, st.pred f.g.val = true → exec (.mtsr f) s = .next (s.fly .m 4 (.tileClear f.all f.n.val) none)) ∧
    (∀ f : Mrow, st.pred f.g.val = true →
      let key := f.drawer.val * 64 + f.row.val
      exec (.mbst f) s = .next (b.fly .m 12 (.drawerBytes key 0 (rowBytes r)) none) ∧
      (tget .ready s.me.rows key = .ready →
        exec (.mbld f) s = .next (b.fly .m 12 (.basinRow c (s.drawerRow s.cx.core key)) none))) ∧
    (∀ f : Mdrd, st.pred f.g.val = true →
      let xs := (s.drain f.src (drainFmt f.out.val) c).1
      exec (.mdrd f) s = .next ((b.fly .m 12 (.drawerBytes (f.drawer.val * 64 + f.row.val) (if f.half then 128 else 0)
          (elemBytes (if f.out.val = 0 then 4 else 2) xs)) none).fly .m 16
        (.tileOr (c / 128) (s.drain f.src (drainFmt f.out.val) c).2) none)) ∧
    (∀ f : Mdrv, st.pred f.g.val = true →
      let xs := (s.drain f.src (drainFmt f.out.val) c).1
      exec (.mdrv f) s = .next ((b.fly .v 12 (.vhalf (24 + f.o.val) f.half (rowOfWords xs)) (some 0)).fly .m 16
        (.tileOr (c / 128) (s.drain f.src (drainFmt f.out.val) c).2) none)) ∧
    (∀ f : Mdrb, st.pred f.g.val = true →
      let xs := (s.drain f.src .f32 c).1
      let pairs (l : List Nat) : Row := rowOfWords (l.flatMap fun x => [x, 0])
      let status (t : State) : Res := .next (t.fly .m 16 (.tileOr (c / 128) (s.drain f.src .f32 c).2) none)
      (f.out.val = 2 → exec (.mdrb f) s = .next (b.fly .m 12 (.basinRow f.brow.val r) none)) ∧
      (f.out.val = 0 → exec (.mdrb f) s = status (b.fly .m 12 (.basinRow f.brow.val (rowOfWords xs)) none)) ∧
      (f.out.val = 1 → exec (.mdrb f) s = status ((b.fly .m 12 (.basinRow f.brow.val (pairs (xs.take 32))) none).fly .m 12
        (.basinRow (f.brow.val + 1) (pairs (xs.drop 32))) none)))

/-- What the M operations write when they land. A shift moves the k-rows of its plane up by one and puts its row at k-row 63, leaving
the other plane. A swap exchanges the planes' roles alone. A push adds its column sums to its basin row in the accumulation
format, or stores them, and adds 1 to KSTEP; MZRO's and MPOI's row is stored whole. MBAS sets cursor, stride and clears KSTEP and
the stream, .keep leaves both. Tile status is OR-ed into its entry or cleared. None changes a register of the S, L or V files. -/
def Obligations.MatrixLandings : Prop :=
  (∀ (st : Seat) (row : Row) (k : Nat),
    let t := (Effect.shift false row).onSeat st
    let u := (Effect.shift true row).onSeat st
    (k < 64 → (∀ p ∈ st.p0, p.1 < 64) → tget 0 t.p0 k = (if k = 63 then row else tget 0 st.p0 (k + 1))) ∧ t.p1 = st.p1 ∧
    (k < 64 → (∀ p ∈ st.p1, p.1 < 64) → tget 0 u.p1 k = (if k = 63 then row else tget 0 st.p1 (k + 1))) ∧ u.p0 = st.p0) ∧
  (∀ st : Seat, Effect.swap.onSeat st = { st with act := !st.act }) ∧
  (∀ (s : State) (c n row : Nat) (fmt : MFmt) (sums : Row),
    ((Effect.push row false fmt sums).onState s c n).basinRow c row = sums ∧
    (∀ j, j < 64 → rowWord (((Effect.push row true .rx8 sums).onState s c n).basinRow c row) j =
      k27Add (rowWord (s.basinRow c row) j) (rowWord sums j) % 2 ^ 32) ∧
    (∀ j, j < 64 → fmt ≠ .rx8 → rowWord (((Effect.push row true fmt sums).onState s c n).basinRow c row) j =
      FpFmt.f32.add (rowWord (s.basinRow c row) j) (rowWord sums j) % 2 ^ 32)) ∧
  (∀ (s : State) (c n row : Nat) (v : Row), ((Effect.arrayRow row v).onState s c n).basinRow c row = v) ∧
  (∀ (st : Seat) (row : Nat) (add : Bool) (fmt : MFmt) (sums : Row),
    (Effect.push row add fmt sums).onSeat st = { st with kstep := st.kstep + 1 }) ∧
  (∀ (st : Seat) (c stride : Nat),
    (Effect.basinCtl c stride false).onSeat st = { st with cursor := c, stride := stride, kstep := 0, stream := none, aside := none } ∧
    (Effect.basinCtl c stride true).onSeat st = { st with cursor := c, stride := stride }) ∧
  (∀ (st : Seat) (n m : Nat) (b : BitVec 3),
    tget 0 ((Effect.tileOr n b).onSeat st).tiles m = (if m = n then tget 0 st.tiles n ||| b else tget 0 st.tiles m) ∧
    tget 0 ((Effect.tileClear false n).onSeat st).tiles m = (if m = n then 0 else tget 0 st.tiles m) ∧
    tget 0 ((Effect.tileClear true n).onSeat st).tiles m = 0)

/-- A drawer row that is not ready, and a busy grid. An acting beat from a drawer row that a claim still fills stalls its bundle, and
one from a row whose fill faulted raises trap 16 with the fault's value; a push whose row is ready while the grid is occupied
raises trap 17 with the counted cycles that remain in TVAL. MPOI in user mode raises trap 3. -/
def Obligations.MatrixTraps : Prop :=
  (∀ (f : Mblk) (s : State), s.seat.pred f.g.val = true →
    let key := f.drawer.val * 64 + f.row.val
    (∀ id, tget .ready s.me.rows key = .pending id →
      let stalled : Res := .next (s.stall (s.waitFor .drawer))
      exec (.mshb f) s = stalled ∧ exec (.mpsa f) s = stalled ∧ exec (.mpss f) s = stalled) ∧
    (∀ cause tval, tget .ready s.me.rows key = .faulted cause tval →
      let trap : Res := .next (s.raise 16 tval)
      exec (.mshb f) s = trap ∧ exec (.mpsa f) s = trap ∧ exec (.mpss f) s = trap) ∧
    (tget .ready s.me.rows key = .ready → s.me.idx < s.me.gridUntil →
      let trap : Res := .next (s.raise 17 (BitVec.ofNat 64 ((s.me.gridUntil - s.me.idx) % 256)))
      exec (.mpsa f) s = trap ∧ exec (.mpss f) s = trap)) ∧
  (∀ (f : Mpoi) (s : State), s.seat.pred f.g.val = true → s.seat.sup = false → exec (.mpoi f) s = .next (s.raise 3 s.slotTval))

/-- Layout table entry slots. An acting LTGET and LTHDR give a field of their entry and its header plus an offset after 2 counted
cycles. Outside a pure task, LTSET, LTCPY, BIND and UNBD send their new field, entry, binding or empty binding to the entry after
2 counted cycles; in user mode only for an entry without LOCK (LTSET: and a user field). BIND takes SYNC 1 to 8. A user-mode slot
that may not write its entry raises trap 10, a BIND of another SYNC trap 9, each of a pure task trap 18. The entry a landing
writes changes in that field alone. -/
def Obligations.EntryFieldResults : Prop :=
  (∀ (f : Ltget) (s : State), s.seat.pred f.g.val = true →
    exec (.ltget f) s = .next (s.result (lUnit f.x) f.d 2 (ltGet (s.seat.entry f.e.val) f.code.val))) ∧
  (∀ (f : Ldeb) (s : State), s.seat.pred f.g.val = true →
    exec (.lthdr f) s = .next (s.result (lUnit f.x) f.d 2
      (BitVec.ofNat 64 (lteRead (s.seat.entry f.e.val) 12) + s.srcInt (lUnit f.x) f.b))) ∧
  (∀ (f : Ltset) (s : State), s.seat.pred f.g.val = true → s.seat.pure = false →
    let may := s.seat.sup = true ∨ (f.code.val < 13 ∧ lteRead (s.seat.entry f.e.val) 17 = 0)
    (may → exec (.ltset f) s = .next (s.fly (lUnit f.x) 2 (.lteField f.e.val f.code.val (s.srcInt (lUnit f.x) f.a)) none)) ∧
    (¬ may → exec (.ltset f) s = .next (s.raise 10 (BitVec.ofNat 64 f.e.val)))) ∧
  (∀ (f : Ltcpy) (s : State), s.seat.pred f.g.val = true → s.seat.pure = false →
    let may := s.seat.sup = true ∨ lteRead (s.seat.entry f.ed.val) 17 = 0
    (may → exec (.ltcpy f) s = .next (s.fly (lUnit f.x) 2 (.lteAll f.ed.val (s.seat.entry f.es.val)) none)) ∧
    (¬ may → exec (.ltcpy f) s = .next (s.raise 10 (BitVec.ofNat 64 f.ed.val)))) ∧
  (∀ (f : Lea) (s : State), s.seat.pred f.g.val = true → s.seat.pure = false →
    let v := s.srcInt (lUnit f.x) f.a
    let sync := field v 3 0
    let may := s.seat.sup = true ∨ lteRead (s.seat.entry f.e.val) 17 = 0
    (sync = 0 ∨ 9 ≤ sync → exec (.bind f) s = .next (s.raise 9 (BitVec.ofNat 64 f.e.val))) ∧
    (1 ≤ sync → sync ≤ 8 → may → exec (.bind f) s = .next (s.fly (lUnit f.x) 2 (.lteBind f.e.val sync (field v 23 4)) none)) ∧
    (1 ≤ sync → sync ≤ 8 → ¬ may → exec (.bind f) s = .next (s.raise 10 (BitVec.ofNat 64 f.e.val)))) ∧
  (∀ (f : Le) (s : State), s.seat.pred f.g.val = true → s.seat.pure = false →
    let may := s.seat.sup = true ∨ lteRead (s.seat.entry f.e.val) 17 = 0
    (may → exec (.unbd f) s = .next (s.fly (lUnit f.x) 2 (.lteField f.e.val 16 0) none)) ∧
    (¬ may → exec (.unbd f) s = .next (s.raise 10 (BitVec.ofNat 64 f.e.val)))) ∧
  (∀ (st : Seat) (n m code : Nat) (v : Word), m ≠ n → ((Effect.lteField n code v).onSeat st).entry m = st.entry m) ∧
  (∀ (b : LteBits) (i j v : Nat), i < 28 → j < 28 → i ≠ j →
    lteRead (lteWrite b i v) i = v % 2 ^ ((lteField i).2.1 + 1 - (lteField i).2.2) ∧ lteRead (lteWrite b i v) j = lteRead b j)

/-- Loads, gathers, scales and probes. Where the access of an acting SLD, VLD, VLD.raw, or LSCL forms without a fault and its elements
translate, the slot answers the state in which its value is fetched for its destination, at 6 or 8 counted cycles from the own
scratchpad and 10 from the own basin (LSCL 6), or at the horizon of the home. VGTH fetches its active lanes, each at its own
coordinates; without one it gives 0, at the latency of the entry's home. BLD gives its row pair of the basin, PREF and SPRB only
look, SPRB giving the code of the first failed check; a BLD whose rows the seat has still posted writes to sends its result from
them once those are performed. Where the access of an SLD faults, the trap of that fault is raised. -/
def Obligations.LoadResults : Prop :=
  (∀ (f : Lsld) (s : State), s.seat.pred f.g.val = true →
    let u := lUnit f.x
    let r := s.form s.issuing .load f.e.val 0 (s.seat.entry f.e.val) (coords (s.srcInt u f.a)) 1
    (∀ x, r = .error x → exec (.sld f) s = .next (s.raise x.cause x.tval)) ∧
    ∀ fm, r = .ok fm →
      (∀ x, s.spots s.issuing .load fm [0] = .error x → exec (.sld f) s = .next (s.raise x.cause x.tval)) ∧
      ∀ xs, s.spots s.issuing .load fm [0] = .ok xs →
        exec (.sld f) s = .next (s.fetch u fm xs (.scalar fm.size f.sx) 6 10 (s.fileEffect u f.d) true)) ∧
  (∀ (f : Ldae) (s : State), s.seat.pred f.g.val = true →
    let b := s.seat.entry f.e.val
    let n := vecCount b
    let m := 512 / lteSize b
    let cs := coords (s.srcInt (lUnit f.x) f.a)
    let w := { s.issuing with bad := rawBad b }
    (∀ fm xs, s.form s.issuing .load f.e.val 0 b cs n = .ok fm → s.spots s.issuing .load fm (List.range n) = .ok xs →
      exec (.vld f) s = .next (s.fetch .v fm xs (.lanes fm.size) 8 10 (s.vfileEffect f.d) true)) ∧
    (∀ fm xs, s.form w .load f.e.val 0 b cs m = .ok fm → s.spots w .load fm (List.range m) = .ok xs →
      exec (.vldRaw f) s = .next (s.fetch .v fm xs .raw 8 10 (s.vfileEffect f.d) true)) ∧
    (∀ xs, s.laneSpots s.issuing .load f.e.val n (laneCoords (s.vsrc (.int 64) f.a) n) (s.activeLanes n) = .ok xs →
      (xs = [] → exec (.vgth f) s = .next (s.fly .v (accessLatency s.cx.core b 10 12 []) (s.vfileEffect f.d) (some 0))) ∧
      (xs ≠ [] → exec (.vgth f) s = .next (s.fetch .v (s.formOf f.e.val) xs (.gather (lteSize b) (s.activeLanes n)) 10 12
        (s.vfileEffect f.d) true))) ∧
    ∃ v : Word, exec (.sprb f) s = .next (s.result (lUnit f.x) f.d 6 v) ∧
      field v 2 0 = (match s.form s.issuing .load f.e.val 0 b cs 1 with
        | .ok _ => 0
        | .error x => probeCode x.cause) ∧
      field v 15 15 = (if lteSpace b = 6 ∨ lteSpace b = 7 then 1 else 0)) ∧
  (∀ (f : Llscl) (s : State), s.seat.pred f.g.val = true →
    let b := s.seat.entry f.e.val
    let w := { s.issuing with bad := lteSpace b != 1 || lteSize b != 1 }
    ∀ fm xs, s.form w .load f.e.val 0 b (coords (s.srcInt (lUnit f.x) f.a)) 64 = .ok fm → s.spots w .load fm (List.range 64) = .ok xs →
      exec (.lscl f) s = .next (s.fetch (lUnit f.x) fm xs .raw 6 6 (.scales f.sb 0) false)) ∧
  (∀ (f : Lda) (s : State), s.seat.pred f.g.val = true → s.seat.pure = false →
    let r := (s.srcInt (lUnit f.x) f.a).toNat % 2048 / 2 * 2
    let first := s.firstThere s.cx.core s.cx.seat s.nextPost ((List.range 512).map ((Home.basin s.cx.core).at (r * 256) + ·))
    (first = true → exec (.bld f) s = .next ((s.touchRows r).vresult f.d 10
      (BitVec.ofNat 4096 ((s.basinRow s.cx.core r).toNat + (s.basinRow s.cx.core (r + 1)).toNat * 2 ^ 2048)))) ∧
    (first = false → ∃ t l, exec (.bld f) s = .next t ∧ t.mem = s.mem ∧ t.me.flight = s.me.flight ++ [l] ∧ l.seat = s.cx.seat ∧
      l.unit = .v ∧ l.due = s.me.idx + 10 ∧ l.effect = s.vfileEffect f.d)) ∧
  (∀ (f : Lea) (s : State), s.seat.pred f.g.val = true →
    ∃ t, exec (.pref f) s = .next t ∧ t.mem = s.mem ∧ t.seat = s.seat ∧ t.me.flight = s.me.flight ∧ t.cx = s.cx)

/-- What a load from the own scratchpad or basin brings. A load through the L port, behind nothing of its seat still under way at its
bytes, changes no byte of memory and sends one result, seen from the given latency on, whose value is formed from the bytes at its
elements' addresses as they stand: a scalar of the element size, zero- or sign-extended; one element of its size in each lane of
32 or 64 bits, or the bytes in order; the register takes the value and the latch too. Every seat is left as it is but for its spin
detector. -/
def Obligations.OwnMemoryLoads : Prop :=
  (∀ (s : State) (u : UnitId) (fm : Formed) (xs : List Spot) (form : LoadForm) (spad basin : Nat) (e : Effect) (latch : Bool),
    s.atPort fm.bits (spotBytes fm.size xs) = true →
    let t := s.fetch u fm xs form spad basin e latch
    let bytes := (xs.flatMap fun x => (List.range fm.size).map fun i => x.flat + i).map s.byte
    t.mem = s.mem ∧ (∀ c n, { t.seatAt c n with spin := .clear } = { s.seatAt c n with spin := .clear }) ∧
    ∃ l, t.me.flight = s.me.flight ++ [l] ∧ l.seat = s.cx.seat ∧ l.unit = u ∧ l.travel = .here ∧
      l.due = s.me.idx + (if lteSpace fm.bits = 1 then spad else basin) ∧
      l.effect = e.fill (formValue form bytes) ∧ l.latch = (if latch then some (formValue form bytes) else none)) ∧
  (∀ (size : Nat) (sx : Bool) (bs : List Byte), (size = 1 ∨ size = 2 ∨ size = 4 ∨ size = 8) → bs.length = size →
    formValue (.scalar size sx) bs =
      (if sx then BitVec.ofInt 64 (sint (8 * size) (leNat bs)) else BitVec.ofNat 64 (leNat bs)).setWidth 4096) ∧
  (∀ (size : Nat) (bs : List Byte) (i : Nat), (size = 1 ∨ size = 2 ∨ size = 4 ∨ size = 8) →
    i < 4096 / (if size = 8 then 64 else 32) → bs.length = size * (4096 / (if size = 8 then 64 else 32)) →
    laneGet (if size = 8 then 64 else 32) (formValue (.lanes size) bs) i = leNat ((bs.drop (size * i)).take size)) ∧
  (∀ (bs : List Byte) (i : Nat), i < bs.length → bs.length ≤ 512 →
    laneGet 8 (formValue .raw bs) i = (bs.getD i 0).toNat)

/-- Stores, scatters and basin and drawer writes. Where the access of an acting SST, VST, VST.raw or VSCT forms without a fault and
its active elements translate, the slot answers the state after its store of those elements' bytes: the low bytes of the source,
the lanes of the vector, or its bytes in order. A VSCT without active elements whose data operand is the constant 0.5 under an
integer or K27 entry raises the LTE format fault. BST and BZERO write 512 bytes of their row pair, at once unless writes of the
seat to them are still posted, behind which they are posted; DWR writes 256 bytes of its drawer row, which then is ready. -/
def Obligations.StoreResults : Prop :=
  (∀ (f : Leab) (s : State), s.seat.pred f.g.val = true →
    let e := f.e.val
    let b := s.seat.entry e
    let kind := etypeForm (lteRead b 11)
    let n := vecCount b
    let m := 512 / lteSize b
    let cs := coords (s.srcInt (lUnit f.x) f.b)
    let w := { s.issuing with bad := halfBad b f.a }
    let wr := { s.issuing with bad := rawBad b || halfBad b f.a }
    (∀ fm xs, s.form w .store e 0 b cs 1 = .ok fm → s.spots w .store fm [0] = .ok xs →
      exec (.sst f) s = .next (s.put fm xs fun _ => leBytes fm.size (s.src (lUnit f.x) kind f.a).toNat)) ∧
    (∀ fm xs, s.form w .store e 0 b cs n = .ok fm → s.spots w .store fm (s.activeLanes n) = .ok xs →
      exec (.vst f) s = .next (s.put fm xs fun i => leBytes fm.size (laneGet (laneOf fm.size) (s.vsrc kind f.a) i))) ∧
    (∀ fm xs, s.form wr .store e 0 b cs m = .ok fm → s.spots wr .store fm (List.range m) = .ok xs →
      exec (.vstRaw f) s = .next (s.put fm xs fun i => leBytes fm.size ((s.vsrc kind f.a).toNat / 2 ^ (8 * fm.size * i)))) ∧
    (∀ xs, s.laneSpots w .store e n (laneCoords (s.vsrc (.int 64) f.b) n) (s.activeLanes n) = .ok xs →
      (xs = [] → halfBad b f.a = true → exec (.vsct f) s = .next (s.raise 9 (accessTval e 0 0 0))) ∧
      (xs ≠ [] ∨ halfBad b f.a = false →
        exec (.vsct f) s = .next (s.put (s.formOf e) xs fun i => leBytes (lteSize b) (laneGet (laneOf (lteSize b)) (s.vsrc kind f.a) i))))) ∧
  (∀ (f : Lab) (s : State), s.seat.pred f.g.val = true → s.seat.pure = false →
    let r := (s.srcInt (lUnit f.x) f.b).toNat % 2048 / 2 * 2
    ∃ t, exec (.bst f) s = .next t ∧ t.seat.writes = s.seat.writes + 1 ∧
    let first := s.firstThere s.cx.core s.cx.seat s.nextPost ((List.range 512).map ((Home.basin s.cx.core).at (r * 256) + ·))
    (first = false → t.mem = s.mem) ∧
    (first = true →
      (t.basinRow s.cx.core r).toNat + (t.basinRow s.cx.core (r + 1)).toNat * 2 ^ 2048 = (s.vsrc (.int 64) f.a).toNat ∧
      ∀ a, (a < (Home.basin s.cx.core).at (r * 256) ∨ (Home.basin s.cx.core).at (r * 256) + 512 ≤ a) → t.byte a = s.byte a)) ∧
  (∀ (f : La) (s : State), s.seat.pred f.g.val = true → s.seat.pure = false →
    let r := (s.srcInt (lUnit f.x) f.a).toNat % 2048 / 2 * 2
    ∃ t, exec (.bzero f) s = .next t ∧ t.seat.writes = s.seat.writes + 1 ∧
    let first := s.firstThere s.cx.core s.cx.seat s.nextPost ((List.range 512).map ((Home.basin s.cx.core).at (r * 256) + ·))
    (first = false → t.mem = s.mem) ∧
    (first = true →
      t.basinRow s.cx.core r = 0 ∧ t.basinRow s.cx.core (r + 1) = 0 ∧
      ∀ a, (a < (Home.basin s.cx.core).at (r * 256) ∨ (Home.basin s.cx.core).at (r * 256) + 512 ≤ a) → t.byte a = s.byte a)) ∧
  (∀ (f : Ldwr) (s : State), s.seat.pred f.g.val = true →
    let key := f.drawer.val * 64 + f.row.val
    ∃ t, exec (.dwr f) s = .next t ∧ tget .ready t.me.rows key = .ready ∧
      (t.drawerRow s.cx.core key).toNat = (s.vsrc (.int 64) f.a).toNat / (if f.hi then 2 ^ 2048 else 1) % 2 ^ 2048 ∧
      ∀ a, (a < (Home.drawer s.cx.core).at (key * 256) ∨ (Home.drawer s.cx.core).at (key * 256) + 256 ≤ a) → t.byte a = s.byte a)

/-- Which bytes a store writes. A store through the L port, behind nothing of its seat still under way at its bytes and with every
element in the own scratchpad or basin, writes the bytes of its elements at their addresses, the last of the elements at an
address winning, and leaves every other byte; a store to any other home that meets no granule map fault leaves memory as it is
until its posted writes are performed. Either way every register, flag, mask, entry, loop level and trap register of every seat is
unchanged, and so are the results in flight. -/
def Obligations.StoreFrame : Prop :=
  ∀ (s : State) (fm : Formed) (xs : List Spot) (bytes : Nat → List Byte), (∀ x ∈ xs, (bytes x.lane).length = fm.size) →
    let t := s.put fm xs bytes
    let port := s.atPort fm.bits ((spotWrites xs bytes).map (·.1))
    let seen := ((s.touch fm.bits xs).noteMisses s.issuing (slotRank s.cx.word) xs).spotTest (dieOf s.cx.core) s.seat.ctx State.mapFault xs
    (port = true → (∀ x ∈ xs, ∀ i < fm.size, homeOf (x.flat + i) = .spad s.cx.core ∨ homeOf (x.flat + i) = .basin s.cx.core) →
      (∀ a, (∀ x ∈ xs, a < x.flat ∨ x.flat + fm.size ≤ a) → t.byte a = s.byte a) ∧
      (∀ pre x post j, xs = pre ++ x :: post → j < fm.size →
        (∀ y ∈ post, x.flat + j < y.flat ∨ y.flat + fm.size ≤ x.flat + j) → t.byte (x.flat + j) = (bytes x.lane).getD j 0)) ∧
    (port = false → seen = none → t.mem = s.mem) ∧
    (port = true ∨ seen = none → t.me.flight = s.me.flight ∧
    ∀ c n, let a := s.seatAt c n
      let b := t.seatAt c n
      b.s0 = a.s0 ∧ b.s1 = a.s1 ∧ b.l0 = a.l0 ∧ b.l1 = a.l1 ∧ b.v = a.v ∧ b.g = a.g ∧ b.k = a.k ∧ b.preds = a.preds ∧ b.b = a.b ∧
        b.link = a.link ∧ b.rrb = a.rrb ∧ b.vtype = a.vtype ∧ b.levels = a.levels ∧ b.lte = a.lte ∧ b.flags = a.flags ∧
        b.tpc = a.tpc ∧ b.tcause = a.tcause ∧ b.tval = a.tval ∧ b.tstat = a.tstat ∧ b.tvec = a.tvec ∧ b.pc = a.pc ∧ b.sup = a.sup ∧
        b.p0 = a.p0 ∧ b.p1 = a.p1 ∧ b.tiles = a.tiles ∧ b.kstep = a.kstep ∧ b.cursor = a.cursor)

/-- SUB 2 and 3, and a shadow entry without an object. Every access, by whatever agent and of whatever kind, formed through an entry
of space PEER or DIE with SUB 2 or 3, or through an entry with SH = 1 and SYNC = 0 (its space not being NONE), fails with the LTE
format fault, cause 9, with the entry and the lane in TVAL. An atomic to a place that admits none is never formed and fails with
the first of its faults, at the latest with the atomic-space fault 14 (02 R53). -/
def Obligations.AccessFormatFaults : Prop :=
  ∀ (s : State) (w : Issuing) (u : Use) (e lane : Nat) (b : LteBits) (cs : List Nat) (n : Nat), lteRead b 13 ≠ 0 →
    (((lteRead b 13 = 4 ∨ lteRead b 13 = 5) ∧ (lteRead b 22 = 2 ∨ lteRead b 22 = 3)) ∨
        (lteRead b 19 = 1 ∧ lteRead b 16 = 0) →
      s.form w u e lane b cs n = .error ⟨9, BitVec.ofNat 64 (lane % 128 * 2 ^ 33 + e % 32)⟩) ∧
    (w.noAtomic = true → ∃ x, s.form w u e lane b cs n = .error x ∧
      (x.cause = 9 ∨ x.cause = 11 ∨ x.cause = 12 ∨ x.cause = 14 ∨ x.cause = 18))

/-- An access that faults performs nothing and reports the first fault. Of the checks of an access the first to fail is reported:
space NONE, the format, purity, the bounds of a dimension, the range, alignment, the memory class of an atomic, then the
partition. A slot that raises a trap while no result is due leaves memory, the posted work and the results in flight of every core
but its own seat's as they were; with loads or atomics of the seat still travelling the trap waits for them. -/
def Obligations.FaultOrder : Prop :=
  (∀ (s : State) (w : Issuing) (u : Use) (e lane : Nat) (b : LteBits) (cs : List Nat) (n : Nat) (x : Fail),
    s.form w u e lane b cs n = .error x →
    let bad := formatFault b w.binds || w.bad
    let impure := w.pure && roleFault b u
    (lteSpace b = 0 → x.cause = 8) ∧
    (lteSpace b ≠ 0 → bad = true → x.cause = 9) ∧
    (lteSpace b ≠ 0 → bad = false → impure = true → x.cause = 18) ∧
    (lteSpace b ≠ 0 → bad = false → impure = false → ∀ i, boundsDim b cs n = some i →
      x = ⟨11, accessTval e lane i (cs.getD i 0)⟩) ∧
    (lteSpace b ≠ 0 → bad = false → impure = false → boundsDim b cs n = none → x.cause = 11 → x.tval = accessTval e lane 4 0) ∧
    (x.cause = 8 ∨ x.cause = 9 ∨ x.cause = 11 ∨ x.cause = 12 ∨ x.cause = 13 ∨ x.cause = 14 ∨ x.cause = 18)) ∧
  (∀ (s : State) (cause : Nat) (tval : Word), s.seat.tvec = 0 → bitOf s.seat.tstat tstatSIP = false → s.seat.waits = [] →
    s.me.flight.all (fun l => !l.ripe s.me.idx) = true →
    let t := s.raise cause tval
    t.mem = s.mem ∧ t.posted = s.posted ∧ (∀ c, c ≠ s.cx.core → t.core c = s.core c) ∧
      (s.tripsOf s.cx.core s.cx.seat = [] → ∀ l ∈ t.me.flight, l ∈ s.me.flight ∧ l.seat ≠ s.cx.seat) ∧
      (s.tripsOf s.cx.core s.cx.seat ≠ [] → t.me.flight = s.me.flight ∧
        (cause ≠ 22 → t.seat.trapping = some ⟨cause, tval, s.cx.pos, s.seat.pc⟩)))

/-- Atomics. Outside a pure task, where the access of an acting atomic forms and translates for its operation's types and basin-class
memory, the slot answers the state in which the atomic is performed or under way, with its operand, ACAS with the register pair as
new and compare value. Through the L port, behind nothing of its seat still under way at its 16 B and with its word in the own
scratchpad or basin, the old word comes back, sign-extended for I32, and the memory word becomes the operation's result, every
other byte staying. -/
def Obligations.AtomicResults : Prop :=
  (∀ (f : Leab) (s : State), s.seat.pred f.g.val = true → s.seat.pure = false →
    let u := lUnit f.x
    let b := s.seat.entry f.e.val
    let cs := coords (s.srcInt u f.a)
    let w (op : AtomicOp) (bad : Bool) : Issuing := { s.issuing with bad := bad || !atomicOk op b, noAtomic := !basinClass b }
    let runs (i : Instr) (op : AtomicOp) (bad : Bool) (y : Word) : Prop :=
      ∀ fm xs, s.form (w op bad) .atomic f.e.val 0 b cs 1 = .ok fm → s.spots (w op bad) .atomic fm [0] = .ok xs →
        exec i s = .next (s.atomicTrip u fm xs ⟨op, fm.size, lteRead b 11, y, 0⟩)
    let y := s.srcInt u f.b
    let typed := s.src u (etypeForm (lteRead b 11)) f.b
    runs (.aadd f) .add false y ∧ runs (.amin f) .min false y ∧ runs (.amax f) .max false y ∧ runs (.aminu f) .minu false y ∧
    runs (.amaxu f) .maxu false y ∧ runs (.aand f) .and false y ∧ runs (.aor f) .or false y ∧ runs (.axor f) .xor false y ∧
    runs (.aaddf f) .addf (halfBad b f.b) typed ∧ runs (.axch f) .xch (halfBad b f.b) typed ∧
    runs (.aaddk f) .addk false (s.src u .k27 f.b)) ∧
  (∀ (f : Lacas) (s : State), s.seat.pred f.g.val = true → s.seat.pure = false →
    let u := lUnit f.x
    let b := s.seat.entry f.e.val
    let w := { s.issuing with bad := !atomicOk .cas b, noAtomic := !basinClass b }
    ∀ fm xs, s.form w .atomic f.e.val 0 b (coords (s.srcInt u f.a)) 1 = .ok fm → s.spots w .atomic fm [0] = .ok xs →
      exec (.acas f) s = .next (s.atomicTrip u fm xs
        ⟨.cas, fm.size, lteRead b 11, s.regOf u (f.pair.val + 1), s.regOf u f.pair.val⟩)) ∧
  (∀ (s : State) (u : UnitId) (fm : Formed) (x : Spot) (a : Atomic), s.atPort fm.bits (objectBytes (spotBytes fm.size [x])) = true →
    (∀ i < a.size, homeOf (x.flat + i) = .spad s.cx.core ∨ homeOf (x.flat + i) = .basin s.cx.core) →
    let t := s.atomicTrip u fm [x] a
    let old := s.loadNat x.flat a.size
    t.loadNat x.flat a.size =
      atomicNew a.op a.size a.etype old a.operand.toNat a.compare.toNat % 2 ^ (8 * a.size) ∧
    (∀ p, (p < x.flat ∨ x.flat + a.size ≤ p) → t.byte p = s.byte p) ∧
    ∃ l, t.me.flight = s.me.flight ++ [l] ∧ l.effect = .nothing ∧ l.unit = u ∧
      l.latch = some ((extend a.size (a.etype == 6) old).setWidth 4096)) ∧
  (∀ (x y c : Nat), x < 2 ^ 32 →
    atomicNew .add 4 6 x y c = (x + y) % 2 ^ 32 ∧ atomicNew .xch 4 6 x y c = y % 2 ^ 32 ∧
    atomicNew .cas 4 6 x y c = (if x = c % 2 ^ 32 then y % 2 ^ 32 else x) ∧
    atomicNew .minu 4 6 x y c = min x (y % 2 ^ 32) ∧ atomicNew .maxu 4 6 x y c = max x (y % 2 ^ 32))

/-- Releases, acquires and fences. Outside a pure task, REL and PUB through an entry bound to an object that passes its checks answer
the state after posting a release that waits for what its scope covers, PUB's flipping the selector; ACQ goes on when its read has
been performed, ACQT when the count it read meets its target, and each stalls before. FNC stalls while an access of an earlier
bundle in its scope is left, goes on when none at all is, and for one of its own bundle leaves a fence that freezes the core after
it; FNI gives the count of writes and the scope; FNW goes on when no write before its token is left; TDEC posts its decrement,
behind the seat's earlier writes and array results too, but for a handle of another tenant's window, or of another tenant's record
in the own cistern, which is the partition fault. -/
def Obligations.OrderingResults : Prop :=
  (∀ (f : Le) (s : State), s.seat.pred f.g.val = true → s.seat.pure = false →
    let b := s.seat.entry f.e.val
    let c := s.cx.core
    let o := (syncObject c b).getD 0
    let cover := s.covered c s.cx.seat o s.scope
    (s.bindCheck { s.issuing with binds := true } f.e.val b false = none →
      exec (.rel f) s = .next (s.release (s.myItem 4) c b none cover).busy) ∧
    (s.bindCheck { s.issuing with binds := true } f.e.val b true = none →
      exec (.pub f) s = .next (s.release (s.myItem 4) c b (some (lteRead b 18)) cover).busy) ∧
    (s.bindCheck s.issuing f.e.val b false = none →
      (∀ w, s.myWait = some w → w.ended = true → exec (.acq f) s = .next s) ∧
      (s.myWait = none → exec (.acq f) s = .next (s.stall (s.waitFor (.acquire o)))))) ∧
  (∀ (f : Lea) (s : State), s.seat.pred f.g.val = true → s.seat.pure = false →
    let b := s.seat.entry f.e.val
    let target := (s.srcInt (lUnit f.x) f.a).toNat % 2 ^ 48
    s.bindCheck s.issuing f.e.val b false = none →
    (∀ w v, s.myWait = some w → w.got = some v → (v.toNat % 2 ^ 48 + 2 ^ 48 - target) % 2 ^ 48 < 2 ^ 47 →
      exec (.acqt f) s = .next s) ∧
    (∀ w v, s.myWait = some w → w.got = some v → 2 ^ 47 ≤ (v.toNat % 2 ^ 48 + 2 ^ 48 - target) % 2 ^ 48 →
      exec (.acqt f) s = .next (s.stall w))) ∧
  (∀ (f : Ln) (s : State), s.seat.pred f.g.val = true →
    let left := ((s.tripsOf s.cx.core s.cx.seat).filter fun t => t.within s.cx.core s.scope).map (·.id) ++
      ((s.postedOf s.cx.core s.cx.seat).filter fun p => p.kind.isWrite && p.cmd.isNone && p.reach ≤ s.scope).map (·.id)
    (left = [] → exec (.fnc f) s = .next s) ∧
    ((∃ i ∈ left, i < s.cx.firstId) → s.cx.out = .go → exec (.fnc f) s = .next { s with cx := { s.cx with out := .stall } }) ∧
    (left ≠ [] → (∀ i ∈ left, s.cx.firstId ≤ i) →
      exec (.fnc f) s = .next (s.onMe fun st => { st with fence := some (s.nextPost, s.scope) }))) ∧
  (∀ (f : Ld) (s : State), s.seat.pred f.g.val = true →
    exec (.fni f) s = .next (s.result (lUnit f.x) f.d 2 (BitVec.ofNat 64 (s.seat.writes * 256 + s.scope)))) ∧
  (∀ (f : La) (s : State), s.seat.pred f.g.val = true →
    let t := s.srcInt (lUnit f.x) f.a
    let left := s.outstanding s.cx.core s.cx.seat (field t 63 8) (max (min 4 (field t 2 0)) s.scope)
    (left = false → exec (.fnw f) s = .next s) ∧ (left = true → exec (.fnw f) s = .next (s.stall (s.waitFor .token)))) ∧
  (∀ (f : Lab) (s : State), s.seat.pred f.g.val = true → s.seat.pure = false →
    let u := lUnit f.x
    let h := s.srcInt u f.a
    let run : Res := .next (s.decrementBy { s.myItem 2 with lands := s.arrayOrds s.cx.core s.cx.seat } s.cx.core h (s.srcInt u f.b).toNat
      (s.earlier s.cx.core s.cx.seat s.scope)).busy
    let mine := field h 19 16 = dieOf s.cx.core
    let other := s.recState (dieOf s.cx.core) (field h 15 0) ≠ 0 ∧ s.recTenant (dieOf s.cx.core) (field h 15 0) ≠ s.seat.tenant
    (bitOf h 63 = false → ¬ (mine ∧ other) → exec (.tdec f) s = run) ∧
    (bitOf h 63 = false → mine → other → exec (.tdec f) s = .next (s.raise 13 0)) ∧
    (bitOf h 63 = true → (tget .reset s.wallow (field h 54 51)).tenant = s.seat.tenant → exec (.tdec f) s = run) ∧
    (bitOf h 63 = true → (tget .reset s.wallow (field h 54 51)).tenant ≠ s.seat.tenant → exec (.tdec f) s = .next (s.raise 13 0)))

/-- Flags, counters, sends, reductions, queues, windows and monitors. Outside a pure task: SFLG to a core that the tenant owns posts
the flag, SCNT its die's counter, both after the seat's earlier writes of the die; SBEQ posts its bytes, each at its own permuted
address, a write per granule, behind a selector read under way, and then the flag behind them; REDP puts a packet of the core into
the mesh and counts the round; REDW takes the packet at the head of its tree when its mask is the awaited one; QPOP takes the head
of the inflow queue, and stalls on an empty one; QPSH pushes behind the seat's earlier accesses to its own core, at once where
none is left, while fewer than 16 entries are queued, and else stalls; QLEV gives both levels; WALW the room of a window of the
tenant; MONA arms the monitor for 4,096 cycles. -/
def Obligations.ChannelResults : Prop :=
  (∀ (f : Lsflg) (s : State), s.seat.pred f.g.val = true → s.seat.pure = false →
    let a := s.srcInt (lUnit f.x) f.a
    let c := dieOf s.cx.core * 64 + field a 8 6 * 8 + field a 5 3
    (s.ownerOf (dieOf s.cx.core) c = .owned s.seat.tenant → exec (.sflg f) s = .next (s.post { s.myItem 1 with
      named := true, kind := .flag c (field a 2 0) f.flag.val (bitOf a 9), after := s.earlier s.cx.core s.cx.seat 1 }).busy) ∧
    (s.ownerOf (dieOf s.cx.core) c ≠ .owned s.seat.tenant → exec (.sflg f) s = .next (s.raise 13 0))) ∧
  (∀ (f : Lscnt) (s : State), s.seat.pred f.g.val = true → s.seat.pure = false →
    exec (.scnt f) s = .next (s.post { s.myItem 1 with
      kind := .counter (32 * stationOf (dieOf s.cx.core) + f.c.val), after := s.earlier s.cx.core s.cx.seat 1 }).busy) ∧
  (∀ (f : Leab) (s : State), s.seat.pred f.g.val = true → s.seat.pure = false →
    let b := s.seat.entry f.e.val
    let k := s.srcInt (lUnit f.x) f.b
    let len := field k 7 0 + 1
    let n := max 1 (len / lteSize b)
    let w := { s.issuing with bad := !(lteSpace b == 4 || lteSpace b == 5) || len % lteSize b != 0 || halfBad b f.a }
    ∀ fm xs x, s.form w .store f.e.val 0 b [field k 47 32, field k 63 48, 0, 0] n = .ok fm → s.spots w .store fm [0] = .ok xs →
      xs.head? = some x → (∃ t, exec (.sbeq f) s = .next t ∧ t.mem = s.mem ∧ t.seat.writes = s.seat.writes + 1) ∧
      (overFlume s.cx.core b = false →
      let bytes := sbeqBytes s.cx.core b (fm.offs.headD 0) (leBytes len (s.vsrc (etypeForm (lteRead b 11)) f.a).toNat)
      let sel := s.askSelector (s.myItem 4) s.cx.core fm.bits s.stamp
      let t := sel.2.postBytes b bytes (accessReach s.cx.core b xs) sel.1
      exec (.sbeq f) s = .next (t.post { t.myItem 1 with
        kind := .flag (lteCore b (if lteSpace b = 4 then dieOf s.cx.core else lteDie b)) (field k 15 13) (field k 12 8) false,
        named := true, after := (List.range (t.nextPost - sel.2.nextPost)).map (sel.2.nextPost + ·) }).countWrite)) ∧
  (∀ (f : Lredp) (s : State), s.seat.pred f.g.val = true → s.seat.pure = false →
    let k := s.srcInt (lUnit f.x) f.b
    let tree := field k 20 16
    ∃ t p, exec (.redp f) s = .next t ∧ t.mesh = s.mesh ++ [⟨s.cx.core, 0, 0, 0, p⟩] ∧ p.tree = tree ∧
      p.mask = BitVec.ofNat 64 (2 ^ (s.cx.core % 64)) ∧ p.payload = (s.vsrc (redForm f.fmt.val) f.a).setWidth 1024 ∧ t.mem = s.mem ∧
      tget 0 t.seat.rounds tree = tget 0 s.seat.rounds tree + 1) ∧
  (∀ (f : Ldae) (s : State), s.seat.pred f.g.val = true → s.seat.pure = false →
    ∀ p rest, s.me.router.queue f.e.val = p :: rest →
    (p.mask = s.srcInt (lUnit f.x) f.a → exec (.redw f) s = .next ((s.onCore s.cx.core fun k =>
      { k with router := { k.router.setQueue f.e.val rest with accepted := tput k.router.accepted f.e.val p.round } }).vresult f.d 2
        (p.payload.setWidth 4096)).busy) ∧
    (p.mask ≠ s.srcInt (lUnit f.x) f.a → exec (.redw f) s = .next (s.raise 35 (s.srcInt (lUnit f.x) f.a &&& ~~~p.mask)))) ∧
  (∀ (f : Ld) (s : State), s.seat.pred f.g.val = true → s.seat.pure = false →
    (s.seat.inq = [] → exec (.qpop f) s = .next (s.stall (s.waitFor .queue))) ∧
    (∀ v rest, s.seat.inq = v :: rest →
      exec (.qpop f) s = .next ((s.onMe fun st => { st with inq := rest }).result (lUnit f.x) f.d 2 v).busy) ∧
    exec (.qlev f) s = .next (s.result (lUnit f.x) f.d 2 (BitVec.ofNat 64 (s.cx.inLevel % 32 + s.cx.outLevel % 32 * 256))).busy) ∧
  (∀ (f : La) (s : State), s.seat.pred f.g.val = true → s.seat.pure = false →
    let v := s.srcInt (lUnit f.x) f.a
    (s.seat.outq.length + s.seat.pushing.length < 16 →
      exec (.qpsh f) s = .next ((s.onMe fun st => { st with
        pushing := st.pushing ++ [(v, s.ownAccesses s.cx.core s.cx.seat, s.arrayOrds s.cx.core s.cx.seat)] }).enterPushes s.cx.core
          s.cx.seat).busy ∧
      (s.seat.pushing = [] → s.ownAccesses s.cx.core s.cx.seat = [] → s.arrayOrds s.cx.core s.cx.seat = [] →
        ∃ t, exec (.qpsh f) s = .next t ∧ t.seat.outq = s.seat.outq ++ [v] ∧ t.seat.pushing = [])) ∧
    (16 ≤ s.seat.outq.length + s.seat.pushing.length → exec (.qpsh f) s = .next (s.stall (s.waitFor .queue)))) ∧
  (∀ (f : Lda) (s : State), s.seat.pred f.g.val = true → s.seat.pure = false →
    let w := tget .reset s.wallow ((s.srcInt (lUnit f.x) f.a).toNat % 16)
    exec (.walw f) s = .next (s.result (lUnit f.x) f.d 2
      (if w.tenant = s.seat.tenant then BitVec.ofInt 64 ((w.limit : Int) - w.out) else 0))) ∧
  (∀ (f : Lea) (s : State), s.seat.pred f.g.val = true → s.seat.pure = false →
    ∀ fm xs x, s.form s.issuing .load f.e.val 0 (s.seat.entry f.e.val) (coords (s.srcInt (lUnit f.x) f.a)) 1 = .ok fm →
      s.spots s.issuing .load fm [0] = .ok xs → xs.head? = some x →
      ∃ m : Monitor, exec (.mona f) s = .next (s.onMe fun st => { st with monitor := some m }) ∧ m.fired = false ∧ m.hit = false ∧
        (lteSpace fm.bits ≠ 7 → m.granule = x.flat / 64) ∧ m.granule % 2 ^ 100 = x.flat / 64 % 2 ^ 100)

/-- Copies, claims, releases, command status, digests and windows of rows. An acting CPY, CPYA (outside a pure task) or DCLM that the
engine, with fewer than 64 commands, accepts answers the state in which one command has joined the queue and its promise is on its
way to d after 4 counted cycles; a full queue gives 0, a failed check its trap. CPYW gives 0, 1 or 2 for the due commands of the
task. DREL makes every row of its range ready and touches no other. DIGQ asks for the digest of its region under a horizon of 800
and that of its selector read, of a region of another package by read packets, and the answer is the SHA-256 digest of the
region's bytes as they then stand (of a region in VIRT, which digests may be kept of, the question alone is stated). -/
def Obligations.EngineResults : Prop :=
  (∀ (f : Ldab) (s : State), s.seat.pred f.g.val = true →
    let u := lUnit f.x
    let own := s.ownAccesses s.cx.core s.cx.seat
    let ords := s.arrayOrds s.cx.core s.cx.seat
    let task := some (dieOf s.cx.core, s.seat.record)
    let copy (kind : CmdKind) := s.acceptCopy s.issuing s.cx.seat (.seat s.cx.seat) kind (s.srcInt u f.a) (s.srcInt u f.b) s.seat.job
      s.seat.writes task own ords
    let claim := s.acceptClaim s.issuing s.cx.seat (.seat s.cx.seat) (s.srcInt u f.a) (s.srcInt u f.b) s.seat.job task own ords
    (∀ p t, copy .cpy = .ok (p, t) → exec (.cpy f) s = .next ((if s.engineFull s.cx.core then t else t.countWrite).result u f.d 4 (BitVec.ofNat 64 p))) ∧
    (∀ x, copy .cpy = .error x → exec (.cpy f) s = .next (s.raise x.cause x.tval)) ∧
    (∀ p t, s.seat.pure = false → copy (.cpya s.scope) = .ok (p, t) →
      exec (.cpya f) s = .next ((if s.engineFull s.cx.core then t else t.countWrite).result u f.d 4 (BitVec.ofNat 64 p))) ∧
    (∀ p t, claim = .ok (p, t) → exec (.dclm f) s = .next ((if s.engineFull s.cx.core then t else t.busy).result u f.d 4 (BitVec.ofNat 64 p))) ∧
    (∀ x, claim = .error x → exec (.dclm f) s = .next (s.raise x.cause x.tval)) ∧
    (∀ kind p t, copy kind = .ok (p, t) →
      (s.engineFull s.cx.core = true → p = 0 ∧ t = s) ∧
      (s.engineFull s.cx.core = false → ∃ (s1 : State) (k : Cmd), t = s1.addCmd s.cx.core k ∧ s1.mem = s.mem ∧ s1.me.cmds = s.me.cmds ∧
        s1.me.rows = s.me.rows ∧ s1.me.flight = s.me.flight ∧ (∀ c n, s1.seatAt c n = s.seatAt c n) ∧ k.kind = kind ∧ k.promise = p ∧ k.complete = false ∧ k.moved = 0 ∧
        k.faulted = none ∧ k.src = s.seat.entry (field (s.srcInt u f.a) 4 0) ∧ k.dst = s.seat.entry (field (s.srcInt u f.a) 9 5) ∧
        s.cyc + 4 < p)) ∧
    (∀ p t, claim = .ok (p, t) → s.engineFull s.cx.core = false →
      ∃ k, t.me.cmds = s.me.cmds ++ [k] ∧ k.promise = p ∧ k.complete = false ∧
        k.kind = .dclm (field (s.srcInt u f.a) 9 5) (field (s.srcInt u f.a) 15 10) ∧
        (∀ i, i ≤ field (s.srcInt u f.a) 21 16 →
          tget .ready t.me.rows (field (s.srcInt u f.a) 9 5 * 64 + field (s.srcInt u f.a) 15 10 + i) = .pending s.me.nextCmd) ∧
        t.mem = s.mem)) ∧
  (∀ (f : Lda) (s : State), s.seat.pred f.g.val = true →
    let p := (s.srcInt (lUnit f.x) f.a).toNat
    let due := s.me.cmds.filter fun k => k.issuer == .seat s.cx.seat && k.task == some (dieOf s.cx.core, s.seat.record) && k.promise ≤ p
    exec (.cpyw f) s = .next (s.result (lUnit f.x) f.d 4
      (if due.any (·.faulted.isSome) then 2 else if due.all (·.complete) then 0 else 1))) ∧
  (∀ (f : La) (s : State), s.seat.pred f.g.val = true →
    let keys := rangeRows (s.srcInt (lUnit f.x) f.a)
    ∃ t, exec (.drel f) s = .next t ∧ (∀ k ∈ keys, tget .ready t.me.rows k = .ready) ∧
      (∀ k, k ∉ keys → tget .ready t.me.rows k = tget .ready s.me.rows k) ∧
      (∀ a, (∀ k ∈ keys, a < (Home.drawer s.cx.core).at (k * 256) ∨ (Home.drawer s.cx.core).at (k * 256) + 256 ≤ a) →
        t.byte a = s.byte a)) ∧
  (∀ (f : Lde) (s : State), s.seat.pred f.g.val = true →
    let b := s.seat.entry f.e.val
    let w : Issuing := { s.issuing with region := true }
    let due := s.me.idx + (800 + selectorHorizon s.cx.core b)
    (s.seat.pure = false ∨ lteRead b 20 = 1) →
    (∀ x, s.regionSpots w .load f.e.val b = .error x → exec (.digq f) s = .next (s.raise x.cause x.tval)) ∧
    ∀ xs, s.regionSpots w .load f.e.val b = .ok xs →
      ∃ t l trip, exec (.digq f) s = .next t ∧ t.mem = s.mem ∧ t.me.flight = s.me.flight ++ [l] ∧ l.due = due ∧ l.unit = .v ∧
        l.effect = s.vfileEffect f.d ∧ l.travel = .away trip ∧ trip.form = .digest ∧ trip.addrs = spotBytes (regionUnit b) xs ∧
        (lteSpace b ≠ 7 → trip.route = .asking (.digest f.e.val b (s.halfOf w b) s.seat.ctx s.seat.sup))) ∧
  (∀ (s : State) (c e : Nat) (b : LteBits) (half sup : Bool) (ctx : Nat) (l : Landing) (t : Trip) (xs : List Spot), lteSpace b ≠ 6 →
    s.regionIn (l.asker t c ctx sup) .load e b half = .ok xs →
    s.answerTo c l t (.digest e b half ctx sup) = some (BitVec.ofNat 4096 (leNat (sha256 (s.regionBytes b xs))), s))

/-- Spawns, snapshots, TLB invalidation, gate entries and the manifest. Every acting TSPN, SNAP, SNAPW, TLBI, HGSET, HGGET and MANR
answers the next state given here. Outside a pure task TSPN of a template the launch has, at a coordinate of the field on its die,
with a FREE record and save slot, creates the record and gives its handle; in every other case it gives all ones. SNAP of the
epoch after the committed one, with the capability, starts SAVING, and does nothing while an epoch is under way; without the
capability, after another epoch than the committed one or for another epoch it raises the snapshot fault. SNAPW with the
capability sets the limit. In supervisor mode TLBI posts its invalidation as a write, HGSET stages a doubleword or commits an
entry the headgate accepts, its reserved bits zero, and logs one it refuses; HGGET asks for a committed doubleword and MANR for
one of the manifest, under a horizon of 800, which is what the answers give; 0 for an address word that names no entry, and beyond
the manifest's end. -/
def Obligations.SystemSlotResults : Prop :=
  (∀ (f : Bab) (s : State), s.seat.pred f.g.val = true → s.seat.pure = false →
    let a := s.srcInt .b f.a
    let d := dieOf s.cx.core
    let coord := field a 12 0
    let dep := field (s.srcInt .b f.b) 15 0
    let k := s.recSlot d s.seat.record
    (∀ l rec slot, ((s.launch k).spawned.find? fun p => p.1 == field a 63 61).map (·.2) = some l → coord / 512 = d →
      s.inField l coord = true → s.freeRecord d 65536 0 = some rec → s.freeSave l = some slot →
      let t := s.createRecord d rec l coord dep slot 0
      exec (.tspn f) s = .next (({ t with spawned := t.spawned ++ [(d, rec, s.earlier s.cx.core s.cx.seat 1)] } : State).busy.fly .b 2
        .nothing (some ((BitVec.ofNat 64 (d * 65536 + rec)).setWidth 4096)))) ∧
    (((s.launch k).spawned.find? fun p => p.1 == field a 63 61).map (·.2) = none ∨
      (∃ l, ((s.launch k).spawned.find? fun p => p.1 == field a 63 61).map (·.2) = some l ∧
        (coord / 512 ≠ d ∨ s.inField l coord = false ∨ s.freeRecord d 65536 0 = none ∨ s.freeSave l = none)) →
      exec (.tspn f) s = .next (s.fly .b 2 .nothing (some ((BitVec.allOnes 64).setWidth 4096))))) ∧
  (∀ (f : Ba) (s : State), s.seat.pred f.g.val = true → s.seat.pure = false →
    let j := s.job s.seat.job
    let now := s.ctxEpoch (dieOf s.cx.core) s.seat.ctx
    let can := bitOf (s.recDw (dieOf s.cx.core) s.seat.record 0) 22
    let fault (n : Nat) : Res := .next (s.raise 21 (BitVec.ofNat 64 (now % 2 ^ 56 * 256 + n)))
    (can = true → j.committed = some now → (s.srcInt .b f.a).toNat = (now + 1) % 2 ^ 64 → j.phase = .idle →
      ∃ t, exec (.snap f) s = .next t ∧ t = s.onJob s.seat.job (fun _ => t.job s.seat.job) ∧ (t.job s.seat.job).phase = .saving ∧
        (t.job s.seat.job).epoch = (now + 1) % 2 ^ 64 ∧ (t.job s.seat.job).committed = some now) ∧
    (can = true → j.committed = some now → (s.srcInt .b f.a).toNat = (now + 1) % 2 ^ 64 → j.phase ≠ .idle → exec (.snap f) s = .next s) ∧
    (can = false → exec (.snap f) s = fault 1 ∧ exec (.snapw f) s = fault 1) ∧
    (can = true → j.committed ≠ some now → exec (.snap f) s = fault 2) ∧
    (can = true → j.committed = some now → (s.srcInt .b f.a).toNat ≠ (now + 1) % 2 ^ 64 → exec (.snap f) s = fault 3) ∧
    (can = true → exec (.snapw f) s =
      .next (s.onJob s.seat.job fun j => { j with limit := max 4096 ((s.srcInt .b f.a).toNat % 2 ^ 32) }))) ∧
  (∀ (f : Sab) (s : State), s.seat.pred f.g.val = true → s.seat.sup = true →
    let a := s.srcInt (sUnit f.x) f.a
    let b := s.srcInt (sUnit f.x) f.b
    exec (.tlbi f) s = .next (s.postMine (.tlbi (field b 63 62) (field b 43 32) (field b 11 0) (field a 54 0) none) 2 none []).countWrite) ∧
  (∀ (f : Lab) (s : State) (key dw : Nat), s.seat.pred f.g.val = true → s.seat.sup = true →
    gateAddress (s.srcInt (lUnit f.x) f.a) = some (key, dw) →
    let v := s.srcInt (lUnit f.x) f.b
    let b := gateStored (tget 0 s.flume.staged (4 * key + 3) ++ tget 0 s.flume.staged (4 * key + 2) ++ tget 0 s.flume.staged (4 * key + 1) ++ v)
    let t := s.busy
    (dw ≠ 0 → exec (.hgset f) s = .next { t with flume := { t.flume with staged := tset 0 t.flume.staged (4 * key + dw) v } }) ∧
    (dw = 0 → t.gateRefused key b (t.streamFmt (gateStream b)) (t.streamTenant (gateStream b) t.seat.tenant) = false →
      exec (.hgset f) s = .next (t.writeGate key b)) ∧
    (dw = 0 → t.gateRefused key b (t.streamFmt (gateStream b)) (t.streamTenant (gateStream b) t.seat.tenant) = true →
      exec (.hgset f) s = .next (t.logMgmt 5 7 0 key t.seat.tenant))) ∧
  (∀ (f : Lab) (s : State), s.seat.pred f.g.val = true → s.seat.sup = true → gateAddress (s.srcInt (lUnit f.x) f.a) = none →
    exec (.hgset f) s = .next (s.logMgmt 5 7 0 0 s.seat.tenant).busy) ∧
  (∀ (f : Lda) (s : State), s.seat.pred f.g.val = true → s.seat.sup = true →
    let u := lUnit f.x
    let a := s.srcInt u f.a
    (∀ q, ∃ id, s.ask u (s.fileEffect u f.d) q = ({ s with nextPost := s.nextPost + 1 } : State).flyLoad u 800 (s.fileEffect u f.d) true none
      (.inl ⟨id, [], [], .raw, none, [], .asking q, s.seat.tenant, none, 3, 0, [], false⟩)) ∧
    exec (.hgget f) s = .next (s.ask u (s.fileEffect u f.d) (.gate a)) ∧
    exec (.manr f) s = .next (s.ask u (s.fileEffect u f.d) (.manifest s.seat.job (a.toNat / 8 * 8)))) ∧
  (∀ (s : State) (c : Nat) (l : Landing) (t : Trip),
    (∀ a key dw, gateAddress a = some (key, dw) →
      s.answerTo c l t (.gate a) = some ((BitVec.ofNat 64 (gateGet (s.gateCommitted key) dw 63 0)).setWidth 4096, s)) ∧
    (∀ a, gateAddress a = none → s.answerTo c l t (.gate a) = some (0, s)) ∧
    ∀ job off, s.answerTo c l t (.manifest job off) =
      some ((BitVec.ofNat 64 (leNat ((List.range 8).map fun i => (s.job job).manifest.getD (off + i) 0))).setWidth 4096, s))

/-- Privileged slots in user mode, and what a pure task may not issue. In every state in which the guard of the slot reads true: in
user mode TLBI, HGSET, HGGET, MANR and MPOI, and RTT outside a delay bundle and a user handler, raise trap 3, privileged; in a
pure task LTSET, LTCPY, BIND, UNBD, BLD, BST, BZERO, the twelve atomics, TDEC, CPYA, PUB, REL, ACQ, ACQT, SFLG, SCNT, SBEQ, REDP,
REDW, QPOP, QPSH, QLEV, WALW, MONA, CYCR, TSPN, SNAP, SNAPW, TRAP.sv and WFL raise trap 18, purity. The slot's word and position
stand in TVAL, and the slot has no other effect. -/
def Obligations.ForbiddenSlots : Prop :=
  ∀ (i : Instr) (g : Guard) (s : State), i.guard = some g → s.seat.pred g.val = true →
    let trap (cause : Nat) : Res := .next (s.raise cause (BitVec.ofNat 64 (s.cx.word * 2 ^ 32 + s.cx.pos % 8 * 256)))
    (s.seat.sup = false →
      ((∃ f, i = .tlbi f) ∨ (∃ f, i = .hgset f) ∨ (∃ f, i = .hgget f) ∨ (∃ f, i = .manr f) ∨ (∃ f, i = .mpoi f) ∨
        ((∃ f, i = .rtt f) ∧ s.seat.pend = none ∧ (bitOf s.seat.tstat tstatUIP = false ∨ bitOf s.seat.tstat tstatSIP = true))) →
      exec i s = trap 3) ∧
    (s.seat.pure = true →
      ((∃ f, i = .ltset f) ∨ (∃ f, i = .ltcpy f) ∨ (∃ f, i = .bind f) ∨ (∃ f, i = .unbd f) ∨ (∃ f, i = .bld f) ∨ (∃ f, i = .bst f) ∨
        (∃ f, i = .bzero f) ∨ (∃ f, i = .aadd f ∨ i = .aaddf f ∨ i = .aaddk f ∨ i = .amin f ∨ i = .amax f ∨ i = .aminu f ∨ i = .amaxu f ∨
          i = .axch f ∨ i = .aand f ∨ i = .aor f ∨ i = .axor f) ∨ (∃ f, i = .acas f) ∨ (∃ f, i = .tdec f) ∨ (∃ f, i = .cpya f) ∨
        (∃ f, i = .pub f ∨ i = .rel f ∨ i = .acq f) ∨ (∃ f, i = .acqt f) ∨ (∃ f, i = .sflg f) ∨ (∃ f, i = .scnt f) ∨ (∃ f, i = .sbeq f) ∨
        (∃ f, i = .redp f) ∨ (∃ f, i = .redw f) ∨ (∃ f, i = .qpop f ∨ i = .qlev f) ∨ (∃ f, i = .qpsh f) ∨ (∃ f, i = .walw f) ∨
        (∃ f, i = .mona f) ∨ (∃ f, i = .cycr f) ∨ (∃ f, i = .tspn f) ∨ (∃ f, i = .snap f ∨ i = .snapw f ∨ i = .trapSv f) ∨ (∃ f, i = .wfl f)) →
      exec i s = trap 18)

/-- RV64 instructions of a side core, and when Xjaind instructions retire. On the executing side core each RV64 instruction answers a
next state: arithmetic, loads within the data store, aligned jumps, branches, and CSR instructions write their register and move
the PC, x0 staying 0, with instret one higher; an aligned store within the data store writes its bytes; a misaligned access or
target stops the side core with cause 5, an access elsewhere 6, ECALL 1, EBREAK 2, a CSR that is not there 3. An Xjaind
instruction whose checks pass and which has not to wait retires: the PC moves by 4, instret counts it, and the side core waits no
longer; a stopped side core that firmware restarts runs from the PC it writes; one whose next instruction raises an exception
stops with its cause. Of an RV64 instruction nothing but that side core, the stored bytes and, on a stop, the die's log changes. -/
def Obligations.SideRv64Results : Prop :=
  ∀ (s : State),
    let x := s.side
    let run (i : RvInstr) : Res := exec (.sideCoreRv64Instruction i) s
    let goes (rd : Reg5) (v pc : Word) : Res := .next (s.onSide fun x => { x.setReg rd v with pc := pc, instret := x.instret + 1, waiting := false, acquiring := none })
    let next := x.pc + 4
    let stops (cause val : Nat) : Res := .next (s.stopSide cause val)
    (∀ k rd rs1 rs2, run (.op k rd rs1 rs2) = goes rd (rvOp k (x.reg rs1) (x.reg rs2)) next) ∧
    (∀ k rd rs1 imm, run (.opImm k rd rs1 imm) = goes rd (rvOpImm k (x.reg rs1) (imm.signExtend 64)) next) ∧
    (∀ k rd rs1 sh, run (.shImm k rd rs1 sh) = goes rd (rvShImm k (x.reg rs1) sh.val) next) ∧
    (∀ k rd rs1, run (.unary k rd rs1) = goes rd (rvUnary k (x.reg rs1)) next) ∧
    (∀ rd imm, run (.lui rd imm) = goes rd (BitVec.ofInt 64 (sint 32 (imm.toNat * 4096))) next ∧
      run (.auipc rd imm) = goes rd (x.pc + BitVec.ofInt 64 (sint 32 (imm.toNat * 4096))) next) ∧
    (∀ rd off, let t := x.pc + off.signExtend 64 * 2
      (t.toNat % 4 = 0 → run (.jal rd off) = goes rd next t) ∧ (t.toNat % 4 ≠ 0 → run (.jal rd off) = stops 5 t.toNat)) ∧
    (∀ rd rs1 imm, let t := (x.reg rs1 + imm.signExtend 64) &&& ~~~1
      (t.toNat % 4 = 0 → run (.jalr rd rs1 imm) = goes rd next t) ∧ (t.toNat % 4 ≠ 0 → run (.jalr rd rs1 imm) = stops 5 t.toNat)) ∧
    (∀ k rs1 rs2 off, let t := x.pc + off.signExtend 64 * 2
      (rvTaken k (x.reg rs1) (x.reg rs2) = false → run (.branch k rs1 rs2 off) = goes 0 0 next) ∧
      (rvTaken k (x.reg rs1) (x.reg rs2) = true → t.toNat % 4 = 0 → run (.branch k rs1 rs2 off) = goes 0 0 t) ∧
      (rvTaken k (x.reg rs1) (x.reg rs2) = true → t.toNat % 4 ≠ 0 → run (.branch k rs1 rs2 off) = stops 5 t.toNat)) ∧
    (∀ k rd rs1 imm, let a := (x.reg rs1 + imm.signExtend 64).toNat
      let size := (rvLoadForm k).1
      (a % size ≠ 0 → run (.load k rd rs1 imm) = stops 5 a) ∧
      (a % size = 0 → 0x10000 ≤ a → a + size ≤ 0x14000 → run (.load k rd rs1 imm) = goes rd
        (extend size (rvLoadForm k).2 (s.loadNat ((Home.data s.cx.core s.cx.storer).at (a - 0x10000)) size)) next) ∧
      (a % size = 0 → (a < 0x10000 ∨ 0x14000 < a + size) → run (.load k rd rs1 imm) = stops 6 a)) ∧
    (∀ k rs1 rs2 imm, let a := (x.reg rs1 + imm.signExtend 64).toNat
      let size := rvStoreSize k
      let at_ := (Home.data s.cx.core s.cx.storer).at (a - 0x10000)
      (a % size ≠ 0 → run (.store k rs1 rs2 imm) = stops 5 a) ∧
      (a % size = 0 → 0x10000 ≤ a → a + size ≤ 0x14000 → ∃ t, run (.store k rs1 rs2 imm) = .next t ∧
        t.loadNat at_ size = (x.reg rs2).toNat % 2 ^ (8 * size) ∧ (∀ p, (p < at_ ∨ at_ + size ≤ p) → t.byte p = s.byte p) ∧
        t.side.regs = x.regs ∧ t.side.pc = next) ∧
      (a % size = 0 → (a < 0x10000 ∨ 0x14000 < a + size) → run (.store k rs1 rs2 imm) = stops 6 a)) ∧
    (∀ rd rs1, run (.csr .rs rd 0 0xC00) = goes rd x.cycle next ∧ run (.csr .rs rd 0 0xC02) = goes rd x.instret next ∧
      run (.csr .rw rd rs1 0x800) = .next (s.onSide fun x =>
        ({ x.setReg rd (BitVec.ofNat 64 s.side.jseat) with jseat := (s.side.reg rs1).toNat % 8 }).retire (x.pc + 4)) ∧
      run (.csr .rw rd rs1 0xC00) = stops 3 s.cx.word ∧ run (.csr .rs rd 0 0x123) = stops 3 s.cx.word) ∧
    run .fence = goes 0 0 next ∧ run .fenceI = goes 0 0 next ∧ run .wfi = goes 0 0 next ∧ run .ecall = stops 1 0 ∧ run .ebreak = stops 2 0 ∧
    (let retires (i : Instr) : Prop := ∃ t, exec i s = .next t ∧ t.side.pc = next ∧ t.side.instret = x.instret + 1 ∧ t.side.waiting = false
      let st := s.jseat
      let here := st.st ≠ .free ∧ st.st ≠ .loading ∧ st.leaving = false
      ∀ d a b : Reg5,
        (here → st.inq.length < 16 → retires (.jqPush a)) ∧ (here → st.outq ≠ [] → retires (.jqPull d)) ∧ retires (.jqPullLev d) ∧
        (∀ p t, s.acceptCopy s.sideIssuing x.jseat s.cx.issuer .cpy (x.reg a) (x.reg b) st.job 0 none [] [] = .ok (p, t) →
          retires (.jCpy d a b)) ∧
        (∀ p t, s.acceptClaim s.sideIssuing x.jseat s.cx.issuer (x.reg a) (x.reg b) st.job none [] [] = .ok (p, t) →
          retires (.jDclm d a b)) ∧
        ((x.reg a).toNat ≤ s.cyc → retires (.jWtc d a)) ∧ retires (.jLte d a) ∧
        (field (x.reg a) 13 8 < 13 → lteRead (st.entry (field (x.reg a) 4 0)) 17 = 0 → retires (.jLteW a b)) ∧ retires (.jFlag a) ∧
        retires (.jCyc d) ∧ (s.bindCheck s.sideIssuing d.val (st.entry d.val) true = none → retires (.jPub d a)) ∧
        (s.bindCheck s.sideIssuing d.val (st.entry d.val) false = none →
          retires (.jRel d a) ∧ (s.posted = [] → x.acquiring = none → lteSync (st.entry d.val) ≠ 6 → lteSync (st.entry d.val) ≠ 7 → retires (.jAcq d a))) ∧
        (let e := st.entry d.val
          let bad := !(lteSpace e == 4 || lteSpace e == 5) || 1 % lteSize e != 0
          field (x.reg a) 7 0 = 0 → ∀ fm xs,
            s.form { s.sideIssuing with bad := bad } .store d.val 0 e [field (x.reg a) 47 32, field (x.reg a) 63 48, 0, 0]
              (max 1 (1 / lteSize e)) = .ok fm →
            s.spots { s.sideIssuing with bad := bad } .store fm [0] = .ok xs → retires (.jSbeq d a b))) ∧
    (∀ c storer pc, let y := (s.core c).side storer
      (y.loaded = true → field y.scflt 7 0 ≠ 0 → ∃ t, exec (.scfltWrite c storer pc) s = .next t ∧ ((t.core c).side storer).pc = pc ∧
        ((t.core c).side storer).runs = true) ∧
      (y.runs = true → ∀ cause val, s.sideException c storer = some (cause, val) → ∃ t, exec (.sideCoreException c storer) s = .next t ∧
        field ((t.core c).side storer).scflt 7 0 = cause % 256 ∧ t.mem = s.mem)) ∧
    (∀ (y : Side) (rd r : Reg5) (v : Word), (y.setReg rd v).reg r = (if r = 0 then 0 else if r = rd then v else y.reg r)) ∧
    (∀ (f : Side → Side) , (s.onSide f).mem = s.mem ∧ (s.onSide f).dies = s.dies ∧ ∀ c n, (s.onSide f).seatAt c n = s.seatAt c n)

/-- Xjaind instructions of a side core. jq.push to a seat with a task and room appends to its inflow queue, jq.pull takes the head of
its outflow queue, each waiting otherwise; jq.pull.lev reads the levels. j.cpy and j.dclm give the promise of an accepted command,
and stop the side core where a check fails; j.wtc, once CYC has reached the promise, gives the status of the side core's due
commands, and waits before; j.lte reads a named field (of an unnamed one the value is free) and j.lte.w sends the write of an
unlocked user field, which lands at the end of its core cycle, and else stops the side core; j.flag sets or clears its flag; j.cyc
reads CYC; j.pub and j.rel release the bound object where its checks pass; j.acq of an object of this package goes on when no
write of its own to it is under way, and waits before, of another package it asks and waits for the answer to that request; j.sbeq
of at most 8 bytes posts the bytes at their permuted addresses and then the flag, or sends them to another die as messages, and
longer stops the side core. Each that goes on moves the PC by 4 and counts in instret. Firmware restarts a stopped side core; an
exception stops one. -/
def Obligations.SideXjaindResults : Prop :=
  ∀ (s : State),
    let x := s.side
    let st := s.jseat
    let gives (t : State) (d : Reg5) (v : Word) : Res := .next (t.onSide fun y => (y.setReg d v).retire (y.pc + 4))
    let done (t : State) : Res := .next (t.onSide fun y => y.retire (y.pc + 4))
    let waits : Res := .next (s.onSide fun y => { y with waiting := true })
    let shut := st.st = .free ∨ st.st = .loading ∨ st.leaving = true
    (∀ r, (¬ shut → st.inq.length < 16 → exec (.jqPush r) s = done (s.onJseat fun st => { st with inq := st.inq ++ [x.reg r] })) ∧
      (shut ∨ 16 ≤ st.inq.length → exec (.jqPush r) s = waits)) ∧
    (∀ d, (∀ v rest, st.outq = v :: rest → ¬ shut → exec (.jqPull d) s = gives (s.onJseat fun st => { st with outq := rest }) d v) ∧
      (st.outq = [] ∨ shut → exec (.jqPull d) s = waits)) ∧
    (∀ d, exec (.jqPullLev d) s = gives s d (BitVec.ofNat 64 ((tget 0 s.me.dcnt x.jseat).toNat * 2 ^ 32 +
      (if st.st = .free then 0 else st.coord % 8192) * 2 ^ 16 + st.st.code * 2 ^ 13 + st.outq.length % 32 * 2 ^ 8 + st.inq.length % 32))) ∧
    (∀ d a b,
      let copy := s.acceptCopy s.sideIssuing x.jseat s.cx.issuer .cpy (x.reg a) (x.reg b) st.job 0 none [] []
      let claim := s.acceptClaim s.sideIssuing x.jseat s.cx.issuer (x.reg a) (x.reg b) st.job none [] []
      (∀ p t, copy = .ok (p, t) → exec (.jCpy d a b) s = gives t d (BitVec.ofNat 64 p)) ∧
      (∀ p t, claim = .ok (p, t) → exec (.jDclm d a b) s = gives t d (BitVec.ofNat 64 p)) ∧
      (∀ f, copy = .error f → exec (.jCpy d a b) s = .next (s.sideFail f)) ∧
      (∀ f, claim = .error f → exec (.jDclm d a b) s = .next (s.sideFail f))) ∧
    (∀ d a, let p := (x.reg a).toNat
      let due := s.me.cmds.filter fun k => k.issuer == s.cx.issuer && k.promise ≤ p
      (s.cyc < p → exec (.jWtc d a) s = waits) ∧
      (p ≤ s.cyc → cmdStatus due ≠ 0 → exec (.jWtc d a) s = gives s d (BitVec.ofNat 64 (cmdStatus due))) ∧
      (p ≤ s.cyc → cmdStatus due = 0 → exec (.jWtc d a) s =
        .next ((s.onSide fun y => (y.setReg d 0).retire (y.pc + 4)).onSide fun y => { y with seen := y.seen ++ due.map (·.id) }))) ∧
    (∀ d a, let code := field (x.reg a) 13 8
      (fieldNamed code = true → exec (.jLte d a) s = gives s d (ltGet (st.entry (field (x.reg a) 4 0)) code)) ∧
      ∃ v, exec (.jLte d a) s = gives s d v) ∧
    (∀ a v, let code := field (x.reg a) 13 8
      let e := field (x.reg a) 4 0
      (code < 13 → lteRead (st.entry e) 17 = 0 → exec (.jLteW a v) s =
        done (s.onCore s.cx.core fun k => { k with lteDue := k.lteDue ++ [⟨x.jseat, e, code, (x.reg v).toNat, false⟩] })) ∧
      (13 ≤ code ∨ lteRead (st.entry e) 17 = 1 → exec (.jLteW a v) s = .next (s.stopSide 7 (e % 32 * 256 + 7)))) ∧
    (∀ a, exec (.jFlag a) s = done (s.setFlag s.cx.core x.jseat (field (x.reg a) 4 0) (bitOf (x.reg a) 9))) ∧
    (∀ d, exec (.jCyc d) s = gives s d (BitVec.ofNat 64 s.cyc)) ∧
    (∀ e sc : Reg5, let b := st.entry e.val
      (s.bindCheck s.sideIssuing e.val b true = none →
        exec (.jPub e sc) s = done (s.release (s.sideItem 4) s.cx.core b (some (lteRead b 18)) [])) ∧
      (∀ f, s.bindCheck s.sideIssuing e.val b true = some f → exec (.jPub e sc) s = .next (s.sideFail f)) ∧
      (∀ f, s.bindCheck s.sideIssuing e.val b false = some f →
        exec (.jRel e sc) s = .next (s.sideFail f) ∧ (x.acquiring = none → exec (.jAcq e sc) s = .next (s.sideFail f))) ∧
      (∀ num, x.acquiring = some num → exec (.jAcq e sc) s = if s.canal.requests.any (fun r => r.num == num) then waits else done s) ∧
      (s.bindCheck s.sideIssuing e.val b false = none →
        exec (.jRel e sc) s = done (s.release (s.sideItem 4) s.cx.core b none []) ∧
        ∀ o, syncObject s.cx.core b = some o → x.acquiring = none →
          let own := s.posted.any fun p => p.agent == .side s.cx.core s.cx.storer && meetsAny p.kind.addrs ((List.range 16).map (o + ·))
          (o < 2 ^ 100 → own = false → exec (.jAcq e sc) s = done s) ∧
          (o < 2 ^ 100 → own = true → exec (.jAcq e sc) s = waits) ∧
          (2 ^ 100 ≤ o → exec (.jAcq e sc) s =
            .next ((s.askAcquire s.cx.core s.coreTenant st.job o (.side s.cx.storer)).onSide fun y =>
              { y with waiting := true, acquiring := some s.nextPost })))) ∧
    (∀ e ctl dat : Reg5, let b := st.entry e.val
      let c := s.cx.core
      let k := x.reg ctl
      let len := field k 7 0 + 1
      let w := { s.sideIssuing with bad := !(lteSpace b == 4 || lteSpace b == 5) || len % lteSize b != 0 }
      (8 < len → ∃ v, exec (.jSbeq e ctl dat) s = .next (s.stopSide 7 v)) ∧
      ∀ fm xs, len ≤ 8 → s.form w .store e.val 0 b [field k 47 32, field k 63 48, 0, 0] (max 1 (len / lteSize b)) = .ok fm →
        s.spots w .store fm [0] = .ok xs →
        let sel := s.askSelector (s.sideItem 4) c b s.sideIssuing.stamp
        let item := { sel.2.sideItem (dieReach b) with bound := syncObject c b, after := sel.1, named := namesCore b }
        let bytes := sbeqBytes c b (fm.offs.headD 0) (leBytes len (x.reg dat).toNat)
        (overFlume c b = false →
          let t := sel.2.post { item with kind := .write bytes none, reach := accessReach c b xs }
          exec (.jSbeq e ctl dat) s = done (t.post { item with
            kind := .flag (lteCore b (if lteSpace b = 4 then dieOf c else lteDie b)) (field k 15 13) (field k 12 8) false,
            after := [sel.2.nextPost] })) ∧
        (overFlume c b = true → exec (.jSbeq e ctl dat) s =
          done (sel.2.sideMessages item b bytes (field k 15 13 * 32 + field k 12 8) sel.1.isEmpty))) ∧
    (∀ c storer pc, let y := (s.core c).side storer
      (y.loaded = true → field y.scflt 7 0 ≠ 0 → exec (.scfltWrite c storer pc) s =
        .next (s.setSideAt c storer { y with pc := pc, scflt := putField y.scflt 7 0 0 })) ∧
      (y.runs = true → ∀ cause val, s.sideException c storer = some (cause, val) →
        exec (.sideCoreException c storer) s = .next ((s.sideCount c storer).stopSideAt c storer cause val)))

/-- Landings, arrivals, posted work, walks and transfers. Under its condition each of these events answers the state the spec gives:
the first ripe result lands; a code line is cached once its freeze has lasted; the next unit of a load on its way comes back, an
atomic is performed at its home, requests leave once their selector read has returned, a question is answered; a trip that timed
out or was refused is lost; a posted item whose predecessors are performed is performed at its home, or leaves for it as a
message, a write by one unit of its home after another, a refused one dropped and logged; a release adds 1 to its count; an ARMED
granule that holds a write is copied and becomes SAVED; a walker takes the oldest miss, and its leaf enters the TLBs; a copy
completes or faults; a claimed row is read and filled; a stream sends its requests and asks for its next rows while it may, and
then takes what its reads bring; a TLB invalidation drops the entries and completes after what was translated before. -/
def Obligations.ArrivalEvents : Prop :=
  (∀ (s : State) (c : Nat) (l : Landing), s.firstRipe c = some l →
    (l.effect.survives = false → exec (.resultLand c) s = .next (s.landFirst c l)) ∧
    (l.effect.survives = true → exec (.pushLand c) s = .next (s.landFirst c l))) ∧
  (∀ (s : State) (c n ctx line a : Nat) (l : BitVec 512), (s.core c).fetching = some (ctx, line) → (s.core c).running = some n →
    s.codeLine c ctx (s.seatAt c n).sup (64 * line) = .ok (l, a) → (s.core c).fetchSince + 480 ≤ s.cycOf c →
    ∃ t, exec (.icacheFill c) s = .next t ∧ (t.core c).fetching = none ∧ (t.core c).icache.head? = some ((ctx, line), l) ∧
      t.mem = s.mem ∧ (∀ d, d ≠ c → (t.core d).icache = (s.core d).icache) ∧
      (∀ set, (∀ r, ((s.core c).icache.filter fun e => e.1.2 % 256 == r).length ≤ 8) →
        ((t.core c).icache.filter fun e => e.1.2 % 256 == set).length ≤ 8)) ∧
  (∀ (s : State) (c k : Nat) (l : Landing) (t : Trip), s.awayAt c k = some (l, t) → t.route = .direct → t.nextPart ≠ [] →
    s.performed t.after = true → s.cutOff c t.nextPart = false →
    let part := t.nextPart
    (s.firstThere c l.seat t.id t.nextTouch = true → s.poisoned part = false → s.refusedAt (t.owner c) t.tenant part = false →
      (t.atomic = none →
        let t1 := s.giveTrip c t.id (part.map fun a => (a, s.byteKeyed (t.keyAt a) a)) .direct
        exec (.outerLoadArrival c k) s = .next (if l.spin then t1.armSpin c l.seat l.ord l.load else t1)) ∧
      (∀ a, t.atomic = some a → exec (.outerLoadArrival c k) s = .next ((s.atomicAt a (part.headD 0)).2.giveTrip c t.id
        (placed (part.headD 0) (leBytes a.size (s.loadNat (part.headD 0) a.size))) .direct))) ∧
    (s.refusedAt (t.owner c) t.tenant part = true →
      exec (.remoteRefusal c k) s = .next ((s.logRefusalAt (part.headD 0) (c * 8 + l.seat % 8) t.tenant).loseTrip c t.id 13 1))) ∧
  (∀ (s : State) (c k : Nat) (l : Landing) (t : Trip), s.awayAt c k = some (l, t) →
    (∀ b, t.route = .waiting b → s.mayDepart c l.seat b t = true → exec (.outerLoadArrival c k) s =
      .next ((s.depart c (s.seatAt c l.seat).job b t).2.reroute c t.id (s.depart c (s.seatAt c l.seat).job b t).1)) ∧
    (∀ q v s1, t.route = .asking q → s.performed t.after = true → s.firstThere c l.seat t.id t.touches = true → s.poisoned t.addrs = false →
      s.cutOff c t.addrs = false → s.refusedAt (t.owner c) t.tenant t.addrs = false → s.answerTo c l t q = some (v, s1) →
      exec (.outerLoadArrival c k) s = .next (s1.giveValue c t.id v))) ∧
  (∀ (s : State) (c k f : Nat) (l : Landing) (t : Trip), s.awayAt c k = some (l, t) → (s.core c).frozenSince = some f →
    f + (s.die (dieOf c)).xto ≤ s.cycOf c → l.seat < 8 → l.due ≤ (s.core c).idx →
    ∃ tval, exec (.remoteTimeout c k) s = .next ((s.dropRequests t).loseTrip c t.id 36 tval) ∧ (t.route = .direct → tval = 0)) ∧
  (∀ (s : State) (id : Nat) (p : Posted), s.posted.find? (fun q => q.id == id) = some p → s.turnOf p = true → s.inOrder p = true →
    let done := s.unpost id
    let run : Res := exec (.postedWritePerform id) s
    (∀ bs m, p.kind = .write bs m → s.itemHeld p = false →
      let now := (p.nextUnit bs).1
      let later := (p.nextUnit bs).2
      let left := if later.isEmpty then done else s.onPosted id (.write later m)
      let first := (bs.head?.map (·.1)).getD 0
      (p.carrier first = none → s.refusesWrite p bs = true → run = .next (done.logRefused p first)) ∧
      (p.carrier first = none → s.refusesWrite p bs = false →
        ((p.leaf = none ∨ p.va = none) → run = .next (left.writeBytes m now)) ∧
        (∀ l va, p.leaf = some l → p.va = some va → run = .next (left.performThrough p.die p.ctx va l m now))) ∧
      (∀ station, p.carrier first = some station → run = .next (s.carry p station bs m))) ∧
    (∀ n station h v, p.kind = .visit n station h v → s.itemHeld p = false → run = .next (s.performVisit p n station h v)) ∧
    (∀ station m, p.kind = .heldMessage station m → run = .next ((s.onPosted id (.message m)).enqueue station m)) ∧
    (p.kind = .selector none → run = .next done) ∧
    (∀ d rec amount, p.kind = .decrement d rec amount → d = p.die → p.agent.atXi = false →
      run = .next (if s.recordRefused d rec p.tenant then done.refuseItem p (s.recAt d rec) else done.decrement d rec amount p.tenant 10)) ∧
    (∀ c n f clear, p.kind = .flag c n f clear → s.refusedAt p.owner p.tenant [(Home.spad c).at 0] = false →
      run = .next (done.setFlag c n f clear)) ∧
    (∀ q v, p.kind = .tail q v → run = .next (done.writeTail q v)) ∧
    (∀ key, p.kind = .counter key → run = .next { done with flume := { done.flume with bumps := done.flume.bumps ++ [key] } }) ∧
    (∀ a flip, p.kind = .release a flip → s.objectRefused (p.agent.core.getD 1024) p.tenant a = false →
      exec (.releasePerform id) s = .next (done.releaseAt a flip))) ∧
  (∀ (s : State) (d ctx va : Nat) (l : Leaf), s.armedLeaf d ctx va = some l → s.holdsWrite d ctx (va / 65536) = true →
    exec (.armedGranuleCopy d ctx va) s = .next ((s.copyGranule d ctx va l).markSaved d ctx va l true)) ∧
  (∀ (s : State) (d : Nat) (m : Miss), oldestMiss (s.die d).misses = some m → (s.die d).walks.length < 64 →
    exec (.pageWalk d) s = .next ((s.onDie d fun k => { k with misses := k.misses.erase m, walks := k.walks ++ [m] }).admitMisses d)) ∧
  (∀ (s : State) (d k : Nat) (m : Miss), (s.die d).walks[k]? = some m →
    (∀ e, s.walk d m.ctx (m.page * 65536) = .error e →
      ∃ t, exec (.pageWalkComplete d k) s = .next t ∧ t.mem = s.mem ∧ (t.die d).walks = (s.die d).walks.eraseIdx k) ∧
    (∀ l, s.walk d m.ctx (m.page * 65536) = .ok l → bitOf l.entry 6 = true → dieOf m.core = d →
      ∃ t, exec (.pageWalkComplete d k) s = .next t ∧ t.mem = s.mem ∧ (t.die d).walks = (s.die d).walks.eraseIdx k ∧
        (∃ u ∈ (t.core m.core).tlb, u.covers m.ctx (m.page * 65536) = true ∧ u.leaf = l) ∧
        ∃ u ∈ (t.die d).tlb, u.covers m.ctx (m.page * 65536) = true ∧ u.leaf = l)) ∧
  (∀ (s : State) (c id : Nat) (k : Cmd), s.cmd c id = some k →
    (k.complete = false → k.faulted = none → k.kind = .cpy → k.ne * k.nr ≤ k.moved → k.going = [] → s.performed k.unacked = true →
      exec (.copyComplete c id) s = .next (s.onCmd c id fun k => { k with complete := true, unacked := [] })) ∧
    (∀ f, s.cmdReady c k = true → k.kind = .cpy → k.moved < k.ne * k.nr → (s.cmdSpots c k [k.moved]).2 = some f →
      exec (.copyFault c id) s = .next (s.onCmd c id fun k => { k with faulted := some f.tval, faultCause := f.cause })) ∧
    (∀ i key xs, s.cmdReady c k = true → k.nextRow = some (i, key) → s.fillsFirst c id key = false → k.asked = [] → k.tags = [] →
      s.claimRow c k i = .ok xs → k.holds xs = false →
      exec (.drawerRowFilled c id) s = .next ((if k.got.isEmpty then s.noteFresh (k.issuing c) k.ahead xs else s).cmdFetch c k xs)) ∧
    (∀ i key xs, s.cmdReady c k = true → k.nextRow = some (i, key) → s.fillsFirst c id key = false → k.asked = [] → k.tags = [] →
      s.claimRow c k i = .ok xs → k.holds xs = true → tget .ready (s.core c).rows key = .pending id →
      exec (.drawerRowFilled c id) s = .next (((s.store (placed ((Home.drawer c).at (key * 256)) (xs.flatMap k.bytesAt))).onCore c fun x =>
        { x with rows := tdel x.rows key }).onCmd c id fun k =>
          { k with rows := k.rows.drop 1, complete := k.rows.length ≤ 1, got := [] }))) ∧
  (∀ (s : State) (c n row : Nat) (t : Stream) (lack : List (Nat × List Spot)), (s.seatAt c n).stream = some t →
    let depth := field (s.seatAt c n).pfd 5 0
    let out := t.live.foldl (fun k r => k + r.out) 0
    let unsent := t.live.foldl (fun k r => k + r.unsent) 0
    let may := t.reads.find? fun r => s.streamMay c n t r
    let next := s.streamNext (s.issuingFor c n) (s.seatAt c n) t
    (∀ r, out < depth → may = some r → exec (.prefetchReadArrival c n) s = .next (s.streamSend c n t r)) ∧
    ((depth ≤ out ∨ may = none) → out + unsent < depth → next = some (row, lack) →
      exec (.prefetchReadArrival c n) s = .next (s.streamAsk c n row t lack)) ∧
    (∀ r, (depth ≤ out ∨ may = none) → (depth ≤ out + unsent ∨ next = none) → t.reads.find? (fun r => s.streamHere c n r) = some r →
      exec (.prefetchReadArrival c n) s = .next (s.streamTake c n t r))) ∧
  (∀ (s : State) (id kind key ctx va : Nat) (p : Posted), s.posted.find? (fun q => q.id == id) = some p →
    s.posted.all (fun q => id ≤ q.id) = true →
    (p.kind = .tlbi kind key ctx va none → exec (.tlbiComplete id) s =
      .next ((s.dropTlb fun t => t.dropped kind key ctx va).onPosted id (.tlbi kind key ctx va (some s.nextPost)))) ∧
    (∀ n, p.kind = .tlbi kind key ctx va (some n) → s.translatedBefore n = false → exec (.tlbiComplete id) s = .next (s.unpost id)))

/-- Waits end, flags are set, monitors fire and reduction packets arrive. Under its condition each of these events answers the state
the spec gives: a wait whose deadline has passed is over; a due flag is set with its error status and its counter; a monitor fires
for a write to its granule on the die, or at its deadline for a home elsewhere; a parked seat wakes; an acquire read takes the
object's first word, or is refused at a home of another tenant, and ACQT's is read again; a reduction packet moves on with its
turn, is held, combined with its sibling, delivered at the root, or dropped and logged; a packet held without its sibling for half
its limit of mesh cycles goes on alone and its round is closed there. -/
def Obligations.WaitEvents : Prop :=
  (∀ (s : State) (c n : Nat) (w : Wait), w.deadline ≤ s.cycOf c →
    let waits (p : WaitKind → Bool) : Prop := (s.seatAt c n).waitOf p = some w
    let ended (p : WaitKind → Bool) : Res := .next (s.onSeat c n fun st =>
      { st with waits := adjust (fun w => p w.kind) (fun w => { w with ended := true }) st.waits })
    (waits (fun k => k == .promise) → exec (.promiseReached c n) s = ended fun k => k == .promise) ∧
    (waits (fun k => k == .flag) → exec (.flagTimeout c n) s = ended fun k => k == .flag) ∧
    (waits (fun k => k == .monitor) → exec (.wmonTimeout c n) s = ended fun k => k == .monitor) ∧
    (waits (fun k => match k with
        | .reduction _ => true
        | _ => false) →
      exec (.reductionWaitTimeout c n) s = ended fun k => match k with
        | .reduction _ => true
        | _ => false)) ∧
  (∀ (s : State) (k : Nat) (f : FlagDue), s.flume.flagsDue[k]? = some f → s.performed f.after = true →
    ∃ t, exec (.stationFlagSet k) s = .next t ∧ t.mem = s.mem ∧ t.posted = s.posted ∧
      t.flume = { s.flume with flagsDue := s.flume.flagsDue.eraseIdx k, bumps := s.flume.bumps ++ f.counter.toList } ∧
      (f.flag = none → t.cores = s.cores) ∧
      ∀ c n i, f.flag = some (c, n, i) → ∃ miss, t.cores = (s.onSeat c n fun st => { st with
        flags := st.flags ||| BitVec.ofNat 32 (2 ^ i), missing := miss
        flagErr := if f.err then st.flagErr ||| BitVec.ofNat 32 (2 ^ i) else st.flagErr }).cores) ∧
  (∀ (s : State) (c n : Nat) (m : Monitor), (s.seatAt c n).monitor = some m → m.fired = false →
    let fired : Res := .next (s.onSeat c n fun st => { st with monitor := some { m with fired := true } })
    (m.local_ = true → m.hit = true → exec (.monitorFire c n) s = fired) ∧
    (m.local_ = false → m.deadline ≤ s.cycOf c → exec (.monitorTimeout c n) s = fired)) ∧
  (∀ (s : State) (c n : Nat) (p : Park), (s.seatAt c n).st = .parked → (s.seatAt c n).park = some p →
    let awake (x : Res) : Prop := ∃ t st, x = .next t ∧ t = s.onSeat c n (fun _ => st) ∧ st.st = .runnable ∧ st.park = none ∧
      st.pc = (s.seatAt c n).pc ∧ st.flags = (s.seatAt c n).flags ∧ st.s0 = (s.seatAt c n).s0 ∧ st.v = (s.seatAt c n).v
    (p.local_ = true → p.hit = true → awake (exec (.parkWake c n) s)) ∧
    (p.local_ = false → p.wakeAt ≤ s.cycOf c → awake (exec (.parkTimeoutWake c n) s))) ∧
  (∀ (s : State) (c n a : Nat) (w : Wait), (s.seatAt c n).acquiring = some (w, a) →
    let st := s.seatAt c n
    let word := BitVec.ofNat 64 (s.loadNat a 8)
    let given : Res := .next (if s.objectRefused c st.tenant a then s.refuseAcquire c n w a else s.giveAcquire c n word)
    let asked : Res := .next (s.askAcquire c st.tenant st.job a (.acquire n))
    (w.got = none → farObject a = false → s.objectFree c n a = true → s.cutOff c [a] = false → st.held = none → exec (.acquireReadPerformed c n) s = given) ∧
    (w.got = none → farObject a = true → s.acquireAsked c n = false → exec (.acquireReadPerformed c n) s = asked) ∧
    (∀ b old, w.kind = .target b true → st.held = none → w.got = some old → word ≠ old → s.objectFree c n a = true → s.cutOff c [a] = false → exec (.acqtReread c n) s = given) ∧
    (∀ b old, w.kind = .target b false → st.held = none → w.got = some old → w.deadline + 1024 ≤ s.cycOf c →
      (farObject a = false → s.objectFree c n a = true → s.cutOff c [a] = false → exec (.acqtReread c n) s = given) ∧
      (farObject a = true → s.acquireAsked c n = false → exec (.acqtReread c n) s = asked))) ∧
  (∀ (s : State) (c k : Nat) (m : RedMove), s.mesh[k]? = some m → m.core = c →
    let gone := { s with mesh := s.mesh.eraseIdx k }
    let node := (tget (0 : BitVec 23) (s.core c).router.nodes m.packet.tree).toNat
    let turn := m.packet.turns / 4 ^ m.used % 4
    let heading := (m.heading + (if turn = 1 then 1 else if turn = 2 then 3 else 0)) % 4
    let run : Res := exec (.reductionPacketArrival c k) s
    (turn = 3 → node.testBit 22 = true → run = .next (gone.collect c m.packet)) ∧
    (∀ t, turn = 3 → node.testBit 22 = false → gone.stopAt c m.port m.packet = some t → run = .next t) ∧
    (turn ≠ 3 → meshStep c heading = none → run = .next (gone.logRoute c 0 m.packet.mask)) ∧
    (∀ next port, turn ≠ 3 → meshStep c heading = some (next, port) →
      (m.used = 7 → run = .next (gone.logRoute c 1 m.packet.mask)) ∧
      (m.used ≠ 7 → run = .next { gone with mesh := gone.mesh ++
        [{ m with core := next, port := port, heading := heading, used := m.used + 1 }] }))) ∧
  (∀ (s : State) (c tree t : Nat) (h : RedHeld), (s.core c).router.held.find? (fun x => x.1 == tree) = some (t, h) →
    h.since + h.packet.limit / 2 ≤ (s.die (dieOf c)).meshCyc →
    exec (.reductionRouterTimeout c tree) s = .next ((s.onCore c fun k => { k with router := { k.router with
      held := k.router.held.filter (fun x => x.1 != tree), closed := k.router.closed ++ [(tree, h.packet.round)] } }).onward c h.packet))

/-- Scheduling, saves, launches and reuse. Under its condition each of these events answers a next state with its effect: the selector
gives an idle core to the chosen seat; the Sluice binds the head ready task to the lowest FREE seat, once in a core cycle;
dispatch, fill and restore make the seat RUNNABLE; a pre-emption is noted, a forced save, after what is due has landed, takes the
seat from the pipeline, and a save ends with the task SAVED and the seat FREE; leave is granted to the oldest request; the span
watchdog and an illegal bundle trap at the PC; a held task is released; a queue is polled, or a launch that waits for slots goes
on, a launch's records are created once its spawned successors are accepted, a launch completes and leaves its slot when its
successors are started, a released stream's entries become PASS; an ended task settles; a pure task is looked up, a hit is copied,
a result is inserted. -/
def Obligations.SchedulerEvents : Prop :=
  (∀ (s : State) (c p i : Nat), (s.core c).running = none → (s.core c).bubble = false → (s.core c).chosen = some (p, i) →
    ∃ t, exec (.issueSelect c) s = .next t ∧ t.mem = s.mem ∧ t.dies = s.dies ∧ (t.core c).running = some i ∧ (t.core c).latches = .zero ∧
      (t.core c).withheld = none ∧ (t.core c).flight = (s.core c).flight ∧ (t.seatAt c i).st = .running ∧ (t.seatAt c i).passed = 0 ∧
      (t.seatAt c i).pc = (s.seatAt c i).pc ∧ (t.seatAt c i).s0 = (s.seatAt c i).s0 ∧ (t.seatAt c i).v = (s.seatAt c i).v) ∧
  (∀ (s : State) (c p l rec n : Nat) (t : State), (s.core c).nextTask = some (p, l, rec) → (s.core c).freeSeat = some n →
    s.mayBind c l rec = true → (s.core c).boundAt ≠ some (s.cycOf c) → s.installSides c l = some t → ∃ u, exec (.sluiceBind c) s = .next u ∧ (u.seatAt c n).st = .loading ∧
      (u.seatAt c n).loading = 41 ∧ tget 0 (u.core c).dcnt n = tget 0 (t.core c).dcnt n + 1 ∧ tget 63 (u.core c).ptr p = l) ∧
  (∀ (s : State) (c n : Nat), (s.seatAt c n).st = .loading →
    let d := dieOf c
    let st := s.seatAt c n
    let l := s.recSlot d st.record
    (∀ t, st.restoring = false → st.filling = false → st.loading = 0 → s.template d l = some t →
      ∃ u, exec (.dispatchComplete c n) s = .next u ∧ u.mem = s.mem ∧ (u.seatAt c n).lte = t ∧ (u.seatAt c n).g = s.firstG d st.record l ∧
        (u.seatAt c n).pc = st.pc ∧ (st.pure = false → (u.seatAt c n).st = .runnable)) ∧
    (st.filling = true → ∃ u, exec (.scratchFillComplete c n) s = .next u ∧ (u.seatAt c n).st = .runnable ∧ (u.seatAt c n).filling = false) ∧
    (st.restoring = true → st.loading = 0 → (s.die d).asks.any (fun a => a.core == c && a.seat == n) = false → st.mBlank = true →
      ∃ u, exec (.seatRestoreComplete c n) s = .next u ∧ u.mem = s.mem ∧ (u.seatAt c n).st = .runnable ∧
        (u.seatAt c n).restoring = false ∧ (u.seatAt c n).pc = st.pc)) ∧
  (∀ (s : State) (c n : Nat) (why : Preempt), (s.seatAt c n).st ≠ .free → (s.seatAt c n).saving = none → (s.seatAt c n).leaving = false →
    (why = .priority → (s.core c).outranked n = true) → (why = .snapshot → s.shooting (dieOf c) (s.seatAt c n).job = true) →
    ∃ t, exec (.preemptRequest c n why) s = .next t ∧ t.mem = s.mem ∧ (t.seatAt c n).saving = some (why,
      if why = .snapshot then tget (s.die (dieOf c)).cyc (s.job (s.seatAt c n).job).received (dieOf c) + (s.job (s.seatAt c n).job).shot
      else (s.die (dieOf c)).cyc + s.flim (dieOf c)) ∧
      (t.seatAt c n).leaving = ((s.seatAt c n).st == .runnable || (s.seatAt c n).st == .parked)) ∧
  (∀ (s : State) (c n deadline : Nat) (why : Preempt), (s.core c).running = some n → (s.seatAt c n).saving = some (why, deadline) →
    deadline ≤ (s.die (dieOf c)).cyc → (s.seatAt c n).trapping = none →
    let b := s.landDue c (s.core c).idx
    ∃ t, exec (.forcedSave c n) s = .next t ∧ t.mem = b.mem ∧ (t.core c).running = none ∧
      (t.core c).flight = (b.core c).flight.filter (fun l => l.seat != n) ∧ (t.seatAt c n).st = .runnable ∧ (t.seatAt c n).leaving = true ∧
      (t.seatAt c n).drained.isSome = true ∧ bitOf (t.seatAt c n).tstat tstatFORCED = true) ∧
  (∀ (s : State) (c n : Nat) (m : Mapped) (va : Nat), (s.seatAt c n).leaving = true → s.quiet c n = true →
    let st := s.seatAt c n
    s.saveSlot (dieOf c) st.record st.ctx = .ok (m, va) → s.heldArmed (dieOf c) st.ctx va m.leaf = false →
    ∃ t x, exec (.seatSaveComplete c n) s = .next t ∧ (t.seatAt c n).st = .free ∧ t.savedTasks = s.savedTasks ++ [x] ∧ x.die = dieOf c ∧
      x.record = st.record ∧ x.core = c ∧ x.image = st.kept ∧ x.leave = st.leave ∧ x.why = st.saving.map (·.1)) ∧
  (∀ (s : State) (d : Nat) (a : LeaveAsk), oldestAsk (s.die d).asks = some a → (s.die d).grant + a.units ≤ s.pool (s.die d).memBound →
    ∃ t, exec (.leaveGrant d) s = .next t ∧ t.mem = s.mem ∧ (t.die d).grant = (s.die d).grant + a.units ∧
      (t.die d).asks = (s.die d).asks.filter (fun b => b != a) ∧
      ((s.seatAt a.core a.seat).restoring = true → (t.seatAt a.core a.seat).leave = a.units)) ∧
  (∀ (s : State) (c n : Nat), (s.core c).running = some n →
    ((s.die (dieOf c)).wdog ≤ (s.seatAt c n).span →
      exec (.spanWatchdog c) s =
        .next ((s.trapHere c n 19 (BitVec.ofNat 64 (s.seatAt c n).span) 0).onSeat c n fun st => { st with span := 0 })) ∧
    (∀ cause tval, s.illegalAt c n = some (cause, tval) → exec (.illegalBundle c) s =
      .next (s.trapHere c n cause tval (field tval 10 8)))) ∧
  (∀ (s : State) (d record : Nat) (t : SavedTask), s.savedTasks.find? (fun t => t.die == d && t.record == record) = some t →
    s.queued d record = false → t.why = none → field t.image.tcause 7 0 ≠ 24 →
    (∃ u, exec (.taskRelease d record true) s = .next u ∧ u.savedTasks = s.savedTasks.filter (fun u => !(u.die == d && u.record == record))) ∧
    (∃ u x, exec (.taskRelease d record false) s = .next u ∧ x ∈ u.savedTasks ∧ x.die = d ∧ x.record = record ∧ x.image = t.image.returned)) ∧
  (∀ (s : State) (q root : Nat), s.waitingRoot q = some root → exec (.launchQueuePoll q) s = .next (State.acceptSpawned q root 64 s)) ∧
  (∀ (s : State) (q : Nat), q < 64 → s.queueOn q = true → s.awake.contains q = true → s.waitingRoot q = none →
    let h := s.queueHead q
    let s1 := { s with polled := tput s.polled q s.flume.time }
    (s.consumable q = false → exec (.launchQueuePoll q) s = .next { s1 with awake := s.awake.filter fun x => x != q }) ∧
    (∀ t, s.consumable q = true → roundRobin 64 s.lastQueue ((List.range 64).filter fun i => s.queueDue i && s.consumable i) = some q →
      (s1.setQueueDw q 1 (h + 1)).takeRecord q (s1.loadNat (Home.ioc.at (s1.ringOff q h)) 8 % 2 ^ 17 * 256) = some t →
      exec (.launchQueuePoll q) s = .next { t with lastQueue := q })) ∧
  (∀ (s : State) (slot d : Nat) (rest : List Nat), (s.launch slot).diesLeft = d :: rest → (s.launch slot).spawnLeft = [] →
    (s.slotCoords slot d).length ≤ (s.freeRecords d (s.slotCoords slot d).length 0).length →
    ∃ t, exec (.taskCreation slot d) s = .next t ∧ (t.launch slot).diesLeft = rest) ∧
  (∀ (s : State) (slot : Nat) (next : List Nat), (s.launch slot).starting = some next → s.freeSlots ≠ [] →
    exec (.launchCompletion slot) s = .next (s.finishLaunch slot next)) ∧
  (∀ (s : State) (slot : Nat), s.launches.any (fun l => l.1 == slot) = true → (s.launch slot).starting = none → s.launchEnded slot = true →
    s.launchWrites slot = false →
    let l := s.launch slot
    let s1 := (s.releaseStreams slot).writeCompletion slot (if l.failed = 0 then 0 else 2) 0 l
    let s1 := l.tasks.foldl (fun s t => s.setRecState t.1 t.2 0) s1
    let next := if l.failed = 0 then (s1.successorRecords slot false).map (·.2) else []
    exec (.launchCompletion slot) s = .next (s1.finishLaunch slot next) ∧
      (next = [] → s1.finishLaunch slot next = { s1 with launches := tdel s1.launches slot })) ∧
  (∀ (s : State) (k at_ : Nat) (r : StreamRec), s.flume.streams[k]? = some r → r.closing = some at_ →
    at_ + s.rotation (ringOf r.ring) ≤ s.ringTime (ringOf r.ring) → ∃ t, exec (.streamCloseFollowup k) s = .next t ∧ t.mem = s.mem ∧
      t.flume.streams = s.flume.streams.eraseIdx k ∧ (∀ key, tget true t.flume.classes key =
        if key ∈ r.slots.map (slotKey (ringOf r.ring)) then false else tget true s.flume.classes key)) ∧
  (∀ (s : State) (d record : Nat),
    (s.recState d record = 5 → s.taskWritten d record = true → exec (.taskEndSuccessors d record) s =
      .next (((s.releaseSuccessors d record).settle d record false false).beginInsert d record)) ∧
    (s.recState d record = 2 → s.recPure d record = true → s.queued d record = false → bitOf (s.recDw d record 5) 15 = false →
      s.madeReady d record = true → s.missedKey d record = none →
      (s.taskKey d record = none → exec (.reuseLookup d record) s = .next (s.queueTask d record false)) ∧
      (∀ key t, s.taskKey d record = some (key, t) →
        let missed : Res := .next ({ t with taskKeys := t.taskKeys ++ [(d, record, key)] }.queueTask d record false)
        (t.entryOf d (t.recTenant d record) key = none → exec (.reuseLookup d record) s = missed) ∧
        (∀ e, t.entryOf d (t.recTenant d record) key = some e →
          (t.reuseState d e = 2 → exec (.reuseLookup d record) s = .next { t.setRecDw d record 5 (BitVec.ofNat 64 (2 ^ 15 + e)) with
            hitting := t.hitting ++ [(d, record, e)] }) ∧
          (t.reuseState d e ≠ 2 → exec (.reuseLookup d record) s = missed)))) ∧
    (∀ e bs xs, s.hitting.find? (fun x => x.1 == d && x.2.1 == record) = some (d, record, e) →
      let k := s.recSlot d record
      let tenant := s.slotTenant k
      s.readVirt d (s.quotaCtx d tenant) true (s.blockVa d tenant e) (field (s.reuseDw d e 5) 31 0) = .ok bs →
      (s.template d k).bind (fun t => s.outputSpots (taskAgent (s.recCore d record) tenant (s.slotCtx k)) (roleEntries t 2)) = some xs →
      s.outputsHeld d (s.slotCtx k) xs = false → ∃ t : State, exec (.reuseHitComplete d record) s =
        .next ((t.releaseSuccessors d record).settle d record false true) ∧ t.hitting = s.hitting.filter fun x => !(x.1 == d && x.2.1 == record)) ∧
    (∀ x, s.inserting.find? (fun x => x.die == d && x.record == record) = some x →
      (∀ xs, s.outputSpots (taskAgent x.core x.tenant x.ctx) x.outputs = some xs →
        s.rangeHeld d (s.quotaCtx d x.tenant) (s.blockVa d x.tenant x.entry) (s.outputBytes xs).length = false) →
      ∃ t, exec (.reuseInsertComplete d record) s = .next t ∧ t.inserting = s.inserting.erase x ∧
        (s.outputSpots (taskAgent x.core x.tenant x.ctx) x.outputs = none →
          let u := ({ s with inserting := s.inserting.erase x } : State).emptyEntry d x.entry x.tenant 0
          t = if u.recState d record = 6 then u.setRecDw d record 5 0 else u)))

/-- Passes of slots at stations, Lade bring-up and failed hops. A due pass of a good slot that carries no credit, at a station that
owes none, does what the committed entry says: PASS leaves it; LOAD, at the output of the stream's origin, fills a free slot from
its buffer if ARMED; the first COPY, ADD, TAKE or EMPTY of its stream's next CSEQ, at its input, posts the payload, combines, or
frees the slot, and FIRST_DONE follows; INC met there is written to MISSREG. A best-effort slot is taken at the output for the
message at the head of the queue, held by a station whose head has waited long enough, sent again from the origin's copy, or
delivered at its destination's input and emptied, by its kind. Station 0 empties a stale slot and changes the class of a free one.
Each pass at an output counts one slot time for a head that takes no slot. A Lade is brought up with every hop padded to the
longest; a failed hop is retried or stops the Flume. -/
def Obligations.FlumeEvents : Prop :=
  (∀ (s : State) (p : Pass),
    let key := slotKey p.ring p.slot
    let h := p.arrives.getD (tget Slot.reset s.flume.slots key)
    let e := s.gate (gateKey p.ring p.station p.slot)
    let b := if p.ring = .flume then s else s.flitsIn (portTo s.package (s.ladeHop p.ring p.slot true)) 5
    let inward := (s.halves p).1 = true
    let outward := (s.halves p).2 = true
    let done (t : State) (took : Bool) (h' : Slot) : State :=
      let u := if outward then t.countWait p took else t
      { u with flume := { u.flume with
        slots := tset Slot.reset u.flume.slots key h'
        leaving := if p.ring = .flume then u.flume.leaving else u.flume.leaving ++ [(key, h')]
        spoiled := if outward then u.flume.spoiled.filter (fun k => k != key) else u.flume.spoiled
        done := if p.ring = .flume then u.flume.done ++ [(p.slot, p.station)] else u.flume.done } }
    s.passDue p = true → p.bad = false → (p.ring = .flume → s.flume.bypass.contains p.station = false) → s.flume.spoiled.contains key = false → h.credit = none →
    ((∀ k owned, inward → p.station = 0 → h.state = .free → s.flume.classes.find? (fun k => k.1 == key) = some (k, owned) →
      exec (.station0ClassChange p) s = .next (s.passAt p).1 ∧ (s.station0 p h key).2.1.owned = owned ∧
        (s.station0 p h key).1.flume.classes = tdel s.flume.classes key) ∧
    (inward → b.staleAt0 p h = true →
      exec (.station0EmptyStale p) s = .next (s.passAt p).1 ∧ (b.station0 p h key).2.1.state.isBusy = false) ∧
    (b.staleAt0 p h = false → (p.station = 0 → s.flume.classes.find? (fun k => k.1 == key) = none) →
      s.flume.owed.find? (fun x => x.1 / 32 == p.place && x.2 != 0) = none →
      (h.owned = true → gateAct e = 0 → exec (.gatePass p) s = .next (done b false h)) ∧
      (h.owned = true → gateSerr e = false →
        let gk := gateKey p.ring p.station p.slot
        (gateAct e = 1 → outward → h.state = .free → b.armedGate p.place e = true → p.place < 21 → b.mayLoad p.station (gateStream e) = true →
          ∃ h' : Slot, exec (.gateLoad p) s = .next (done (b.firstDone gk e []) false h') ∧ h'.state = .busy ∧ h'.owned = true ∧
            h'.stream.toNat = gateStream e ∧ h'.cseq.toNat = gateNext e ∧ h'.len.toNat = gateLen e ∧ h'.dest.toNat = gateDest e ∧
            h'.fmt.toNat = gateFmt e ∧ h'.inc = false ∧ h'.origin = BitVec.ofNat 5 p.place) ∧
        (inward → h.state = .busy → h.stream.toNat = gateStream e → h.dest.getLsbD p.station = true → h.fmt.toNat = gateFmt e →
          b.jobEarly h p.place = false → b.jobLate h p.place = false → h.cseq.toNat = gateNext e → b.armedGate p.place e = true →
          let m := if h.inc then b.missreg gk e h.miss else b
          let buf := b.bufAt gk e h.cseq.toNat
          let freed : Slot := { h with state := .free }
          let sum := combineBytes h.fmt.toNat h.len.toNat h.payload.toNat (leNat (b.bufBytes buf h.key.toNat h.len.toNat))
          (gateAct e = 3 → exec (.gateAdd p) s = .next (done (m.firstDone gk e []) false { h with payload := BitVec.ofNat 2048 sum })) ∧
          (gateAct e = 5 → exec (.gateEmpty p) s = .next (done (m.firstDone gk e []) false freed)) ∧
          (∀ a, buf = some a → 0 < h.len.toNat →
            let t := (m.post { Posted.of (.station p.place) ((keyDie gk).getD 0) 0 0 h.job.toNat 2 with
              kind := .write (placed a h.bytes) (b.streamMaterial h.key.toNat)
              bound := (gateObject gk e).map fun o => o.1.at o.2 }).firstDone gk e [s.nextPost]
            (gateAct e = 2 → exec (.gateCopy p) s = .next (done t false h)) ∧
            (gateAct e = 4 → h.inc = false → exec (.gateTake p) s = .next (done t false freed))))) ∧
      (outward → h.owned = false → h.origin.toNat ≠ p.station → ∀ m, b.eligible p = some m →
        (h.state = .free → exec (.beTakeSlot p) s = .next (done (b.loadMsg p h key m).1 true (b.loadMsg p h key m).2)) ∧
        (h.state = .busy → h.dest.getLsbD p.station = false → s.flume.held.contains (laneQueue p) = false →
          b.bestOf p.place * b.rotation p.ring ≤ tget 0 s.flume.waits (laneQueue p) →
          exec (.beHold p) s = .next (done { b with flume := { b.flume with held := b.flume.held ++ [laneQueue p] } } false
            { h with state := .busyHeld, hold := BitVec.ofNat 5 p.station }))) ∧
      (inward → h.owned = false → h.origin.toNat = p.station → h.state = .busy → h.dest.getLsbD p.station = false → h.inc = true →
        b.eligible p = none →
        (s.flume.sent.find? (fun x => x.1 == key) = none →
          exec (.beResend p) s = .next (done b false { h with inc := false, miss := 0, epar := b.parityOf p.place h.job.toNat })) ∧
        (∀ k m, s.flume.sent.find? (fun x => x.1 == key) = some (k, m) →
          exec (.beResend p) s = .next (done b false { b.withMsg p h m with hold := h.hold }))) ∧
      (inward → h.owned = false → h.state = .busy → h.dest.getLsbD p.station = true → h.inc = false → b.jobEarly h p.place = false →
        (b.firstRefused p.place h.origin.toNat = none ∨ b.firstRefused p.place h.origin.toNat = some key) →
        let kind := h.stream.toNat / 256
        let run (i : Instr) : Prop := exec i s = .next (s.passAt p).1
        (∃ u : State, b.deliver p h key = (u.drainMsg p h ((s.flume.sent.find? fun x => x.1 == key).map (·.2)), { h with state := .free }, [kindCase kind]) ∧
          u.mem = s.mem ∧ u.cores = s.cores ∧ u.posted = s.posted ∧ u.flume.slots = s.flume.slots) ∧
        (kind = 0 → run (.beWrite p)) ∧ (kind = 1 → run (.beReadRequest p)) ∧ (kind = 2 → run (.beReadResponse p)) ∧
        (kind = 3 → run (.beCounterDecrement p)) ∧ (kind = 4 → run (.beAtomicRequest p)) ∧ (kind = 5 → run (.beAtomicResponse p)) ∧
        (kind = 6 → run (.beSbeqMessage p)) ∧ (7 ≤ kind → run (.beReservedKind p)))))) ∧
  (∀ (s : State) (ring : Ring) (n hops : Nat), ring ≠ .flume → hops = longestHop ring n → s.ladeStation ring < n →
    n = (if ring = .row then s.canal.cols else s.canal.rows) →
    (n * hops ≤ 1024 → ∃ (up : Lade) (t : State), exec (.ladeBringUp ring n hops) s = .next t ∧
      t.flume = { s.flume with lades := tput s.flume.lades ring.index up } ∧ t.mem = s.mem ∧ t.cores = s.cores ∧ t.posted = s.posted ∧ up.n = n ∧ up.h = hops ∧ 10 ≤ up.p ∧
        up.pads.length = n ∧ ∀ i < n, up.pads.getD i 0 + Config.ladeHop ring.index i = hops) ∧
    (1024 < n * hops → exec (.ladeBringUp ring n hops) s = .next s)) ∧
  (∀ (s : State) (station : Nat), station < 21 → s.flume.stopped = false →
    exec (.flumeHopFailure station true) s = .next (s.logStation 4 station 0 0) ∧
    exec (.flumeHopFailure station false) s =
      .next (({ s with flume := { s.flume with stopped := true } } : State).logStation 3 station 0 0).stopJobs)

/-- Packets of the Canal and its links. Under its condition each of these events answers the state the spec gives: a packet at the
injection point takes the next SEQ of its pair and joins its output queue; a packet at a congested port loses its payload and goes
on at VC0; a request, write, atomic, answer or control packet that comes by a link arrives here, or is forwarded by its route; a
waiting packet that nothing holds back is performed; an answer reaches the one who asked; a hole is asked for again, tokens
refill, LOW is acknowledged and frees the store, a request that waited for RWDOG is refused; control flits, timers, replay,
retirement and rekeying change their link. -/
def Obligations.CanalEvents : Prop :=
  (∀ (s : State) (k port : Nat) (det : Bool) (j : Inject), s.canal.inject[k]? = some j →
    (s.canal.inject.take k).all (fun i => i.peer != j.peer || i.packet.src != j.packet.src) = true → j.stored = true →
    s.performed j.after = true → (s.posted.all fun q => q.id != j.id || q.lands.isEmpty || s.landed q.agent.coreNo q.lands) = true → s.unackedSeqs j.peer < 4096 →
    let seq := tget 0 s.canal.sendSeq j.peer
    let p : Packet := { j.packet with seq := BitVec.ofNat 40 seq }
    (s.route p true = none → j.noRoute = false → exec (.canalInject k) s = .next ((s.onCanal fun c =>
      { c with inject := c.inject.modify k fun i => { i with noRoute := true } }).logFabric 0 j.peer)) ∧
    (s.route p true = some (port, det) →
    let p := { p with det := det }
    s.room port p = true →
    ∃ t : State, exec (.canalInject k) s = .next t ∧ t.mem = s.mem ∧ t.cores = s.cores ∧ t.canal.inject = s.canal.inject.eraseIdx k ∧
      t.canal.sendSeq = tput s.canal.sendSeq j.peer (seq + 1) ∧
      t.canal.store = s.canal.store ++ [⟨j.peer, seq, p, if p.pfl = 0 then 0 else units p.payload.length, j.win, j.id, false⟩] ∧
      t.canal.out = tput s.canal.out port (tget [] s.canal.out port ++ [p]))) ∧
  (∀ (s : State) (p : Packet) (port : Nat), p.vc ≠ 0 → p.pfl ≠ 0 → p.trimmed = false → s.linkUp p.via.toNat = true →
    (s.link p.via.toNat).laneFree p = true → s.canal.trimAt < s.portFlits port + p.flits →
    let s1 := (s.countIn p).onCanal fun k => { k with trims := tput k.trims port (tget 0 k.trims port + 1) }
    let cut : Packet := { p with trimmed := true, vc := 0, payload := [], hop := p.hop + 1 }
    (p.dstPackage = s.package → port = 30 → exec (.canalTrim port p) s = .next (s1.makeHole cut)) ∧
    (∀ det, p.dstPackage ≠ s.package → s.route p false = some (port, det) → (s.countIn p).room port (cutHeader p) = true →
      exec (.canalTrim port p) s = .next (s1.queueOut port cut)) ∧
    (∀ det, p.dstPackage ≠ s.package → s.route p false = some (port, det) → (s.countIn p).room port (cutHeader p) = false →
      exec (.canalTrim port p) s = .next (s.keepIn p))) ∧
  (∀ (s : State) (p : Packet), s.linkUp p.via.toNat = true → 9 ≤ p.type.toNat → exec (.canalReservedType p) s =
    .next (((s.countIn p).onCanal fun k => { k with dropped := k.dropped + 1 }).logFabric p.type.toNat p.via.toNat)) ∧
  (∀ (s : State) (p : Packet), s.linkUp p.via.toNat = true → (s.link p.via.toNat).fits p = true →
    let first := (s.link p.via.toNat).laneFree p
    let aop := p.aop.toNat
    let here := p.dstPackage = s.package
    let onward (i : Instr) : Prop :=
      (p.dstPackage ≠ s.package → first = false → exec i s = .next (s.keepIn p)) ∧
      ∀ port det, p.dstPackage ≠ s.package → first = true → (s.countIn p).route p false = some (port, det) →
        (p.vc = 0 ∨ p.pfl = 0 ∨ p.trimmed = true ∨ s.cuts p = false) →
        ((s.countIn p).room port p = true → exec i s = .next ((s.countIn p).queueOut port { p with hop := p.hop + 1 })) ∧
        ((s.countIn p).room port p = false → exec i s = .next (s.keepIn p))
    let comes (i : Instr) : Prop := (here → first = true → s.trims 30 p = false →
        ((s.countIn p).responseFits p = true → exec i s = .next ((s.countIn p).arrivePacket { p with hop := p.hop + 1 })) ∧
        ((s.countIn p).responseFits p = false → exec i s = .next (s.keepIn p))) ∧
      (here → first = false → exec i s = .next (s.keepIn p)) ∧ onward i
    ((p.type = 0 → comes (.canalReadRequest p)) ∧ (p.type = 2 → comes (.canalPostedWrite p)) ∧
      (p.type = 3 → aop = 0 ∨ aop = 1 → comes (.canalAadd p)) ∧
      (p.type = 3 → aop = 2 ∨ aop = 3 → comes (.canalAaddf p)) ∧
      (p.type = 3 → aop = 4 ∨ aop = 5 → comes (.canalAaddk p)) ∧
      (p.type = 3 → aop = 6 ∨ aop = 7 → comes (.canalAmin p)) ∧
      (p.type = 3 → aop = 8 ∨ aop = 9 → comes (.canalAmax p)) ∧
      (p.type = 3 → aop = 10 ∨ aop = 11 → comes (.canalAminu p)) ∧
      (p.type = 3 → aop = 12 ∨ aop = 13 → comes (.canalAmaxu p)) ∧
      (p.type = 3 → aop = 14 ∨ aop = 15 → comes (.canalAxch p)) ∧
      (p.type = 3 → aop = 16 ∨ aop = 17 → comes (.canalAcas p)) ∧
      (p.type = 3 → aop = 18 ∨ aop = 19 → comes (.canalAand p)) ∧
      (p.type = 3 → aop = 20 ∨ aop = 21 → comes (.canalAor p)) ∧
      (p.type = 3 → aop = 22 ∨ aop = 23 → comes (.canalAxor p)) ∧
      (p.type = 3 → aop = 24 ∨ aop = 25 → comes (.canalAcquireRead p)) ∧
      (p.type = 3 → aop = 26 → comes (.canalTaskDecrement p)) ∧ (p.type = 3 → aop = 29 → comes (.canalPublication p)) ∧
      (p.type = 3 → aop = 27 ∨ aop = 28 ∨ aop = 30 ∨ aop = 31 → comes (.canalReservedAop p))) ∧
    (p.type = 1 → onward (.canalReadResponse p)) ∧ (p.type = 4 → onward (.canalAtomicResponse p)) ∧ (p.type = 8 → onward (.canalRefusal p)) ∧
    (p.type = 5 → onward (.canalReRequest p)) ∧ (p.type = 6 → onward (.canalAcknowledgement p)) ∧ (p.type = 7 → onward (.canalSnapshotMarker p)) ∧
    (here → first = true → p.trimmed = false → s.trims 30 p = false → ∀ t r, (s.countIn p).recordAnswer { p with hop := p.hop + 1 } = some t → t.requestOf p = some r →
      (p.type = 1 → s.answerFits p = true → exec (.canalReadResponse p) s = .next (t.giveAnswer r (p.payload.take r.len))) ∧
      (p.type = 4 → exec (.canalAtomicResponse p) s = .next (t.giveAnswer r (leBytes (min 8 r.len) p.opa.toNat))) ∧
      (p.type = 8 → exec (.canalRefusal p) s = .next (t.giveRefusal r (field p.opa 3 0)))) ∧
    (here → first = true → s.trims 30 p = false → p.type = 5 → ∀ e,
      let mine (e : StoreEntry) : Bool := e.peer == p.srcPackage && e.seq % 2 ^ 40 == p.opa.toNat % 2 ^ 40
      s.canal.store.find? mine = some e → e.win = none →
      exec (.canalReRequest p) s = .next (((s.countIn p).onCanal fun k => { k with
        store := adjust mine (fun e => { e with resent := true }) k.store }).sendOrHold { e.packet with det := false } false)) ∧
    (here → first = true → s.trims 30 p = false → p.type = 6 →
      let low := expandSeq (tget 0 s.canal.sendSeq p.srcPackage - s.unackedSeqs p.srcPackage) (p.opa.toNat % 2 ^ 40)
      ∃ t, exec (.canalAcknowledgement p) s = .next t ∧ t.mem = s.mem ∧ t.cores = s.cores ∧
        t.canal.store = s.canal.store.filter fun e => !(e.peer == p.srcPackage && e.seq < low)) ∧
    (here → first = true → s.trims 30 p = false → p.type = 7 →
      let low := ((s.countIn p).recv p.srcPackage).low
      let cut := expandSeq low p.seq.toNat
      exec (.canalSnapshotMarker p) s = .next (((s.countIn p).onRecv p.srcPackage fun r => { r with
        markers := r.markers.filter (fun m => m.1 != p.job.toNat) ++ [(p.job.toNat, cut)] }).onJob p.job.toNat fun x => { x with
          channel := x.channel.filter fun r => !r.above x.epoch p.srcPackage low cut }))) ∧
  (∀ (s : State) (p : Packet),
    let aop := p.aop.toNat
    (aop = 27 ∨ aop = 28 ∨ aop = 30 ∨ aop = 31 → s.atomicRequest p = .error 3) ∧
    (∀ a rest, p.sub ≠ 0 → p.sub ≠ 3 → s.targetOf p .write = .ok (a :: rest) →
      let size := if aop % 2 = 1 ∨ aop = 24 then 8 else 4
      let clean := s.poisoned ((List.range size).map (a.flat + ·)) = false
      (s.poisoned ((List.range size).map (a.flat + ·)) = true → aop ≠ 26 → s.atomicRequest p = .error 3) ∧
      (aop = 24 ∨ aop = 25 → clean → s.atomicRequest p = .ok (s.loadNat a.flat 8, s)) ∧
      (aop = 29 → clean → s.atomicRequest p = .ok (s.loadNat a.flat 8, s.releaseAt a.flat (some (field p.opa 5 0)))) ∧
      (aop = 1 → p.rel = true → clean → s.atomicRequest p = .ok (s.loadNat a.flat 8, s.releaseAt a.flat none)) ∧
      (aop < 24 → aop ≠ 1 ∨ p.rel = false → clean → a.flat % size = 0 → s.atomicRequest p = .ok (s.atomicAt
          ⟨atomicOfAop (aop / 2), size, if aop / 2 = 1 ∧ size = 8 then 10 else 7, p.opa, p.opb⟩ a.flat)))) ∧
  (∀ (s : State) (peer seq : Nat) (e : RecvEntry), (s.recv peer).entries.find? (fun e => e.seq == seq) = some e →
    (e.state = .waiting → s.packetReady e.packet seq = true → exec (.canalPacketPerform peer seq) s = .next (s.performPacket e.packet seq)) ∧
    (∀ got, e.state = .taking got → e.packet.type = 0 → exec (.canalPacketPerform peer seq) s = .next (s.takeRead e.packet seq got)) ∧
    (∀ got, e.state = .taking got → e.packet.type ≠ 0 →
      exec (.canalPacketPerform peer seq) s = .next (s.finishPacket e.packet seq 4 (leNat got) [])) ∧
    (∀ r, e.state = .refused r → exec (.canalPacketPerform peer seq) s = .next ((s.refusePacket e.packet r).markPerformed peer seq)) ∧
    (∀ ids, e.state = .released ids → s.performed ids = true → e.packet.type = 3 →
      exec (.canalPacketPerform peer seq) s = .next (s.finishPacket e.packet seq 4 0 [])) ∧
    (∀ ids, e.state = .released ids → s.performed ids = true → e.packet.type ≠ 3 → s.packetLate e.packet = false →
      exec (.canalPacketPerform peer seq) s = .next (s.markPerformed peer seq)) ∧
    (e.state = .waiting → e.since + field s.canal.rwdog 31 0 ≤ s.canal.cycles →
      exec (.responderWatchdog peer seq) s = .next ((s.refusePacket e.packet 2).markPerformed peer seq)) ∧
    (∀ again since, e.state = .hole 0 again since →
      let full := s.onRecv peer fun r => r.refilled s.canal
      (full.recv peer).tokens ≠ 0 →
      exec (.canalHoleRerequest peer seq) s = .next ((full.sendVc0 peer 5 (seq % 2 ^ 40) 1 0).onRecv peer fun r => { r with
        tokens := r.tokens - 1
        entries := adjust (fun e => e.seq == seq) (fun e => { e with state := .hole 1 false since }) r.entries }))) ∧
  (∀ (s : State) (peer : Nat),
    let r := s.recv peer
    (r.refillAt + 1024 ≤ s.canal.cycles → exec (.canalTokenRefill peer) s = .next (s.onRecv peer fun r =>
      let periods := (s.canal.cycles - r.refillAt) / 1024
      { r with
        tokens := min (field s.canal.rrctl 15 0) (r.tokens + field s.canal.rrctl 31 16 * periods), refillAt := r.refillAt + 1024 * periods })) ∧
    ((r.acked < r.low ∧ r.ackAt + 64 ≤ s.canal.cycles) ∨ (r.entries ≠ [] ∧ r.ackAt + 1024 ≤ s.canal.cycles) →
      exec (.canalAckSend peer) s = .next ((s.sendVc0 peer 6 (r.low % 2 ^ 40) 0 0).onRecv peer fun x => { x with acked := r.low, ackAt := s.canal.cycles }))) ∧
  (∀ (s : State) (port : Nat), s.linkUp port = true →
    let l := s.link port
    let seen (f : Link → Link) : State := s.onLink port fun l => { f l with rpnIn := l.rpnIn + 1 }
    (∀ freed, freed.length = 12 →
      let s1 := seen fun l => { l with peerFreed := (List.range 12).map fun i => (i, freed.getD i 0) }
      exec (.linkIdle port freed) s = .next s1 ∧
      ∀ received, received.length = 12 →
        (l.agrees received = false → exec (.linkResync port freed received) s =
          .next ((s1.onLink port fun l => { l with retraining := true }).logMgmt 6 8 0 port 0)) ∧
        (l.agrees received = true → exec (.linkResync port freed received) s = .next s1)) ∧
    (∀ occ, occ.length = 31 → exec (.linkAdv port occ) s = .next (seen fun l => { l with adv := occ })) ∧
    (let x : Sent := .control (.adv s.occupancies) l.rpnIn;
      l.advAt + 256 ≤ l.cycles → l.may x = true → exec (.linkAdvTimer port) s =
        .next ((s.onLink port fun l => { l with advAt := l.advAt + 256 }).sendOn port x)) ∧
    (let x : Sent := .control (.resync l.freedCounts l.receivedCounts) l.rpnIn;
      l.resyncAt + 1024 ≤ l.cycles → l.may x = true → exec (.linkResyncTimer port) s =
        .next ((s.onLink port fun l => { l with resyncAt := l.resyncAt + 1024 }).sendOn port x)) ∧
    (∀ rpn,
      let s1 := s.onLink port fun l => { l with replay := l.since (BitVec.ofNat 16 rpn), replays := 0, retraining := false }
      (l.retraining = false → exec (.rpnAcknowledgement port rpn) s = .next s1) ∧
      (l.retraining = true → exec (.rpnAcknowledgement port rpn) s = .next (s1.logMgmt 6 8 1 port 0))) ∧
    (∀ rpn, rpn < 2 ^ 16 → l.stopped = none ∨ (∀ r ∈ l.since (BitVec.ofNat 16 rpn), r.sent.plain = true) → ∃ t : State, exec (.linkReplayRequest port rpn) s = .next t ∧ t.mem = s.mem ∧ (t.link port).replays = l.replays + 1 ∧
      (t.link port).replay = l.replay ∧ (1 ≤ l.replays → (t.link port).retraining = true) ∧
      t.canal.gone = s.canal.gone ++ (l.since (BitVec.ofNat 16 rpn)).map fun r => (port, r)) ∧
    (∀ rpn, 2 ^ 16 ≤ rpn → l.may (.control (.replay l.rpnIn) l.rpnIn) = true → exec (.linkReplayRequest port rpn) s =
      .next (s.sendOn port (.control (.replay l.rpnIn) l.rpnIn))) ∧
    (port < 32 → l.retraining = true → exec (.linkRetire port) s = .next (s.retireLink port)) ∧
    exec (.linkRkreq port (l.peerGeneration + 1)) s = .next (seen fun l => { l with
      peerAsked := true, rekeying := l.rekeying ++ agreementFlits port (l.peerGeneration + 1) }) ∧
    (∀ f, l.asked = true ∨ l.peerAsked = true →
      let fs := l.fragments ++ [f]
      let key := Config.agreedKey port (if l.asked then l.generation + 1 else l.peerGeneration + 1) fs
      (key = none → exec (.linkRkmsg port f) s = .next (seen fun l => { l with fragments := fs })) ∧
      (∀ k, key = some k → exec (.linkRkmsg port f) s = .next (seen fun l => { l with
        fragments := [], agreed := if l.asked then some k else l.agreed, peerAsked := false }))) ∧
    exec (.linkKeysw port) s = .next (seen fun l => { l with peerGeneration := l.peerGeneration + 1 }) ∧
    (2 ^ 47 ≤ l.flits → l.asked = false → exec (.rekeyStart port) s = .next (s.onLink port fun l => { l with
      asked := true, rekeying := l.rekeying ++ (.rkreq (l.generation + 1) :: agreementFlits port (l.generation + 1)) })) ∧
    (l.stopped = none → (2 ^ 48 - 3 ≤ l.flits ∨ (∃ p, s.nextOut port = some p ∧ 2 ^ 48 - 3 < l.flits + p.flits) ∨
        ((s.ladeOf port).bind fun r => s.ladeWaiting r port) ≠ none ∧ 2 ^ 48 - 3 < l.flits + 5) →
      exec (.rekeyStop port) s = .next (s.onLink port fun l => { l.ask port with stopped := some s.canal.cycles })) ∧
    (∀ at_, l.stopped = some at_ → at_ + 2 ^ 20 ≤ s.canal.cycles → exec (.rekeyTimeout port) s = .next (s.retireLink port)))

/-- Host accesses, keys and registers of the package. Under its condition each of these events answers the state the spec gives: a
host write enters the ordering point behind its port's earlier writes on its route, a flag-class write waits for all of them and
is then performed; a read answers the bytes after every write of its port; an atomic answers the old value; a FetchAdd on RESV and
a write of TAIL act on the queue; the translated window is read and written by the die's context; each is refused, and nothing
else changes, where the function or the requester does not reach. A key request loads, retires or queries a key and ends with its
status; a register takes what its access codes store. -/
def Obligations.HostEvents : Prop :=
  (∀ (s : State) (a : HostAccess) (data : List Byte), a.fn.val = 0 → a.bar = 2 → 1 ≤ data.length → data.length ≤ 512 →
    a.off + data.length ≤ Home.ioc.size →
    let bs := placed (Home.ioc.at a.off) data
    let held := s.posted.filter fun p => p.agent == .host a.port.val && p.kind.inbound
    (s.reachesBlocks (s.reachOf a) a.off data.length = false →
      exec (.hostPostedWrite a data) s = .next (s.logMgmt 9 8 1 a.rid.toNat 0)) ∧
    (s.reachesBlocks (s.reachOf a) a.off data.length = true →
      (s.flagClassAt a.off = true → exec (.hostPostedWrite a data) s = .next (s.post { Posted.of (.host a.port.val) 0 0 0 0 3 with
        kind := .flagClass bs, after := held.map (·.id) })) ∧
      (s.flagClassAt a.off = false → exec (.hostPostedWrite a data) s = .next (s.post { Posted.of (.host a.port.val) 0 0 0 0 3 with
        kind := .write bs none, after := s.unackedOn a.port.val ((bs.head?.map fun b => routeOf b.1).getD 0) })))) ∧
  (∀ (s : State) (a : HostAccess) (data : List Byte) (q o : Nat), a.fn.val = 0 → a.bar = 0 → queuePage a.off = some (q, o) →
    1 ≤ data.length → data.length ≤ 512 → o + data.length ≤ 4096 → ¬(o = 16 ∧ data.length = 8) →
    (s.reachesQueue (s.reachOf a) q = true → exec (.hostPostedWrite a data) s = .next (s.enterQueuePage a.port.val q o data)) ∧
    (s.reachesQueue (s.reachOf a) q = false → exec (.hostPostedWrite a data) s = .next (s.logMgmt 9 8 1 a.rid.toNat 0))) ∧
  (∀ (s : State) (port : Nat) (p : Posted) (bs : List (Nat × Byte)), s.posted.find? (fun p => p.agent == .host port && (match p.kind with
      | .flagClass _ => true
      | _ => false)) = some p → p.kind = .flagClass bs → s.performed p.after = true →
    exec (.flagClassWritePerform port) s = .next ((s.unpost p.id).writeBytes none bs)) ∧
  (∀ (s : State) (a : HostAccess) (len : Nat), 1 ≤ len → len ≤ 4096 → s.unacked a.port.val = [] →
    let starts (tenant : Nat) (left : List ReadByte) : Prop := exec (.hostRead a len) s = .next (s.startRead a.port.val tenant left none)
    let refused : Prop := exec (.hostRead a len) s = .next (s.replyHost a.port.val .unsupported)
    let d := a.fn.val - 1
    (a.fn.val = 0 → a.bar = 2 → a.off + len ≤ Home.ioc.size →
      (s.reachesBlocks (s.reachOf a) a.off len = true → starts 0 ((List.range len).map fun i => plainByte (Home.ioc.at (a.off + i)))) ∧
      (s.reachesBlocks (s.reachOf a) a.off len = false → refused)) ∧
    (a.fn.val ≠ 0 → a.bar = 2 → a.off + len ≤ 256 * 2 ^ 20 →
      (s.dieTakes a d = true → s.reachesCores d a.off len = true → starts (s.dfTenant d) ((List.range len).map fun i => match bar2Byte d (a.off + i) with
        | some x => plainByte x
        | none => (.inl 0xFF, none, 0))) ∧
      (s.dieTakes a d = false → refused) ∧ (s.reachesCores d a.off len = false → refused)) ∧
    (a.bar = configurationBar → a.off + len ≤ 4096 → a.fn.val ≠ 0 → s.portOf d ≠ a.port.val →
      starts 0 ((List.range len).map fun _ => (.inl 0xFF, none, 0)))) ∧
  (∀ (s : State) (r : HostRead), r.asked = none → r.atomic = none →
    (r.left = [] → s.readOn r = ({ s with hostSide := { s.hostSide with reads := s.hostSide.reads.filter fun x => x.id != r.id } } : State).replyHost
      r.port (.data r.got)) ∧
    (∀ a rest, r.left = plainByte a :: rest → homeOf a = .ioc → s.poisoned [a] = false → (∀ c, rest.head? = some c → c ≠ plainByte (a + 1)) →
      s.readOn r = s.onHostRead r.id fun x => { x with left := x.left.drop 1, got := x.got ++ [s.byte a] })) ∧
  (∀ (s : State) (a : HostAccess) (op : HostAtomicOp) (wide : Bool) (v w : Word),
    let size := if wide then 8 else 4
    (∀ x, a.bar ≠ 0 → s.atomicPlace a size = some x → s.unackedOn a.port.val (routeOf x) = [] →
      let op' : AtomicOp := match op with
        | .fetchAdd => .add
        | .swap => .xch
        | .cas => .cas
      exec (.hostAtomic a op wide v w) s = .next (s.startRead a.port.val (if a.fn.val = 0 then 0 else s.dfTenant (a.fn.val - 1))
        ((List.range size).map fun i => plainByte (x + i)) (some ⟨op', size, 7, v, w⟩))) ∧
    (s.atomicPlace a size = none → a.bar ≠ 0 → exec (.hostAtomic a op wide v w) s = .next (s.replyHost a.port.val .unsupported))) ∧
  (∀ (s : State) (a : HostAccess) (v : Word) (q o : Nat), a.fn.val = 0 → a.bar = 0 → queuePage a.off = some (q, o) →
    (o = 0 → s.unackedOn a.port.val 0 = [] → s.reachesQueue (s.reachOf a) q = true → exec (.hostFetchaddResv a v) s =
      .next ((s.setQueueDw q 0 (((s.queueDw q 0).toNat + v.toNat) % 2 ^ 64)).replyHost a.port.val (.data (leBytes 8 (s.queueDw q 0).toNat)))) ∧
    (o = 16 → s.reachesQueue (s.reachOf a) q = true →
      (s.unackedOn a.port.val 0 = [] → exec (.queueTailWrite a v) s = .next (s.writeTail q v)) ∧
      (s.unackedOn a.port.val 0 ≠ [] → exec (.queueTailWrite a v) s =
        .next (s.post { Posted.of (.host a.port.val) 0 0 0 0 3 with kind := .tail q v, after := s.unackedOn a.port.val 0 })))) ∧
  (∀ (s : State) (a : HostAccess) (len : Nat), a.fn.val ≠ 0 → a.bar = 4 → 1 ≤ len → a.off + len ≤ 64 * 2 ^ 30 →
    let d := a.fn.val - 1
    (∀ l, len ≤ 4096 → s.unacked a.port.val = [] → s.dieTakes a d = true → s.windowParts d a.off len .read = some l →
      exec (.hostBar4Access a len none) s = .next (s.startRead a.port.val (s.dfTenant d)
        (l.flatMap fun x => (List.range x.2.1).map fun i => (.inr (x.1 + i), x.2.2.1, entryKey x.2.2.2.1.entry)) none)) ∧
    (∀ bytes, bytes.length = len → len ≤ 512 → s.dieTakes a d = true → s.windowParts d a.off len .write = none →
      exec (.hostBar4Access a len (some bytes)) s = .next (s.logAt d 9 8 1 a.rid.toNat (s.dfTenant d) 0)) ∧
    (∀ bytes x, bytes.length = len → len ≤ 512 → s.dieTakes a d = true → s.windowParts d a.off len .write = some [x] →
      exec (.hostBar4Access a len (some bytes)) s = .next (s.enterWrite a.port.val (s.dfTenant d) d (s.dfCtx d)
        (placed x.1 (bytes.take x.2.1)) x.2.2.1 (some x.2.2.2.1) (some x.2.2.2.2))) ∧
    (∀ bytes, bytes.length = len → len ≤ 512 → s.dieTakes a d = false → exec (.hostBar4Access a len (some bytes)) s = .next s)) ∧
  (∀ (s : State) (i : Nat) (rest : List Nat), s.hostSide.doorbells = i :: rest →
    let off := 0x080000 + i * 64
    let w := s.keyDw off 0
    let op := field w 7 0
    let id := field w 27 16
    let tenant := field w 41 32
    let ends (t : State) (status : Nat) : Res := .next (({ t with hostSide := { t.hostSide with doorbells := rest } } : State).performBytes none
      (placed (Home.ioc.at (off + 8)) (leBytes 8 status)))
    (8128 ≤ i → exec .keyDoorbellInvalid s =
      .next (({ s with hostSide := { s.hostSide with doorbells := rest } } : State).logMgmt 9 8 0 i 0)) ∧
    (i < 8128 → op = 0 ∨ 3 < op → exec .keyBadRequest s = ends s 6) ∧
    (i < 8128 → id = 0 → (op = 1 → ∀ m, exec (.keyLoad m) s = ends s 6) ∧ (op = 2 → exec .keyRetire s = ends s 6) ∧
      (op = 3 → exec .keyQuery s = ends s 6)) ∧
    (i < 8128 → id ≠ 0 → op = 1 →
      let blob := (s.keyDw off 2).toNat
      let out := s.wrapped blob
      ((s.key id).valid = true → exec (.keyLoad out) s = ends s 3) ∧
      ((s.key id).valid = false → blob % 64 ≠ 0 ∨ Home.ioc.size < blob + 128 → exec (.keyLoad out) s = ends s 6) ∧
      ((s.key id).valid = false → blob % 64 = 0 → blob + 128 ≤ Home.ioc.size →
        (out = none → exec (.keyLoad none) s = ends s 2) ∧
        ∀ m, out = some m → s.listsOf tenant = [] →
          exec (.keyLoad (some m)) s = ends { s.wrapUsed blob with keys := tput s.keys id ⟨true, tenant, m⟩ } 1)) ∧
    (i < 8128 → id ≠ 0 → op = 2 →
      ((s.key id).valid = false → exec .keyRetire s = ends s 5) ∧
      ((s.key id).valid = true → s.keyInUse id = false →
        ((s.key id).tenant ≠ tenant → exec .keyRetire s = ends s 4) ∧ ((s.key id).tenant = tenant → exec .keyRetire s = ends (s.retireKey id) 1))) ∧
    (i < 8128 → id ≠ 0 → op = 3 → exec .keyQuery s = ends (s.performBytes none (placed (Home.ioc.at (off + 24))
      (leBytes 8 ((s.key id).tenant * 2 + (if (s.key id).valid then 1 else 0))))) 1)) ∧
  (∀ (s : State) (v : Word),
    (∀ i, i < 16 → exec (.wallowWrite i v) s = .next (s.csrWrite 0 0 (32 + i) v)) ∧
    exec (.pcapWrite v) s = .next { s with hostSide := { s.hostSide with pcap := putField s.hostSide.pcap 15 0 (max 4000 (min 10000 (field v 15 0))) } } ∧
    (∀ b, s.packageClass = some b → ∃ t, exec .powerClassChange s = .next t ∧ t.mem = s.mem ∧ t.cores = s.cores ∧ ∀ d, d < 16 → (t.die d).memBound = b) ∧
    exec (.managementRegisterWrite .hsalt v) s = .next { s with canal := { s.canal with hsalt := v } } ∧
    (∀ r, ∃ t, exec (.managementRegisterWrite r v) s = .next t ∧ t.mem = s.mem ∧ t.posted = s.posted ∧ ∀ c n, t.seatAt c n = s.seatAt c n))

/-- The package, its dies and interfaces, snapshots and rollback. Under its condition each of these events answers the state the spec
gives: a core becomes TRANSIT on all dies, and once it is drained is scrubbed for its new owner; a die resets into bypass and is
re-admitted; TDISP messages move the interface, SPDM answers measurements; a port reset applies FMAP; the boot measures its stages
and shuts nothing else out; throttling and shutdown. A job is registered, its snapshot requested on each die, saved, resumed,
swept and committed; an uncorrectable read is corrected or poisons; a job rolls back to its committed epoch, or ends if the
signature or a copy of a lost page fails; the old frame of a lost page is retired. -/
def Obligations.PackageAndSnapshotEvents : Prop :=
  (∀ (s : State) (c tenant : Nat), c < 1024 → tenant < 1024 →
    (s.inTransit c = false → ∃ t, exec (.coreOwnerChange c tenant) s = .next t ∧ t.mem = s.mem ∧ t.cores = s.cores ∧ t.inTransit c = true) ∧
    (s.inTransit c = true → s.drainedCore c = true → ∃ t, exec (.coreOwnerChange c tenant) s = .next t ∧ t.mem = s.mem ∧
      (t.core c).scrubbing = true ∧ ∀ d, d < 16 → t.ownerOf d c = .owned tenant) ∧
    ((s.core c).scrubbing = true → ∃ t, exec (.scrubComplete c) s = .next t ∧ (t.core c).scrubbing = false ∧ (t.core c).seats = [] ∧
      (t.core c).rows = [] ∧ (t.core c).icache = [] ∧ (t.core c).tlb = [] ∧ (t.core c).flight = [] ∧ t.mem = s.mem.filter fun x => !inCore c x.1)) ∧
  (∀ (s : State) (d : Nat), d < 16 →
    (bitOf (s.die d).dfctl 0 = false →
      let s1 := s.onDie d fun x => { x with dfctl := putField x.dfctl 2 0 7, inReset := true }
      let stopped := (dieCores d).foldl (fun s c => s.setOwner c .transit) ((s1.abandonJobs d).failDie d)
      exec (.dieReset d) s = .next (stopped.bypassStation (stationOf d)) ∧ (s1.die d).inReset = true ∧ s1.tdis d = 3 ∧ bitOf (s1.die d).dfctl 0 = true ∧
        (∀ c, dieOf c = d → c < 1024 → stopped.inTransit c = true) ∧ (stopped.bypassStation (stationOf d)).flume.bypass.contains (stationOf d) = true) ∧
    (bitOf (s.die d).dfctl 0 = true → s.keysIdle d = true →
      let t := s.resetTick d
      (t.die d).inReset = true ∧ t.tdis d = 3 ∧ bitOf (t.die d).dfctl 0 = false ∧ t = s.endReset d ∧
      (∀ c, dieOf c = d → (t.core c).seats = [] ∧ (t.core c).flight = [] ∧ (t.core c).running = none)) ∧
    (bitOf (s.die d).dfctl 0 = true → s.keysIdle d = false → s.resetTick d = s) ∧
    ((s.die d).inReset = true → bitOf (s.die d).dfctl 0 = false → ∃ t, exec (.dieReadmit d) s = .next t ∧ t.mem = s.mem ∧ (t.die d).inReset = false ∧
      t.flume.bypass = s.flume.bypass.filter fun x => x != stationOf d) ∧
    (∀ on, exec (.throttle d on) s = .next (s.onDie d fun x => { x with throttled := on })) ∧
    ((s.tdis d = 0 → exec (.tdispMessage d .lockInterface) s = .next ((s.setTdis d 1).replyHost (s.portOf d) .done)) ∧
      (s.tdis d = 1 → exec (.tdispMessage d .startInterface) s = .next ((s.setTdis d 2).replyHost (s.portOf d) .done)) ∧
      (s.tdis d = 2 → bitOf (s.die d).dfctl 0 = false → exec (.tdispMessage d .stopInterface) s = .next ((s.startReset d).replyHost (s.portOf d) .done)) ∧
      (s.tdis d ≠ 2 → bitOf (s.die d).dfctl 0 = false → exec (.tdispMessage d .stopInterface) s = .next ((s.setTdis d 0).replyHost (s.portOf d) .done)) ∧
      (s.tdis d ≠ 0 → exec (.tdispMessage d .lockInterface) s = .next (s.replyHost (s.portOf d) .unsupported)) ∧
      exec (.tdispMessage d .getState) s = .next (s.replyHost (s.portOf d) (.answer [s.tdis d])))) ∧
  (∀ (s : State),
    (∀ fn index, fn < 17 → 1 ≤ index → index ≤ 6 → exec (.spdmRequest fn index) s =
      .next (s.replyHost (if fn = 0 then 0 else s.portOf (fn - 1)) (.answer [s.measure index]))) ∧
    (∀ port, port < 4 → ∃ t, exec (.portReset port) s = .next t ∧ t.mem = s.mem ∧ t.cores = s.cores ∧ t.hostSide.fmap = s.hostSide.fmap ∧
      ∀ d, d < 16 → t.portOf d = if s.portOf d = port ∨ field s.hostSide.fmap (2 * d + 1) (2 * d) = port
        then field s.hostSide.fmap (2 * d + 1) (2 * d) else s.portOf d) ∧
    (∀ stages fuses, stages.length = 5 → s.hostSide.booted = false ∨ s.hostSide.power = false →
      ∃ t, exec (.boot stages fuses) s = .next t ∧ t.mem = s.mem ∧ t.cores = s.cores ∧ t.hostSide.power = true ∧
        (stages.all (·.genuine) = true → t.hostSide.booted = true ∧ (t.key 0).valid = true ∧ (t.key 0).tenant = 0) ∧
        (stages.all (·.genuine) = false → t.hostSide.booted = false) ∧ tget 0 t.hostSide.measured 6 = digestOf fuses) ∧
    (s.hostSide.power = true → ∃ t, exec .thermalShutdown s = .next t ∧ t.hostSide.power = false ∧ t.mem = [] ∧ t.cores = [] ∧ t.dies = [] ∧
      t.mgmtLog = (s.logMgmt 3 8 0 0 0).mgmtLog)) ∧
  (∀ (s : State) (job : Nat),
    let j := s.job job
    (∀ tenant ctx packages, 1 ≤ job → job < 1024 → tenant < 1024 → ctx < 4096 → s.jobKnown job = false → s.jobs.all (fun x => x.2.ctx != ctx) = true →
      exec (.jobRegister job tenant ctx packages) s = .next (s.onJob job fun j =>
        { j with tenant := tenant, ctx := ctx, packages := packages, committed := some (s.ctxEpoch 0 ctx) })) ∧
    (∀ tenant ctx packages, 1 ≤ job → job < 1024 → tenant < 1024 → ctx < 4096 →
      s.jobKnown job = true ∨ s.jobs.any (fun x => x.2.ctx == ctx) = true → exec (.jobRegister job tenant ctx packages) s = .next s) ∧
    (s.jobKnown job = true → s.jobSlots job = [] → exec (.jobDeregister job) s = .next (({ s with jobs := tdel s.jobs job } : State).dropMarkers job)) ∧
    (∀ d, d < 21 → j.phase = .saving → j.asked.contains d = false →
      exec (.snapshotRequestReceipt d job) s = .next (s.onJob job fun j => { j with
        asked := j.asked ++ [d], received := if d < 16 then tput j.received d (s.die d).cyc else j.received })) ∧
    (∀ d, d < 21 → j.phase = .saving → j.asked.contains d = true → j.armed.contains d = false →
      (s.jobSeats job).all (fun x => dieOf x.1 != d) = true → s.jobInject job = false → s.deliveriesDone d job = true →
      ∃ t, exec (.snapshotSaved d job) s = .next t ∧ (t.job job).saved = j.saved ++ [s.savedOf job d] ∧ (t.job job).armed = j.armed ++ [d] ∧
        (t.job job).phase = if snapPlaces.all (fun p => (j.armed ++ [d]).contains p) then .arming else .saving) ∧
    (j.phase = .arming → (∀ p ∈ s.canal.waiting, p.1.type ≠ 7 ∨ p.1.job.toNat ≠ job) → ∃ t, exec (.snapshotResume job) s = .next t ∧ t.mem = s.mem ∧ (t.job job).phase = .running) ∧
    (j.phase = .running → j.abandoned = false → s.logsComplete job = true →
      ∃ t, exec (.snapshotSweepComplete job) s = .next t ∧ (t.job job).phase = .committing) ∧
    (∀ sig, j.phase = .committing → ∃ t, exec (.manifestCommit job sig) s = .next t ∧ (t.job job).phase = .idle ∧
      (t.job job).committed = some j.epoch ∧ (t.job job).manifest = j.manifestBytes sig) ∧
    (∀ e frames, j.committed = some e → job ≠ 0 → j.manifest ≠ [] → s.jobSettled job = true →
      exec (.rollback job false frames) s = .next (s.endJob job) ∧
      ∀ u, s.remapped job e frames = some u →
        (s.lostSound (j.upTo e) = false → exec (.rollback job true frames) s = .next (u.endJob job)) ∧
        (s.lostSound (j.upTo e) = true → ∃ t, exec (.rollback job true frames) s = .next t ∧
          (t.job job).phase = .idle ∧ (t.job job).epoch = e ∧ (t.job job).manifest = j.manifest ∧
          (t.job job).copies = j.copies.filter fun c => c.epoch ≤ e)) ∧
    (∀ ctx xs old f, s.isFresh ctx xs old f = true → ∀ b, pageHas old b = true → (s.remapPage ctx xs old f).retired.contains b = true)) ∧
  (∀ (s : State) (addr : Nat), offsetOf addr < (homeOf addr).size →
    (s.poisoned [addr] = false → exec (.uncorrectableRead addr true none) s = .next (s.logMemory 2 addr)) ∧
    (∃ t, exec (.uncorrectableRead addr false none) s = .next t ∧ t.mem = s.mem ∧ (encrypted addr = true → t.poisoned [addr] = true) ∧
      ∀ c, sramCore addr = some c → (t.core c).mapOut = true))

/-- A trap is taken and returned from. A trap of a cause of the user class, with TVEC enabled and no user trap in progress, enters
user code: TPC, TCAUSE with its user bit, TVAL and the latch bank frame are saved, UIP is set, and the PC is TVEC's address in the
same mode. Any other trap enters the die firmware in supervisor mode with SIP set and PMODE the old mode; a user cause within a
user trap arrives as cause 40 with the cause as TVAL, and what the user trap saved is kept. A trap that needs a third level ends
the task FAILED. While a load or an atomic of the seat still travels the trap waits for it. What is due has landed first. The
pending transfer is recorded in TSTAT, results of the seat leave the pipelines, and no register of the task, no byte of memory and
nothing of another seat changes. A return goes to TPC, restores mode, pending transfer and frame, and clears SIP, or UIP where no
supervisor trap is in progress. (The firmware vector is an uninterpreted constant of the model: its log entry says so.) -/
def Obligations.TrapEntryAndReturn : Prop :=
  (∀ (s : State) (c n cause slot : Nat) (tval : Word) (tpc : VA), cause < 64 → slot < 8 →
    let b := s.landDue c (s.core c).idx
    let st := b.seatAt c n
    let t := s.takeTrap c n cause tval slot tpc
    let x := t.seatAt c n
    let user := 32 ≤ cause ∧ cause ≤ 36
    let toUser := user ∧ bitOf st.tvec 63 = true ∧ bitOf st.tstat tstatUIP = false
    let taken : Prop := t.mem = b.mem ∧ t.posted = b.posted ∧ x.pend = none ∧ x.waits = [] ∧ x.trapping = none ∧ x.spin = .clear ∧ x.frame = some ((b.core c).bank n) ∧
      x.tpc = tpc.setWidth 64 ∧ field x.tcause 10 8 = slot ∧
      field x.tstat 59 58 = (match st.pend with
        | some (_, d) => d % 4
        | none => 0) ∧
      (t.core c).flight = (b.core c).flight.filter (fun l => l.seat != n) ∧ x.st = st.st ∧ x.s0 = st.s0 ∧ x.s1 = st.s1 ∧ x.l0 = st.l0 ∧
      x.l1 = st.l1 ∧ x.v = st.v ∧ x.g = st.g ∧ x.preds = st.preds ∧ x.k = st.k ∧ x.b = st.b ∧ x.link = st.link ∧ x.rrb = st.rrb ∧
      x.levels = st.levels ∧ x.vtype = st.vtype ∧ x.lte = st.lte ∧ x.p0 = st.p0 ∧ x.p1 = st.p1 ∧ x.flags = st.flags ∧ x.tvec = st.tvec ∧
      ∀ c' n', (c', n') ≠ (c, n) → t.seatAt c' n' = b.seatAt c' n'
    (b.tripsOf c n ≠ [] → t = b.onSeat c n fun st => { st with trapping := some ⟨cause, tval, slot, tpc⟩ }) ∧
    (b.tripsOf c n = [] → toUser → taken ∧ x.pc = BitVec.ofNat 55 (field st.tvec 54 4 * 16) ∧ x.sup = st.sup ∧ bitOf x.tstat tstatUIP = true ∧
      field x.tcause 7 0 = cause ∧ bitOf x.tcause 63 = true ∧ x.tval = tval) ∧
    (b.tripsOf c n = [] → ¬ toUser → bitOf st.tstat tstatSIP = false → taken ∧ x.pc = Config.firmwareVector ∧ x.sup = true ∧ x.firmware = true ∧
      bitOf x.tstat tstatSIP = true ∧ bitOf x.tstat tstatPMODE = st.sup ∧
      (bitOf st.tstat tstatUIP = true → x.userFrame = some ⟨st.frame, st.tpc, st.tcause, st.tval, st.tstat⟩) ∧
      (user → bitOf st.tstat tstatUIP = true → field x.tcause 7 0 = 40 ∧ bitOf x.tcause 63 = false ∧ x.tval = BitVec.ofNat 64 cause) ∧
      (user → bitOf st.tstat tstatUIP = false → field x.tcause 7 0 = cause ∧ bitOf x.tcause 63 = true ∧ x.tval = tval) ∧
      (¬ user → field x.tcause 7 0 = cause ∧ bitOf x.tcause 63 = false ∧ x.tval = tval)) ∧
    (b.tripsOf c n = [] → ¬ toUser → bitOf st.tstat tstatSIP = true →
      t = if user ∧ bitOf st.tstat tstatUIP = true then b.failTask c n (causeWord false 40 slot) (BitVec.ofNat 64 cause)
        else b.failTask c n (causeWord (decide user) cause slot) tval)) ∧
  (∀ st : Seat,
    let x := st.returned
    x.pc = st.tpc.setWidth 55 ∧ x.spin = .clear ∧ x.drained = some (st.frame.getD ⟨[], .zero, false, none⟩) ∧ x.s0 = st.s0 ∧ x.v = st.v ∧ x.lte = st.lte ∧
    x.pend = (if field st.tstat 59 58 = 0 then none else some (BitVec.ofNat 55 (field st.tstat 54 4 * 16), field st.tstat 59 58)) ∧
    (bitOf st.tstat tstatSIP = true → x.sup = bitOf st.tstat tstatPMODE ∧ bitOf x.tstat tstatSIP = false ∧ x.firmware = false ∧
      ∀ u, st.userFrame = some u → bitOf st.tstat tstatUIP = true → x.frame = u.frame ∧ x.tpc = u.tpc ∧ x.tcause = u.tcause ∧ x.tval = u.tval) ∧
    (bitOf st.tstat tstatSIP = false → bitOf x.tstat tstatUIP = false ∧ x.frame = none))
end

