-- ==== Sys2Proof/Laws/Table.lean ====
section
/-! SUPPORT. Sparse tables: reading after writing, and the canonical form of memory, which every operation on memory keeps. -/

namespace Sys2Proof.Machine

/-! ### Reading a table after a change; no order of its keys is assumed -/

@[simp] theorem tget_nil (d : α) (k : Nat) : tget d [] k = d := rfl

@[simp] theorem tget_tput_self (d : α) (t : Tab α) (k : Nat) (v : α) : tget d (tput t k v) k = v := by
  induction t with
  | nil => simp [tput, tget]
  | cons p t ih =>
    obtain ⟨j, w⟩ := p
    by_cases h1 : j < k
    · simp [tput, tget, h1, Nat.ne_of_lt h1, ih]
    · by_cases h2 : j = k <;> simp [tput, tget, h1, h2]

theorem tget_tput_other (d : α) (t : Tab α) (k j : Nat) (v : α) (h : j ≠ k) : tget d (tput t k v) j = tget d t j := by
  induction t with
  | nil => simp [tput, tget, Ne.symm h]
  | cons p t ih =>
    obtain ⟨i, w⟩ := p
    by_cases h1 : i < k
    · rw [tput, if_pos h1]
      by_cases h3 : i = j <;> simp [tget, h3, ih]
    · by_cases h2 : i = k
      · subst h2
        simp [tput, tget, Ne.symm h]
      · simp [tput, tget, h1, h2, Ne.symm h]

@[simp] theorem tget_tdel_self (d : α) (t : Tab α) (k : Nat) : tget d (tdel t k) k = d := by
  induction t with
  | nil => rfl
  | cons p t ih =>
    obtain ⟨j, w⟩ := p
    by_cases h : j = k
    · simpa [tdel, h] using ih
    · simpa [tdel, h, tget] using ih

theorem tget_tdel_other (d : α) (t : Tab α) (k j : Nat) (h : j ≠ k) : tget d (tdel t k) j = tget d t j := by
  induction t with
  | nil => rfl
  | cons p t ih =>
    obtain ⟨i, w⟩ := p
    by_cases h1 : i = k
    · subst h1
      simpa [tdel, tget, Ne.symm h] using ih
    · by_cases h2 : i = j
      · simp [tdel, tget, h2, h]
      · simpa [tdel, h1, tget, h2] using ih

@[simp] theorem tget_tset_self [DecidableEq α] (d : α) (t : Tab α) (k : Nat) (v : α) : tget d (tset d t k v) k = v := by
  by_cases h : v = d <;> simp [tset, h]

theorem tget_tset_other [DecidableEq α] (d : α) (t : Tab α) (k j : Nat) (v : α) (h : j ≠ k) : tget d (tset d t k v) j = tget d t j := by
  by_cases e : v = d
  · simp [tset, e, tget_tdel_other d t k j h]
  · simp [tset, e, tget_tput_other d t k j v h]

/-! ### The canonical form of memory -/

@[simp] theorem wf_nil : Memory.wf [] = true := rfl

theorem wf_cons (a : Nat) (b : Byte) (t : List Host.Cell) :
    Memory.wf ((a, b) :: t) = true ↔ b ≠ blank ∧ (∀ p ∈ t, a < p.1) ∧ Memory.wf t = true := by
  simp [Memory.wf, and_assoc]

/-- A part of a canonical memory is canonical. -/
theorem wf_filter (m : List Host.Cell) (f : Host.Cell → Bool) (h : Memory.wf m = true) : Memory.wf (m.filter f) = true := by
  induction m with
  | nil => rfl
  | cons p t ih =>
    obtain ⟨a, b⟩ := p
    obtain ⟨h1, h2, h3⟩ := (wf_cons a b t).1 h
    by_cases hf : f (a, b) = true
    · rw [List.filter_cons_of_pos hf]
      exact (wf_cons a b _).2 ⟨h1, fun q hq => h2 q (List.mem_filter.1 hq).1, ih h3⟩
    · rw [List.filter_cons_of_neg hf]
      exact ih h3

theorem mem_tput (t : Tab α) (k : Nat) (v : α) (p : Nat × α) (h : p ∈ tput t k v) : p = (k, v) ∨ p ∈ t := by
  induction t with
  | nil => simpa [tput] using h
  | cons q t ih =>
    obtain ⟨j, w⟩ := q
    unfold tput at h
    split at h
    · rcases List.mem_cons.1 h with h | h
      · exact .inr (by simp [h])
      · rcases ih h with h | h
        · exact .inl h
        · exact .inr (List.mem_cons_of_mem _ h)
    · split at h
      · rcases List.mem_cons.1 h with h | h
        · exact .inl h
        · exact .inr (List.mem_cons_of_mem _ h)
      · rcases List.mem_cons.1 h with h | h
        · exact .inl h
        · exact .inr h

theorem wf_tput (m : List Host.Cell) (a : Nat) (b : Byte) (hb : b ≠ blank) (h : Memory.wf m = true) : Memory.wf (tput m a b) = true := by
  induction m with
  | nil => simp [tput, wf_cons, hb]
  | cons p t ih =>
    obtain ⟨k, v⟩ := p
    obtain ⟨h1, h2, h3⟩ := (wf_cons k v t).1 h
    unfold tput
    split
    · refine (wf_cons k v _).2 ⟨h1, fun q hq => ?_, ih h3⟩
      rcases mem_tput t a b q hq with e | e
      · simpa [e] using ‹k < a›
      · exact h2 q e
    · split
      · subst k
        exact (wf_cons a b t).2 ⟨hb, h2, h3⟩
      · have hlt : a < k := by omega
        refine (wf_cons a b _).2 ⟨hb, fun q hq => ?_, h⟩
        rcases List.mem_cons.1 hq with e | e
        · simpa [e] using hlt
        · exact Nat.lt_trans hlt (h2 q e)

/-- A byte written keeps the canonical form. -/
theorem memPut_wf (m : List Host.Cell) (a : Nat) (b : Byte) (h : Memory.wf m = true) : Memory.wf (memPut m a b) = true := by
  by_cases e : b = blank
  · simpa [memPut, tset, e, tdel] using wf_filter m _ h
  · simpa [memPut, tset, e] using wf_tput m a b e h

theorem memPuts_wf (bs : List (Nat × Byte)) (m : List Host.Cell) (h : Memory.wf m = true) : Memory.wf (memPuts m bs) = true := by
  induction bs generalizing m with
  | nil => exact h
  | cons p t ih => exact ih _ (memPut_wf m p.1 p.2 h)

@[simp] theorem tget_memPut_self (m : List Host.Cell) (a : Nat) (b : Byte) : tget blank (memPut m a b) a = b := tget_tset_self _ _ _ _

theorem tget_memPut_other (m : List Host.Cell) (a k : Nat) (b : Byte) (h : k ≠ a) : tget blank (memPut m a b) k = tget blank m k :=
  tget_tset_other _ _ _ _ _ h

/-- Bytes written elsewhere leave a byte as it was. -/
theorem tget_memPuts_other (bs : List (Nat × Byte)) (m : List Host.Cell) (k : Nat) (h : ∀ p ∈ bs, p.1 ≠ k) :
    tget blank (memPuts m bs) k = tget blank m k := by
  induction bs generalizing m with
  | nil => rfl
  | cons p t ih =>
    have hk : k ≠ p.1 := Ne.symm (h p (by simp))
    exact (ih _ fun q hq => h q (List.mem_cons_of_mem _ hq)).trans (tget_memPut_other m p.1 k p.2 hk)

end Sys2Proof.Machine
end

