-- ==== Sys2Proof/Laws/State.lean ====
section
/-! SUPPORT. What each update of the state leaves and gives, field by field: every lemma holds by unfolding the update once. -/

namespace Sys2Proof.Machine

/-! ### `onCore` -/

@[simp] theorem State.onCore_dies (s : State) (c : Nat) (f : Core → Core) : (s.onCore c f).dies = s.dies := rfl
@[simp] theorem State.onCore_mem (s : State) (c : Nat) (f : Core → Core) : (s.onCore c f).mem = s.mem := rfl
@[simp] theorem State.onCore_sealed (s : State) (c : Nat) (f : Core → Core) : (s.onCore c f).sealed = s.sealed := rfl
@[simp] theorem State.onCore_poison (s : State) (c : Nat) (f : Core → Core) : (s.onCore c f).poison = s.poison := rfl
@[simp] theorem State.onCore_retired (s : State) (c : Nat) (f : Core → Core) : (s.onCore c f).retired = s.retired := rfl
@[simp] theorem State.onCore_posted (s : State) (c : Nat) (f : Core → Core) : (s.onCore c f).posted = s.posted := rfl
@[simp] theorem State.onCore_nextPost (s : State) (c : Nat) (f : Core → Core) : (s.onCore c f).nextPost = s.nextPost := rfl
@[simp] theorem State.onCore_agenda (s : State) (c : Nat) (f : Core → Core) : (s.onCore c f).agenda = s.agenda := rfl
@[simp] theorem State.onCore_cx (s : State) (c : Nat) (f : Core → Core) : (s.onCore c f).cx = s.cx := rfl
@[simp] theorem State.onCore_mesh (s : State) (c : Nat) (f : Core → Core) : (s.onCore c f).mesh = s.mesh := rfl
@[simp] theorem State.onCore_flume (s : State) (c : Nat) (f : Core → Core) : (s.onCore c f).flume = s.flume := rfl
@[simp] theorem State.onCore_canal (s : State) (c : Nat) (f : Core → Core) : (s.onCore c f).canal = s.canal := rfl
@[simp] theorem State.onCore_wallow (s : State) (c : Nat) (f : Core → Core) : (s.onCore c f).wallow = s.wallow := rfl
@[simp] theorem State.onCore_launches (s : State) (c : Nat) (f : Core → Core) : (s.onCore c f).launches = s.launches := rfl
@[simp] theorem State.onCore_awake (s : State) (c : Nat) (f : Core → Core) : (s.onCore c f).awake = s.awake := rfl
@[simp] theorem State.onCore_lastQueue (s : State) (c : Nat) (f : Core → Core) : (s.onCore c f).lastQueue = s.lastQueue := rfl
@[simp] theorem State.onCore_polled (s : State) (c : Nat) (f : Core → Core) : (s.onCore c f).polled = s.polled := rfl
@[simp] theorem State.onCore_taskKeys (s : State) (c : Nat) (f : Core → Core) : (s.onCore c f).taskKeys = s.taskKeys := rfl
@[simp] theorem State.onCore_inserting (s : State) (c : Nat) (f : Core → Core) : (s.onCore c f).inserting = s.inserting := rfl
@[simp] theorem State.onCore_hitting (s : State) (c : Nat) (f : Core → Core) : (s.onCore c f).hitting = s.hitting := rfl
@[simp] theorem State.onCore_jobs (s : State) (c : Nat) (f : Core → Core) : (s.onCore c f).jobs = s.jobs := rfl
@[simp] theorem State.onCore_savedTasks (s : State) (c : Nat) (f : Core → Core) : (s.onCore c f).savedTasks = s.savedTasks := rfl
@[simp] theorem State.onCore_spawned (s : State) (c : Nat) (f : Core → Core) : (s.onCore c f).spawned = s.spawned := rfl
@[simp] theorem State.onCore_keys (s : State) (c : Nat) (f : Core → Core) : (s.onCore c f).keys = s.keys := rfl
@[simp] theorem State.onCore_hostSide (s : State) (c : Nat) (f : Core → Core) : (s.onCore c f).hostSide = s.hostSide := rfl
@[simp] theorem State.onCore_mgmtLog (s : State) (c : Nat) (f : Core → Core) : (s.onCore c f).mgmtLog = s.mgmtLog := rfl
@[simp] theorem State.onCore_iocTags (s : State) (c : Nat) (f : Core → Core) : (s.onCore c f).iocTags = s.iocTags := rfl
@[simp] theorem State.onCore_dom (s : State) (c : Nat) (f : Core → Core) : (s.onCore c f).dom = s.dom := rfl
@[simp] theorem State.onCore_prow (s : State) (c : Nat) (f : Core → Core) : (s.onCore c f).prow = s.prow := rfl
@[simp] theorem State.onCore_pcol (s : State) (c : Nat) (f : Core → Core) : (s.onCore c f).pcol = s.pcol := rfl

/-! ### `onDie` -/

@[simp] theorem State.onDie_cores (s : State) (d : Nat) (f : Die → Die) : (s.onDie d f).cores = s.cores := rfl
@[simp] theorem State.onDie_mem (s : State) (d : Nat) (f : Die → Die) : (s.onDie d f).mem = s.mem := rfl
@[simp] theorem State.onDie_sealed (s : State) (d : Nat) (f : Die → Die) : (s.onDie d f).sealed = s.sealed := rfl
@[simp] theorem State.onDie_poison (s : State) (d : Nat) (f : Die → Die) : (s.onDie d f).poison = s.poison := rfl
@[simp] theorem State.onDie_retired (s : State) (d : Nat) (f : Die → Die) : (s.onDie d f).retired = s.retired := rfl
@[simp] theorem State.onDie_posted (s : State) (d : Nat) (f : Die → Die) : (s.onDie d f).posted = s.posted := rfl
@[simp] theorem State.onDie_nextPost (s : State) (d : Nat) (f : Die → Die) : (s.onDie d f).nextPost = s.nextPost := rfl
@[simp] theorem State.onDie_agenda (s : State) (d : Nat) (f : Die → Die) : (s.onDie d f).agenda = s.agenda := rfl
@[simp] theorem State.onDie_cx (s : State) (d : Nat) (f : Die → Die) : (s.onDie d f).cx = s.cx := rfl
@[simp] theorem State.onDie_mesh (s : State) (d : Nat) (f : Die → Die) : (s.onDie d f).mesh = s.mesh := rfl
@[simp] theorem State.onDie_flume (s : State) (d : Nat) (f : Die → Die) : (s.onDie d f).flume = s.flume := rfl
@[simp] theorem State.onDie_canal (s : State) (d : Nat) (f : Die → Die) : (s.onDie d f).canal = s.canal := rfl
@[simp] theorem State.onDie_wallow (s : State) (d : Nat) (f : Die → Die) : (s.onDie d f).wallow = s.wallow := rfl
@[simp] theorem State.onDie_launches (s : State) (d : Nat) (f : Die → Die) : (s.onDie d f).launches = s.launches := rfl
@[simp] theorem State.onDie_awake (s : State) (d : Nat) (f : Die → Die) : (s.onDie d f).awake = s.awake := rfl
@[simp] theorem State.onDie_lastQueue (s : State) (d : Nat) (f : Die → Die) : (s.onDie d f).lastQueue = s.lastQueue := rfl
@[simp] theorem State.onDie_polled (s : State) (d : Nat) (f : Die → Die) : (s.onDie d f).polled = s.polled := rfl
@[simp] theorem State.onDie_taskKeys (s : State) (d : Nat) (f : Die → Die) : (s.onDie d f).taskKeys = s.taskKeys := rfl
@[simp] theorem State.onDie_inserting (s : State) (d : Nat) (f : Die → Die) : (s.onDie d f).inserting = s.inserting := rfl
@[simp] theorem State.onDie_hitting (s : State) (d : Nat) (f : Die → Die) : (s.onDie d f).hitting = s.hitting := rfl
@[simp] theorem State.onDie_jobs (s : State) (d : Nat) (f : Die → Die) : (s.onDie d f).jobs = s.jobs := rfl
@[simp] theorem State.onDie_savedTasks (s : State) (d : Nat) (f : Die → Die) : (s.onDie d f).savedTasks = s.savedTasks := rfl
@[simp] theorem State.onDie_spawned (s : State) (d : Nat) (f : Die → Die) : (s.onDie d f).spawned = s.spawned := rfl
@[simp] theorem State.onDie_keys (s : State) (d : Nat) (f : Die → Die) : (s.onDie d f).keys = s.keys := rfl
@[simp] theorem State.onDie_hostSide (s : State) (d : Nat) (f : Die → Die) : (s.onDie d f).hostSide = s.hostSide := rfl
@[simp] theorem State.onDie_mgmtLog (s : State) (d : Nat) (f : Die → Die) : (s.onDie d f).mgmtLog = s.mgmtLog := rfl
@[simp] theorem State.onDie_iocTags (s : State) (d : Nat) (f : Die → Die) : (s.onDie d f).iocTags = s.iocTags := rfl
@[simp] theorem State.onDie_dom (s : State) (d : Nat) (f : Die → Die) : (s.onDie d f).dom = s.dom := rfl
@[simp] theorem State.onDie_prow (s : State) (d : Nat) (f : Die → Die) : (s.onDie d f).prow = s.prow := rfl
@[simp] theorem State.onDie_pcol (s : State) (d : Nat) (f : Die → Die) : (s.onDie d f).pcol = s.pcol := rfl

/-! ### `onSeat` -/

@[simp] theorem State.onSeat_dies (s : State) (c n : Nat) (f : Seat → Seat) : (s.onSeat c n f).dies = s.dies := rfl
@[simp] theorem State.onSeat_mem (s : State) (c n : Nat) (f : Seat → Seat) : (s.onSeat c n f).mem = s.mem := rfl
@[simp] theorem State.onSeat_sealed (s : State) (c n : Nat) (f : Seat → Seat) : (s.onSeat c n f).sealed = s.sealed := rfl
@[simp] theorem State.onSeat_poison (s : State) (c n : Nat) (f : Seat → Seat) : (s.onSeat c n f).poison = s.poison := rfl
@[simp] theorem State.onSeat_retired (s : State) (c n : Nat) (f : Seat → Seat) : (s.onSeat c n f).retired = s.retired := rfl
@[simp] theorem State.onSeat_posted (s : State) (c n : Nat) (f : Seat → Seat) : (s.onSeat c n f).posted = s.posted := rfl
@[simp] theorem State.onSeat_nextPost (s : State) (c n : Nat) (f : Seat → Seat) : (s.onSeat c n f).nextPost = s.nextPost := rfl
@[simp] theorem State.onSeat_agenda (s : State) (c n : Nat) (f : Seat → Seat) : (s.onSeat c n f).agenda = s.agenda := rfl
@[simp] theorem State.onSeat_cx (s : State) (c n : Nat) (f : Seat → Seat) : (s.onSeat c n f).cx = s.cx := rfl
@[simp] theorem State.onSeat_mesh (s : State) (c n : Nat) (f : Seat → Seat) : (s.onSeat c n f).mesh = s.mesh := rfl
@[simp] theorem State.onSeat_flume (s : State) (c n : Nat) (f : Seat → Seat) : (s.onSeat c n f).flume = s.flume := rfl
@[simp] theorem State.onSeat_canal (s : State) (c n : Nat) (f : Seat → Seat) : (s.onSeat c n f).canal = s.canal := rfl
@[simp] theorem State.onSeat_wallow (s : State) (c n : Nat) (f : Seat → Seat) : (s.onSeat c n f).wallow = s.wallow := rfl
@[simp] theorem State.onSeat_launches (s : State) (c n : Nat) (f : Seat → Seat) : (s.onSeat c n f).launches = s.launches := rfl
@[simp] theorem State.onSeat_awake (s : State) (c n : Nat) (f : Seat → Seat) : (s.onSeat c n f).awake = s.awake := rfl
@[simp] theorem State.onSeat_lastQueue (s : State) (c n : Nat) (f : Seat → Seat) : (s.onSeat c n f).lastQueue = s.lastQueue := rfl
@[simp] theorem State.onSeat_polled (s : State) (c n : Nat) (f : Seat → Seat) : (s.onSeat c n f).polled = s.polled := rfl
@[simp] theorem State.onSeat_taskKeys (s : State) (c n : Nat) (f : Seat → Seat) : (s.onSeat c n f).taskKeys = s.taskKeys := rfl
@[simp] theorem State.onSeat_inserting (s : State) (c n : Nat) (f : Seat → Seat) : (s.onSeat c n f).inserting = s.inserting := rfl
@[simp] theorem State.onSeat_hitting (s : State) (c n : Nat) (f : Seat → Seat) : (s.onSeat c n f).hitting = s.hitting := rfl
@[simp] theorem State.onSeat_jobs (s : State) (c n : Nat) (f : Seat → Seat) : (s.onSeat c n f).jobs = s.jobs := rfl
@[simp] theorem State.onSeat_savedTasks (s : State) (c n : Nat) (f : Seat → Seat) : (s.onSeat c n f).savedTasks = s.savedTasks := rfl
@[simp] theorem State.onSeat_spawned (s : State) (c n : Nat) (f : Seat → Seat) : (s.onSeat c n f).spawned = s.spawned := rfl
@[simp] theorem State.onSeat_keys (s : State) (c n : Nat) (f : Seat → Seat) : (s.onSeat c n f).keys = s.keys := rfl
@[simp] theorem State.onSeat_hostSide (s : State) (c n : Nat) (f : Seat → Seat) : (s.onSeat c n f).hostSide = s.hostSide := rfl
@[simp] theorem State.onSeat_mgmtLog (s : State) (c n : Nat) (f : Seat → Seat) : (s.onSeat c n f).mgmtLog = s.mgmtLog := rfl
@[simp] theorem State.onSeat_iocTags (s : State) (c n : Nat) (f : Seat → Seat) : (s.onSeat c n f).iocTags = s.iocTags := rfl
@[simp] theorem State.onSeat_dom (s : State) (c n : Nat) (f : Seat → Seat) : (s.onSeat c n f).dom = s.dom := rfl
@[simp] theorem State.onSeat_prow (s : State) (c n : Nat) (f : Seat → Seat) : (s.onSeat c n f).prow = s.prow := rfl
@[simp] theorem State.onSeat_pcol (s : State) (c n : Nat) (f : Seat → Seat) : (s.onSeat c n f).pcol = s.pcol := rfl

/-! ### `onMe` -/

@[simp] theorem State.onMe_dies (s : State) (f : Seat → Seat) : (s.onMe f).dies = s.dies := rfl
@[simp] theorem State.onMe_mem (s : State) (f : Seat → Seat) : (s.onMe f).mem = s.mem := rfl
@[simp] theorem State.onMe_sealed (s : State) (f : Seat → Seat) : (s.onMe f).sealed = s.sealed := rfl
@[simp] theorem State.onMe_poison (s : State) (f : Seat → Seat) : (s.onMe f).poison = s.poison := rfl
@[simp] theorem State.onMe_retired (s : State) (f : Seat → Seat) : (s.onMe f).retired = s.retired := rfl
@[simp] theorem State.onMe_posted (s : State) (f : Seat → Seat) : (s.onMe f).posted = s.posted := rfl
@[simp] theorem State.onMe_nextPost (s : State) (f : Seat → Seat) : (s.onMe f).nextPost = s.nextPost := rfl
@[simp] theorem State.onMe_agenda (s : State) (f : Seat → Seat) : (s.onMe f).agenda = s.agenda := rfl
@[simp] theorem State.onMe_cx (s : State) (f : Seat → Seat) : (s.onMe f).cx = s.cx := rfl
@[simp] theorem State.onMe_mesh (s : State) (f : Seat → Seat) : (s.onMe f).mesh = s.mesh := rfl
@[simp] theorem State.onMe_flume (s : State) (f : Seat → Seat) : (s.onMe f).flume = s.flume := rfl
@[simp] theorem State.onMe_canal (s : State) (f : Seat → Seat) : (s.onMe f).canal = s.canal := rfl
@[simp] theorem State.onMe_wallow (s : State) (f : Seat → Seat) : (s.onMe f).wallow = s.wallow := rfl
@[simp] theorem State.onMe_launches (s : State) (f : Seat → Seat) : (s.onMe f).launches = s.launches := rfl
@[simp] theorem State.onMe_awake (s : State) (f : Seat → Seat) : (s.onMe f).awake = s.awake := rfl
@[simp] theorem State.onMe_lastQueue (s : State) (f : Seat → Seat) : (s.onMe f).lastQueue = s.lastQueue := rfl
@[simp] theorem State.onMe_polled (s : State) (f : Seat → Seat) : (s.onMe f).polled = s.polled := rfl
@[simp] theorem State.onMe_taskKeys (s : State) (f : Seat → Seat) : (s.onMe f).taskKeys = s.taskKeys := rfl
@[simp] theorem State.onMe_inserting (s : State) (f : Seat → Seat) : (s.onMe f).inserting = s.inserting := rfl
@[simp] theorem State.onMe_hitting (s : State) (f : Seat → Seat) : (s.onMe f).hitting = s.hitting := rfl
@[simp] theorem State.onMe_jobs (s : State) (f : Seat → Seat) : (s.onMe f).jobs = s.jobs := rfl
@[simp] theorem State.onMe_savedTasks (s : State) (f : Seat → Seat) : (s.onMe f).savedTasks = s.savedTasks := rfl
@[simp] theorem State.onMe_spawned (s : State) (f : Seat → Seat) : (s.onMe f).spawned = s.spawned := rfl
@[simp] theorem State.onMe_keys (s : State) (f : Seat → Seat) : (s.onMe f).keys = s.keys := rfl
@[simp] theorem State.onMe_hostSide (s : State) (f : Seat → Seat) : (s.onMe f).hostSide = s.hostSide := rfl
@[simp] theorem State.onMe_mgmtLog (s : State) (f : Seat → Seat) : (s.onMe f).mgmtLog = s.mgmtLog := rfl
@[simp] theorem State.onMe_iocTags (s : State) (f : Seat → Seat) : (s.onMe f).iocTags = s.iocTags := rfl
@[simp] theorem State.onMe_dom (s : State) (f : Seat → Seat) : (s.onMe f).dom = s.dom := rfl
@[simp] theorem State.onMe_prow (s : State) (f : Seat → Seat) : (s.onMe f).prow = s.prow := rfl
@[simp] theorem State.onMe_pcol (s : State) (f : Seat → Seat) : (s.onMe f).pcol = s.pcol := rfl

/-! ### `logAt` -/

@[simp] theorem State.logAt_cores (s : State) (d cls unit info loc tenant coord : Nat) : (s.logAt d cls unit info loc tenant coord).cores = s.cores := rfl
@[simp] theorem State.logAt_mem (s : State) (d cls unit info loc tenant coord : Nat) : (s.logAt d cls unit info loc tenant coord).mem = s.mem := rfl
@[simp] theorem State.logAt_sealed (s : State) (d cls unit info loc tenant coord : Nat) : (s.logAt d cls unit info loc tenant coord).sealed = s.sealed := rfl
@[simp] theorem State.logAt_poison (s : State) (d cls unit info loc tenant coord : Nat) : (s.logAt d cls unit info loc tenant coord).poison = s.poison := rfl
@[simp] theorem State.logAt_retired (s : State) (d cls unit info loc tenant coord : Nat) : (s.logAt d cls unit info loc tenant coord).retired = s.retired := rfl
@[simp] theorem State.logAt_posted (s : State) (d cls unit info loc tenant coord : Nat) : (s.logAt d cls unit info loc tenant coord).posted = s.posted := rfl
@[simp] theorem State.logAt_nextPost (s : State) (d cls unit info loc tenant coord : Nat) : (s.logAt d cls unit info loc tenant coord).nextPost = s.nextPost := rfl
@[simp] theorem State.logAt_agenda (s : State) (d cls unit info loc tenant coord : Nat) : (s.logAt d cls unit info loc tenant coord).agenda = s.agenda := rfl
@[simp] theorem State.logAt_cx (s : State) (d cls unit info loc tenant coord : Nat) : (s.logAt d cls unit info loc tenant coord).cx = s.cx := rfl
@[simp] theorem State.logAt_mesh (s : State) (d cls unit info loc tenant coord : Nat) : (s.logAt d cls unit info loc tenant coord).mesh = s.mesh := rfl
@[simp] theorem State.logAt_flume (s : State) (d cls unit info loc tenant coord : Nat) : (s.logAt d cls unit info loc tenant coord).flume = s.flume := rfl
@[simp] theorem State.logAt_canal (s : State) (d cls unit info loc tenant coord : Nat) : (s.logAt d cls unit info loc tenant coord).canal = s.canal := rfl
@[simp] theorem State.logAt_wallow (s : State) (d cls unit info loc tenant coord : Nat) : (s.logAt d cls unit info loc tenant coord).wallow = s.wallow := rfl
@[simp] theorem State.logAt_launches (s : State) (d cls unit info loc tenant coord : Nat) : (s.logAt d cls unit info loc tenant coord).launches = s.launches := rfl
@[simp] theorem State.logAt_awake (s : State) (d cls unit info loc tenant coord : Nat) : (s.logAt d cls unit info loc tenant coord).awake = s.awake := rfl
@[simp] theorem State.logAt_lastQueue (s : State) (d cls unit info loc tenant coord : Nat) : (s.logAt d cls unit info loc tenant coord).lastQueue = s.lastQueue := rfl
@[simp] theorem State.logAt_polled (s : State) (d cls unit info loc tenant coord : Nat) : (s.logAt d cls unit info loc tenant coord).polled = s.polled := rfl
@[simp] theorem State.logAt_taskKeys (s : State) (d cls unit info loc tenant coord : Nat) : (s.logAt d cls unit info loc tenant coord).taskKeys = s.taskKeys := rfl
@[simp] theorem State.logAt_inserting (s : State) (d cls unit info loc tenant coord : Nat) : (s.logAt d cls unit info loc tenant coord).inserting = s.inserting := rfl
@[simp] theorem State.logAt_hitting (s : State) (d cls unit info loc tenant coord : Nat) : (s.logAt d cls unit info loc tenant coord).hitting = s.hitting := rfl
@[simp] theorem State.logAt_jobs (s : State) (d cls unit info loc tenant coord : Nat) : (s.logAt d cls unit info loc tenant coord).jobs = s.jobs := rfl
@[simp] theorem State.logAt_savedTasks (s : State) (d cls unit info loc tenant coord : Nat) : (s.logAt d cls unit info loc tenant coord).savedTasks = s.savedTasks := rfl
@[simp] theorem State.logAt_spawned (s : State) (d cls unit info loc tenant coord : Nat) : (s.logAt d cls unit info loc tenant coord).spawned = s.spawned := rfl
@[simp] theorem State.logAt_keys (s : State) (d cls unit info loc tenant coord : Nat) : (s.logAt d cls unit info loc tenant coord).keys = s.keys := rfl
@[simp] theorem State.logAt_hostSide (s : State) (d cls unit info loc tenant coord : Nat) : (s.logAt d cls unit info loc tenant coord).hostSide = s.hostSide := rfl
@[simp] theorem State.logAt_mgmtLog (s : State) (d cls unit info loc tenant coord : Nat) : (s.logAt d cls unit info loc tenant coord).mgmtLog = s.mgmtLog := rfl
@[simp] theorem State.logAt_iocTags (s : State) (d cls unit info loc tenant coord : Nat) : (s.logAt d cls unit info loc tenant coord).iocTags = s.iocTags := rfl
@[simp] theorem State.logAt_dom (s : State) (d cls unit info loc tenant coord : Nat) : (s.logAt d cls unit info loc tenant coord).dom = s.dom := rfl
@[simp] theorem State.logAt_prow (s : State) (d cls unit info loc tenant coord : Nat) : (s.logAt d cls unit info loc tenant coord).prow = s.prow := rfl
@[simp] theorem State.logAt_pcol (s : State) (d cls unit info loc tenant coord : Nat) : (s.logAt d cls unit info loc tenant coord).pcol = s.pcol := rfl

/-! ### `store` -/

@[simp] theorem State.store_cores (s : State) (bs : List (Nat × Byte)) : (s.store bs).cores = s.cores := rfl
@[simp] theorem State.store_dies (s : State) (bs : List (Nat × Byte)) : (s.store bs).dies = s.dies := rfl
@[simp] theorem State.store_sealed (s : State) (bs : List (Nat × Byte)) : (s.store bs).sealed = s.sealed := rfl
@[simp] theorem State.store_poison (s : State) (bs : List (Nat × Byte)) : (s.store bs).poison = s.poison := rfl
@[simp] theorem State.store_retired (s : State) (bs : List (Nat × Byte)) : (s.store bs).retired = s.retired := rfl
@[simp] theorem State.store_posted (s : State) (bs : List (Nat × Byte)) : (s.store bs).posted = s.posted := rfl
@[simp] theorem State.store_nextPost (s : State) (bs : List (Nat × Byte)) : (s.store bs).nextPost = s.nextPost := rfl
@[simp] theorem State.store_agenda (s : State) (bs : List (Nat × Byte)) : (s.store bs).agenda = s.agenda := rfl
@[simp] theorem State.store_cx (s : State) (bs : List (Nat × Byte)) : (s.store bs).cx = s.cx := rfl
@[simp] theorem State.store_mesh (s : State) (bs : List (Nat × Byte)) : (s.store bs).mesh = s.mesh := rfl
@[simp] theorem State.store_flume (s : State) (bs : List (Nat × Byte)) : (s.store bs).flume = s.flume := rfl
@[simp] theorem State.store_canal (s : State) (bs : List (Nat × Byte)) : (s.store bs).canal = s.canal := rfl
@[simp] theorem State.store_wallow (s : State) (bs : List (Nat × Byte)) : (s.store bs).wallow = s.wallow := rfl
@[simp] theorem State.store_launches (s : State) (bs : List (Nat × Byte)) : (s.store bs).launches = s.launches := rfl
@[simp] theorem State.store_awake (s : State) (bs : List (Nat × Byte)) : (s.store bs).awake = s.awake := rfl
@[simp] theorem State.store_lastQueue (s : State) (bs : List (Nat × Byte)) : (s.store bs).lastQueue = s.lastQueue := rfl
@[simp] theorem State.store_polled (s : State) (bs : List (Nat × Byte)) : (s.store bs).polled = s.polled := rfl
@[simp] theorem State.store_taskKeys (s : State) (bs : List (Nat × Byte)) : (s.store bs).taskKeys = s.taskKeys := rfl
@[simp] theorem State.store_inserting (s : State) (bs : List (Nat × Byte)) : (s.store bs).inserting = s.inserting := rfl
@[simp] theorem State.store_hitting (s : State) (bs : List (Nat × Byte)) : (s.store bs).hitting = s.hitting := rfl
@[simp] theorem State.store_jobs (s : State) (bs : List (Nat × Byte)) : (s.store bs).jobs = s.jobs := rfl
@[simp] theorem State.store_savedTasks (s : State) (bs : List (Nat × Byte)) : (s.store bs).savedTasks = s.savedTasks := rfl
@[simp] theorem State.store_spawned (s : State) (bs : List (Nat × Byte)) : (s.store bs).spawned = s.spawned := rfl
@[simp] theorem State.store_keys (s : State) (bs : List (Nat × Byte)) : (s.store bs).keys = s.keys := rfl
@[simp] theorem State.store_hostSide (s : State) (bs : List (Nat × Byte)) : (s.store bs).hostSide = s.hostSide := rfl
@[simp] theorem State.store_mgmtLog (s : State) (bs : List (Nat × Byte)) : (s.store bs).mgmtLog = s.mgmtLog := rfl
@[simp] theorem State.store_iocTags (s : State) (bs : List (Nat × Byte)) : (s.store bs).iocTags = s.iocTags := rfl
@[simp] theorem State.store_dom (s : State) (bs : List (Nat × Byte)) : (s.store bs).dom = s.dom := rfl
@[simp] theorem State.store_prow (s : State) (bs : List (Nat × Byte)) : (s.store bs).prow = s.prow := rfl
@[simp] theorem State.store_pcol (s : State) (bs : List (Nat × Byte)) : (s.store bs).pcol = s.pcol := rfl

/-! ### `post` -/

@[simp] theorem State.post_cores (s : State) (p : Posted) : (s.post p).cores = s.cores := rfl
@[simp] theorem State.post_dies (s : State) (p : Posted) : (s.post p).dies = s.dies := rfl
@[simp] theorem State.post_mem (s : State) (p : Posted) : (s.post p).mem = s.mem := rfl
@[simp] theorem State.post_sealed (s : State) (p : Posted) : (s.post p).sealed = s.sealed := rfl
@[simp] theorem State.post_poison (s : State) (p : Posted) : (s.post p).poison = s.poison := rfl
@[simp] theorem State.post_retired (s : State) (p : Posted) : (s.post p).retired = s.retired := rfl
@[simp] theorem State.post_agenda (s : State) (p : Posted) : (s.post p).agenda = s.agenda := rfl
@[simp] theorem State.post_cx (s : State) (p : Posted) : (s.post p).cx = s.cx := rfl
@[simp] theorem State.post_mesh (s : State) (p : Posted) : (s.post p).mesh = s.mesh := rfl
@[simp] theorem State.post_flume (s : State) (p : Posted) : (s.post p).flume = s.flume := rfl
@[simp] theorem State.post_canal (s : State) (p : Posted) : (s.post p).canal = s.canal := rfl
@[simp] theorem State.post_wallow (s : State) (p : Posted) : (s.post p).wallow = s.wallow := rfl
@[simp] theorem State.post_launches (s : State) (p : Posted) : (s.post p).launches = s.launches := rfl
@[simp] theorem State.post_awake (s : State) (p : Posted) : (s.post p).awake = s.awake := rfl
@[simp] theorem State.post_lastQueue (s : State) (p : Posted) : (s.post p).lastQueue = s.lastQueue := rfl
@[simp] theorem State.post_polled (s : State) (p : Posted) : (s.post p).polled = s.polled := rfl
@[simp] theorem State.post_taskKeys (s : State) (p : Posted) : (s.post p).taskKeys = s.taskKeys := rfl
@[simp] theorem State.post_inserting (s : State) (p : Posted) : (s.post p).inserting = s.inserting := rfl
@[simp] theorem State.post_hitting (s : State) (p : Posted) : (s.post p).hitting = s.hitting := rfl
@[simp] theorem State.post_jobs (s : State) (p : Posted) : (s.post p).jobs = s.jobs := rfl
@[simp] theorem State.post_savedTasks (s : State) (p : Posted) : (s.post p).savedTasks = s.savedTasks := rfl
@[simp] theorem State.post_spawned (s : State) (p : Posted) : (s.post p).spawned = s.spawned := rfl
@[simp] theorem State.post_keys (s : State) (p : Posted) : (s.post p).keys = s.keys := rfl
@[simp] theorem State.post_hostSide (s : State) (p : Posted) : (s.post p).hostSide = s.hostSide := rfl
@[simp] theorem State.post_mgmtLog (s : State) (p : Posted) : (s.post p).mgmtLog = s.mgmtLog := rfl
@[simp] theorem State.post_iocTags (s : State) (p : Posted) : (s.post p).iocTags = s.iocTags := rfl
@[simp] theorem State.post_dom (s : State) (p : Posted) : (s.post p).dom = s.dom := rfl
@[simp] theorem State.post_prow (s : State) (p : Posted) : (s.post p).prow = s.prow := rfl
@[simp] theorem State.post_pcol (s : State) (p : Posted) : (s.post p).pcol = s.pcol := rfl

/-! ### `unpost` -/

@[simp] theorem State.unpost_cores (s : State) (id : Nat) : (s.unpost id).cores = s.cores := rfl
@[simp] theorem State.unpost_dies (s : State) (id : Nat) : (s.unpost id).dies = s.dies := rfl
@[simp] theorem State.unpost_mem (s : State) (id : Nat) : (s.unpost id).mem = s.mem := rfl
@[simp] theorem State.unpost_sealed (s : State) (id : Nat) : (s.unpost id).sealed = s.sealed := rfl
@[simp] theorem State.unpost_poison (s : State) (id : Nat) : (s.unpost id).poison = s.poison := rfl
@[simp] theorem State.unpost_retired (s : State) (id : Nat) : (s.unpost id).retired = s.retired := rfl
@[simp] theorem State.unpost_nextPost (s : State) (id : Nat) : (s.unpost id).nextPost = s.nextPost := rfl
@[simp] theorem State.unpost_agenda (s : State) (id : Nat) : (s.unpost id).agenda = s.agenda := rfl
@[simp] theorem State.unpost_cx (s : State) (id : Nat) : (s.unpost id).cx = s.cx := rfl
@[simp] theorem State.unpost_mesh (s : State) (id : Nat) : (s.unpost id).mesh = s.mesh := rfl
@[simp] theorem State.unpost_flume (s : State) (id : Nat) : (s.unpost id).flume = s.flume := rfl
@[simp] theorem State.unpost_canal (s : State) (id : Nat) : (s.unpost id).canal = s.canal := rfl
@[simp] theorem State.unpost_wallow (s : State) (id : Nat) : (s.unpost id).wallow = s.wallow := rfl
@[simp] theorem State.unpost_launches (s : State) (id : Nat) : (s.unpost id).launches = s.launches := rfl
@[simp] theorem State.unpost_awake (s : State) (id : Nat) : (s.unpost id).awake = s.awake := rfl
@[simp] theorem State.unpost_lastQueue (s : State) (id : Nat) : (s.unpost id).lastQueue = s.lastQueue := rfl
@[simp] theorem State.unpost_polled (s : State) (id : Nat) : (s.unpost id).polled = s.polled := rfl
@[simp] theorem State.unpost_taskKeys (s : State) (id : Nat) : (s.unpost id).taskKeys = s.taskKeys := rfl
@[simp] theorem State.unpost_inserting (s : State) (id : Nat) : (s.unpost id).inserting = s.inserting := rfl
@[simp] theorem State.unpost_hitting (s : State) (id : Nat) : (s.unpost id).hitting = s.hitting := rfl
@[simp] theorem State.unpost_jobs (s : State) (id : Nat) : (s.unpost id).jobs = s.jobs := rfl
@[simp] theorem State.unpost_savedTasks (s : State) (id : Nat) : (s.unpost id).savedTasks = s.savedTasks := rfl
@[simp] theorem State.unpost_spawned (s : State) (id : Nat) : (s.unpost id).spawned = s.spawned := rfl
@[simp] theorem State.unpost_keys (s : State) (id : Nat) : (s.unpost id).keys = s.keys := rfl
@[simp] theorem State.unpost_hostSide (s : State) (id : Nat) : (s.unpost id).hostSide = s.hostSide := rfl
@[simp] theorem State.unpost_mgmtLog (s : State) (id : Nat) : (s.unpost id).mgmtLog = s.mgmtLog := rfl
@[simp] theorem State.unpost_iocTags (s : State) (id : Nat) : (s.unpost id).iocTags = s.iocTags := rfl
@[simp] theorem State.unpost_dom (s : State) (id : Nat) : (s.unpost id).dom = s.dom := rfl
@[simp] theorem State.unpost_prow (s : State) (id : Nat) : (s.unpost id).prow = s.prow := rfl
@[simp] theorem State.unpost_pcol (s : State) (id : Nat) : (s.unpost id).pcol = s.pcol := rfl

/-! ### `onLaunch` -/

@[simp] theorem State.onLaunch_cores (s : State) (k : Nat) (f : Launch → Launch) : (s.onLaunch k f).cores = s.cores := rfl
@[simp] theorem State.onLaunch_dies (s : State) (k : Nat) (f : Launch → Launch) : (s.onLaunch k f).dies = s.dies := rfl
@[simp] theorem State.onLaunch_mem (s : State) (k : Nat) (f : Launch → Launch) : (s.onLaunch k f).mem = s.mem := rfl
@[simp] theorem State.onLaunch_sealed (s : State) (k : Nat) (f : Launch → Launch) : (s.onLaunch k f).sealed = s.sealed := rfl
@[simp] theorem State.onLaunch_poison (s : State) (k : Nat) (f : Launch → Launch) : (s.onLaunch k f).poison = s.poison := rfl
@[simp] theorem State.onLaunch_retired (s : State) (k : Nat) (f : Launch → Launch) : (s.onLaunch k f).retired = s.retired := rfl
@[simp] theorem State.onLaunch_posted (s : State) (k : Nat) (f : Launch → Launch) : (s.onLaunch k f).posted = s.posted := rfl
@[simp] theorem State.onLaunch_nextPost (s : State) (k : Nat) (f : Launch → Launch) : (s.onLaunch k f).nextPost = s.nextPost := rfl
@[simp] theorem State.onLaunch_agenda (s : State) (k : Nat) (f : Launch → Launch) : (s.onLaunch k f).agenda = s.agenda := rfl
@[simp] theorem State.onLaunch_cx (s : State) (k : Nat) (f : Launch → Launch) : (s.onLaunch k f).cx = s.cx := rfl
@[simp] theorem State.onLaunch_mesh (s : State) (k : Nat) (f : Launch → Launch) : (s.onLaunch k f).mesh = s.mesh := rfl
@[simp] theorem State.onLaunch_flume (s : State) (k : Nat) (f : Launch → Launch) : (s.onLaunch k f).flume = s.flume := rfl
@[simp] theorem State.onLaunch_canal (s : State) (k : Nat) (f : Launch → Launch) : (s.onLaunch k f).canal = s.canal := rfl
@[simp] theorem State.onLaunch_wallow (s : State) (k : Nat) (f : Launch → Launch) : (s.onLaunch k f).wallow = s.wallow := rfl
@[simp] theorem State.onLaunch_awake (s : State) (k : Nat) (f : Launch → Launch) : (s.onLaunch k f).awake = s.awake := rfl
@[simp] theorem State.onLaunch_lastQueue (s : State) (k : Nat) (f : Launch → Launch) : (s.onLaunch k f).lastQueue = s.lastQueue := rfl
@[simp] theorem State.onLaunch_polled (s : State) (k : Nat) (f : Launch → Launch) : (s.onLaunch k f).polled = s.polled := rfl
@[simp] theorem State.onLaunch_taskKeys (s : State) (k : Nat) (f : Launch → Launch) : (s.onLaunch k f).taskKeys = s.taskKeys := rfl
@[simp] theorem State.onLaunch_inserting (s : State) (k : Nat) (f : Launch → Launch) : (s.onLaunch k f).inserting = s.inserting := rfl
@[simp] theorem State.onLaunch_hitting (s : State) (k : Nat) (f : Launch → Launch) : (s.onLaunch k f).hitting = s.hitting := rfl
@[simp] theorem State.onLaunch_jobs (s : State) (k : Nat) (f : Launch → Launch) : (s.onLaunch k f).jobs = s.jobs := rfl
@[simp] theorem State.onLaunch_savedTasks (s : State) (k : Nat) (f : Launch → Launch) : (s.onLaunch k f).savedTasks = s.savedTasks := rfl
@[simp] theorem State.onLaunch_spawned (s : State) (k : Nat) (f : Launch → Launch) : (s.onLaunch k f).spawned = s.spawned := rfl
@[simp] theorem State.onLaunch_keys (s : State) (k : Nat) (f : Launch → Launch) : (s.onLaunch k f).keys = s.keys := rfl
@[simp] theorem State.onLaunch_hostSide (s : State) (k : Nat) (f : Launch → Launch) : (s.onLaunch k f).hostSide = s.hostSide := rfl
@[simp] theorem State.onLaunch_mgmtLog (s : State) (k : Nat) (f : Launch → Launch) : (s.onLaunch k f).mgmtLog = s.mgmtLog := rfl
@[simp] theorem State.onLaunch_iocTags (s : State) (k : Nat) (f : Launch → Launch) : (s.onLaunch k f).iocTags = s.iocTags := rfl
@[simp] theorem State.onLaunch_dom (s : State) (k : Nat) (f : Launch → Launch) : (s.onLaunch k f).dom = s.dom := rfl
@[simp] theorem State.onLaunch_prow (s : State) (k : Nat) (f : Launch → Launch) : (s.onLaunch k f).prow = s.prow := rfl
@[simp] theorem State.onLaunch_pcol (s : State) (k : Nat) (f : Launch → Launch) : (s.onLaunch k f).pcol = s.pcol := rfl

/-! ### `onJob` -/

@[simp] theorem State.onJob_cores (s : State) (j : Nat) (f : Job → Job) : (s.onJob j f).cores = s.cores := rfl
@[simp] theorem State.onJob_dies (s : State) (j : Nat) (f : Job → Job) : (s.onJob j f).dies = s.dies := rfl
@[simp] theorem State.onJob_mem (s : State) (j : Nat) (f : Job → Job) : (s.onJob j f).mem = s.mem := rfl
@[simp] theorem State.onJob_sealed (s : State) (j : Nat) (f : Job → Job) : (s.onJob j f).sealed = s.sealed := rfl
@[simp] theorem State.onJob_poison (s : State) (j : Nat) (f : Job → Job) : (s.onJob j f).poison = s.poison := rfl
@[simp] theorem State.onJob_retired (s : State) (j : Nat) (f : Job → Job) : (s.onJob j f).retired = s.retired := rfl
@[simp] theorem State.onJob_posted (s : State) (j : Nat) (f : Job → Job) : (s.onJob j f).posted = s.posted := rfl
@[simp] theorem State.onJob_nextPost (s : State) (j : Nat) (f : Job → Job) : (s.onJob j f).nextPost = s.nextPost := rfl
@[simp] theorem State.onJob_agenda (s : State) (j : Nat) (f : Job → Job) : (s.onJob j f).agenda = s.agenda := rfl
@[simp] theorem State.onJob_cx (s : State) (j : Nat) (f : Job → Job) : (s.onJob j f).cx = s.cx := rfl
@[simp] theorem State.onJob_mesh (s : State) (j : Nat) (f : Job → Job) : (s.onJob j f).mesh = s.mesh := rfl
@[simp] theorem State.onJob_flume (s : State) (j : Nat) (f : Job → Job) : (s.onJob j f).flume = s.flume := rfl
@[simp] theorem State.onJob_canal (s : State) (j : Nat) (f : Job → Job) : (s.onJob j f).canal = s.canal := rfl
@[simp] theorem State.onJob_wallow (s : State) (j : Nat) (f : Job → Job) : (s.onJob j f).wallow = s.wallow := rfl
@[simp] theorem State.onJob_launches (s : State) (j : Nat) (f : Job → Job) : (s.onJob j f).launches = s.launches := rfl
@[simp] theorem State.onJob_awake (s : State) (j : Nat) (f : Job → Job) : (s.onJob j f).awake = s.awake := rfl
@[simp] theorem State.onJob_lastQueue (s : State) (j : Nat) (f : Job → Job) : (s.onJob j f).lastQueue = s.lastQueue := rfl
@[simp] theorem State.onJob_polled (s : State) (j : Nat) (f : Job → Job) : (s.onJob j f).polled = s.polled := rfl
@[simp] theorem State.onJob_taskKeys (s : State) (j : Nat) (f : Job → Job) : (s.onJob j f).taskKeys = s.taskKeys := rfl
@[simp] theorem State.onJob_inserting (s : State) (j : Nat) (f : Job → Job) : (s.onJob j f).inserting = s.inserting := rfl
@[simp] theorem State.onJob_hitting (s : State) (j : Nat) (f : Job → Job) : (s.onJob j f).hitting = s.hitting := rfl
@[simp] theorem State.onJob_savedTasks (s : State) (j : Nat) (f : Job → Job) : (s.onJob j f).savedTasks = s.savedTasks := rfl
@[simp] theorem State.onJob_spawned (s : State) (j : Nat) (f : Job → Job) : (s.onJob j f).spawned = s.spawned := rfl
@[simp] theorem State.onJob_keys (s : State) (j : Nat) (f : Job → Job) : (s.onJob j f).keys = s.keys := rfl
@[simp] theorem State.onJob_hostSide (s : State) (j : Nat) (f : Job → Job) : (s.onJob j f).hostSide = s.hostSide := rfl
@[simp] theorem State.onJob_mgmtLog (s : State) (j : Nat) (f : Job → Job) : (s.onJob j f).mgmtLog = s.mgmtLog := rfl
@[simp] theorem State.onJob_iocTags (s : State) (j : Nat) (f : Job → Job) : (s.onJob j f).iocTags = s.iocTags := rfl
@[simp] theorem State.onJob_dom (s : State) (j : Nat) (f : Job → Job) : (s.onJob j f).dom = s.dom := rfl
@[simp] theorem State.onJob_prow (s : State) (j : Nat) (f : Job → Job) : (s.onJob j f).prow = s.prow := rfl
@[simp] theorem State.onJob_pcol (s : State) (j : Nat) (f : Job → Job) : (s.onJob j f).pcol = s.pcol := rfl

/-! ### `onCanal` -/

@[simp] theorem State.onCanal_cores (s : State) (f : Canal → Canal) : (s.onCanal f).cores = s.cores := rfl
@[simp] theorem State.onCanal_dies (s : State) (f : Canal → Canal) : (s.onCanal f).dies = s.dies := rfl
@[simp] theorem State.onCanal_mem (s : State) (f : Canal → Canal) : (s.onCanal f).mem = s.mem := rfl
@[simp] theorem State.onCanal_sealed (s : State) (f : Canal → Canal) : (s.onCanal f).sealed = s.sealed := rfl
@[simp] theorem State.onCanal_poison (s : State) (f : Canal → Canal) : (s.onCanal f).poison = s.poison := rfl
@[simp] theorem State.onCanal_retired (s : State) (f : Canal → Canal) : (s.onCanal f).retired = s.retired := rfl
@[simp] theorem State.onCanal_posted (s : State) (f : Canal → Canal) : (s.onCanal f).posted = s.posted := rfl
@[simp] theorem State.onCanal_nextPost (s : State) (f : Canal → Canal) : (s.onCanal f).nextPost = s.nextPost := rfl
@[simp] theorem State.onCanal_agenda (s : State) (f : Canal → Canal) : (s.onCanal f).agenda = s.agenda := rfl
@[simp] theorem State.onCanal_cx (s : State) (f : Canal → Canal) : (s.onCanal f).cx = s.cx := rfl
@[simp] theorem State.onCanal_mesh (s : State) (f : Canal → Canal) : (s.onCanal f).mesh = s.mesh := rfl
@[simp] theorem State.onCanal_flume (s : State) (f : Canal → Canal) : (s.onCanal f).flume = s.flume := rfl
@[simp] theorem State.onCanal_wallow (s : State) (f : Canal → Canal) : (s.onCanal f).wallow = s.wallow := rfl
@[simp] theorem State.onCanal_launches (s : State) (f : Canal → Canal) : (s.onCanal f).launches = s.launches := rfl
@[simp] theorem State.onCanal_awake (s : State) (f : Canal → Canal) : (s.onCanal f).awake = s.awake := rfl
@[simp] theorem State.onCanal_lastQueue (s : State) (f : Canal → Canal) : (s.onCanal f).lastQueue = s.lastQueue := rfl
@[simp] theorem State.onCanal_polled (s : State) (f : Canal → Canal) : (s.onCanal f).polled = s.polled := rfl
@[simp] theorem State.onCanal_taskKeys (s : State) (f : Canal → Canal) : (s.onCanal f).taskKeys = s.taskKeys := rfl
@[simp] theorem State.onCanal_inserting (s : State) (f : Canal → Canal) : (s.onCanal f).inserting = s.inserting := rfl
@[simp] theorem State.onCanal_hitting (s : State) (f : Canal → Canal) : (s.onCanal f).hitting = s.hitting := rfl
@[simp] theorem State.onCanal_jobs (s : State) (f : Canal → Canal) : (s.onCanal f).jobs = s.jobs := rfl
@[simp] theorem State.onCanal_savedTasks (s : State) (f : Canal → Canal) : (s.onCanal f).savedTasks = s.savedTasks := rfl
@[simp] theorem State.onCanal_spawned (s : State) (f : Canal → Canal) : (s.onCanal f).spawned = s.spawned := rfl
@[simp] theorem State.onCanal_keys (s : State) (f : Canal → Canal) : (s.onCanal f).keys = s.keys := rfl
@[simp] theorem State.onCanal_hostSide (s : State) (f : Canal → Canal) : (s.onCanal f).hostSide = s.hostSide := rfl
@[simp] theorem State.onCanal_mgmtLog (s : State) (f : Canal → Canal) : (s.onCanal f).mgmtLog = s.mgmtLog := rfl
@[simp] theorem State.onCanal_iocTags (s : State) (f : Canal → Canal) : (s.onCanal f).iocTags = s.iocTags := rfl
@[simp] theorem State.onCanal_dom (s : State) (f : Canal → Canal) : (s.onCanal f).dom = s.dom := rfl
@[simp] theorem State.onCanal_prow (s : State) (f : Canal → Canal) : (s.onCanal f).prow = s.prow := rfl
@[simp] theorem State.onCanal_pcol (s : State) (f : Canal → Canal) : (s.onCanal f).pcol = s.pcol := rfl

/-! ### `replyHost` -/

@[simp] theorem State.replyHost_cores (s : State) (p : Nat) (r : HostReply) : (s.replyHost p r).cores = s.cores := rfl
@[simp] theorem State.replyHost_dies (s : State) (p : Nat) (r : HostReply) : (s.replyHost p r).dies = s.dies := rfl
@[simp] theorem State.replyHost_mem (s : State) (p : Nat) (r : HostReply) : (s.replyHost p r).mem = s.mem := rfl
@[simp] theorem State.replyHost_sealed (s : State) (p : Nat) (r : HostReply) : (s.replyHost p r).sealed = s.sealed := rfl
@[simp] theorem State.replyHost_poison (s : State) (p : Nat) (r : HostReply) : (s.replyHost p r).poison = s.poison := rfl
@[simp] theorem State.replyHost_retired (s : State) (p : Nat) (r : HostReply) : (s.replyHost p r).retired = s.retired := rfl
@[simp] theorem State.replyHost_posted (s : State) (p : Nat) (r : HostReply) : (s.replyHost p r).posted = s.posted := rfl
@[simp] theorem State.replyHost_nextPost (s : State) (p : Nat) (r : HostReply) : (s.replyHost p r).nextPost = s.nextPost := rfl
@[simp] theorem State.replyHost_agenda (s : State) (p : Nat) (r : HostReply) : (s.replyHost p r).agenda = s.agenda := rfl
@[simp] theorem State.replyHost_cx (s : State) (p : Nat) (r : HostReply) : (s.replyHost p r).cx = s.cx := rfl
@[simp] theorem State.replyHost_mesh (s : State) (p : Nat) (r : HostReply) : (s.replyHost p r).mesh = s.mesh := rfl
@[simp] theorem State.replyHost_flume (s : State) (p : Nat) (r : HostReply) : (s.replyHost p r).flume = s.flume := rfl
@[simp] theorem State.replyHost_canal (s : State) (p : Nat) (r : HostReply) : (s.replyHost p r).canal = s.canal := rfl
@[simp] theorem State.replyHost_wallow (s : State) (p : Nat) (r : HostReply) : (s.replyHost p r).wallow = s.wallow := rfl
@[simp] theorem State.replyHost_launches (s : State) (p : Nat) (r : HostReply) : (s.replyHost p r).launches = s.launches := rfl
@[simp] theorem State.replyHost_awake (s : State) (p : Nat) (r : HostReply) : (s.replyHost p r).awake = s.awake := rfl
@[simp] theorem State.replyHost_lastQueue (s : State) (p : Nat) (r : HostReply) : (s.replyHost p r).lastQueue = s.lastQueue := rfl
@[simp] theorem State.replyHost_polled (s : State) (p : Nat) (r : HostReply) : (s.replyHost p r).polled = s.polled := rfl
@[simp] theorem State.replyHost_taskKeys (s : State) (p : Nat) (r : HostReply) : (s.replyHost p r).taskKeys = s.taskKeys := rfl
@[simp] theorem State.replyHost_inserting (s : State) (p : Nat) (r : HostReply) : (s.replyHost p r).inserting = s.inserting := rfl
@[simp] theorem State.replyHost_hitting (s : State) (p : Nat) (r : HostReply) : (s.replyHost p r).hitting = s.hitting := rfl
@[simp] theorem State.replyHost_jobs (s : State) (p : Nat) (r : HostReply) : (s.replyHost p r).jobs = s.jobs := rfl
@[simp] theorem State.replyHost_savedTasks (s : State) (p : Nat) (r : HostReply) : (s.replyHost p r).savedTasks = s.savedTasks := rfl
@[simp] theorem State.replyHost_spawned (s : State) (p : Nat) (r : HostReply) : (s.replyHost p r).spawned = s.spawned := rfl
@[simp] theorem State.replyHost_keys (s : State) (p : Nat) (r : HostReply) : (s.replyHost p r).keys = s.keys := rfl
@[simp] theorem State.replyHost_mgmtLog (s : State) (p : Nat) (r : HostReply) : (s.replyHost p r).mgmtLog = s.mgmtLog := rfl
@[simp] theorem State.replyHost_iocTags (s : State) (p : Nat) (r : HostReply) : (s.replyHost p r).iocTags = s.iocTags := rfl
@[simp] theorem State.replyHost_dom (s : State) (p : Nat) (r : HostReply) : (s.replyHost p r).dom = s.dom := rfl
@[simp] theorem State.replyHost_prow (s : State) (p : Nat) (r : HostReply) : (s.replyHost p r).prow = s.prow := rfl
@[simp] theorem State.replyHost_pcol (s : State) (p : Nat) (r : HostReply) : (s.replyHost p r).pcol = s.pcol := rfl

/-! ### `fly` -/

@[simp] theorem State.fly_dies (s : State) (u : UnitId) (lat : Nat) (e : Effect) (v : Option Vec) : (s.fly u lat e v).dies = s.dies := rfl
@[simp] theorem State.fly_mem (s : State) (u : UnitId) (lat : Nat) (e : Effect) (v : Option Vec) : (s.fly u lat e v).mem = s.mem := rfl
@[simp] theorem State.fly_sealed (s : State) (u : UnitId) (lat : Nat) (e : Effect) (v : Option Vec) : (s.fly u lat e v).sealed = s.sealed := rfl
@[simp] theorem State.fly_poison (s : State) (u : UnitId) (lat : Nat) (e : Effect) (v : Option Vec) : (s.fly u lat e v).poison = s.poison := rfl
@[simp] theorem State.fly_retired (s : State) (u : UnitId) (lat : Nat) (e : Effect) (v : Option Vec) : (s.fly u lat e v).retired = s.retired := rfl
@[simp] theorem State.fly_posted (s : State) (u : UnitId) (lat : Nat) (e : Effect) (v : Option Vec) : (s.fly u lat e v).posted = s.posted := rfl
@[simp] theorem State.fly_nextPost (s : State) (u : UnitId) (lat : Nat) (e : Effect) (v : Option Vec) : (s.fly u lat e v).nextPost = s.nextPost := rfl
@[simp] theorem State.fly_agenda (s : State) (u : UnitId) (lat : Nat) (e : Effect) (v : Option Vec) : (s.fly u lat e v).agenda = s.agenda := rfl
@[simp] theorem State.fly_cx (s : State) (u : UnitId) (lat : Nat) (e : Effect) (v : Option Vec) : (s.fly u lat e v).cx = s.cx := rfl
@[simp] theorem State.fly_mesh (s : State) (u : UnitId) (lat : Nat) (e : Effect) (v : Option Vec) : (s.fly u lat e v).mesh = s.mesh := rfl
@[simp] theorem State.fly_flume (s : State) (u : UnitId) (lat : Nat) (e : Effect) (v : Option Vec) : (s.fly u lat e v).flume = s.flume := rfl
@[simp] theorem State.fly_canal (s : State) (u : UnitId) (lat : Nat) (e : Effect) (v : Option Vec) : (s.fly u lat e v).canal = s.canal := rfl
@[simp] theorem State.fly_wallow (s : State) (u : UnitId) (lat : Nat) (e : Effect) (v : Option Vec) : (s.fly u lat e v).wallow = s.wallow := rfl
@[simp] theorem State.fly_launches (s : State) (u : UnitId) (lat : Nat) (e : Effect) (v : Option Vec) : (s.fly u lat e v).launches = s.launches := rfl
@[simp] theorem State.fly_awake (s : State) (u : UnitId) (lat : Nat) (e : Effect) (v : Option Vec) : (s.fly u lat e v).awake = s.awake := rfl
@[simp] theorem State.fly_lastQueue (s : State) (u : UnitId) (lat : Nat) (e : Effect) (v : Option Vec) : (s.fly u lat e v).lastQueue = s.lastQueue := rfl
@[simp] theorem State.fly_polled (s : State) (u : UnitId) (lat : Nat) (e : Effect) (v : Option Vec) : (s.fly u lat e v).polled = s.polled := rfl
@[simp] theorem State.fly_taskKeys (s : State) (u : UnitId) (lat : Nat) (e : Effect) (v : Option Vec) : (s.fly u lat e v).taskKeys = s.taskKeys := rfl
@[simp] theorem State.fly_inserting (s : State) (u : UnitId) (lat : Nat) (e : Effect) (v : Option Vec) : (s.fly u lat e v).inserting = s.inserting := rfl
@[simp] theorem State.fly_hitting (s : State) (u : UnitId) (lat : Nat) (e : Effect) (v : Option Vec) : (s.fly u lat e v).hitting = s.hitting := rfl
@[simp] theorem State.fly_jobs (s : State) (u : UnitId) (lat : Nat) (e : Effect) (v : Option Vec) : (s.fly u lat e v).jobs = s.jobs := rfl
@[simp] theorem State.fly_savedTasks (s : State) (u : UnitId) (lat : Nat) (e : Effect) (v : Option Vec) : (s.fly u lat e v).savedTasks = s.savedTasks := rfl
@[simp] theorem State.fly_spawned (s : State) (u : UnitId) (lat : Nat) (e : Effect) (v : Option Vec) : (s.fly u lat e v).spawned = s.spawned := rfl
@[simp] theorem State.fly_keys (s : State) (u : UnitId) (lat : Nat) (e : Effect) (v : Option Vec) : (s.fly u lat e v).keys = s.keys := rfl
@[simp] theorem State.fly_hostSide (s : State) (u : UnitId) (lat : Nat) (e : Effect) (v : Option Vec) : (s.fly u lat e v).hostSide = s.hostSide := rfl
@[simp] theorem State.fly_mgmtLog (s : State) (u : UnitId) (lat : Nat) (e : Effect) (v : Option Vec) : (s.fly u lat e v).mgmtLog = s.mgmtLog := rfl
@[simp] theorem State.fly_iocTags (s : State) (u : UnitId) (lat : Nat) (e : Effect) (v : Option Vec) : (s.fly u lat e v).iocTags = s.iocTags := rfl
@[simp] theorem State.fly_dom (s : State) (u : UnitId) (lat : Nat) (e : Effect) (v : Option Vec) : (s.fly u lat e v).dom = s.dom := rfl
@[simp] theorem State.fly_prow (s : State) (u : UnitId) (lat : Nat) (e : Effect) (v : Option Vec) : (s.fly u lat e v).prow = s.prow := rfl
@[simp] theorem State.fly_pcol (s : State) (u : UnitId) (lat : Nat) (e : Effect) (v : Option Vec) : (s.fly u lat e v).pcol = s.pcol := rfl

/-! ### `stall` -/

@[simp] theorem State.stall_dies (s : State) (w : Wait) : (s.stall w).dies = s.dies := rfl
@[simp] theorem State.stall_mem (s : State) (w : Wait) : (s.stall w).mem = s.mem := rfl
@[simp] theorem State.stall_sealed (s : State) (w : Wait) : (s.stall w).sealed = s.sealed := rfl
@[simp] theorem State.stall_poison (s : State) (w : Wait) : (s.stall w).poison = s.poison := rfl
@[simp] theorem State.stall_retired (s : State) (w : Wait) : (s.stall w).retired = s.retired := rfl
@[simp] theorem State.stall_posted (s : State) (w : Wait) : (s.stall w).posted = s.posted := rfl
@[simp] theorem State.stall_nextPost (s : State) (w : Wait) : (s.stall w).nextPost = s.nextPost := rfl
@[simp] theorem State.stall_agenda (s : State) (w : Wait) : (s.stall w).agenda = s.agenda := rfl
@[simp] theorem State.stall_mesh (s : State) (w : Wait) : (s.stall w).mesh = s.mesh := rfl
@[simp] theorem State.stall_flume (s : State) (w : Wait) : (s.stall w).flume = s.flume := rfl
@[simp] theorem State.stall_canal (s : State) (w : Wait) : (s.stall w).canal = s.canal := rfl
@[simp] theorem State.stall_wallow (s : State) (w : Wait) : (s.stall w).wallow = s.wallow := rfl
@[simp] theorem State.stall_launches (s : State) (w : Wait) : (s.stall w).launches = s.launches := rfl
@[simp] theorem State.stall_awake (s : State) (w : Wait) : (s.stall w).awake = s.awake := rfl
@[simp] theorem State.stall_lastQueue (s : State) (w : Wait) : (s.stall w).lastQueue = s.lastQueue := rfl
@[simp] theorem State.stall_polled (s : State) (w : Wait) : (s.stall w).polled = s.polled := rfl
@[simp] theorem State.stall_taskKeys (s : State) (w : Wait) : (s.stall w).taskKeys = s.taskKeys := rfl
@[simp] theorem State.stall_inserting (s : State) (w : Wait) : (s.stall w).inserting = s.inserting := rfl
@[simp] theorem State.stall_hitting (s : State) (w : Wait) : (s.stall w).hitting = s.hitting := rfl
@[simp] theorem State.stall_jobs (s : State) (w : Wait) : (s.stall w).jobs = s.jobs := rfl
@[simp] theorem State.stall_savedTasks (s : State) (w : Wait) : (s.stall w).savedTasks = s.savedTasks := rfl
@[simp] theorem State.stall_spawned (s : State) (w : Wait) : (s.stall w).spawned = s.spawned := rfl
@[simp] theorem State.stall_keys (s : State) (w : Wait) : (s.stall w).keys = s.keys := rfl
@[simp] theorem State.stall_hostSide (s : State) (w : Wait) : (s.stall w).hostSide = s.hostSide := rfl
@[simp] theorem State.stall_mgmtLog (s : State) (w : Wait) : (s.stall w).mgmtLog = s.mgmtLog := rfl
@[simp] theorem State.stall_iocTags (s : State) (w : Wait) : (s.stall w).iocTags = s.iocTags := rfl
@[simp] theorem State.stall_dom (s : State) (w : Wait) : (s.stall w).dom = s.dom := rfl
@[simp] theorem State.stall_prow (s : State) (w : Wait) : (s.stall w).prow = s.prow := rfl
@[simp] theorem State.stall_pcol (s : State) (w : Wait) : (s.stall w).pcol = s.pcol := rfl

/-! ### `Core.setSeat` -/

@[simp] theorem Core.setSeat_idx (k : Core) (n : Nat) (st : Seat) : (k.setSeat n st).idx = k.idx := rfl
@[simp] theorem Core.setSeat_running (k : Core) (n : Nat) (st : Seat) : (k.setSeat n st).running = k.running := rfl
@[simp] theorem Core.setSeat_freeze (k : Core) (n : Nat) (st : Seat) : (k.setSeat n st).freeze = k.freeze := rfl
@[simp] theorem Core.setSeat_bubble (k : Core) (n : Nat) (st : Seat) : (k.setSeat n st).bubble = k.bubble := rfl
@[simp] theorem Core.setSeat_withheld (k : Core) (n : Nat) (st : Seat) : (k.setSeat n st).withheld = k.withheld := rfl
@[simp] theorem Core.setSeat_latches (k : Core) (n : Nat) (st : Seat) : (k.setSeat n st).latches = k.latches := rfl
@[simp] theorem Core.setSeat_flight (k : Core) (n : Nat) (st : Seat) : (k.setSeat n st).flight = k.flight := rfl
@[simp] theorem Core.setSeat_rows (k : Core) (n : Nat) (st : Seat) : (k.setSeat n st).rows = k.rows := rfl
@[simp] theorem Core.setSeat_gridUntil (k : Core) (n : Nat) (st : Seat) : (k.setSeat n st).gridUntil = k.gridUntil := rfl
@[simp] theorem Core.setSeat_frozenSince (k : Core) (n : Nat) (st : Seat) : (k.setSeat n st).frozenSince = k.frozenSince := rfl
@[simp] theorem Core.setSeat_cmds (k : Core) (n : Nat) (st : Seat) : (k.setSeat n st).cmds = k.cmds := rfl
@[simp] theorem Core.setSeat_nextCmd (k : Core) (n : Nat) (st : Seat) : (k.setSeat n st).nextCmd = k.nextCmd := rfl
@[simp] theorem Core.setSeat_icache (k : Core) (n : Nat) (st : Seat) : (k.setSeat n st).icache = k.icache := rfl
@[simp] theorem Core.setSeat_fetching (k : Core) (n : Nat) (st : Seat) : (k.setSeat n st).fetching = k.fetching := rfl
@[simp] theorem Core.setSeat_fetchSince (k : Core) (n : Nat) (st : Seat) : (k.setSeat n st).fetchSince = k.fetchSince := rfl
@[simp] theorem Core.setSeat_tlb (k : Core) (n : Nat) (st : Seat) : (k.setSeat n st).tlb = k.tlb := rfl
@[simp] theorem Core.setSeat_router (k : Core) (n : Nat) (st : Seat) : (k.setSeat n st).router = k.router := rfl
@[simp] theorem Core.setSeat_loader (k : Core) (n : Nat) (st : Seat) : (k.setSeat n st).loader = k.loader := rfl
@[simp] theorem Core.setSeat_storer (k : Core) (n : Nat) (st : Seat) : (k.setSeat n st).storer = k.storer := rfl
@[simp] theorem Core.setSeat_lteDue (k : Core) (n : Nat) (st : Seat) : (k.setSeat n st).lteDue = k.lteDue := rfl
@[simp] theorem Core.setSeat_fifos (k : Core) (n : Nat) (st : Seat) : (k.setSeat n st).fifos = k.fifos := rfl
@[simp] theorem Core.setSeat_ptr (k : Core) (n : Nat) (st : Seat) : (k.setSeat n st).ptr = k.ptr := rfl
@[simp] theorem Core.setSeat_rr (k : Core) (n : Nat) (st : Seat) : (k.setSeat n st).rr = k.rr := rfl
@[simp] theorem Core.setSeat_readied (k : Core) (n : Nat) (st : Seat) : (k.setSeat n st).readied = k.readied := rfl
@[simp] theorem Core.setSeat_boundAt (k : Core) (n : Nat) (st : Seat) : (k.setSeat n st).boundAt = k.boundAt := rfl
@[simp] theorem Core.setSeat_dcnt (k : Core) (n : Nat) (st : Seat) : (k.setSeat n st).dcnt = k.dcnt := rfl
@[simp] theorem Core.setSeat_scrubbing (k : Core) (n : Nat) (st : Seat) : (k.setSeat n st).scrubbing = k.scrubbing := rfl
@[simp] theorem Core.setSeat_mapOut (k : Core) (n : Nat) (st : Seat) : (k.setSeat n st).mapOut = k.mapOut := rfl

/-! ### Reading what was updated -/

@[simp] theorem State.onCore_self (s : State) (c : Nat) (f : Core → Core) : (s.onCore c f).core c = f (s.core c) := tget_tput_self _ _ _ _
theorem State.onCore_other (s : State) (c c' : Nat) (f : Core → Core) (h : c' ≠ c) : (s.onCore c f).core c' = s.core c' := tget_tput_other _ _ _ _ _ h
@[simp] theorem State.onDie_self (s : State) (d : Nat) (f : Die → Die) : (s.onDie d f).die d = f (s.die d) := tget_tput_self _ _ _ _
theorem State.onDie_other (s : State) (d d' : Nat) (f : Die → Die) (h : d' ≠ d) : (s.onDie d f).die d' = s.die d' := tget_tput_other _ _ _ _ _ h
@[simp] theorem Core.setSeat_self (k : Core) (n : Nat) (st : Seat) : (k.setSeat n st).seat n = st := tget_tput_self _ _ _ _
theorem Core.setSeat_other (k : Core) (n n' : Nat) (st : Seat) (h : n' ≠ n) : (k.setSeat n st).seat n' = k.seat n' := tget_tput_other _ _ _ _ _ h
@[simp] theorem State.onSeat_self (s : State) (c n : Nat) (f : Seat → Seat) : (s.onSeat c n f).seatAt c n = f (s.seatAt c n) := by
  simp [State.onSeat, State.seatAt]
theorem State.onSeat_core (s : State) (c n c' : Nat) (f : Seat → Seat) (h : c' ≠ c) : (s.onSeat c n f).core c' = s.core c' :=
  s.onCore_other c c' _ h
theorem State.onSeat_other (s : State) (c n c' n' : Nat) (f : Seat → Seat) (h : c' ≠ c ∨ n' ≠ n) :
    (s.onSeat c n f).seatAt c' n' = s.seatAt c' n' := by
  by_cases e : c' = c
  · subst e
    have hn : n' ≠ n := by simpa using h
    simp [State.onSeat, State.seatAt, Core.setSeat_other _ _ _ _ hn]
  · simp [State.seatAt, State.onSeat_core s c n c' f e]
@[simp] theorem State.onMe_seat (s : State) (f : Seat → Seat) : (s.onMe f).seat = f s.seat := by
  simp [State.onMe, State.seat, State.me, State.onSeat]
@[simp] theorem State.onDie_core (s : State) (d c : Nat) (f : Die → Die) : (s.onDie d f).core c = s.core c := rfl
@[simp] theorem State.onDie_seatAt (s : State) (d c n : Nat) (f : Die → Die) : (s.onDie d f).seatAt c n = s.seatAt c n := rfl
@[simp] theorem State.onCore_die (s : State) (c d : Nat) (f : Core → Core) : (s.onCore c f).die d = s.die d := rfl
@[simp] theorem State.onSeat_die (s : State) (c n d : Nat) (f : Seat → Seat) : (s.onSeat c n f).die d = s.die d := rfl
@[simp] theorem State.store_core (s : State) (bs : List (Nat × Byte)) (c : Nat) : (s.store bs).core c = s.core c := rfl
@[simp] theorem State.store_die (s : State) (bs : List (Nat × Byte)) (d : Nat) : (s.store bs).die d = s.die d := rfl
@[simp] theorem State.store_seatAt (s : State) (bs : List (Nat × Byte)) (c n : Nat) : (s.store bs).seatAt c n = s.seatAt c n := rfl
@[simp] theorem State.onCore_byte (s : State) (c a : Nat) (f : Core → Core) : (s.onCore c f).byte a = s.byte a := rfl
@[simp] theorem State.onSeat_byte (s : State) (c n a : Nat) (f : Seat → Seat) : (s.onSeat c n f).byte a = s.byte a := rfl
@[simp] theorem State.onDie_byte (s : State) (d a : Nat) (f : Die → Die) : (s.onDie d f).byte a = s.byte a := rfl
@[simp] theorem State.onLaunch_self (s : State) (k : Nat) (f : Launch → Launch) : (s.onLaunch k f).launch k = f (s.launch k) := tget_tput_self _ _ _ _
@[simp] theorem State.onJob_self (s : State) (j : Nat) (f : Job → Job) : (s.onJob j f).job j = f (s.job j) := tget_tput_self _ _ _ _
@[simp] theorem State.onLink_self (s : State) (p : Nat) (f : Link → Link) : (s.onLink p f).link p = f (s.link p) := tget_tput_self _ _ _ _
@[simp] theorem State.onRecv_self (s : State) (p : Nat) (f : Recv → Recv) : (s.onRecv p f).recv p = f (s.recv p) := tget_tput_self _ _ _ _

end Sys2Proof.Machine
end

