-- ==== Sys2Proof/Laws/Memory.lean ====
section
/-! SUPPORT. Memory: numbers and their bytes, reading what was stored, and the canonical form through every operation that writes. -/

namespace Sys2Proof.Machine

/-! ### Numbers and bytes -/

@[simp] theorem leBytes_length (n x : Nat) : (leBytes n x).length = n := by
  induction n generalizing x with
  | zero => rfl
  | succ n ih => simp [leBytes, ih]

theorem leNat_leBytes (n x : Nat) : leNat (leBytes n x) = x % 256 ^ n := by
  induction n generalizing x with
  | zero => simp [leBytes, leNat, Nat.mod_one]
  | succ n ih =>
    have h := Nat.mod_mul_right_div_self x 256 (256 ^ n)
    have e : 256 ^ (n + 1) = 256 * 256 ^ n := by rw [Nat.pow_succ, Nat.mul_comm]
    simp only [leBytes, leNat, ih, BitVec.toNat_ofNat, e]
    rw [Nat.mod_mul]

theorem leNat_lt (bs : List Byte) : leNat bs < 256 ^ bs.length := by
  induction bs with
  | nil => simp [leNat]
  | cons b t ih =>
    have hb := b.isLt
    simp only [leNat, List.length_cons, Nat.pow_succ]
    omega

/-! ### Reading what was stored -/

theorem tget_memPuts_range (f : Nat → Byte) (a n : Nat) (m : List Host.Cell) (j : Nat) (h : j < n) :
    tget blank (memPuts m ((List.range n).map fun i => (a + i, f i))) (a + j) = f j := by
  induction n with
  | zero => omega
  | succ n ih =>
    simp only [List.range_succ, List.map_append, List.map_cons, List.map_nil, memPuts, List.foldl_append, List.foldl_cons, List.foldl_nil]
    by_cases e : j = n
    · subst e
      exact tget_memPut_self _ _ _
    · rw [tget_memPut_other _ _ _ _ (by omega)]
      exact ih (by omega)

@[simp] theorem State.byte_store_nil (s : State) (a : Nat) : (s.store []).byte a = s.byte a := rfl

/-- A byte among those stored from an address. -/
theorem State.byte_store_placed (s : State) (a : Nat) (bs : List Byte) (j : Nat) (h : j < bs.length) :
    (s.store (placed a bs)).byte (a + j) = bs.getD j 0 := tget_memPuts_range _ _ _ _ _ h

/-- A byte outside those stored. -/
theorem State.byte_store_other (s : State) (bs : List (Nat × Byte)) (k : Nat) (h : ∀ p ∈ bs, p.1 ≠ k) : (s.store bs).byte k = s.byte k :=
  tget_memPuts_other _ _ _ h

theorem State.byte_store_placed_other (s : State) (a : Nat) (bs : List Byte) (k : Nat) (h : k < a ∨ a + bs.length ≤ k) :
    (s.store (placed a bs)).byte k = s.byte k := by
  refine s.byte_store_other _ k fun p hp => ?_
  simp only [placed, List.mem_map, List.mem_range] at hp
  obtain ⟨i, hi, rfl⟩ := hp
  simp only [ne_eq]
  omega

/-- What is stored is loaded. -/
theorem State.load_store (s : State) (a : Nat) (bs : List Byte) : (s.store (placed a bs)).load a bs.length = bs := by
  apply List.ext_getElem
  · simp [State.load]
  · intro i h1 h2
    simp [State.load, s.byte_store_placed a bs i h2, List.getD_eq_getElem?_getD, h2]

/-- A number that is stored is loaded, modulo its width. -/
theorem State.loadNat_storeNat (s : State) (a n x : Nat) : (s.storeNat a n x).loadNat a n = x % 256 ^ n := by
  have h := s.load_store a (leBytes n x)
  rw [leBytes_length] at h
  simp [State.loadNat, State.storeNat, h, leNat_leBytes]

/-! ### The canonical form through the operations that write -/

theorem State.store_ok (s : State) (bs : List (Nat × Byte)) (h : s.MemOk) : (s.store bs).MemOk := memPuts_wf bs s.mem h

theorem State.storeNat_ok (s : State) (a n x : Nat) (h : s.MemOk) : (s.storeNat a n x).MemOk := s.store_ok _ h

theorem State.wipe_ok (s : State) (f : Nat → Bool) (h : s.MemOk) : (s.wipe f).MemOk := wf_filter _ _ h

theorem State.reseal_ok (s : State) (m : BitVec 512) (g : Nat) (h : s.MemOk) : (s.reseal m g).MemOk := by
  unfold State.reseal
  split
  · exact h
  · exact s.store_ok _ h

theorem State.storeKeyed_ok (s : State) (m : Option (BitVec 512)) (bs : List (Nat × Byte)) (h : s.MemOk) : (s.storeKeyed m bs).MemOk := by
  cases m with
  | none => exact s.store_ok bs h
  | some m =>
    refine State.store_ok _ bs ?_
    generalize bs = l at *
    induction l generalizing s with
    | nil => exact h
    | cons p t ih =>
      simp only [List.foldl_cons]
      split
      · exact ih _ (s.reseal_ok m _ h)
      · exact ih _ h

@[simp] theorem State.notify_mem (s : State) (gs : List Nat) : (s.notify gs).mem = s.mem := rfl

/-- A doorbell changes no byte of memory. -/
@[simp] theorem State.ring_mem (s : State) (bs : List (Nat × Byte)) : (s.ring bs).mem = s.mem := by
  simp only [State.ring]
  cases (bs.find? fun p => p.1 == doorbell + 0) <;> rfl

theorem State.ring_ok (s : State) (bs : List (Nat × Byte)) (h : s.MemOk) : (s.ring bs).MemOk := by
  simpa [State.MemOk] using h

/-- A write that leaves the doorbell's word alone rings nothing. -/
theorem State.ring_other (s : State) (bs : List (Nat × Byte)) (h : bs.all (fun p => p.1 != doorbell) = true) : s.ring bs = s := by
  have : (bs.find? fun p => p.1 == doorbell + 0) = none := by
    rw [List.find?_eq_none]
    intro x hx
    simpa using List.all_eq_true.mp h x hx
  simp only [State.ring, this, Option.map_none]

/-- Bytes performed at their home keep the canonical form. -/
theorem State.performBytes_ok (s : State) (m : Option (BitVec 512)) (bs : List (Nat × Byte)) (h : s.MemOk) : (s.performBytes m bs).MemOk := by
  simpa [State.performBytes, State.MemOk] using s.storeKeyed_ok m bs h

theorem State.clip_ok (s : State) (a : Nat) (h : s.MemOk) : (s.clip a).MemOk := by
  simp only [State.clip]
  split
  · exact s.store_ok _ h
  · split
    · exact s.store_ok _ h
    · exact h

/-- Bytes that software writes keep it too. -/
theorem State.writeBytes_ok (s : State) (m : Option (BitVec 512)) (bs : List (Nat × Byte)) (h : s.MemOk) : (s.writeBytes m bs).MemOk := by
  unfold State.writeBytes
  have h0 := ((s.performBytes m (bs.map s.accepted)).ring_ok bs (s.performBytes_ok m _ h))
  generalize (s.performBytes m (bs.map s.accepted)).ring bs = t at h0
  clear h
  generalize bs = l
  induction l generalizing t with
  | nil => exact h0
  | cons p l ih => exact ih _ (t.clip_ok p.1 h0)

theorem State.reset_ok : State.reset.MemOk := rfl

end Sys2Proof.Machine
end

