-- ==== Sys2Proof/Laws/Ops.lean ====
section
/-! SUPPORT. What the shared operations of the meanings do: each is said once, so that a proof cites the lemma and does not unfold the
operation. -/

namespace Sys2Proof.Machine

/-! ### Guards, privilege, purity, events -/

theorem State.guarded_off (s : State) (g : Guard) (act : State → State) (h : s.seat.pred g.val = false) : s.guarded g act = .next s := by
  simp [State.guarded, h]

theorem State.guarded_on (s : State) (g : Guard) (act : State → State) (h : s.seat.pred g.val = true) : s.guarded g act = .next (act s) := by
  simp [State.guarded, h]

/-- A guarded slot answers a next state. -/
theorem State.guarded_next (s t : State) (g : Guard) (act : State → State) :
    s.guarded g act = .next t ↔ t = if s.seat.pred g.val then act s else s := by
  unfold State.guarded
  exact ⟨fun h => (Host.Outcome.next.inj h).symm, fun h => h ▸ rfl⟩

theorem State.privileged_sup (s : State) (g : Guard) (act : State → State) (h : s.seat.pred g.val = true) (m : s.seat.sup = true) :
    s.privileged g act = .next (act s) := by
  simp [State.privileged, State.guarded, h, m]

theorem State.privileged_user (s : State) (g : Guard) (act : State → State) (h : s.seat.pred g.val = true) (m : s.seat.sup = false) :
    s.privileged g act = .next (s.raise 3 s.slotTval) := by
  simp [State.privileged, State.guarded, h, m]

theorem State.effectful_plain (s : State) (g : Guard) (act : State → State) (h : s.seat.pred g.val = true) (m : s.seat.pure = false) :
    s.effectful g act = .next (act s) := by
  simp [State.effectful, State.guarded, h, m]

theorem State.effectful_pure (s : State) (g : Guard) (act : State → State) (h : s.seat.pred g.val = true) (m : s.seat.pure = true) :
    s.effectful g act = .next (s.raise 18 s.slotTval) := by
  simp [State.effectful, State.guarded, h, m, State.impure]

/-- An event answers its state where its condition holds, and is refused elsewhere. -/
theorem event_next (name : String) (ok : Bool) (s t : State) : event name ok s = .next t ↔ ok = true ∧ t = s := by
  cases ok <;> simp [event, eq_comm]

/-! ### Results in flight -/

/-- A result that takes flight joins the core's, and nothing else changes. -/
theorem State.fly_core (s : State) (u : UnitId) (lat : Nat) (e : Effect) (v : Option Vec) :
    (s.fly u lat e v).core s.cx.core = { s.me with flight := s.me.flight ++
      [⟨s.cx.seat, s.me.idx + lat, s.me.idx * 16 + s.cx.pos, s.cx.pos, u, e, v, .here, none, s.seat.spin.live, false⟩] } := by
  simp [State.fly, State.me, State.seat]

theorem State.fly_other (s : State) (u : UnitId) (lat : Nat) (e : Effect) (v : Option Vec) (c : Nat) (h : c ≠ s.cx.core) :
    (s.fly u lat e v).core c = s.core c := s.onCore_other _ _ _ h

@[simp] theorem State.fly_seatAt (s : State) (u : UnitId) (lat : Nat) (e : Effect) (v : Option Vec) (c n : Nat) :
    (s.fly u lat e v).seatAt c n = s.seatAt c n := by
  by_cases h : c = s.cx.core
  · subst h
    simp only [State.seatAt, State.fly_core]
    rfl
  · simp only [State.seatAt, State.fly_other _ _ _ _ _ _ h]

@[simp] theorem State.fly_seat (s : State) (u : UnitId) (lat : Nat) (e : Effect) (v : Option Vec) : (s.fly u lat e v).seat = s.seat :=
  s.fly_seatAt u lat e v s.cx.core s.cx.seat

/-- A 64-bit result is one result in flight. -/
theorem State.result_eq (s : State) (u : UnitId) (d : Dst) (lat : Nat) (v : Word) : ∃ e, s.result u d lat v = s.fly u lat e (some (v.setWidth 4096)) :=
  ⟨_, rfl⟩

@[simp] theorem State.result_mem (s : State) (u : UnitId) (d : Dst) (lat : Nat) (v : Word) : (s.result u d lat v).mem = s.mem := rfl
@[simp] theorem State.result_dies (s : State) (u : UnitId) (d : Dst) (lat : Nat) (v : Word) : (s.result u d lat v).dies = s.dies := rfl
@[simp] theorem State.result_posted (s : State) (u : UnitId) (d : Dst) (lat : Nat) (v : Word) : (s.result u d lat v).posted = s.posted := rfl
@[simp] theorem State.result_seatAt (s : State) (u : UnitId) (d : Dst) (lat : Nat) (v : Word) (c n : Nat) :
    (s.result u d lat v).seatAt c n = s.seatAt c n := s.fly_seatAt _ _ _ _ _ _
@[simp] theorem State.vresult_mem (s : State) (d : Dst) (lat : Nat) (v : Vec) : (s.vresult d lat v).mem = s.mem := rfl
@[simp] theorem State.vresult_seatAt (s : State) (d : Dst) (lat : Nat) (v : Vec) (c n : Nat) :
    (s.vresult d lat v).seatAt c n = s.seatAt c n := s.fly_seatAt _ _ _ _ _ _

/-! ### Stalls and traps -/

theorem State.stall_out (s : State) (w : Wait) (h : s.cx.out = .go) : (s.stall w).cx.out = .stall := by
  simp [State.stall, h]

@[simp] theorem State.dropWaits_mem (s : State) (c n : Nat) : (s.dropWaits c n).mem = s.mem := rfl
@[simp] theorem State.dropWaits_posted (s : State) (c n : Nat) : (s.dropWaits c n).posted = s.posted := rfl
@[simp] theorem State.freeSeat_mem (s : State) (c n : Nat) : (s.freeSeat c n).mem = s.mem := rfl

@[simp] theorem State.dropWaits_cx (s : State) (c n : Nat) : (s.dropWaits c n).cx = s.cx := rfl
@[simp] theorem State.freeSeat_cx (s : State) (c n : Nat) : (s.freeSeat c n).cx = s.cx := rfl
@[simp] theorem State.failTask_cx (s : State) (c n : Nat) (tcause tval : Word) : (s.failTask c n tcause tval).cx = s.cx := rfl

@[simp] theorem State.csrWrite_cx (s : State) (c n i : Nat) (v : Word) : (s.csrWrite c n i v).cx = s.cx := by
  unfold State.csrWrite
  split
  case h_15 => dsimp only; split <;> rfl
  all_goals rfl

@[simp] theorem State.performRow_cx (s : State) (c row : Nat) (v : Row) : (s.performRow c row v).cx = s.cx := by
  simp only [State.performRow, State.notify, State.setBasinRow, State.store]

theorem Effect.onState_cx (e : Effect) (s : State) (c n : Nat) : (e.onState s c n).cx = s.cx := by
  cases e <;> simp only [Effect.onState, State.csrWrite_cx, State.performRow_cx, State.onCore_cx, State.store]

@[simp] theorem State.landOne_cx (s : State) (c : Nat) (l : Landing) : (s.landOne c l).cx = s.cx := by
  simp only [State.landOne]
  split <;> simp [Effect.onState_cx]

theorem State.landAll_cx (c : Nat) (l : List Landing) (s : State) : (l.foldl (fun s x => s.landOne c x) s).cx = s.cx := by
  induction l generalizing s with
  | nil => rfl
  | cons a l ih => rw [List.foldl_cons, ih, State.landOne_cx]

@[simp] theorem State.landDue_cx (s : State) (c i : Nat) : (s.landDue c i).cx = s.cx := State.landAll_cx _ _ _

@[simp] theorem State.takeTrap_cx (s : State) (c n cause slot : Nat) (tval : Word) (tpc : VA) :
    (s.takeTrap c n cause tval slot tpc).cx = s.cx := by
  simp only [State.takeTrap]
  split
  · simp
  · split <;> simp

/-- A slot that raises a trap says so in its context. -/
theorem State.raise_out (s : State) (cause : Nat) (tval : Word) : (s.raise cause tval).cx.out = .trap cause tval s.cx.pos := by
  simp only [State.raise, State.trapAt, State.takeTrap_cx]
  split <;> simp

/-- A seat that is freed is FREE, and holds no wait, flag, monitor or trap. -/
theorem State.freeSeat_free (s : State) (c n : Nat) :
    let st := (s.freeSeat c n).seatAt c n
    st.st = .free ∧ st.waits = [] ∧ st.flags = 0 ∧ st.monitor = none ∧ st.held = none ∧ st.leave = 0 ∧ st.frame = none := by
  simp [State.freeSeat, State.seatAt]

/-- A trap waits while loads or atomics of the seat travel (18 R443): nothing of the seat changes but the trap that waits. -/
theorem State.takeTrap_waits (s : State) (c n cause slot : Nat) (tval : Word) (tpc : VA)
    (h : ((s.landDue c (s.core c).idx).tripsOf c n).isEmpty = false) :
    s.takeTrap c n cause tval slot tpc =
      (s.landDue c (s.core c).idx).onSeat c n fun st => { st with trapping := some ⟨cause, tval, slot, tpc⟩ } := by
  simp [State.takeTrap, h]

/-- A trap that a handler takes changes no byte of memory and no posted work, once what was due has landed. -/
theorem State.takeTrap_mem (s : State) (c n cause slot : Nat) (tval : Word) (tpc : VA)
    (h : bitOf ((s.landDue c (s.core c).idx).seatAt c n).tstat tstatSIP = false) :
    (s.takeTrap c n cause tval slot tpc).mem = (s.landDue c (s.core c).idx).mem ∧
      (s.takeTrap c n cause tval slot tpc).posted = (s.landDue c (s.core c).idx).posted := by
  simp only [State.takeTrap, h]
  split <;> simp

/-- Where nothing is due, nothing lands. -/
theorem State.landDue_none (s : State) (c i : Nat) (h : (s.core c).flight.all (fun l => !l.ripe i) = true) :
    s.landDue c i = s.onCore c fun k => { k with flight := k.flight.filter fun l => !l.ripe i } := by
  have : (s.core c).flight.filter (fun l => l.ripe i) = [] := by
    rw [List.filter_eq_nil_iff]
    intro l hl
    simpa using List.all_eq_true.mp h l hl
  simp [State.landDue, this, sortLandings]

/-! ### Posted work and logs -/

@[simp] theorem State.post_posted (s : State) (p : Posted) : (s.post p).posted = s.posted ++ [{ p with id := s.nextPost }] := rfl
@[simp] theorem State.post_nextPost (s : State) (p : Posted) : (s.post p).nextPost = s.nextPost + 1 := rfl

theorem State.logAt_log (s : State) (d cls unit info loc tenant coord : Nat) :
    ((s.logAt d cls unit info loc tenant coord).die d).log = (s.die d).log.add ⟨(s.die d).cyc, cls, unit, 0, info, loc, tenant, coord⟩ := by
  simp [State.logAt]

/-! ### Landings -/

/-- A landing that touches nothing the core shares changes one core. -/
theorem State.landOne_other (s : State) (c c' : Nat) (l : Landing) (h : c' ≠ c) (hs : l.effect.onState s c l.seat = s) :
    (s.landOne c l).core c' = s.core c' := by
  simp only [State.landOne]
  split
  · rw [hs]
  · rw [State.onCore_other _ _ _ _ h, hs]

end Sys2Proof.Machine
end

