-- ==== Sys2Proof/Tests/Slice0.lean ====
section
/-! SUPPORT. The model's own tests: ill-formed terms that the checks refuse, words written out from the spec's encodings, small steps
with results worked out from the spec, and for each statement of the certificates a state and operands that meet its hypotheses. -/

namespace Sys2Proof.Tests

-- The kernel evaluates these tests one after another, and no two of them side by side.
set_option Elab.async false

open Sys2Proof Sys2Proof.Machine

/-- The answer is a next state. -/
def isNext : Res → Bool
  | .next _ => true
  | _ => false

/-- The event is refused since its condition does not hold. -/
def isRefused : Res → Bool
  | .refused (.notEnabled _) => true
  | _ => false

theorem witness_SlotRoundTrip : (Instr.movi { g := 3, x := true, d := .main 20, imm := 0xABC }).wf = true ∧
    encodeSlot (.movi { g := 3, x := true, d := .main 20, imm := 0xABC }) ≠ none := by decide +kernel

theorem witness_SideRoundTrip : (Instr.jSbeq 31 5 9).wf = true ∧ encodeSide (.jSbeq 31 5 9) ≠ none := by decide +kernel

theorem witness_DecodedSlotsAreWellFormed : decodeSlot 0x05805F87 ≠ none := by decide +kernel

theorem witness_UnassignedOpcodes : unassignedOp (opOf 0x2E040000) = true := by decide +kernel

theorem witness_StepRunsSideWord :
    let s := State.reset.withFetchWord 32 0x00500093
    s.agenda = [.side 0 false] ∧ s.hostSide.power = true ∧ ((s.core 0).side false).runs = true ∧
      (match ({ s with agenda := [] } : State).sideFetch 0 false with
        | .ok w => w == 0x00500093
        | .error _ => false) = true ∧ decodeSide 0x00500093 ≠ none := by decide +kernel

theorem witness_StepRunsEvent :
    let s : State := { State.reset with agenda := [.event (.throttle 3 true)] }
    let t : State := { State.reset with agenda := [.chance (.leaveGrant 0)] }
    let u : State := { State.reset with agenda := [.chance (.throttle 3 true)] }
    s.hostSide.power = true ∧ t.hostSide.power = true ∧ isNext (exec (.throttle 3 true) { u with agenda := [] }) = true ∧
      isRefused (exec (.leaveGrant 0) { t with agenda := [] }) = true ∧
    (let v : State := { State.reset with hostSide := { State.reset.hostSide with power := false }, agenda := [.core 0] }
     v.hostSide.power = false ∧ (Turn.core 0).boots = false) := by decide +kernel

/-- Seat 0 of core 0 before a bundle of four inert slots, the last with the stop bit (09 R257). -/
def bundleState : State :=
  let ws := [0x10040000, 0x10440000, 0x4D840000, 0xF0040000]
  let s := State.reset.withFetchWord 32 0
  let line : BitVec 512 := BitVec.ofNat 512 (ws.foldr (fun w n => w + n * 2 ^ 32) 0)
  s.onCore 0 fun k => { k with icache := [((0, 0), line)] }

theorem witness_StepIssuesBundle :
    let s1 : State := { bundleState with agenda := [] }
    let s2 := (((s1.landLte 0 false).landDue 0 (s1.core 0).idx).settlePushes 0).onCore 0 fun k => k.holdLost.loadTick
    let k := s2.core 0
    let s3 := s2.onCore 0 Core.spanTick
    let s4 := s3.onCore 0 fun k => (k.replay 0).holdLost
    let s5 := s4.onCore 0 fun k => { k with frozenSince := none }
    bundleState.agenda = [.core 0] ∧ bundleState.hostSide.power = true ∧ (k.seat 0).trapping = none ∧ k.freeze = 0 ∧
      k.waits = false ∧ k.bubble = false ∧ k.running = some 0 ∧ s2.overSpan 0 0 = false ∧ s2.fenced 0 = false ∧ (s3.seatAt 0 0).firmware = false ∧
      (s4.core 0).waits = false ∧ (s5.seatAt 0 0).held = none ∧
      (match s5.bundleAt 0 0 with
        | .ok ws => (match decodeBundle ws with
          | .ok b => b.length == 4
          | .error _ => false)
        | .error _ => false) = true := by decide +kernel

/-- The run of a bundle of one slot word. -/
def runOne (w : Nat) : Option Run :=
  match Run.all ⟨State.reset.openBundle 0 0 1, none, false, []⟩ [(0, w, (slotChk w).val)] with
  | .inl r => some r
  | .inr _ => none
theorem witness_BundleActsTogether :
    ((runOne 0x10040000).map fun r => r.trap.isNone && !r.stalled) = some true ∧
    ((runOne 0x2D800000).map fun r => r.trap.isSome) = some true ∧
    ((runOne 0x08000FC0).map fun r => r.trap.isNone && r.stalled) = some true := by decide +kernel

theorem witness_SlotsNeverStop : (encodeSlot (.cpy { g := 0, x := false, d := .main 3, a := .main 1, b := .main 2 })).isSome = true := by
  decide +kernel

theorem witness_DisabledSlots : (Instr.tlbi { g := 1, x := false, a := .main 0, b := .main 0 }).guard = some 1 ∧
    State.reset.seat.pred 1 = false := by decide +kernel

theorem witness_MemoryStaysCanonical :
    let s := State.reset.withFetchWord 32 0x00500093
    Memory.wf s.mem = true ∧ s.mem ≠ [] ∧ isNext (step s) = true := by decide +kernel

theorem witness_ReadAfterWrite : (State.reset.store [(5, 7), (9, 0)]).byte 5 = 7 ∧ (∀ p ∈ [((5 : Nat), (7 : Byte))], p.1 ≠ 6) ∧
    Memory.wf State.reset.mem = true := by decide +kernel

theorem witness_Landings :
    let l : Landing := ⟨0, 1, 0, 0, .s0, .file .s0 5 9, some 9, .here, none, false, false⟩
    let s := State.reset.onCore 0 fun k => { k with running := some 0 }
    l.effect = .file .s0 5 9 ∧ l.seat < 8 ∧ 8 ≤ ({ l with seat := 8 } : Landing).seat ∧ (s.core 0).running = some l.seat ∧ l.latch = some 9 := by decide +kernel

theorem witness_RegisterSlotsFrame :
    let i := Instr.add { g := 0, x := false, d := .main 1, a := .const 1, b := .const 1 }
    ((encodeSlot i).map fun w => classRank (opOf w.toNat)) = some 2 ∧
    (match exec i State.reset with
      | .next t => t.cx.out == .go && State.reset.cx.out == .go
      | _ => false) = true := by decide +kernel

/-- q0 is true in every state (11 R276), so guard 0 meets every statement's hypothesis on the guard. -/
theorem witness_ScalarIntegerResults : State.reset.seat.pred (0 : Guard).val = true ∧
    (∃ f : S3, State.reset.seat.pred f.g.val = true) ∧ (∃ f : S2, State.reset.seat.pred f.g.val = true) ∧
    ∃ f : Smovi, State.reset.seat.pred f.g.val = true :=
  ⟨by decide +kernel, ⟨⟨0, false, .latch, .imm, .imm⟩, by decide +kernel⟩, ⟨⟨0, false, .latch, .imm⟩, by decide +kernel⟩,
    ⟨⟨0, false, .latch, 0⟩, by decide +kernel⟩⟩

theorem witness_ScalarFloatResults : (∃ f : S3, State.reset.seat.pred f.g.val = true) ∧ (∃ f : S2, State.reset.seat.pred f.g.val = true) ∧
    (∃ f : Sfcvt, State.reset.seat.pred f.g.val = true) ∧ (∃ f : Sfcls, State.reset.seat.pred f.g.val = true) ∧
    ∃ f : Spair, State.reset.seat.pred f.g.val = true :=
  ⟨⟨⟨0, true, .latch, .imm, .imm⟩, by decide +kernel⟩, ⟨⟨0, true, .latch, .imm⟩, by decide +kernel⟩,
    ⟨{ g := 0, x := true, d := .latch, rm := .rne, a := .imm, code := 0 }, by decide +kernel⟩,
    ⟨{ g := 0, x := true, d := .latch, a := .imm, fmt := .fp32 }, by decide +kernel⟩,
    ⟨{ g := 0, x := true, wide := true, p := .regs 3, a := .imm, b := .imm }, by decide +kernel⟩⟩

theorem witness_ScalarSystemResults : (∃ f : Scmp, State.reset.seat.pred f.g.val = true) ∧ (∃ f : Sfcmp, State.reset.seat.pred f.g.val = true) ∧
    (∃ f : Sqop, State.reset.seat.pred f.g.val = true) ∧ 1 ≤ 5 ∧ (∃ f : Smovx, State.reset.seat.pred f.g.val = true) ∧ (∃ f : Sgset, State.reset.seat.pred f.g.val = true) ∧
    (∃ f : Slidx, State.reset.seat.pred f.g.val = true) ∧ (∃ f : S1, State.reset.seat.pred f.g.val = true) ∧ State.reset.seat.pure = false ∧
    (∃ f : Stsrd, State.reset.seat.pred f.g.val = true) ∧ (∃ f : Scsrr, State.reset.seat.pred f.g.val = true ∧ f.csr.val ≠ 2) ∧
    ∃ f : Scsrw, State.reset.seat.pred f.g.val = true ∧ csrUserWrite f.csr.val = true :=
  ⟨⟨{ g := 0, x := true, j := 1, cond := .eq, a := .imm, b := .imm }, by decide +kernel⟩,
    ⟨{ g := 0, x := true, j := 1, cond := .eqS, a := .imm, b := .imm }, by decide +kernel⟩,
    ⟨{ g := 0, x := true, j := 1, op := .and, p := 0, r := 1 }, by decide +kernel⟩, by decide, ⟨{ g := 0, x := true, target := .v, d := .main 1, a := .imm }, by decide +kernel⟩, ⟨{ g := 0, x := true, n := 30, a := .imm }, by decide +kernel⟩,
    ⟨{ g := 0, x := true, d := .latch, field := .rem, level := 5 }, by decide +kernel⟩, ⟨{ g := 0, x := true, d := .latch }, by decide +kernel⟩,
    by decide +kernel, ⟨{ g := 0, x := true, d := .latch, n := 15 }, by decide +kernel⟩,
    ⟨{ g := 0, x := true, d := .latch, csr := 47 }, by decide +kernel⟩, ⟨{ g := 0, x := true, csr := 7, b := .imm }, by decide +kernel⟩⟩

theorem witness_CsrWriteLanding : bitOf (State.reset.seatAt 0 0).tvec 62 = false ∧
    bitOf ((State.reset.onSeat 0 0 fun st => { st with tvec := 0x4000000000000000 }).seatAt 0 0).tvec 62 = true := by decide +kernel

theorem witness_PrefixAndTargetResults : (∃ f : Bpt, State.reset.seat.pred f.g.val = true) ∧
    (∃ f : Bba, State.reset.seat.pred f.g.val = true ∧ (State.reset.srcInt .b f.a).toNat % 16 = 0 ∧
      ((State.reset.cx.addr + (State.reset.srcInt .b f.a).setWidth 55).setWidth 64).toNat % 16 = 0) ∧
    ∃ f : Bba, State.reset.seat.pred f.g.val = true ∧ (State.reset.srcInt .b f.a).toNat % 16 ≠ 0 ∧
      ((State.reset.cx.addr + (State.reset.srcInt .b f.a).setWidth 55).setWidth 64).toNat % 16 ≠ 0 :=
  ⟨⟨{ g := 0, t := 1, off := 4 }, by decide +kernel⟩, ⟨{ g := 0, t := 1, a := .const 7 }, by decide +kernel⟩,
    ⟨{ g := 0, t := 1, a := .const 1 }, by decide +kernel⟩⟩

/-- A seat at address 0 of a code line of 16 bundles of one word, each with its stop bit, as the decoder would refuse them but the skip reads them. -/
def callState : State :=
  let line : BitVec 512 := BitVec.ofNat 512 ((List.range 16).foldl (fun n _ => n * 2 ^ 32 + 0x90040000) 0)
  let s := State.reset.onCore 0 fun k => { k with icache := [((0, 0), line)] }
  { s with cx := { s.cx with length := 2 } }
theorem witness_TransferResults :
    callState.seat.pred (0 : Guard).val = true ∧ callState.seat.pend = none ∧ (callState.srcInt .b (.const 7)).toNat % 16 = 0 ∧
    (match callState.skipBundles 0 0 false 2 (callState.cx.addr.toNat + 4 * callState.cx.length) with
      | .ok link => link == 16
      | .error _ => false) = true := by decide +kernel

theorem witness_LoopResults :
    callState.seat.pred (0 : Guard).val = true ∧ callState.seat.pend = none ∧ (callState.srcInt .b (.const 5)).toNat % 2 ^ 32 ≠ 0 ∧
    (callState.srcInt .b (.const 3)).toNat = 2 ∧ callState.seat.levels.length < 6 ∧ callState.seat.levels.head? = none ∧
    (match callState.closeBundle (callState.cx.addr.toNat + 4 * callState.cx.length) 2 with
      | .ok stop => stop == 12
      | .error _ => false) = true ∧
    callState.seat.strides 7 = some [] ∧ (attach [] 3 0).length ≤ 4 := by decide +kernel

theorem witness_LoopClose :
    let a : Level := ⟨16, 48, 4, 1, [(2, 8)]⟩
    let b : Level := ⟨32, 48, 4, 3, []⟩
    let s1 : Seat := { Seat.reset with levels := [a] }
    let s2 : Seat := { Seat.reset with levels := [b] }
    let s3 : Seat := { Seat.reset with levels := [b, a] }
    (s1.levels = a :: [] ∧ a.idx + 1 ≠ a.count) ∧ (s2.levels = b :: [] ∧ b.idx + 1 = b.count ∧ ([] : List Level).head? = none) ∧
      (s3.levels = b :: [a] ∧ b.idx + 1 = b.count ∧ a.stop = 48 ∧ a.idx + 1 ≠ a.count) := by decide +kernel

theorem witness_YieldAndEndResults :
    let s := State.reset.onSeat 0 0 fun st => { st with tstat := setBit 0 tstatUIP true }
    s.seat.pred (0 : Guard).val = true ∧ s.seat.pend = none ∧ s.me.cmds = [] ∧ bitOf s.seat.tstat tstatUIP = true ∧
      bitOf s.seat.tstat tstatSIP = false ∧ s.seat.pure = false := by decide +kernel

theorem witness_WaitResults :
    let s := State.reset
    let m : Monitor := ⟨0, true, 9, false, true⟩
    let a := s.onMe fun st => { st with monitor := some m }
    let b := s.onMe fun st => { st with monitor := some { m with fired := false } }
    let w : Wait := ⟨0, .leave, 0, 4, true, none⟩
    let c := s.onMe fun st => { st with waits := [w] }
    let d := s.onMe fun st => { st with flags := 8 }
    s.seat.pred (0 : Guard).val = true ∧ (s.srcInt .b (.const 0)).toNat ≤ s.cyc ∧ s.dueCmds 0 = [] ∧ s.cyc < (s.srcInt .b (.const 9)).toNat ∧
      s.myWait = none ∧ s.seat.monitor = none ∧ (a.seat.monitor = some m ∧ m.fired = true) ∧
      (b.seat.monitor = some { m with fired := false } ∧ b.myWait = none) ∧
      (c.myWait = some w ∧ w.ended = true ∧ c.srcInt .b (.const 5) ≠ 0 ∧ c.seat.leave + (c.srcInt .b (.const 5)).toNat ≤ 64) ∧
      s.seat.pure = false ∧ (d.seat.flags.getLsbD 3 = true ∧ d.seat.flagErr.getLsbD 3 = false) ∧ s.seat.flags.getLsbD 3 = false := by
  decide +kernel

theorem witness_SequencerPredicates :
    let l : Level := ⟨0, 16, 4, 3, []⟩
    let st : Seat := { Seat.reset with levels := [l] }
    st.levels[0]? = some l ∧ st.levels[1]? = none ∧ st.pred 13 = true ∧ st.pred 15 = false := by decide +kernel

/-- Reset with VTYPE set in the seat that runs. -/
def typedState (v : BitVec 8) : State := State.reset.onSeat 0 0 fun st => { st with vtype := v }
theorem witness_VectorArithmeticResults :
    (typedState 1).seat.pred (0 : Guard).val = true ∧ (elemTy (typedState 1).seat.et).map (·.cls) = some (.fp .f32) ∧
    (elemTy (typedState 0).seat.et).map (·.cls) = some .int ∧ (elemTy (typedState 6).seat.et).map (·.cls) = some .k27 ∧
    (elemTy (typedState 9).seat.et).map (·.cls) = some .c32 ∧ srcIsHalf (.const 57) = false ∧ srcIsHalf (.const 59) = false := by
  decide +kernel

theorem witness_VectorMerging : ∀ code < 10, (elemTy code).isSome = true ∧ ∀ t, elemTy code = some t → 63 < t.n := by
  intro code h
  match code, h with
  | 0, _ | 1, _ | 2, _ | 3, _ | 4, _ | 5, _ | 6, _ | 7, _ | 8, _ | 9, _ => exact ⟨rfl, fun t h => by cases h; decide⟩

theorem witness_VectorTypeFault :
    (typedState 10).cx.out = .go ∧ (typedState 10).seat.pred (0 : Guard).val = true ∧ elemTy (typedState 10).seat.et = none ∧
    (elemTy (typedState 0).seat.et).map tyF = some false ∧ (elemTy (typedState 1).seat.et).map tyI = some false ∧
    isNext (exec (.vzero { g := 0, d := .latch }) (typedState 10)) = true := by decide +kernel

theorem witness_VectorMaskAndMoveResults :
    (typedState 9).seat.pred (0 : Guard).val = true ∧ (elemTy (typedState 9).seat.et).map (vcondOk .ne) = some true ∧
    (elemTy (typedState 0).seat.et).map (vcondOk .geuOr) = some true ∧ srcIsHalf (.const 12) = false ∧
    (elemTy (typedState 7).seat.et).map (·.cls) = some (.fp .f64) ∧ (elemTy (typedState 0).seat.et).map (·.cls) = some .int := by
  decide +kernel

theorem witness_VectorFormatResults :
    (typedState 7).seat.pred (0 : Guard).val = true ∧ (elemTy (typedState 7).seat.et).map (fun t => (t.n, t.cls)) = some (64, .fp .f64) ∧
    (elemTy (typedState 1).seat.et).map (fun t => (t.n, t.cls)) = some (128, .fp .f32) ∧
    (elemTy (typedState 5).seat.et).map (fun t => (t.isI, t.w)) = some (true, 8) ∧
    (elemTy (typedState 4).seat.et).map (fun t => (t.isI, t.w)) = some (true, 16) ∧
    (elemTy (typedState 6).seat.et).map tyResidue = some true ∧ srcIsHalf (.main 3) = false ∧
    (typedState 7).seat.active 64 0 = true := by decide +kernel

/-- A seat with a remote operand stream of RX8 rows of its own die's core 9, row 5 of it there, through entry 3. -/
def streamState : State :=
  let b0 := lteWrite (lteWrite (lteWrite 0 13 4) 10 1) 11 0
  let bits := lteWrite (lteWrite (lteWrite (lteWrite (lteWrite b0 2 255) 3 1023) 6 1) 7 256) 26 1
  let t : Stream := ⟨3, bits, 2, 3, [(20, 77)], false, []⟩
  State.reset.onSeat 0 0 fun st => { st with stream := some t, lte := [(3, bits)] }
def streamReads : Bool :=
  let s := streamState
  let t := (s.streamFor 3 3).1
  let w := { s.issuing with bad := lteSize t.bits != mSize .rx8 }
  match s.form w .load t.entry 0 t.bits [0, 5, 0, 0] 64 with
  | .error _ => false
  | .ok fm => match s.spots w .load fm (List.range 64) with
    | .error _ => false
    | .ok _ => t.reads.isEmpty && (t.ahead.find? fun q => q.1 == 20).isSome
theorem witness_MatrixPlaneAndPushResults :
    State.reset.seat.pred (0 : Guard).val = true ∧ tget .ready State.reset.me.rows 77 = .ready ∧
      State.reset.me.gridUntil ≤ State.reset.me.idx ∧
    streamState.seat.pred (0 : Guard).val = true ∧ streamState.me.gridUntil ≤ streamState.me.idx ∧ streamReads = true := by decide +kernel

theorem witness_MatrixBasinResults :
    let s := State.reset.onSeat 0 0 fun st => { st with sup := true }
    s.seat.pred (0 : Guard).val = true ∧ s.seat.sup = true ∧ s.me.flight.all (fun l => l.seat != s.cx.seat || !l.effect.inArray) = true ∧
      tget .ready s.me.rows 2047 = .ready := by decide +kernel

theorem witness_MatrixLandings : (∀ p ∈ Seat.reset.p0, p.1 < 64) ∧ (∀ p ∈ Seat.reset.p1, p.1 < 64) ∧ MFmt.fp32 ≠ .rx8 := by decide +kernel

theorem witness_MatrixTraps :
    let s := State.reset.onCore 0 fun k => { k with rows := [(0, .pending 7), (1, .faulted 15 9)], gridUntil := 40 }
    s.seat.pred (0 : Guard).val = true ∧ tget .ready s.me.rows 0 = .pending 7 ∧ tget .ready s.me.rows 1 = .faulted 15 9 ∧
      tget .ready s.me.rows 2 = .ready ∧ s.me.idx < s.me.gridUntil ∧ s.seat.sup = false := by decide +kernel

theorem witness_EntryFieldResults :
    let locked := State.reset.onSeat 0 0 fun st => { st with lte := [(3, lteWrite 0 17 1)] }
    State.reset.seat.pred (0 : Guard).val = true ∧ State.reset.seat.pure = false ∧ lteRead (State.reset.seat.entry 3) 17 = 0 ∧
      locked.seat.sup = false ∧ lteRead (locked.seat.entry 3) 17 = 1 ∧
      field (State.reset.srcInt .l0 (.const 5)) 3 0 = 4 ∧ field (State.reset.srcInt .l0 .imm) 3 0 = 0 := by decide +kernel

/-- Entry 3 of the running seat names the own scratchpad, or the own basin, as rows of 64 FP32 elements or of 256 bytes. -/
def entryBits (space etype ext step : Nat) : LteBits :=
  lteWrite (lteWrite (lteWrite (lteWrite (lteWrite (lteWrite 0 13 space) 10 1) 11 etype) 2 ext) 3 255) 6 step |> fun b => lteWrite b 7 256
def entryState (b : LteBits) : State := State.reset.onSeat 0 0 fun st => { st with lte := [(3, b)] }
/-- An access of entry 3 forms, and its elements have places. -/
def accessOk (s : State) (w : Issuing) (u : Use) (cs : List Nat) (n : Nat) (lanes : List Nat) : Bool :=
  match s.form w u 3 0 (s.seat.entry 3) cs n with
  | .error _ => false
  | .ok fm => match s.spots w u fm lanes with
    | .error _ => false
    | .ok xs => xs.length == lanes.length
theorem witness_LoadResults :
    let s := entryState (entryBits 1 7 255 4)
    let r := entryState (entryBits 1 2 255 1)
    s.seat.pred (0 : Guard).val = true ∧ s.seat.pure = false ∧
    accessOk s s.issuing .load (coords (s.srcInt .l0 (.const 3))) 1 [0] = true ∧
    accessOk s s.issuing .load [0, 0, 0, 0] 128 (List.range 128) = true ∧
    accessOk s { s.issuing with bad := rawBad (s.seat.entry 3) } .load [0, 0, 0, 0] 128 (List.range 128) = true ∧
    accessOk r { r.issuing with bad := lteSpace (r.seat.entry 3) != 1 || lteSize (r.seat.entry 3) != 1 } .load [0, 0, 0, 0] 64
      (List.range 64) = true ∧
    accessOk State.reset State.reset.issuing .load [0, 0, 0, 0] 1 [0] = false ∧
    s.firstThere s.cx.core s.cx.seat s.nextPost ((List.range 512).map ((Home.basin s.cx.core).at 0 + ·)) = true ∧
    (s.postMine (.write [((Home.basin 0).at 5, 1)] none) 0 none []).firstThere 0 0 (s.nextPost + 1)
      ((List.range 512).map ((Home.basin 0).at 0 + ·)) = false ∧
    (match s.laneSpots s.issuing .load 3 128 (laneCoords 0 128) (s.activeLanes 128) with
      | .ok xs => xs.length == 128
      | .error _ => false) = true := by decide +kernel

theorem witness_OwnMemoryLoads : (entryState (entryBits 2 7 255 4)).atPort (entryBits 2 7 255 4) [(Home.basin 0).at 0] = true ∧ lteSpace (entryBits 2 7 255 4) = 2 ∧ lteSpace (entryBits 1 7 255 4) = 1 ∧ (leBytes 4 7).length = 4 ∧
    (leBytes 512 7).length = 4 * (4096 / 32) := by decide +kernel

theorem witness_StoreResults :
    let s := entryState (entryBits 1 7 255 4)
    let raw := { s.issuing with bad := rawBad (s.seat.entry 3) || halfBad (s.seat.entry 3) (.main 1) }
    s.seat.pred (0 : Guard).val = true ∧ s.seat.pure = false ∧
    accessOk s { s.issuing with bad := halfBad (s.seat.entry 3) (.const 4) } .store [0, 0, 0, 0] 1 [0] = true ∧
    accessOk s { s.issuing with bad := halfBad (s.seat.entry 3) (.main 1) } .store [0, 0, 0, 0] 128 (s.activeLanes 128) = true ∧
    accessOk s raw .store [0, 0, 0, 0] 128 (List.range 128) = true ∧
    (match s.laneSpots { s.issuing with bad := halfBad (s.seat.entry 3) (.main 1) } .store 3 128 (laneCoords 0 128) (s.activeLanes 128) with
      | .ok xs => xs.length == 128
      | .error _ => false) = true ∧
    halfBad (s.seat.entry 3) (.main 1) = false ∧
    (let r := entryState (entryBits 1 2 255 1)
     match r.laneSpots { r.issuing with bad := halfBad (r.seat.entry 3) (.const 4) } .store 3 128 (laneCoords 0 128) [] with
      | .ok xs => xs.isEmpty && halfBad (r.seat.entry 3) (.const 4)
      | .error _ => false) = true := by decide +kernel

theorem witness_StoreFrame :
    let s := entryState (entryBits 1 7 255 4)
    let x : Spot := ⟨3, (Home.spad 0).at 4, none, none, none⟩
    (∀ y ∈ [x], ((fun i => leBytes 4 i) y.lane).length = 4) ∧ s.atPort (entryBits 1 7 255 4) ((spotWrites [x] fun i => leBytes 4 i).map (·.1)) = true ∧
      (∀ i < 4, homeOf (x.flat + i) = .spad 0) ∧ s.atPort (entryBits 3 7 255 4) ((spotWrites [x] fun i => leBytes 4 i).map (·.1)) = false ∧
      ((s.touch (entryBits 3 7 255 4) [x]).noteMisses s.issuing (slotRank s.cx.word) [x]).spotTest 0 0 State.mapFault [x] = none := by
  decide +kernel

theorem witness_AccessFormatFaults :
    (let b := lteWrite (lteWrite 0 13 4) 22 2
     lteRead b 13 = 4 ∧ lteRead b 22 = 2) ∧ (let b := lteWrite (lteWrite 0 13 1) 19 1
     lteRead b 13 = 1 ∧ lteRead b 19 = 1 ∧ lteRead b 16 = 0) := by decide +kernel

theorem witness_FaultOrder :
    (match State.reset.form State.reset.issuing .load 3 0 0 [0, 0, 0, 0] 1 with
      | .error x => x.cause == 8
      | .ok _ => false) = true ∧ boundsDim (entryBits 1 7 255 4) [256, 0, 0, 0] 1 = some 0 ∧
    formatFault (entryBits 1 7 255 4) false = false ∧ State.reset.me.flight = [] ∧ State.reset.seat.tvec = 0 ∧ bitOf State.reset.seat.tstat tstatSIP = false ∧
    State.reset.seat.waits = [] := by decide +kernel

theorem witness_AtomicResults :
    let b := entryBits 2 6 255 4
    let s := entryState b
    let f := entryState (entryBits 2 7 255 4)
    let k := entryState (entryBits 2 8 255 4)
    s.seat.pred (0 : Guard).val = true ∧ s.seat.pure = false ∧
    ([AtomicOp.add, .min, .max, .minu, .maxu, .and, .or, .xor, .xch, .cas].all fun op =>
      accessOk s { s.issuing with bad := !atomicOk op b, noAtomic := !basinClass b } .atomic [0, 0, 0, 0] 1 [0]) = true ∧
    accessOk f { f.issuing with bad := !atomicOk .addf (f.seat.entry 3), noAtomic := !basinClass (f.seat.entry 3) } .atomic [0, 0, 0, 0] 1
      [0] = true ∧
    accessOk k { k.issuing with bad := !atomicOk .addk (k.seat.entry 3), noAtomic := !basinClass (k.seat.entry 3) } .atomic [0, 0, 0, 0] 1
      [0] = true ∧
    s.atPort b (objectBytes (spotBytes 4 [⟨0, (Home.basin 0).at 4, none, none, none⟩])) = true ∧
    (∀ i < 4, homeOf ((Home.basin 0).at 4 + i) = .basin 0) := by decide +kernel

theorem witness_OrderingResults :
    let b := lteWrite (lteWrite (entryBits 1 7 255 4) 16 1) 19 1
    let s := entryState b
    let v (g : Option Word) : State := s.onMe fun st => { st with waits := [⟨s.cx.pos, .target 0 true, 0, 0, true, g⟩] }
    let p := s.postMine (.write [] none) 0 none []
    let used := (s.setRecState 0 5 1).onSeat 0 0 fun st => { st with tenant := 5 }
    let far := s.onSeat 0 0 fun st => { st with l0 := [(1, 0x8000000000000000)], tenant := 5 }
    s.seat.pred (0 : Guard).val = true ∧ s.seat.pure = false ∧
    s.bindCheck { s.issuing with binds := true } 3 b false = none ∧ s.bindCheck { s.issuing with binds := true } 3 b true = none ∧
    s.bindCheck s.issuing 3 b false = none ∧ s.myWait = none ∧ ((v none).myWait.map (·.ended)) = some true ∧
    (((v (some 7)).myWait.bind (·.got)).map fun x => meets (x.toNat % 2 ^ 48) 7) = some true ∧
    (((v (some 7)).myWait.bind (·.got)).map fun x => meets (x.toNat % 2 ^ 48) 8) = some false ∧
    s.tripsOf 0 0 = [] ∧ s.postedOf 0 0 = [] ∧ (p.unperformed 0 0 0).any (· < p.cx.firstId) = false ∧
    ({ p with cx := { p.cx with firstId := p.nextPost } } : State).unperformed 0 0 0 = [p.nextPost - 1] ∧ s.outstanding 0 0 0 0 = false ∧ p.outstanding 0 0 1 0 = true ∧
    bitOf (s.srcInt .l0 (.const 5)) 63 = false ∧ s.recState 0 5 = 0 ∧ field (s.srcInt .l0 (.const 5)) 19 16 = dieOf 0 ∧
    used.recState 0 5 ≠ 0 ∧ used.recTenant 0 5 ≠ used.seat.tenant ∧ bitOf (far.srcInt .l0 (.main 1)) 63 = true ∧
    (tget Wallow.reset far.wallow 0).tenant ≠ far.seat.tenant ∧ (tget Wallow.reset s.wallow 0).tenant = s.seat.tenant := by decide +kernel

theorem witness_ChannelResults :
    let s := State.reset
    let p : RedPacket := ⟨3, 0, 1, 0, 7, 9, 0⟩
    let r := s.onCore 0 fun k => { k with router := k.router.setQueue 3 [p] }
    let q := s.onMe fun st => { st with inq := [5], outq := List.replicate 16 0 }
    let b := lteWrite (lteWrite (entryBits 4 0 255 1) 26 1) 25 0
    let e := entryState b
    let m := entryState (entryBits 1 7 255 4)
    s.seat.pred (0 : Guard).val = true ∧ s.seat.pure = false ∧ s.ownerOf 0 0 = .owned s.seat.tenant ∧
    (s.onSeat 0 0 fun st => { st with tenant := 9 }).ownerOf 0 0 ≠ .owned 9 ∧
    accessOk e { e.issuing with bad := !(lteSpace b == 4 || lteSpace b == 5) || 1 % lteSize b != 0 || halfBad b (.main 1) } .store
      [0, 0, 0, 0] 1 [0] = true ∧ overFlume 0 b = false ∧
    s.ownAccesses 0 0 = [] ∧ s.arrayOrds 0 0 = [] ∧ s.seat.pushing = [] ∧ r.me.router.queue 3 = [p] ∧ p.mask = r.srcInt .l0 (.const 0) ∧ p.mask ≠ r.srcInt .l0 (.const 1) ∧
    s.seat.inq = [] ∧ q.seat.inq = [5] ∧ s.seat.outq.length < 16 ∧ 16 ≤ q.seat.outq.length ∧
    accessOk m m.issuing .load [0, 0, 0, 0] 1 [0] = true := by decide +kernel

/-- Whether a copy of one element of entry 3 on itself, or a claim of one row of it, is accepted, and what is promised. -/
def copyPromise (s : State) (kind : CmdKind) : Option Nat :=
  match s.acceptCopy s.issuing 0 (.seat 0) kind 0x63 0x200000000 0 0 (some (0, 0)) [] [] with
  | .ok (p, _) => some p
  | .error _ => none
def claimPromise (s : State) : Option Nat :=
  match s.acceptClaim s.issuing 0 (.seat 0) 3 0 0 (some (0, 0)) [] [] with
  | .ok (p, _) => some p
  | .error _ => none
theorem witness_EngineResults :
    let s := entryState (entryBits 1 7 255 4)
    let a := entryState (lteWrite (lteWrite (entryBits 1 7 255 4) 16 1) 19 1)
    let t := entryState (entryBits 1 7 0 4 |> fun b => lteWrite b 10 0)
    s.seat.pred (0 : Guard).val = true ∧ s.seat.pure = false ∧ s.engineFull 0 = false ∧ (copyPromise s .cpy).map (fun p => decide (4 < p)) = some true ∧
    (copyPromise a (.cpya 1)).map (fun p => decide (4 < p)) = some true ∧ (claimPromise s).map (fun p => decide (4 < p)) = some true ∧
    copyPromise State.reset .cpy = none ∧ claimPromise State.reset = none ∧
    lteSpace (t.seat.entry 3) = 1 ∧ (match t.regionSpots { t.issuing with region := true } .load 3 (t.seat.entry 3) with
      | .ok xs => xs.length == 1
      | .error _ => false) = true := by decide +kernel

/-- A launch in slot 0 with template 0 of slot 0, a field of core (0, 0) of die 0 with all its seats, and one save slot; a record 5 that may shoot. -/
def spawnState : State :=
  let dw2 := 1 + 7 * 2 ^ 28
  let s := (State.reset.storeNat (Home.ioc.at (launchOff 0 + 16)) 8 dw2).storeNat (Home.ioc.at (launchOff 0 + 96)) 8 1
  let s := (s.setRecDw 0 5 0 0x20400000).setRecDw 0 5 1 0x1000
  let s := (s.onLaunch 0 fun l => { l with spawned := [(0, 0)] }).onSeat 0 0 fun st => { st with record := 5, sup := true }
  { s with jobs := [(0, { Job.reset with committed := some 0 })] }
theorem witness_SystemSlotResults :
    let s := spawnState
    s.seat.pred (0 : Guard).val = true ∧ s.seat.pure = false ∧ s.seat.sup = true ∧ s.recSlot 0 5 = 0 ∧
    ((s.launch 0).spawned.find? fun p => p.1 == field (s.srcInt .b (.const 0)) 63 61).map (·.2) = some 0 ∧ s.inField 0 0 = true ∧
    s.freeRecord 0 65536 0 = some 0 ∧ s.freeSave 0 = some 0 ∧ (State.reset.launch 0).spawned = [] ∧ s.inField 0 8 = false ∧
    ((s.onJob s.seat.job fun j => { j with phase := .saving }).job s.seat.job).phase = .saving ∧ gateAddress 0xC0000 = none ∧
    s.gateRefused 0 (gateStored (BitVec.allOnes 256)) none 0 = true ∧
    bitOf (s.recDw 0 5 0) 22 = true ∧ (s.job s.seat.job).committed = some (s.ctxEpoch 0 s.seat.ctx) ∧
    (s.srcInt .b (.const 1)).toNat = s.ctxEpoch 0 s.seat.ctx + 1 ∧ (s.job s.seat.job).phase = .idle ∧
    bitOf (State.reset.recDw 0 0 0) 22 = false ∧ gateAddress (s.srcInt .l0 (.const 0)) = some (0, 0) ∧
    gateAddress 0x10000 = some (0, 1) ∧
    ((s.onSeat 0 0 fun st => { st with l0 := [(1, 0x1000000000000000)] }).srcInt .l0 (.main 1)) = 0x1000000000000000 ∧
    s.gateRefused 0 (gateStored 0x1000000000000000) (s.streamFmt 0) (s.streamTenant 0 s.seat.tenant) = false := by decide +kernel

theorem witness_ForbiddenSlots : State.reset.seat.sup = false ∧ State.reset.seat.pend = none ∧ State.reset.seat.pred 0 = true ∧
    (Instr.rtt { g := 0 }).guard = some 0 ∧ bitOf State.reset.seat.tstat tstatUIP = false ∧
    (State.reset.onSeat 0 0 fun st => { st with pure := true }).seat.pure = true ∧
    (Instr.qpop { g := 0, x := false, d := .latch }).guard = some 0 := by decide +kernel

theorem witness_SideRv64Results :
    let s : State := { State.reset with cx := { Context.reset with storer := true } }
    let r := s.onSide fun x => { x with regs := [(5, 0x10000), (6, 2)] }
    (r.side.reg 5).toNat % 8 = 0 ∧ (r.side.reg 6).toNat % 4 ≠ 0 ∧ (s.side.pc + 4).toNat % 4 = 0 ∧
      rvTaken .beq (r.side.reg 5) (r.side.reg 6) = false ∧ rvTaken .bne (r.side.reg 5) (r.side.reg 6) = true := by decide +kernel

/-- Loader 0 of core 0 at work for seat 0, which runs a task and has entry 3. -/
def sideState (b : LteBits) : State :=
  let s := (State.reset.onSeat 0 0 fun st => { st with st := .running, lte := [(3, b)], inq := [], outq := [4] })
  s.onCore 0 fun k => { k with loader := { k.loader with loaded := true, regs := [(5, 3), (6, 0x63), (7, 0x200000000)] } }
theorem witness_SideXjaindResults :
    let s := sideState (entryBits 1 7 255 4)
    let b := lteWrite (lteWrite (entryBits 1 7 255 4) 16 1) 19 1
    let p := sideState b
    let e := lteWrite (entryBits 4 0 255 1) 26 1
    let q := sideState e
    let far := sideState (lteWrite b 16 6)
    let die := sideState (lteWrite (lteWrite e 13 5) 27 1)
    let h := s.setSideAt 0 false { s.side with scflt := 7 }
    s.jseat.st = .running ∧ s.jseat.leaving = false ∧ s.jseat.inq.length < 16 ∧ s.jseat.outq = [4] ∧ State.reset.jseat.st = .free ∧
    (match s.acceptCopy s.sideIssuing 0 s.cx.issuer .cpy (s.side.reg 6) (s.side.reg 7) 0 0 none [] [] with
      | .ok (p, _) => p != 0
      | .error _ => false) = true ∧
    (match s.acceptClaim s.sideIssuing 0 s.cx.issuer (s.side.reg 5) 0 0 none [] [] with
      | .ok (p, _) => p != 0
      | .error _ => false) = true ∧
    s.cyc < (s.side.reg 5).toNat ∧ fieldNamed 12 = true ∧ lteRead (s.jseat.entry 3) 17 = 0 ∧
    p.bindCheck p.sideIssuing 3 b true = none ∧ p.bindCheck p.sideIssuing 3 b false = none ∧ p.posted = [] ∧
    (syncObject 0 b).map farObject = some false ∧ s.bindCheck s.sideIssuing 3 (entryBits 1 7 255 4) false ≠ none ∧
    (syncObject 0 (lteWrite b 16 6)).map farObject = some true ∧ far.bindCheck far.sideIssuing 3 (lteWrite b 16 6) false = none ∧
    far.canal.requests = [] ∧ far.side.acquiring = none ∧ p.side.acquiring = none ∧
    ((p.post { p.sideItem 4 with kind := .release ((syncObject 0 b).getD 0) none }).posted.any fun k =>
      k.agent == .side 0 false && meetsAny k.kind.addrs ((List.range 16).map ((syncObject 0 b).getD 0 + ·))) = true ∧
    overFlume 0 (lteWrite (lteWrite e 13 5) 27 1) = true ∧
    accessOk die { die.sideIssuing with bad := false } .store [0, 0, 0, 0] 1 [0] = true ∧
    (die.askSelector (die.sideItem 4) 0 (lteWrite (lteWrite e 13 5) 27 1) die.sideIssuing.stamp).1 = [] ∧
    accessOk q { q.sideIssuing with bad := !(lteSpace e == 4 || lteSpace e == 5) || 1 % lteSize e != 0 } .store [0, 0, 0, 0] 1 [0] = true ∧
    overFlume 0 e = false ∧ (h.side.loaded = true ∧ field h.side.scflt 7 0 ≠ 0) ∧ s.side.runs = true ∧
    (s.setSideAt 0 false { s.side with pc := 2 }).sideException 0 false = some (5, 2) := by decide +kernel

/-- A translation context 0 of die 0 that maps page 0 by tables in its HBM, with the given low bits in the leaf. -/
def mapState (low : Nat) : State :=
  let at_ (o : Nat) : Nat := (Home.hbm 0).at o
  let s := State.reset.storeNat (State.reset.ctxAt 0 0) 8 1
  let s := (s.storeNat (at_ 0) 8 0x100000001).storeNat (at_ 0x10000) 8 0x200000001
  s.storeNat (at_ 0x20000) 8 (0x300000000 + low)
/-- A command of the engine of core 0 for seat 0, of `kind`, on `src`, with its progress. -/
def testCmd (kind : CmdKind) (src : LteBits) (moved : Nat) (rows : List Nat) : Cmd :=
  { id := 0, issuer := .seat 0, kind := kind, src := src, dst := entryBits 1 7 255 4, srcHalf := false, dstHalf := false, sc := [0, 0], dc := [0, 0],
    ne := 64, nr := 1, promise := 9, moved := moved, rows := rows, complete := false, faulted := none, faultCause := 15, tenant := 0, ctx := 0,
    sup := false, job := 0, after := [], unacked := [], srcEntry := 3, dstEntry := 3, task := some (0, 0), bound := none, num := 0, reach := 0,
    asked := [], tags := [], got := [], landings := [], going := [], ahead := [], aheadTo := [] }
def cmdState (k : Cmd) : State := State.reset.onCore 0 fun x => { x with cmds := [k], rows := [(0, .pending 0)] }
/-- A trip of seat 0 of core 0 for 4 bytes of the I/O cistern, in issue order 5. -/
def testTrip (a : Option Atomic) (addr : Nat) : State :=
  let t : Trip := ⟨7, [addr, addr + 1, addr + 2, addr + 3], [], .scalar 4 false, a, [], .direct, 0, none, 2, 0, [], false⟩
  let l : Landing := ⟨0, 0, 5, 0, .l0, .file .l0 1 0, some 0, .away t, none, false, false⟩
  let s := State.reset.onCore 0 fun k => { k with flight := [l], frozenSince := some 0 }
  s.onDie 0 fun d => { d with cyc := 0x2000000 }
def tripReady (s : State) (refused : Bool) : Bool :=
  match s.awayAt 0 5 with
  | none => false
  | some (l, t) => t.route == .direct && !t.nextPart.isEmpty && s.firstThere 0 l.seat t.id t.nextTouch && !s.poisoned t.nextPart &&
      !s.cutOff 0 t.nextPart && s.refusedAt (t.owner 0) t.tenant t.nextPart == refused
def postedState (k : PostKind) : State := { State.reset with posted := [{ State.reset.myItem 1 with kind := k, id := 3 }] }
def postedReady (s : State) : Bool := match s.posted.find? fun q => q.id == 3 with
  | none => false
  | some p => s.turnOf p && s.inOrder p && !s.itemHeld p
theorem witness_ArrivalEvents :
    let l (e : Effect) : Landing := ⟨0, 0, 0, 0, .s0, e, none, .here, none, false, false⟩
    let fly (e : Effect) := State.reset.onCore 0 fun k => { k with flight := [l e] }
    let fetching := ((mapState 0x81F).onSeat 0 0 fun st => { st with sup := true }).onCore 0 fun k => { k with fetching := some (0, 1), running := some 0 }
    let launch := ((mapState 0x14F).onLaunch 0 fun l => l).storeNat (Home.ioc.at (launchOff 0 + 16)) 8 (2 ^ 61)
    let armed := { launch with posted := [{ State.reset.myItem 1 with kind := .write [] none, va := some 5 }] }
    let m : Miss := ⟨0, 0, 0, 0, 0⟩
    let walking := (mapState 0x4F).onDie 0 fun d => { d with walks := [m], misses := [m] }
    let copied := cmdState (testCmd .cpy (entryBits 1 7 255 4) 64 [])
    let faulting := cmdState (testCmd .cpy (entryBits 6 7 255 4) 0 [])
    let owing := testCmd (.dclm 0 0) (entryBits 1 7 255 4) 0 [0]
    let claim := cmdState { owing with got := (List.range 256).map fun i => ((Home.spad 0).at i, 1) }
    ((fly (.file .s0 1 2)).firstRipe 0).map (·.effect.survives) = some false ∧
    ((fly (.basinRow 1 2)).firstRipe 0).map (·.effect.survives) = some true ∧
    (match fetching.codeLine 0 0 (fetching.seatAt 0 0).sup 64 with
      | .ok _ => true
      | .error _ => false) = true ∧
    tripReady (testTrip none (Home.ioc.at 64)) false = true ∧ tripReady (testTrip (some ⟨.add, 4, 6, 1, 0⟩) (Home.ioc.at 64)) false = true ∧
    tripReady ((testTrip none ((Home.spad 9).at 64)).onDie 0 fun d => { d with owners := [(9, .owned 5)] }) true = true ∧
    ((testTrip none 64).die 0).xto ≤ (testTrip none 64).cycOf 0 ∧
    postedReady (postedState (.write [(5, 1)] none)) = true ∧ postedReady (postedState (.decrement 0 0 1)) = true ∧
    postedReady (postedState (.release 64 none)) = true ∧ postedReady (postedState (.tlbi 0 0 0 0 none)) = true ∧
    (armed.armedLeaf 0 0 5).isSome = true ∧ armed.holdsWrite 0 0 0 = true ∧
    oldestMiss (walking.die 0).misses = some m ∧ (walking.die 0).walks[0]? = some m ∧
    (match walking.walk 0 0 0 with
      | .ok l => bitOf l.entry 6
      | .error _ => false) = true ∧
    (match (State.reset.onDie 0 fun d => { d with walks := [m] }).walk 0 0 0 with
      | .ok _ => false
      | .error _ => true) = true ∧
    (copied.cmd 0 0).map (fun k => decide (k.ne * k.nr ≤ k.moved)) = some true ∧ copied.performed [] = true ∧ faulting.cmdReady 0 (testCmd .cpy (entryBits 6 7 255 4) 0 []) = true ∧
    (faulting.cmdSpots 0 (testCmd .cpy (entryBits 6 7 255 4) 0 []) [0]).2 ≠ none ∧
    (claim.cmd 0 0).bind Cmd.nextRow = some (0, 0) ∧ claim.fillsFirst 0 0 0 = false ∧
    (match claim.claimRow 0 owing 0 with
      | .ok xs => !owing.holds xs && (claim.cmd 0 0).any fun k => k.holds xs
      | _ => false) = true ∧
    (streamState.seatAt 0 0).stream.bind (fun t =>
      (streamState.streamNext (streamState.issuingFor 0 0) (streamState.seatAt 0 0) t).map fun p => p.2.isEmpty) = some false ∧
    (postedState (.tlbi 0 0 0 0 (some 3))).translatedBefore 3 = false := by decide +kernel

def waitState (k : WaitKind) (got : Option Word) : State :=
  State.reset.onSeat 0 0 fun st => { st with waits := [⟨0, k, 0, 0, false, got⟩] }
def redPacket : RedPacket := ⟨2, 3, 0, 1, 0, 64, 0⟩
theorem witness_WaitEvents :
    let ends (k : WaitKind) := ((waitState k none).seatAt 0 0).waitOf (fun x => x == k) ≠ none
    let asks (k : WaitKind) (got : Option Word) (a : Nat) := (((waitState k got).seatAt 0 0).acquiring).map (·.2) = some a
    let mon (l : Bool) := State.reset.onSeat 0 0 fun st => { st with monitor := some ⟨5, l, 0, true, false⟩ }
    let park (l : Bool) := State.reset.onSeat 0 0 fun st => { st with st := .parked, park := some ⟨5, l, true, 0⟩ }
    let late := (waitState (.target 64 false) (some 1)).onDie 0 fun d => { d with cyc := 2000 }
    ends .promise ∧ ends .flag ∧ ends .monitor ∧ ends (.reduction 2) ∧ State.reset.performed [] = true ∧
      ((mon true).seatAt 0 0).monitor.map (·.fired) = some false ∧ ((park false).seatAt 0 0).st = .parked ∧
      asks (.acquire 64) none 64 ∧ asks (.acquire (2 ^ 100 + 64)) none (2 ^ 100 + 64) ∧ asks (.target 64 true) (some 1) 64 ∧
      (waitState (.acquire 64) none).objectFree 0 0 64 = true ∧ (waitState (.acquire 64) none).acquireAsked 0 0 = false ∧ (waitState (.acquire 64) none).cutOff 0 [64] = false ∧
      farObject 64 = false ∧ farObject (2 ^ 100 + 64) = true ∧ BitVec.ofNat 64 ((waitState (.target 64 true) (some 1)).loadNat 64 8) ≠ 1 ∧
      (late.seatAt 0 0).acquiring ≠ none ∧ 1024 ≤ late.cycOf 0 ∧ (State.reset.stopAt 0 1 redPacket).isSome = true ∧
      redPacket.turns / 4 ^ 0 % 4 = 3 ∧ meshStep 7 0 = none ∧ meshStep 0 0 = some (1, 4) ∧ (2 ^ 22).testBit 22 = true := by decide +kernel

theorem witness_SchedulerEvents :
    let reset : State := State.reset
    let seat (f : Seat → Seat) := State.reset.onSeat 0 0 f
    let run := seat fun st => { st with st := .running, span := 0x400000, saving := some (.host, 0) }
    let runs := run.onCore 0 fun k => { k with running := some 0 }
    let ready := seat fun st => { st with st := .runnable }
    let saved (t : Word) : SavedTask := ⟨0, 1, 0, { Seat.reset with tcause := t }, 0, none, 0, none⟩
    let held := { State.reset with savedTasks := [saved 16] }
    let fed := (State.reset.onCore 0 fun k => { k with fifos := [(0, [1])] }).onDie 0 fun d => { d with owners := [(0, Owner.owned 0)] }
    let asks := State.reset.onDie 0 fun d => { d with asks := [⟨0, 0, 1, 0⟩] }
    let map := mapState 0x8CF
    let loads := map.onSeat 0 0 fun st => { st with st := .loading }
    let leaves := map.onSeat 0 0 fun st => { st with st := .runnable, leaving := true }
    let queue := { (State.reset.setQueueDw 0 3 (2 ^ 63 + 2 ^ 16)) with awake := [0] }
    let full := { (queue.storeNat (Home.ioc.at (queue.ringOff 0 0 + 8)) 8 1) with awake := [0] }
    let launch := { State.reset with launches := [(0, { Launch.reset with diesLeft := [0] })] }
    let ended := { State.reset with launches := [(0, Launch.reset)] }
    let waits := { State.reset with launches := [(0, { Launch.reset with spawnLeft := [(0, 0, 0)], starting := some [0] })] }
    let stream := { State.reset with flume := { State.reset.flume with time := 5000, streams := [(⟨1, 0, [3], 0, 0, 0, 0, some 0⟩ : StreamRec)] } }
    let pure1 := map.setRecDw 0 1 0 (BitVec.ofNat 64 (2 * 2 ^ 29 + 2 ^ 24))
    let pure1 := pure1.setRecDw 0 1 1 (BitVec.ofNat 64 (launchOff 0 / 256))
    let illegal := bundleState.onCore 0 fun k => { k with icache := [((0, 0), 0)] }
    let hit := { map with hitting := [(0, 1, 5)] }
    (ready.core 0).chosen = some (0, 0) ∧ (fed.core 0).nextTask = some (0, 0, 1) ∧ (fed.core 0).freeSeat = some 0 ∧ (fed.core 0).boundAt ≠ some (fed.cycOf 0) ∧
      fed.mayBind 0 0 1 = true ∧ (fed.installSides 0 0).isSome = true ∧ (loads.template 0 (loads.recSlot 0 0)).isSome = true ∧
      (run.seatAt 0 0).saving = some (.host, 0) ∧ (runs.core 0).running = some 0 ∧ leaves.quiet 0 0 = true ∧
      (match leaves.saveSlot 0 0 0 with
        | .ok (m, va) => !leaves.heldArmed 0 0 va m.leaf
        | .error _ => false) = true ∧
      oldestAsk (asks.die 0).asks = some ⟨0, 0, 1, 0⟩ ∧ (asks.die 0).grant + 1 ≤ asks.pool false ∧ (runs.die 0).wdog ≤ (runs.seatAt 0 0).span ∧
      illegal.illegalAt 0 0 ≠ none ∧
      held.savedTasks.find? (fun t => t.die == 0 && t.record == 1) = some (saved 16) ∧ held.queued 0 1 = false ∧
      waits.waitingRoot 0 = some 0 ∧ (waits.launch 0).starting = some [0] ∧ waits.freeSlots ≠ [] ∧ queue.waitingRoot 0 = none ∧ full.waitingRoot 0 = none ∧
      queue.queueOn 0 = true ∧ queue.consumable 0 = false ∧ full.consumable 0 = true ∧
      roundRobin 64 full.lastQueue ((List.range 64).filter fun i => full.queueDue i && full.consumable i) = some 0 ∧ ((full.setQueueDw 0 1 1).takeRecord 0 0).isSome = true ∧
      (launch.launch 0).diesLeft = [0] ∧ (launch.launch 0).spawnLeft = [] ∧ (ended.launch 0).starting = none ∧ (launch.slotCoords 0 0).length ≤ (launch.freeRecords 0 (launch.slotCoords 0 0).length 0).length ∧
      ended.launchEnded 0 = true ∧ ended.launchWrites 0 = false ∧ stream.rotation (ringOf 0) ≤ stream.ringTime (ringOf 0) ∧
      (State.reset.setRecState 0 1 5).recState 0 1 = 5 ∧ (State.reset.setRecState 0 1 5).taskWritten 0 1 = true ∧
      pure1.recState 0 1 = 2 ∧ pure1.recPure 0 1 = true ∧ pure1.queued 0 1 = false ∧ pure1.madeReady 0 1 = true ∧ (pure1.taskKey 0 1).isSome = true ∧
      (match hit.readVirt 0 (hit.quotaCtx 0 0) true (hit.blockVa 0 0 5) (field (hit.reuseDw 0 5 5) 31 0) with
        | .ok _ => true
        | .error _ => false) = true ∧
      ((hit.template 0 (hit.recSlot 0 1)).bind fun t => hit.outputSpots (taskAgent 0 0 0) (roleEntries t 2)).isSome = true := by decide +kernel

/-- A Flume whose slot `h` stands before station 2 in slot time 16, with the entry `e` there. -/
def slotState (h : Slot) (e : GateBits) : State :=
  { State.reset with flume := { State.reset.flume with time := 16, slots := [(4, h)], gates := [(4100, e)] } }
def testPass : Pass := ⟨.flume, 4, 2, false, none⟩
def ownedSlot : Slot := { Slot.reset with state := .busy, owned := true, stream := 5, dest := 4, len := 4 }
def bestSlot (kind : Nat) : Slot := { Slot.reset with state := .busy, origin := 3, stream := BitVec.ofNat 12 (kind * 256), dest := 4, len := 4 }
/-- An entry of stream 5 with an action and a buffer of one position in the scratchpad of a core. -/
def testEntry (act : Nat) : GateBits := BitVec.ofNat 256 (act * 2 ^ 61 + 5 * 2 ^ 19 + 3 * 2 ^ 208)
theorem witness_FlumeEvents :
    let owned (act : Nat) := slotState ownedSlot (testEntry act)
    let best (kind : Nat) := slotState (bestSlot kind) 0
    let m : BeMsg := ⟨0, 0, 0, 7, 0, 4, 0, 0, 0⟩
    let ask (h : Slot) (n : Nat) := let s := slotState h 0
      { s with flume := { s.flume with queues := [(32, [m])], waits := [(32, n)] } }
    let zero : State := { State.reset with flume := { State.reset.flume with time := 126, classes := [(0, true)] } }
    let stale : State := { State.reset with flume := { State.reset.flume with time := 126, slots := [(0, ownedSlot)] } }
    let wide : State := { State.reset with canal := { State.reset.canal with cols := 2 } }
    (owned 2).passDue testPass = true ∧ (owned 2).flume.bypass.contains 2 = false ∧ ownedSlot.credit = none ∧
      (owned 2).staleAt0 testPass ownedSlot = false ∧ gateAct (testEntry 2) = 2 ∧ gateAct (testEntry 1) = 1 ∧ gateAct (testEntry 0) = 0 ∧
      gateSerr (testEntry 4) = false ∧ (owned 1).armedGate 2 (testEntry 1) = true ∧ ownedSlot.stream.toNat = gateStream (testEntry 3) ∧
      ownedSlot.fmt.toNat = gateFmt (testEntry 3) ∧ (owned 3).jobEarly ownedSlot 2 = false ∧ (owned 3).jobLate ownedSlot 2 = false ∧
      ownedSlot.cseq.toNat = gateNext (testEntry 5) ∧ ownedSlot.dest.getLsbD 2 = true ∧
      ((owned 2).bufAt (gateKey .flume 2 4) (testEntry 2) 0).isSome = true ∧ (owned 2).gate (gateKey .flume 2 4) = testEntry 2 ∧
      (ask Slot.reset 0).eligible testPass = some m ∧ (ask { bestSlot 0 with dest := 8 } 600).eligible testPass = some m ∧
      (best 0).bestOf 2 * (best 0).rotation .flume ≤ 600 ∧ (bestSlot 0).origin.toNat ≠ 2 ∧ (best 0).firstRefused 2 3 = none ∧
      (best 0).eligible testPass = none ∧ (bestSlot 6).stream.toNat / 256 = 6 ∧ (bestSlot 15).stream.toNat / 256 = 15 ∧
      (best 6).passDue testPass = true ∧ zero.passDue ⟨.flume, 0, 0, false, none⟩ = true ∧ zero.flume.classes.find? (fun k => k.1 == 0) = some (0, true) ∧
      ((owned 2).halves testPass = (true, true)) ∧ (zero.halves ⟨.flume, 0, 0, false, none⟩).1 = true ∧
      stale.staleAt0 ⟨.flume, 0, 0, false, none⟩ ownedSlot = true ∧ wide.ladeStation .row < 2 ∧ (owned 1).flume.spoiled = [] ∧ (owned 1).mayLoad 2 5 = true := by decide +kernel

def testPacket (type peer dst addr : Nat) : Packet :=
  { type := BitVec.ofNat 4 type, vc := 1, trimmed := false, rel := false, det := false, pfl := 1, hop := 0, src := BitVec.ofNat 18 (peer * 1024)
    dst := BitVec.ofNat 18 (dst * 1024), sub := 2, tenant := 0, seq := 0, lenM1 := 7, aop := 1, job := 0, addr := BitVec.ofNat 55 addr, opa := 0
    opb := 0, payload := [], via := 0, counts := [] }
/-- Package (0, 0) of a row of two, with its Canal changed. -/
def canalState (f : Canal → Canal) : State := { State.reset with canal := f { State.reset.canal with cols := 2, cycles := 5000 } }
def recvState (st : Arrival) : State :=
  canalState fun k => { k with recv := [(1, { Recv.reset with low := 3, entries := [⟨3, testPacket 0 1 0 64, st, 0⟩] })], rwdog := 64 }
theorem witness_CanalEvents :
    let p := testPacket 3 1 0 64
    let there := testPacket 3 0 1 64
    let link (l : Link) : State := canalState fun k => { k with links := [(0, l)] }
    let inj := canalState fun k => { k with inject := [⟨1, there, none, 7, [], true, false⟩] }
    let tight := canalState fun k => { k with fabctl := 0 }
    let asked := canalState fun k => { k with requests := [⟨7, 1, some 0, 0, 64, 8, .cmd 0, 0⟩] }
    let stored := canalState fun k => { k with store := [⟨1, 0, there, 1, none, 7, false⟩], sendSeq := [(1, 1)] }
    let plain := canalState id
    let owned := plain.onDie 0 fun d => { d with tags := [(0, 0)] }
    inj.unackedSeqs 1 = 0 ∧ inj.route { there with seq := 0 } true = some (0, false) ∧ inj.room 0 { there with seq := 0 } = true ∧
      p.vc ≠ 0 ∧ p.pfl ≠ 0 ∧ plain.linkUp p.via.toNat = true ∧ plain.trims 30 p = false ∧ (plain.countIn p).responseFits p = true ∧ (plain.link p.via.toNat).laneFree p = true ∧ (plain.link p.via.toNat).fits p = true ∧ plain.cuts there = false ∧
      p.dstPackage = plain.package ∧ there.dstPackage ≠ plain.package ∧ tight.canal.trimAt < tight.portFlits 0 + there.flits ∧ tight.canal.trimAt < tight.portFlits 30 + p.flits ∧ (tight.countIn there).room 0 (cutHeader there) = true ∧
      (plain.countIn there).route there false = some (0, false) ∧ (plain.countIn there).room 0 there = true ∧ asked.answerFits p = true ∧
      (((asked.countIn p).recordAnswer { p with hop := p.hop + 1 }).bind fun t => t.requestOf p).isSome = true ∧
      (stored.canal.store.find? fun e => e.peer == 1 && e.seq % 2 ^ 40 == 0).isSome = true ∧
      (match owned.targetOf p .write with
        | .ok l => !l.isEmpty
        | .error _ => false) = true ∧
      ((recvState .waiting).recv 1).entries.find? (fun e => e.seq == 3) = some ⟨3, testPacket 0 1 0 64, .waiting, 0⟩ ∧
      (recvState .waiting).packetReady (testPacket 0 1 0 64) 3 = true ∧ (recvState (.released [])).packetLate (testPacket 0 1 0 64) = false ∧
      ((recvState .waiting).recv 1).acked < 3 ∧
      (((recvState (.hole 0 false 0)).onRecv 1 fun r => r.refilled (recvState (.hole 0 false 0)).canal).recv 1).tokens ≠ 0 ∧ field (recvState .waiting).canal.rwdog 31 0 ≤ 5000 ∧
      plain.linkUp 0 = true ∧ (plain.link 0).may (.control .keysw 0) = true ∧ ((link { Link.reset with cycles := 2000 }).link 0).cycles = 2000 ∧
      (link { Link.reset with flits := 2 ^ 48, stopped := some 0, cycles := 2 ^ 20, retraining := true }).linkUp 0 = true ∧
      plain.nextOut 0 = none ∧ Link.reset.agrees [1] = false ∧ Link.reset.agrees [] = true := by decide +kernel

theorem witness_HostEvents :
    let acc (fn : Fin 17) (bar off : Nat) : HostAccess := ⟨0, none, 0, fn, bar, off⟩
    let die := (mapState 0x8CF).onDie 0 fun d => { d with dfctl := putField (putField 0 63 54 1) 41 3 0, owners := [(0, .owned 1)] }
    let shown := { die with hostSide := { die.hostSide with applied := 0, rqt := [] } }
    let rung (op id : Nat) : State := { State.reset.storeNat (Home.ioc.at 0x080000) 8 (id * 65536 + op) with
      hostSide := { HostSide.reset with doorbells := [0] } }
    let keyed := { rung 2 5 with keys := [(5, ⟨true, 0, 1⟩)] }
    let launch := ({ State.reset with launches := [(0, { Launch.reset with tasks := [(0, 1)] })] }).setRecState 0 1 2
    let flag := postedState (.flagClass [(64, 1)])
    let flag : State := { flag with posted := flag.posted.map fun (p : Posted) => { p with agent := .host 0 } }
    State.reset.reachesBlocks (State.reset.reachOf (acc 0 2 64)) 64 8 = true ∧ State.reset.flagClassAt 64 = false ∧
      ({ State.reset with hostSide := { HostSide.reset with classes := 1 } }).flagClassAt 64 = true ∧
      State.reset.reachesBlocks (State.reset.reachOf { acc 0 2 64 with rid := 7 }) 64 8 = false ∧
      (flag.posted.find? fun p => p.agent == .host 0 && (match p.kind with
        | .flagClass _ => true
        | _ => false)).isSome = true ∧
      shown.dieTakes (acc 1 2 64) 0 = true ∧ shown.reachesCores 0 64 8 = true ∧ State.reset.dieTakes (acc 16 2 0) 15 = false ∧
      State.reset.atomicPlace (acc 0 2 64) 8 = some (Home.ioc.at 64) ∧ State.reset.atomicPlace (acc 0 2 65) 8 = none ∧
      queuePage 0x100000 = some (0, 0) ∧ queuePage 0x100010 = some (0, 16) ∧ State.reset.reachesQueue .everything 0 = true ∧
      field ((rung 1 5).keyDw 0x080000 0) 7 0 = 1 ∧ field ((rung 1 5).keyDw 0x080000 0) 27 16 = 5 ∧ ((rung 1 5).key 5).valid = false ∧
      (rung 1 5).listsOf 0 = [] ∧ field ((rung 9 0).keyDw 0x080000 0) 7 0 = 9 ∧ field ((rung 3 0).keyDw 0x080000 0) 27 16 = 0 ∧
      (keyed.key 5).valid = true ∧ keyed.keyInUse 5 = false ∧ launch.packageClass = some false := by decide +kernel

theorem witness_PackageAndSnapshotEvents :
    let moved := (List.range 16).foldl (fun s d => s.onDie d fun x => { x with owners := [(0, Owner.transit)] }) State.reset
    let job (f : Job → Job) : State := State.reset.onJob 1 f
    let lost := { (mapState 0x4F).onJob 1 fun j => { j with manifest := [1], committed := some 0, copies := [⟨0, 0, 0, 0, []⟩] } with
      poison := [(Home.hbm 0).at 0x30040 / 64] }
    State.reset.inTransit 0 = false ∧ moved.inTransit 0 = true ∧ moved.drainedCore 0 = true ∧
      ((State.reset.onCore 0 fun k => { k with scrubbing := true }).core 0).scrubbing = true ∧
      ((State.reset.onDie 0 fun d => { d with inReset := true }).die 0).inReset = true ∧ bitOf (State.reset.die 0).dfctl 0 = false ∧
      bitOf ((State.reset.onDie 0 fun d => { d with dfctl := 7 }).die 0).dfctl 0 = true ∧
      (State.reset.onDie 0 fun d => { d with dfctl := 7 }).keysIdle 0 = true ∧ State.reset.tdis 0 = 0 ∧
      (State.reset.setTdis 0 1).tdis 0 = 1 ∧ (State.reset.setTdis 0 2).tdis 0 = 2 ∧ State.reset.hostSide.booted = false ∧
      State.reset.hostSide.power = true ∧ State.reset.jobKnown 1 = false ∧ (job id).jobKnown 1 = true ∧ (job id).jobSlots 1 = [] ∧
      ((job fun j => { j with phase := .saving }).job 1).asked.contains 3 = false ∧
      ((job fun j => { j with phase := .saving, asked := [3] }).job 1).asked.contains 3 = true ∧ (job id).jobSeats 1 = [] ∧
      (job id).jobInject 1 = false ∧ (job id).deliveriesDone 3 1 = true ∧ ((job fun j => { j with phase := .arming }).job 1).phase = .arming ∧
      (job fun j => { j with phase := .running }).logsComplete 1 = true ∧
      ((job fun j => { j with manifest := [1] }).job 1).committed = some 0 ∧ (job id).jobSettled 1 = true ∧
      (job fun j => { j with manifest := [1] }).remapped 1 0 [] ≠ none ∧ (job fun j => { j with manifest := [1] }).lostSound ((job id).job 1) = true ∧
      lost.jobSettled 1 = true ∧ lost.remapped 1 0 [(0, 5)] ≠ none ∧ lost.remapped 1 0 [(0, 3)] = none ∧ lost.lostSound ((lost.job 1).upTo 0) = false ∧
      State.reset.isFresh 0 [] ((Home.hbm 0).at 0, 1) (0, 1) = true ∧ pageHas ((Home.hbm 0).at 0, 1) ((Home.hbm 0).at 0 / 65536) = true ∧
      offsetOf ((Home.spad 0).at 64) < (homeOf ((Home.spad 0).at 64)).size ∧ State.reset.poisoned [64] = false := by decide +kernel

/-- 25 R525: the page of a poisoned granule goes to the fresh frame, and the old frame is retired. -/
theorem test_remap :
    let s := { mapState 0x4F with poison := [(Home.hbm 0).at 0x30040 / 64] }
    let u := s.remapPage 0 [⟨0, 0, 0, 0, [7]⟩] ((Home.hbm 0).at 0x30000, 1) (0, 5)
    u.retired = [(Home.hbm 0).at 0x30000 / 65536] ∧ (match u.walk 0 0 0 with
      | .ok l => entryFrame l.entry == 5 && u.loadKeyed (some (u.key 0).material) ((Home.hbm 0).at 0x50000) 1 == 7
      | .error _ => false) = true := by decide +kernel

theorem witness_TrapEntryAndReturn :
    let s (w v : Word) := State.reset.onSeat 0 0 fun st => { st with tvec := w, tstat := v }
    let bit (n : Nat) : Word := BitVec.ofNat 64 (2 ^ n)
    (s (bit 63) 0).tripsOf 0 0 = [] ∧ bitOf ((s (bit 63) 0).seatAt 0 0).tvec 63 = true ∧ bitOf ((s (bit 63) 0).seatAt 0 0).tstat tstatUIP = false ∧
      bitOf ((s 0 (bit tstatUIP)).seatAt 0 0).tstat tstatUIP = true ∧ bitOf ((s 0 (bit tstatUIP)).seatAt 0 0).tstat tstatSIP = false ∧
      bitOf ((s 0 (bit tstatSIP)).seatAt 0 0).tstat tstatSIP = true ∧ bitOf ((s 0 0).seatAt 0 0).tvec 63 = false := by decide +kernel

/-! ### Ill-formed terms, one for each check -/

theorem test_wf_operands :
    Instr.wf (.psc ⟨5, none, none, none, none⟩) = false ∧ Instr.wf (.bclA ⟨0, .main 3⟩) = false ∧
      Instr.wf (.wtc ⟨0, .opnd 1⟩) = false ∧ Instr.wf (.tspn ⟨0, .const 0, .main 1⟩) = false ∧ Instr.wf (.lset ⟨0, 1, .main 0⟩) = false ∧
      Instr.wf (.wfl ⟨0, 1, .main 0⟩) = false ∧ Instr.wf (.add ⟨0, false, .main 0, .const 4, .main 1⟩) = false ∧
      Instr.wf (.clz ⟨0, false, .main 0, .const 4⟩) = false ∧ Instr.wf (.movx ⟨0, false, .latch, .main 0, .v⟩) = false ∧
      Instr.wf (.fcvt ⟨0, false, .main 0, .const 4, 10, .rne⟩) = false ∧ Instr.wf (.tlbi ⟨0, false, .const 4, .main 0⟩) = false ∧
      Instr.wf (.vand ⟨0, .main 0, .const 4, .main 0⟩) = false ∧ Instr.wf (.vshl ⟨0, .main 0, .main 0, .const 4⟩) = false ∧
      Instr.wf (.sld ⟨0, false, .main 0, .const 4, 1, false⟩) = false ∧ Instr.wf (.sst ⟨0, false, 1, .main 0, .const 4⟩) = false := by decide

theorem test_wf_latch_accumulators :
    Instr.wf (.sel ⟨0, false, .latch, .main 0, .main 1⟩) = false ∧ Instr.wf (.bins ⟨0, false, .latch, .main 0, .main 1⟩) = false ∧
      Instr.wf (.fmas ⟨0, false, .latch, .main 0, .main 1⟩) = false ∧ Instr.wf (.vfma ⟨0, .latch, .main 0, .main 1⟩) = false ∧
      Instr.wf (.vcmac ⟨0, .latch, .main 0, .main 1⟩) = false ∧ Instr.wf (.twos ⟨0, false, .latch, true, .main 0, .main 1⟩) = false := by
  decide

theorem test_wf_numbers :
    Instr.wf (.lstr ⟨0, 31, .const 0, 0⟩) = false ∧ Instr.wf (.lstr ⟨0, 0, .const 0, 6⟩) = false ∧ Instr.wf (.lbrk ⟨0, 0⟩) = false ∧
      Instr.wf (.lbrk ⟨0, 7⟩) = false ∧ Instr.wf (.cmp ⟨0, false, .eq, 0, .main 0, .main 0⟩) = false ∧
      Instr.wf (.fcmp ⟨0, false, .eqS, 6, .main 0, .main 0⟩) = false ∧ Instr.wf (.qop ⟨0, false, .mov, 1, 2, 3⟩) = false ∧
      Instr.wf (.csrr ⟨0, false, .main 0, 18⟩) = false ∧ Instr.wf (.csrw ⟨0, false, 0, .main 0⟩) = false ∧
      Instr.wf (.gset ⟨0, false, 31, .main 0⟩) = false ∧ Instr.wf (.lidx ⟨0, false, .main 0, 6, .idx⟩) = false ∧
      Instr.wf (.vkop ⟨0, .not, 0, 1, 2⟩) = false ∧ Instr.wf (.vcvt ⟨0, false, .main 0, .main 0, 6, .rne⟩) = false ∧
      Instr.wf (.vsett ⟨0, false, 0, 10⟩) = false ∧ Instr.wf (.ltset ⟨0, false, 1, .main 0, 28⟩) = false ∧
      Instr.wf (.ltget ⟨0, false, .main 0, 1, 31⟩) = false ∧ Instr.wf (.acas ⟨0, false, 1, .main 0, 3⟩) = false ∧
      Instr.wf (.redp ⟨0, false, 0, .main 0, .main 0⟩) = false ∧ Instr.wf (.mpsa ⟨0, .fp32, 0, 0, 1⟩) = false ∧
      Instr.wf (.mdrd ⟨0, false, .f32, 0, 0, 3⟩) = false ∧ Instr.wf (.mdrd ⟨0, true, .f32, 0, 0, 0⟩) = false ∧
      Instr.wf (.mdrv ⟨0, false, .f32, 0, 3⟩) = false ∧ Instr.wf (.mdrb ⟨0, .f32, 0, 2⟩) = false ∧ Instr.wf (.mdrb ⟨0, .f32, 1, 1⟩) = false ∧
      Instr.wf (.mtsr ⟨0, true, 1⟩) = false ∧ Instr.wf (.sideCoreRv64Instruction (.shImm .slliw 1 1 32)) = false := by decide

/-! ### Words written out bit by bit: stop bit, OP, X, guard, then the fields of 09 R237, R244 and R247, and of 16 R414 -/

/-- PSC.die gp0 = g7 (R244). -/
theorem test_decode_psc : decodeSlot 0b0_00000000_001_00111_11111_11111_11111 = some (.psc ⟨1, some 7, none, none, none⟩) := by decide +kernel
/-- PIM −1 (R244, R246). -/
theorem test_decode_pim : decodeSlot 0b0_00000001_11111111111111111111111 = some (.pim ⟨BitVec.allOnes 23⟩) := by decide +kernel
/-- WTC on S1's younger latch, guard q2 (R237, R240). -/
theorem test_decode_wtc : decodeSlot 0b0_00010000_0_0010_000000_100100_000000 = some (.wtc ⟨2, .latch .s1 false⟩) := by decide +kernel
/-- SUB on S1 to o3 from m5 and the constant 1, guard q4. -/
theorem test_decode_sub : decodeSlot 0b0_00100001_1_0100_011011_000101_110111 = some (.sub ⟨4, true, .opnd 3, .main 5, .const 1⟩) := by
  decide +kernel
/-- VADD to the latch alone from m2 and the older V latch. -/
theorem test_decode_vadd : decodeSlot 0b0_01100000_0_0000_100000_000010_100111 = some (.vadd ⟨0, .latch, .main 2, .latch .v true⟩) := by
  decide +kernel
/-- SST on L1 of m9 through e3 at the coordinate in gp1 (14 R356). -/
theorem test_decode_sst : decodeSlot 0b0_10100110_1_0000_000011_001001_110001 = some (.sst ⟨0, true, 3, .main 9, .gp 1⟩) := by decide +kernel
/-- MPSA of drawer 17, row 33, k-block 1 in B16 (R247). -/
theorem test_decode_mpsa : decodeSlot 0b0_11100100_0_0001_01_10001_100001_01_000 = some (.mpsa ⟨1, .b16, 17, 33, 1⟩) := by decide +kernel
/-- jq.pull a1, as 16 R414 works it out. -/
theorem test_decode_pull : decodeSide 0x0000158B = some (.jqPull 11) := by decide +kernel
/-- add a0, a1, a2 of RV64I: funct7 0, rs2 12, rs1 11, funct3 0, rd 10, opcode 0110011. -/
theorem test_decode_rv_add : decodeSide 0b0000000_01100_01011_000_01010_0110011 = some (.sideCoreRv64Instruction (.op .add 10 11 12)) := by
  decide +kernel
/-- Selector codes 46 and 53 are reserved (R240), and a nonzero index with W = 1 is illegal (R239). -/
theorem test_decode_reserved :
    decodeSlot 0b0_00100001_0_0000_000000_101110_000000 = none ∧ decodeSlot 0b0_00100001_0_0000_000000_000000_110101 = none ∧
      decodeSlot 0b0_00100001_0_0000_100001_000000_000000 = none := by decide +kernel
/-- The words of the spec's round trips are encoded as they are printed (09, 14), the stop bit clear. -/
theorem test_encode_words :
    encodeSlot (.lstr { g := 0, n := 5, a := .const 8, level := 7 }) = some 0x05805F87 ∧
      encodeSlot (.cpy { g := 0, x := false, d := .main 3, a := .main 1, b := .main 2 }) = some 0x54803042 := by decide +kernel

/-! ### Single steps -/

/-- What the first result in flight of core 0 will write. -/
def firstEffect : Res → Option Effect
  | .next s => (s.core 0).flight.head?.map (·.effect)
  | _ => none
def withS0 (a b : Word) : State := State.reset.onSeat 0 0 fun st => { st with s0 := [(1, a), (2, b)] }
/-- 2^64 − 1 plus 2 is 1 (11 R273). -/
theorem test_add_wraps :
    firstEffect (execAdd ⟨1, false, .main 4, .main 1, .main 2⟩ (withS0 (BitVec.allOnes 64) 2)) = none ∧
      firstEffect (execAdd ⟨0, false, .main 4, .main 1, .main 2⟩ (withS0 (BitVec.allOnes 64) 2)) = some (.file .s0 4 1) := by decide +kernel
/-- a − b, in that order. -/
theorem test_sub_order : firstEffect (execSub ⟨0, false, .main 4, .main 1, .main 2⟩ (withS0 7 9)) = some (.file .s0 4 (-2)) := by decide +kernel
/-- The high half of −1 · 2 as signed numbers is −1, as unsigned numbers 1. -/
theorem test_mulh_signs :
    firstEffect (execMulh ⟨0, false, .main 4, .main 1, .main 2⟩ (withS0 (-1) 2)) = some (.file .s0 4 (-1)) ∧
      firstEffect (execMulhu ⟨0, false, .main 4, .main 1, .main 2⟩ (withS0 (-1) 2)) = some (.file .s0 4 1) := by decide +kernel
/-- TRAP of user code with TVEC disabled stands at the die firmware with cause 32 in TCAUSE. -/
theorem test_trap_cause : (match execTrap ⟨0, .const 3⟩ State.reset with
    | .next s => (s.cx.out != .go, field (s.seatAt 0 0).tcause 7 0, (s.seatAt 0 0).sup, (s.seatAt 0 0).tval)
    | _ => (false, 0, false, 0)) = (true, 32, true, 2) := by decide +kernel
/-- The first step after reset runs the word at the first PC: NOPB. -/
theorem test_first_step_next : (match step (State.reset.withFetchWord 32 0x02000000) with
    | .next _ => true
    | _ => false) = true := by decide +kernel

end Sys2Proof.Tests
end

/-! ### The opcode values without an instruction (10 R260, R261) -/

namespace Sys2Proof.Machine

/-- The unassigned values, a range for each class (10 R260). -/
theorem unassignedOp_iff (op : Nat) :
    unassignedOp op = true ↔
      op = 0x03 ∨ (0x1B ≤ op ∧ op ≤ 0x1F) ∨ (0x5C ≤ op ∧ op ≤ 0x5F) ∨ (0x9C ≤ op ∧ op ≤ 0x9F) ∨
        (0xDA ≤ op ∧ op ≤ 0xDF) ∨ (0xF4 ≤ op ∧ op ≤ 0xFF) := by
  simp [unassignedOp, or_assoc]

/-! Each class of the map answers `unassigned` from the end of its instructions to the end of its range. -/

theorem decodeP_unassigned (f : Fields) : decodeP 0x03 f = unassigned := rfl

theorem decodeB_unassigned {op : Nat} (lo : 0x1B ≤ op) (hi : op ≤ 0x1F) (f : Fields) : decodeB op f = unassigned := by
  have hop : op = 0x1B ∨ op = 0x1C ∨ op = 0x1D ∨ op = 0x1E ∨ op = 0x1F := by omega
  rcases hop with rfl | rfl | rfl | rfl | rfl <;> rfl

theorem decodeS_unassigned {op : Nat} (lo : 0x5C ≤ op) (hi : op ≤ 0x5F) (f : Fields) : decodeS op f = unassigned := by
  have hop : op = 0x5C ∨ op = 0x5D ∨ op = 0x5E ∨ op = 0x5F := by omega
  rcases hop with rfl | rfl | rfl | rfl <;> rfl

theorem decodeV_unassigned {op : Nat} (lo : 0x9C ≤ op) (hi : op ≤ 0x9F) (f : Fields) : decodeV op f = unassigned := by
  have hop : op = 0x9C ∨ op = 0x9D ∨ op = 0x9E ∨ op = 0x9F := by omega
  rcases hop with rfl | rfl | rfl | rfl <;> rfl

theorem decodeL_unassigned {op : Nat} (lo : 0xDA ≤ op) (hi : op ≤ 0xDF) (f : Fields) : decodeL op f = unassigned := by
  have hop : op = 0xDA ∨ op = 0xDB ∨ op = 0xDC ∨ op = 0xDD ∨ op = 0xDE ∨ op = 0xDF := by omega
  rcases hop with rfl | rfl | rfl | rfl | rfl | rfl <;> rfl

theorem decodeM_unassigned {op : Nat} (lo : 0xF4 ≤ op) (hi : op ≤ 0xFF) (f : Fields) : decodeM op f = unassigned := by
  have hop : op = 0xF4 ∨ op = 0xF5 ∨ op = 0xF6 ∨ op = 0xF7 ∨ op = 0xF8 ∨ op = 0xF9 ∨
      op = 0xFA ∨ op = 0xFB ∨ op = 0xFC ∨ op = 0xFD ∨ op = 0xFE ∨ op = 0xFF := by omega
  rcases hop with rfl | rfl | rfl | rfl | rfl | rfl | rfl | rfl | rfl | rfl | rfl | rfl <;> rfl

/-! The class that a range of opcodes hands the slot to. -/

section
variable {w : Nat}

theorem slotChk_eq_decodeP (h : opOf w < 0x04) : slotChk w = decodeP (opOf w) (fieldsOf w) := if_pos h

theorem slotChk_eq_decodeB (lo : 0x04 ≤ opOf w) (hi : opOf w < 0x20) : slotChk w = decodeB (opOf w) (fieldsOf w) := by
  simp [slotChk, hi, Nat.not_lt.2 lo]

theorem slotChk_eq_decodeS (lo : 0x20 ≤ opOf w) (hi : opOf w < 0x60) : slotChk w = decodeS (opOf w) (fieldsOf w) := by
  have hP : ¬ opOf w < 0x04 := by omega
  simp [slotChk, hi, Nat.not_lt.2 lo, hP]

theorem slotChk_eq_decodeV (lo : 0x60 ≤ opOf w) (hi : opOf w < 0xA0) : slotChk w = decodeV (opOf w) (fieldsOf w) := by
  have hP : ¬ opOf w < 0x04 := by omega
  have hB : ¬ opOf w < 0x20 := by omega
  simp [slotChk, hi, Nat.not_lt.2 lo, hP, hB]

theorem slotChk_eq_decodeL (lo : 0xA0 ≤ opOf w) (hi : opOf w < 0xE0) : slotChk w = decodeL (opOf w) (fieldsOf w) := by
  have hP : ¬ opOf w < 0x04 := by omega
  have hB : ¬ opOf w < 0x20 := by omega
  have hS : ¬ opOf w < 0x60 := by omega
  simp [slotChk, hi, Nat.not_lt.2 lo, hP, hB, hS]

theorem slotChk_eq_decodeM (lo : 0xE0 ≤ opOf w) : slotChk w = decodeM (opOf w) (fieldsOf w) := by
  have hP : ¬ opOf w < 0x04 := by omega
  have hB : ¬ opOf w < 0x20 := by omega
  have hS : ¬ opOf w < 0x60 := by omega
  have hV : ¬ opOf w < 0xA0 := by omega
  simp [slotChk, Nat.not_lt.2 lo, hP, hB, hS, hV]

/-- Whatever the guard and the other bits of the slot are. -/
theorem slotChk_eq_unassigned (h : unassignedOp (opOf w) = true) : slotChk w = unassigned := by
  obtain hP | ⟨lo, hi⟩ | ⟨lo, hi⟩ | ⟨lo, hi⟩ | ⟨lo, hi⟩ | ⟨lo, hi⟩ := (unassignedOp_iff _).1 h
  · rw [slotChk_eq_decodeP (by omega), hP, decodeP_unassigned]
  · rw [slotChk_eq_decodeB (by omega) (by omega), decodeB_unassigned lo hi]
  · rw [slotChk_eq_decodeS (by omega) (by omega), decodeS_unassigned lo hi]
  · rw [slotChk_eq_decodeV (by omega) (by omega), decodeV_unassigned lo hi]
  · rw [slotChk_eq_decodeL (by omega) (by omega), decodeL_unassigned lo hi]
  · rw [slotChk_eq_decodeM (by omega), decodeM_unassigned lo hi]

end

/-- A slot that breaks a rule on its own is no instruction (09 R249). -/
theorem decodeSlot_eq_none_of_mem_bad {w : SlotWord} {r : Nat} (h : r ∈ (slotChk w.toNat).bad) : decodeSlot w = none := by
  have hne : ¬ (slotChk w.toNat).bad.isEmpty = true := fun he => by simp [List.isEmpty_iff.1 he] at h
  exact if_neg hne

/-- The class order by the last value of each class's range (10 R260). -/
theorem classRank_eq_of_le (op : Nat) :
    classRank op = if op ≤ 0x03 then 0 else if op ≤ 0x1F then 1 else if op ≤ 0x5F then 2
      else if op ≤ 0x9F then 3 else if op ≤ 0xDF then 4 else 5 := by
  simp only [classRank, Nat.lt_succ_iff]

/-- Settles O5: every unassigned value reaches the default case of its class in the map. -/
theorem unassignedOpcodes : Obligations.UnassignedOpcodes := by
  refine ⟨by decide, fun w hw => ?_⟩
  have hbad : 32 ∈ (slotChk w.toNat).bad := by simp [slotChk_eq_unassigned hw, unassigned]
  exact ⟨decodeSlot_eq_none_of_mem_bad hbad, hbad, classRank_eq_of_le _⟩

end Sys2Proof.Machine

/-! ### The sequencer's predicates (11 R297) -/

namespace Sys2Proof.Machine

/-- What the predicate `n` of an active level reads: the even ones find its first iteration, the odd ones its last. -/
def Level.predicate (n : Nat) (l : Level) : Bool := if n % 2 = 0 then l.idx == 0 else l.idx + 1 == l.count

theorem Level.predicate_first (l : Level) (i : Nat) : l.predicate (12 + 2 * i) = true ↔ l.idx = 0 := by
  have heven : (12 + 2 * i) % 2 = 0 := by omega
  rw [Level.predicate, if_pos heven, beq_iff_eq]

/-- The model compares IDX + 1 with COUNT; modulo 2^32 this is R297's comparison of IDX with COUNT - 1. -/
theorem Level.predicate_last (l : Level) (i : Nat) : l.predicate (13 + 2 * i) = true ↔ l.idx = l.count - 1 := by
  have hodd : ¬ (13 + 2 * i) % 2 = 0 := by omega
  rw [Level.predicate, if_neg hodd, beq_iff_eq]
  exact ⟨fun h => by rw [← h, BitVec.add_sub_cancel], fun h => by rw [h, BitVec.sub_add_cancel]⟩

/-- From q12 on a predicate is read off the level of its number. -/
theorem Seat.pred_of_sequencer (st : Seat) {n : Nat} (hn : 12 ≤ n) :
    st.pred n = (st.levels[(n - 12) / 2]?).elim false (Level.predicate n) := by
  have hne0 : n ≠ 0 := by omega
  have hne1 : n ≠ 1 := by omega
  rw [Seat.pred, if_neg hne0, if_neg hne1, if_neg (Nat.not_lt.2 hn)]
  cases st.levels[(n - 12) / 2]? <;> rfl

/-- The two predicates of level `i`, for `b` below 2. -/
theorem Seat.pred_of_level (st : Seat) {i b : Nat} (hb : b < 2) :
    st.pred (12 + b + 2 * i) = (st.levels[i]?).elim false (Level.predicate (12 + b + 2 * i)) := by
  have hlevel : (12 + b + 2 * i - 12) / 2 = i := by omega
  rw [st.pred_of_sequencer (by omega), hlevel]

@[simp] theorem Effect.pair_levels (j : Nat) (c : Bool) (st : Seat) : ((Effect.pair j c).onSeat st).levels = st.levels := rfl

/-- No landing of a predicate pair changes a predicate of the sequencer. -/
theorem Effect.pair_pred (j : Nat) (c : Bool) (st : Seat) {n : Nat} (hn : 12 ≤ n) :
    ((Effect.pair j c).onSeat st).pred n = st.pred n := by
  rw [Seat.pred_of_sequencer _ hn, Seat.pred_of_sequencer _ hn, Effect.pair_levels]

/-- Settles O28: each of q12 to q15 is a function of the level of its number, and a predicate pair lands outside the levels. -/
theorem sequencerPredicates : Obligations.SequencerPredicates := by
  intro st
  have hfirst (i : Nat) := st.pred_of_level (i := i) (b := 0) (by decide)
  have hlast (i : Nat) := st.pred_of_level (i := i) (b := 1) (by decide)
  refine ⟨fun i _ l hl => ⟨?first, ?last⟩, fun i _ hl => ⟨?first_inactive, ?last_inactive⟩,
    fun j c n hlo _ => Effect.pair_pred j c st hlo, fun l => ⟨?empty, ?opened⟩, fun s g act => (s.guarded_next _ g act).2 rfl⟩
  case first => rw [hfirst, hl]; exact l.predicate_first i
  case last => rw [hlast, hl]; exact l.predicate_last i
  case first_inactive => rw [hfirst, hl]; rfl
  case last_inactive => rw [hlast, hl]; rfl
  case empty => exact Seat.pred_of_sequencer _ (Nat.le_refl 12)
  case opened => exact Seat.pred_of_sequencer _ (Nat.le_refl 12)

end Sys2Proof.Machine

/-! ### The vector-type fault (12 R310) -/

namespace Sys2Proof.Machine

/-- An acting typed slot faults under a reserved element type and under one outside its column, whatever it would compute. -/
theorem State.typed_outside {s : State} {g : Guard} {ok : ElemTy → Bool} {vals : List Src} {act : ElemTy → State → State}
    (hg : s.seat.pred g.val = true) (hbad : ∀ t, elemTy s.seat.et = some t → ok t = false) :
    s.typed g ok vals act =
      .next (s.raise 7 (BitVec.ofNat 64 (s.cx.word / 2 ^ 23 % 256 * 256 + s.seat.vtype.toNat % 16))) := by
  rw [State.typed, State.guarded_on _ _ _ hg]
  cases het : elemTy s.seat.et with
  | none => rfl
  | some t => simp [hbad t het, State.vtypeFault, Seat.et]

/-- A guarded slot whose action leaves the issue context leaves it whatever its guard says. -/
theorem State.guarded_cx {s t : State} {g : Guard} {act : State → State} (h : s.guarded g act = .next t)
    (hact : (act s).cx = s.cx) : t.cx = s.cx := by
  rw [(s.guarded_next t g act).1 h]
  split
  · exact hact
  · rfl

/-- The entries without a Types column put one result in flight, under every VTYPE, and leave the issue context. -/
theorem exec_untyped_cx {s t : State} {i : Instr} (h : exec i s = .next t)
    (hi : (∃ f, i = .vsett f) ∨ (∃ f, i = .vzero f) ∨ (∃ f, i = .vmix f) ∨ (∃ f, i = .vkop f) ∨ (∃ f, i = .vmovkToMask f) ∨
      (∃ f, i = .vmovkToReg f) ∨ (∃ f, i = .vanyMask f) ∨ (∃ f, i = .vallMask f)) : t.cx = s.cx := by
  delta exec at h
  obtain ⟨f, rfl⟩ | ⟨f, rfl⟩ | ⟨f, rfl⟩ | ⟨f, rfl⟩ | ⟨f, rfl⟩ | ⟨f, rfl⟩ | ⟨f, rfl⟩ | ⟨f, rfl⟩ := hi
  all_goals exact State.guarded_cx h (s.fly_cx _ _ _ _)

/-- Settles O31. Each entry with a Types column is `State.typed` at that column, which faults; the other entries leave the context, so
their bundle goes on. -/
theorem vectorTypeFault : Obligations.VectorTypeFault := by
  refine ⟨fun s => ⟨fun f hg => ?v3, fun f hg => ?v3x, fun f hg => ?v2, fun f hg h => ?vround, fun f hg h => ?vtws,
    fun f hg h => ?vredm, fun f hg h => ?vcvt, fun f hg => ?vpart, fun f hg h => ?vcmp⟩, fun s t i hgo hnext hi => ?untyped⟩
  case untyped => rw [exec_untyped_cx hnext hi, hgo]
  -- `delta` takes the arm of each instruction without the equation lemmas of `exec`, one for every constructor of `Instr`.
  all_goals delta exec
  case v3 =>
    refine ⟨fun h => ?fik, fun h => ?f, fun h => ?fi, fun h => ?i, fun h => ?every, fun h => ?wideF, fun h => ?c32, fun h => ?f32⟩
    case fik => simp only [execVadd, execVsub, execVmul, vbin, State.typed_outside hg h, and_self]
    case f => simp only [execVdiv, vbin, execVscl, execVsgn, State.typed_outside hg h, and_self]
    case fi => simp only [execVfma, execVfms, vfused, execViota, State.typed_outside hg h, and_self]
    case i => simp only [execVshl, execVshr, execVsar, vbits, State.typed_outside hg h, and_self]
    case every =>
      simp only [execVand, execVor, execVxor, vbits, execVsel, execVbcst, execVxtr, execVperm, execVbfly, execVrotl, execVsplt, vmove,
        State.typed_outside hg h, and_self]
    case wideF => simp only [execVcmul, execVcmac, vcomplex, State.typed_outside hg h, and_self]
    case c32 => simp only [execVcadd, vbin, State.typed_outside hg h]
    case f32 => simp only [execVqnt, State.typed_outside hg h]
  case v3x =>
    refine ⟨fun h => ?fi, fun h => ?i⟩
    case fi => simp only [execVmin, execVmax, execVabsd, vbinx, State.typed_outside hg h, and_self]
    case i => simp only [execVmulh, vbinx, State.typed_outside hg h]
  case v2 =>
    refine ⟨fun h => ?f, fun h => ?fi, fun h => ?i, fun h => ?every, fun h => ?f32, fun h => ?residue⟩
    case f =>
      simp only [execVsqrt, execVrcp, execVrsq, execVexp2, execVlog2, execVcls, vun, State.typed_outside hg h, and_self]
    case fi => simp only [execVabs, execVneg, vun, State.typed_outside hg h, and_self]
    case i => simp only [execVclz, execVpopc, vun, State.typed_outside hg h, and_self]
    case every => simp only [execVreda, State.typed_outside hg h]
    case f32 => simp only [execVhad, execVdq, vun, State.typed_outside hg h, and_self]
    case residue => simp only [execVcrt, execVres, vun, State.typed_outside hg h, and_self]
  case vround => simp only [execVround, vun, State.typed_outside hg h]
  case vtws => simp only [execVtws, State.typed_outside hg h]
  case vredm => simp only [execVredm, State.typed_outside hg h]
  case vcvt => simp only [execVcvt, State.typed_outside hg h]
  case vpart =>
    refine ⟨fun h => ?narrowing, fun h => ?dense⟩
    case narrowing => simp only [execVsatn, State.typed_outside hg h]
    case dense => simp only [execVpck, execVupk, State.typed_outside hg h, and_self]
  case vcmp => simp only [execVcmp, execVany, execVall, vote, State.typed_outside hg h, and_self]

end Sys2Proof.Machine

/-! ### The fields of a slot and the codes that fill them (09 R237-R247) -/

namespace Sys2Proof

/-- Every field fits its place in the slot (09 R237). -/
structure Fields.InRange (f : Fields) : Prop where
  x : f.x < 2
  g : f.g < 16
  d : f.d < 64
  a : f.a < 64
  b : f.b < 64

theorem bitsAt_lt (n lo w : Nat) : bitsAt n lo w < 2 ^ w := Nat.mod_lt _ (Nat.two_pow_pos w)

theorem fieldsOf_inRange (w : Nat) : (fieldsOf w).InRange :=
  ⟨bitsAt_lt _ _ _, bitsAt_lt _ _ _, bitsAt_lt _ _ _, bitsAt_lt _ _ _, bitsAt_lt _ _ _⟩

theorem wordOf_lt {op : Nat} {f : Fields} (hop : op < 256) (hf : f.InRange) : wordOf op f < 2 ^ 31 := by
  obtain ⟨hx, hg, hd, ha, hb⟩ := hf
  simp only [wordOf]
  omega

theorem opOf_wordOf {op : Nat} {f : Fields} (hop : op < 256) (hf : f.InRange) : opOf (wordOf op f) = op := by
  obtain ⟨hx, hg, hd, ha, hb⟩ := hf
  simp only [opOf, bitsAt, wordOf]
  omega

theorem fieldsOf_wordOf {op : Nat} {f : Fields} (hf : f.InRange) : fieldsOf (wordOf op f) = f := by
  obtain ⟨x, g, d, a, b⟩ := f
  obtain ⟨hx, hg, hd, ha, hb⟩ := hf
  simp only [fieldsOf, bitsAt, wordOf, Fields.mk.injEq] at *
  omega

/-- The opcode and the fields of a slot are all its bits but the stop bit. -/
theorem wordOf_fieldsOf (w : Nat) : wordOf (opOf w) (fieldsOf w) = w % 2 ^ 31 := by
  simp only [wordOf, opOf, fieldsOf, bitsAt]
  omega

/-! Codes of operands. -/

@[simp] theorem UnitId.ofIx_ix (u : UnitId) : UnitId.ofIx u.ix = u := by cases u <;> rfl

@[simp] theorem Src.ofCode_code (s : Src) : Src.ofCode s.code = s := by
  cases s with
  | main n => simp [Src.code, Src.ofCode]
  | opnd n =>
    have hn : ¬24 + n.val < 24 := by omega
    have hlt : 24 + n.val < 32 := by omega
    simp only [Src.code, Src.ofCode, if_neg hn, if_pos hlt, Nat.add_sub_cancel_left, Fin.ofNat_val_eq_self]
  | latch u o => cases u <;> cases o <;> rfl
  | gp i => revert i; decide
  | imm => rfl
  | const k => revert k; decide

@[simp] theorem Src.code_lt (s : Src) : s.code < 64 := by
  cases s with
  | latch u o => cases u <;> cases o <;> decide
  | _ => simp only [Src.code]; omega

/-- The reasons against a selector are those of a source that its entry may not name. -/
@[simp] theorem srcBad_code_eq_nil (k : SrcKind) (s : Src) : srcBad k s.code = [] ↔ s.wf k = true := by
  cases s with
  | main n => cases k <;> revert n <;> decide
  | opnd n => cases k <;> revert n <;> decide
  | latch u o => cases k <;> cases u <;> cases o <;> decide
  | gp i => cases k <;> revert i <;> decide
  | imm => cases k <;> decide
  | const c => cases k <;> revert c <;> decide

theorem Src.code_ofCode {k : SrcKind} {c : Nat} (hc : c < 64) (h : srcBad k c = []) : (Src.ofCode c).code = c := by
  have h46 : c ≠ 46 := by rintro rfl; cases k <;> cases h
  have h47 : c ≠ 47 := by rintro rfl; cases k <;> cases h
  have h53 : c ≠ 53 := by rintro rfl; cases k <;> cases h
  clear h
  revert c
  decide

theorem Src.ofCode_wf {k : SrcKind} {c : Nat} (hc : c < 64) (h : srcBad k c = []) : (Src.ofCode c).wf k = true := by
  rwa [← srcBad_code_eq_nil, Src.code_ofCode hc h]

@[simp] theorem Dst.ofCode_code (d : Dst) : Dst.ofCode d.code = d := by
  cases d with
  | main n => simp [Dst.code, Dst.ofCode]
  | opnd n =>
    have hn : ¬24 + n.val < 24 := by omega
    have hlt : 24 + n.val < 32 := by omega
    simp only [Dst.code, Dst.ofCode, if_neg hn, if_pos hlt, Nat.add_sub_cancel_left, Fin.ofNat_val_eq_self]
  | latch => rfl

theorem Dst.code_le (d : Dst) : d.code ≤ 32 := by
  cases d <;> simp only [Dst.code] <;> omega

@[simp] theorem dstBad_code (d : Dst) : dstBad d.code = [] := by
  have hle := d.code_le
  simp only [dstBad]
  exact if_neg (by omega)

/-- W = 1 marks the latch (09 R239). -/
@[simp] theorem Dst.code_lt_iff (d : Dst) : d.code < 32 ↔ d ≠ .latch := by
  cases d <;> simp [Dst.code] <;> omega

theorem Dst.code_ofCode {c : Nat} (hc : c < 64) (h : dstBad c = []) : (Dst.ofCode c).code = c := by
  revert c
  decide

theorem Dst.ofCode_eq_latch {c : Nat} (hc : c < 64) : Dst.ofCode c = .latch ↔ 32 ≤ c := by
  revert c
  decide

/-! Codes of conditions, operations and formats: `ofCode` inverts `code`, and `code` inverts it below the number of codes. -/

@[simp] theorem Rm.ofCode_code (r : Rm) : Rm.ofCode r.code = r := by cases r <;> rfl
@[simp] theorem Rm.code_lt (r : Rm) : r.code < 4 := by cases r <;> decide
theorem Rm.code_ofCode : ∀ c < 4, (Rm.ofCode c).code = c := by decide

@[simp] theorem CmpCond.ofCode_code (k : CmpCond) : CmpCond.ofCode k.code = k := by cases k <;> rfl
@[simp] theorem CmpCond.code_lt (k : CmpCond) : k.code < 8 := by cases k <;> decide
theorem CmpCond.code_ofCode : ∀ c < 8, (CmpCond.ofCode c).code = c := by decide

@[simp] theorem FcmpCond.ofCode_code (k : FcmpCond) : FcmpCond.ofCode k.code = k := by cases k <;> rfl
@[simp] theorem FcmpCond.code_lt (k : FcmpCond) : k.code < 8 := by cases k <;> decide
theorem FcmpCond.code_ofCode : ∀ c < 8, (FcmpCond.ofCode c).code = c := by decide

@[simp] theorem VCond.ofCode_code (k : VCond) : VCond.ofCode k.code = k := by cases k <;> rfl
@[simp] theorem VCond.code_lt (k : VCond) : k.code < 8 := by cases k <;> decide
theorem VCond.code_ofCode : ∀ c < 8, (VCond.ofCode c).code = c := by decide

@[simp] theorem PredOp.ofCode_code (o : PredOp) : PredOp.ofCode o.code = o := by cases o <;> rfl
@[simp] theorem PredOp.code_lt (o : PredOp) : o.code < 6 := by cases o <;> decide
theorem PredOp.code_ofCode : ∀ c < 6, (PredOp.ofCode c).code = c := by decide

@[simp] theorem MaskOp.ofCode_code (o : MaskOp) : MaskOp.ofCode o.code = o := by cases o <;> rfl
@[simp] theorem MaskOp.code_lt (o : MaskOp) : o.code < 8 := by cases o <;> decide
theorem MaskOp.code_ofCode : ∀ c < 8, (MaskOp.ofCode c).code = c := by decide

@[simp] theorem MFmt.ofCode_code (t : MFmt) : MFmt.ofCode t.code = t := by cases t <;> rfl
@[simp] theorem MFmt.code_lt (t : MFmt) : t.code < 4 := by cases t <;> decide
theorem MFmt.code_ofCode : ∀ c < 4, (MFmt.ofCode c).code = c := by decide

@[simp] theorem LidxField.ofCode_code (l : LidxField) : LidxField.ofCode l.code = l := by cases l <;> rfl
@[simp] theorem LidxField.code_lt (l : LidxField) : l.code < 3 := by cases l <;> decide
theorem LidxField.code_ofCode : ∀ c < 3, (LidxField.ofCode c).code = c := by decide

@[simp] theorem MovxTarget.ofCode_code (t : MovxTarget) : MovxTarget.ofCode t.code = t := by cases t <;> rfl
@[simp] theorem MovxTarget.code_lt (t : MovxTarget) : t.code < 5 := by cases t <;> decide
theorem MovxTarget.code_ofCode : ∀ c < 5, (MovxTarget.ofCode c).code = c := by decide

@[simp] theorem FclsFmt.ofCode_code (t : FclsFmt) : FclsFmt.ofCode t.code = t := by cases t <;> rfl
@[simp] theorem FclsFmt.code_lt (t : FclsFmt) : t.code < 4 := by cases t <;> decide
theorem FclsFmt.code_ofCode : ∀ c < 4, (FclsFmt.ofCode c).code = c := by decide

@[simp] theorem DrainSrc.ofCode_code (s : DrainSrc) : DrainSrc.ofCode s.code = s := by cases s <;> rfl
@[simp] theorem DrainSrc.code_lt (s : DrainSrc) : s.code < 4 := by cases s <;> decide
@[simp] theorem DrainSrc.code_legal (s : DrainSrc) : drainSrcLegal s.code = true := by cases s <;> rfl
theorem DrainSrc.code_ofCode : ∀ c < 4, drainSrcLegal c = true → (DrainSrc.ofCode c).code = c := by decide

@[simp] theorem bit_eq_one (b : Bool) : (bit b == 1) = b := by cases b <;> rfl
theorem bit_lt (b : Bool) : bit b < 2 := by cases b <;> decide
theorem bit_beq_one : ∀ n < 2, bit (n == 1) = n := by decide

@[simp] theorem bit_false : bit false = 0 := rfl
@[simp] theorem bit_true : bit true = 1 := rfl

/-- NOT and MOV have one source, SET none (12 R317). -/
theorem MaskOp.code_sources (o : MaskOp) : (5 ≤ o.code ↔ o = .not ∨ o = .mov ∨ o = .set) ∧ (o.code = 7 ↔ o = .set) := by
  cases o <;> decide

@[simp] theorem PredOp.code_eq_five (o : PredOp) : o.code = 5 ↔ o = .mov := by cases o <;> decide

/-- D[12] is the width of a pair and no part of its index (11 R281). -/
@[simp] theorem PairDst.ofCode_code (p : PairDst) (wide : Bool) : PairDst.ofCode (p.code wide) = p := by
  cases p with
  | regs i => cases wide <;> revert i <;> decide
  | latch => cases wide <;> rfl
theorem PairDst.code_mod_two (p : PairDst) (wide : Bool) (h : p = .latch → wide = false) : (p.code wide % 2 == 1) = wide := by
  cases p with
  | regs i => cases wide <;> revert i <;> decide
  | latch => rw [h rfl]; rfl
@[simp] theorem PairDst.dstBad_code (p : PairDst) (wide : Bool) : dstBad (p.code wide) = [] := by
  cases p with
  | regs i => cases wide <;> revert i <;> decide
  | latch => exact Sys2Proof.dstBad_code .latch

theorem PairDst.code_le (p : PairDst) (wide : Bool) : p.code wide ≤ 32 := by
  have := bit_lt wide
  cases p <;> simp only [PairDst.code] <;> omega

/-- A Boolean above a number of 3 bits (12 R333). -/
@[simp] theorem bitsAt_bit_mul_add (b : Bool) (k : Fin 8) : (bitsAt (bit b * 8 + k.val) 3 1 == 1) = b := by
  cases b <;> revert k <;> decide

/-! The number of a P slot (09 R244). -/

theorem Fields.low23_ofLow23 {n : Nat} (h : n < 2 ^ 23) : (Fields.ofLow23 n).low23 = n := by
  simp only [Fields.low23, Fields.ofLow23, bitsAt]
  omega

theorem Fields.ofLow23_inRange (n : Nat) : (Fields.ofLow23 n).InRange :=
  ⟨bitsAt_lt _ _ _, bitsAt_lt _ _ _, bitsAt_lt _ _ _, bitsAt_lt _ _ _, bitsAt_lt _ _ _⟩

theorem Fields.ofLow23_low23 {f : Fields} (h : f.InRange) : Fields.ofLow23 f.low23 = f := by
  obtain ⟨x, g, d, a, b⟩ := f
  obtain ⟨hx, hg, hd, ha, hb⟩ := h
  simp only [Fields.low23, Fields.ofLow23, bitsAt, Fields.mk.injEq] at *
  omega

theorem Fields.low23_lt {f : Fields} (h : f.InRange) : f.low23 < 2 ^ 23 := by
  obtain ⟨hx, hg, hd, ha, hb⟩ := h
  simp only [Fields.low23]
  omega

@[simp] theorem portOf_portCode (p : Option (Fin 31)) : portOf (portCode p) = p := by
  cases p with
  | none => rfl
  | some n => simp [portCode, portOf]

@[simp] theorem portCode_lt (p : Option (Fin 31)) : portCode p < 32 := by
  cases p <;> simp only [portCode] <;> omega

theorem portCode_portOf : ∀ n < 32, portCode (portOf n) = n := by decide

/-- The number that holds the scope and the four ports of a PSC. -/
def pscNumber (scope p0 p1 p2 p3 : Nat) : Nat := scope * 2 ^ 20 + p0 * 2 ^ 15 + p1 * 2 ^ 10 + p2 * 2 ^ 5 + p3

section
variable {scope p0 p1 p2 p3 : Nat} (hs : scope < 8) (h0 : p0 < 32) (h1 : p1 < 32) (h2 : p2 < 32) (h3 : p3 < 32)
include hs h0 h1 h2 h3

theorem pscNumber_fields :
    bitsAt (pscNumber scope p0 p1 p2 p3) 20 3 = scope ∧ bitsAt (pscNumber scope p0 p1 p2 p3) 15 5 = p0 ∧
      bitsAt (pscNumber scope p0 p1 p2 p3) 10 5 = p1 ∧ bitsAt (pscNumber scope p0 p1 p2 p3) 5 5 = p2 ∧
      bitsAt (pscNumber scope p0 p1 p2 p3) 0 5 = p3 ∧ pscNumber scope p0 p1 p2 p3 < 2 ^ 23 := by
  simp only [pscNumber, bitsAt]
  omega

end

theorem pscNumber_bitsAt {n : Nat} (h : n < 2 ^ 23) :
    pscNumber (bitsAt n 20 3) (bitsAt n 15 5) (bitsAt n 10 5) (bitsAt n 5 5) (bitsAt n 0 5) = n := by
  simp only [pscNumber, bitsAt]
  omega

/-! A list of reasons is empty when its rule holds. -/

@[simp] theorem zeroBad_eq_nil (n : Nat) : zeroBad n = [] ↔ n = 0 := by simp [zeroBad]
@[simp] theorem limBad_eq_nil (p : Bool) : limBad p = [] ↔ p = true := by simp [limBad]
@[simp] theorem pairBad_eq_nil (j : Nat) : pairBad j = [] ↔ pairOk j = true := by simp [pairBad, pairOk]

@[simp] theorem ofNat_mul_add_val {n : Nat} [NeZero n] (c : Nat) (i : Fin n) : Fin.ofNat n (c * n + i.val) = i := by
  ext
  simp [Nat.mod_eq_of_lt i.isLt]
@[simp] theorem mul_add_div_of_lt {n c i : Nat} (h : i < n) : (c * n + i) / n = c := by
  rw [Nat.mul_comm, Nat.mul_add_div (Nat.zero_lt_of_lt h), Nat.div_eq_of_lt h, Nat.add_zero]
@[simp] theorem mul_add_mod_of_lt {n c i : Nat} (h : i < n) : (c * n + i) % n = i := by
  rw [Nat.mul_comm, Nat.mul_add_mod, Nat.mod_eq_of_lt h]
@[simp] theorem val_mod {n : Nat} (i : Fin n) : i.val % n = i := Nat.mod_eq_of_lt i.isLt
@[simp] theorem val_div {n : Nat} (i : Fin n) : i.val / n = 0 := Nat.div_eq_of_lt i.isLt

/-- A number of 12 bits in two fields of 6. -/
@[simp] theorem ofNat_bitsAt (v : BitVec 12) : BitVec.ofNat 12 (bitsAt v.toNat 6 6 * 64 + bitsAt v.toNat 0 6) = v := by
  have hv := v.isLt
  refine BitVec.eq_of_toNat_eq ?_
  simp only [bitsAt, BitVec.toNat_ofNat]
  omega

/-! Fields of an M slot (09 R247). -/

section
variable {mode g fmt drawer row kb : Nat}

@[simp] theorem mF_mFmt (hd : drawer < 32) : (mF mode g fmt drawer row kb).mFmt = fmt := by
  simp only [mF, Fields.mFmt]; omega
@[simp] theorem mF_mDrawer (hd : drawer < 32) (hr : row < 64) : (mF mode g fmt drawer row kb).mDrawer = drawer := by
  simp only [mF, Fields.mDrawer]; omega
@[simp] theorem mF_mRow (hr : row < 64) (hk : kb < 4) : (mF mode g fmt drawer row kb).mRow = row := by
  simp only [mF, Fields.mRow]; omega
@[simp] theorem mF_mKb (hk : kb < 4) : (mF mode g fmt drawer row kb).mKb = kb := by
  simp only [mF, Fields.mKb]; omega
@[simp] theorem mF_mLow : (mF mode g fmt drawer row kb).mLow = 0 := by
  simp only [mF, Fields.mLow]; omega
@[simp] theorem mF_mWide (hd : drawer < 32) (hr : row < 64) (hk : kb < 4) : (mF mode g fmt drawer row kb).mWide = drawer * 64 + row := by
  simp only [Fields.mWide, mF_mDrawer hd hr, mF_mRow hr hk]
@[simp] theorem mF_b_mod (hk : kb < 4) : (mF mode g fmt drawer row kb).b % 32 = kb * 8 := by
  simp only [mF]; omega
@[simp] theorem mF_x : (mF mode g fmt drawer row kb).x = mode := rfl
@[simp] theorem mF_g : (mF mode g fmt drawer row kb).g = g := rfl

end

end Sys2Proof

namespace Sys2Proof

/-! ### Fields that a list of reasons leaves: what they are the code of -/

theorem Fields.InRange.exists_eq {f : Fields} (h : f.InRange) :
    ∃ (x : Bool) (g : Guard) (d a b : Nat), d < 64 ∧ a < 64 ∧ b < 64 ∧ f = ⟨bit x, g.val, d, a, b⟩ := by
  obtain ⟨x, g, d, a, b⟩ := f
  obtain ⟨hx, hg, hd, ha, hb⟩ := h
  exact ⟨x == 1, ⟨g, hg⟩, d, a, b, hd, ha, hb, by rw [bit_beq_one x hx]⟩

@[simp] theorem bit_eq_zero (b : Bool) : bit b = 0 ↔ b = false := by cases b <;> decide

theorem srcBad_eq_nil_iff {k : SrcKind} {c : Nat} (hc : c < 64) : srcBad k c = [] ↔ ∃ s : Src, s.wf k = true ∧ s.code = c :=
  ⟨fun h => ⟨.ofCode c, Src.ofCode_wf hc h, Src.code_ofCode hc h⟩, fun ⟨s, hs, e⟩ => e ▸ (srcBad_code_eq_nil k s).2 hs⟩

theorem dstBad_eq_nil_iff {c : Nat} (hc : c < 64) : dstBad c = [] ↔ ∃ d : Dst, d.code = c :=
  ⟨fun h => ⟨.ofCode c, Dst.code_ofCode hc h⟩, fun ⟨d, e⟩ => e ▸ dstBad_code d⟩

theorem zeroBad_div_eq_nil_iff {n c : Nat} (hn : 0 < n) : zeroBad (c / n) = [] ↔ ∃ i : Fin n, i.val = c := by
  rw [zeroBad_eq_nil, Nat.div_eq_zero_iff_lt hn]
  exact ⟨fun h => ⟨⟨c, h⟩, rfl⟩, fun ⟨i, e⟩ => e ▸ i.isLt⟩

end Sys2Proof

namespace Sys2Proof

/-! ### A shape reads back what its fields hold -/

/-- The check finds nothing against the slot and gives `v`. -/
def Chk.Reads (c : Chk α) (v : α) : Prop := c.bad = [] ∧ c.val = v

theorem Ppsc.toF_eq (s : Ppsc) :
    s.toF = .ofLow23 (pscNumber s.scope.val (portCode s.gp0) (portCode s.gp1) (portCode s.gp2) (portCode s.gp3)) := rfl

theorem Ppsc.reads (s : Ppsc) (h : s.wf = true) : (Ppsc.of s.toF).Reads s := by
  obtain ⟨hs, h0, h1, h2, h3, hlt⟩ := pscNumber_fields s.scope.isLt (portCode_lt s.gp0) (portCode_lt s.gp1) (portCode_lt s.gp2)
    (portCode_lt s.gp3)
  rw [Ppsc.toF_eq]
  simpa [Chk.Reads, Ppsc.of, selN, Fields.low23_ofLow23 hlt, hs, h0, h1, h2, h3, Ppsc.wf] using h

theorem Pimm.reads (s : Pimm) : (Pimm.of s.toF).Reads s := by
  simp [Chk.Reads, Pimm.of, Pimm.toF, selN, Fields.low23_ofLow23 s.val.isLt]

theorem Bn.reads {x : Nat} (s : Bn) : (Bn.of (s.toF x)).Reads s := by
  simp [Chk.Reads, Bn.of, Bn.toF, selN, gOf]

theorem Bpt.reads (s : Bpt) : (Bpt.of s.toF).Reads s := by
  simp [Chk.Reads, Bpt.of, Bpt.toF, selN, gOf]

theorem Bba.reads {x : Nat} (s : Bba) (h : s.wf = true) : (Bba.of (s.toF x)).Reads s := by
  simpa [Chk.Reads, Bba.of, Bba.toF, Bba.wf, selA, gOf, xOf, and_assoc] using h

theorem Bb.reads (s : Bb) : (Bb.of s.toF).Reads s := by
  simp [Chk.Reads, Bb.of, Bb.toF, selN, gOf]

theorem Ba.reads {x : Nat} (s : Ba) (h : s.wf = true) : (Ba.of (s.toF x)).Reads s := by
  simpa [Chk.Reads, Ba.of, Ba.toF, Ba.wf, selA, gOf, xOf, and_assoc] using h

theorem Bab.reads {x : Nat} (s : Bab) (h : s.wf = true) : (Bab.of (s.toF x)).Reads s := by
  simpa [Chk.Reads, Bab.of, Bab.toF, Bab.wf, selAB, gOf, xOf, and_assoc] using h

theorem Blset.reads (s : Blset) (h : s.wf = true) : (Blset.of s.toF).Reads s := by
  simpa [Chk.Reads, Blset.of, Blset.toF, Blset.wf, selA, gOf, xOf, and_assoc] using h

theorem Blstr.reads (s : Blstr) (h : s.wf = true) : (Blstr.of s.toF).Reads s := by
  simp only [Blstr.wf, Bool.and_eq_true, bne_iff_ne] at h
  obtain ⟨⟨ha, hn⟩, hl⟩ := h
  have hn' : s.n.val ≠ 31 := fun e => hn (Fin.ext e)
  have hl' : s.level.val ≠ 6 := fun e => hl (Fin.ext e)
  simpa [Chk.Reads, Blstr.of, Blstr.toF, selA, gOf, hn', hl'] using ha

theorem Blbrk.reads (s : Blbrk) (h : s.wf = true) : (Blbrk.of s.toF).Reads s := by
  simp only [Blbrk.wf, Bool.and_eq_true, bne_iff_ne] at h
  obtain ⟨h0, h7⟩ := h
  have h7' : s.n.val ≠ 7 := fun e => h7 (Fin.ext e)
  simpa [Chk.Reads, Blbrk.of, Blbrk.toF, selN, gOf, h7'] using h0

theorem Bwfl.reads (s : Bwfl) (h : s.wf = true) : (Bwfl.of s.toF).Reads s := by
  simpa [Chk.Reads, Bwfl.of, Bwfl.toF, Bwfl.wf, selA, gOf, xOf, and_assoc] using h

theorem S3.reads (k : SrcKind) (s : S3) (h : s.wf k = true) : (S3.of k s.toF).Reads s := by
  simpa [Chk.Reads, S3.of, S3.toF, S3.wf, selAB, gOf, xOf, and_assoc] using h

theorem S3.ofRd_reads (k : SrcKind) (s : S3) (h : s.wf k = true) (hd : s.d ≠ .latch) : (S3.ofRd k s.toF).Reads s := by
  simpa [Chk.Reads, S3.ofRd, S3.toF, S3.wf, selAB, gOf, xOf, and_assoc, hd] using h

theorem S2.reads (k : SrcKind) (s : S2) (h : s.wf k = true) : (S2.of k s.toF).Reads s := by
  simpa [Chk.Reads, S2.of, S2.toF, S2.wf, selA, gOf, xOf, and_assoc] using h

theorem S1.reads (s : S1) : (S1.of s.toF).Reads s := by
  simp [Chk.Reads, S1.of, S1.toF, selN, gOf, xOf]

theorem Smovi.reads (s : Smovi) : (Smovi.of s.toF).Reads s := by
  simp [Chk.Reads, Smovi.of, Smovi.toF, selN, gOf, xOf]

theorem Scmp.reads (s : Scmp) (h : s.wf = true) : (Scmp.of s.toF).Reads s := by
  simp only [Scmp.of, Scmp.toF, ofNat_mul_add_val]
  simpa [Chk.Reads, Scmp.of, Scmp.toF, Scmp.wf, selAB, gOf, xOf, and_assoc] using h

theorem Sfcmp.reads (s : Sfcmp) (h : s.wf = true) : (Sfcmp.of s.toF).Reads s := by
  simp only [Sfcmp.of, Sfcmp.toF, ofNat_mul_add_val]
  simpa [Chk.Reads, Sfcmp.of, Sfcmp.toF, Sfcmp.wf, selAB, gOf, xOf, and_assoc] using h

theorem Sqop.reads (s : Sqop) (h : s.wf = true) : (Sqop.of s.toF).Reads s := by
  simp only [Sqop.wf, Bool.and_eq_true, Bool.or_eq_true, bne_iff_ne, beq_iff_eq] at h
  obtain ⟨hj, hr⟩ := h
  simp only [Sqop.of, Sqop.toF, ofNat_mul_add_val]
  simpa [Chk.Reads, Sqop.of, Sqop.toF, selN, gOf, xOf, hj, Decidable.imp_iff_not_or] using hr

theorem Smovx.reads (s : Smovx) (h : s.wf = true) : (Smovx.of s.toF).Reads s := by
  have hlt := s.target.code_lt
  have h8 : s.target.code < 8 := by omega
  have hmod : s.target.code % 8 = s.target.code := by omega
  simp only [Smovx.wf, Bool.and_eq_true, Bool.or_eq_true, bne_iff_ne, beq_iff_eq] at h
  obtain ⟨ha, hd⟩ := h
  have hz : (if s.d.code / 32 = 1 then zeroBad s.target.code else []) = [] := by
    split
    · have hw : ¬ s.d.code < 32 := by omega
      rw [Dst.code_lt_iff] at hw
      rw [hd.resolve_left hw]
      rfl
    · rfl
  simp [Chk.Reads, Smovx.of, Smovx.toF, selA, gOf, xOf, hlt, h8, hmod, ha]
  exact hz

theorem Sfcvt.reads (s : Sfcvt) (h : s.wf = true) : (Sfcvt.of s.toF).Reads s := by
  have hrm := Nat.mod_eq_of_lt s.rm.code_lt
  simpa [Chk.Reads, Sfcvt.of, Sfcvt.toF, Sfcvt.wf, selA, gOf, xOf, and_assoc, hrm] using h

theorem Sfcls.reads (s : Sfcls) (h : s.wf = true) : (Sfcls.of s.toF).Reads s := by
  simpa [Chk.Reads, Sfcls.of, Sfcls.toF, Sfcls.wf, selA, gOf, xOf, and_assoc] using h

theorem Spair.reads (s : Spair) (h : s.wf = true) : (Spair.of s.toF).Reads s := by
  simp only [Spair.wf, Bool.and_eq_true, Bool.or_eq_true, bne_iff_ne, Bool.not_eq_true'] at h
  obtain ⟨⟨ha, hb⟩, hw⟩ := h
  have hmod := s.p.code_mod_two s.wide fun e => hw.resolve_left fun hne => hne e
  simp [Chk.Reads, Spair.of, Spair.toF, selAB, gOf, xOf, ha, hb, hmod]

theorem Scsrr.reads (s : Scsrr) (h : s.wf = true) : (Scsrr.of s.toF).Reads s := by
  simpa [Chk.Reads, Scsrr.of, Scsrr.toF, Scsrr.wf, selN, gOf, xOf, and_assoc] using h

theorem Scsrw.reads (s : Scsrw) (h : s.wf = true) : (Scsrw.of s.toF).Reads s := by
  simpa [Chk.Reads, Scsrw.of, Scsrw.toF, Scsrw.wf, selB, gOf, xOf, and_assoc] using h

theorem Sgset.reads (s : Sgset) (h : s.wf = true) : (Sgset.of s.toF).Reads s := by
  simp only [Sgset.wf, Bool.and_eq_true, bne_iff_ne] at h
  obtain ⟨hn, ha⟩ := h
  have hne : s.n.val ≠ 31 := fun e => hn (Fin.ext e)
  have hlt : s.n.val < 31 := by omega
  simpa [Chk.Reads, Sgset.of, Sgset.toF, selA, gOf, xOf, hlt, hne] using ha

theorem Slidx.reads (s : Slidx) (h : s.wf = true) : (Slidx.of s.toF).Reads s := by
  have hlt := s.field.code_lt
  have h4 : s.field.code < 4 := by omega
  have hmod : s.field.code % 4 = s.field.code := by omega
  simpa [Chk.Reads, Slidx.of, Slidx.toF, Slidx.wf, selN, gOf, xOf, and_assoc, hlt, h4, hmod] using h

theorem Stsrd.reads (s : Stsrd) : (Stsrd.of s.toF).Reads s := by
  simp [Chk.Reads, Stsrd.of, Stsrd.toF, selN, gOf, xOf]

theorem Sab.reads (s : Sab) (h : s.wf = true) : (Sab.of s.toF).Reads s := by
  simpa [Chk.Reads, Sab.of, Sab.toF, Sab.wf, selAB, gOf, xOf, and_assoc] using h

theorem V3.reads (ka kb : SrcKind) (s : V3) (h : s.wf ka kb = true) : (V3.of ka kb s.toF).Reads s := by
  simpa [Chk.Reads, V3.of, V3.toF, V3.wf, selAB, gOf, xOf, and_assoc] using h

theorem V3.ofRd_reads (s : V3) (h : s.wf .fp .fp = true) (hd : s.d ≠ .latch) : (V3.ofRd s.toF).Reads s := by
  simpa [Chk.Reads, V3.ofRd, V3.toF, V3.wf, selAB, gOf, xOf, and_assoc, hd] using h

theorem V3x.reads (k : SrcKind) (s : V3x) (h : s.wf k = true) : (V3x.of k s.toF).Reads s := by
  simpa [Chk.Reads, V3x.of, V3x.toF, V3x.wf, selAB, gOf, xOf, and_assoc] using h

theorem V2.reads (k : SrcKind) (s : V2) (h : s.wf k = true) : (V2.of k s.toF).Reads s := by
  simpa [Chk.Reads, V2.of, V2.toF, V2.wf, selA, gOf, xOf, and_assoc] using h

theorem V1.reads (s : V1) : (V1.of s.toF).Reads s := by
  simp [Chk.Reads, V1.of, V1.toF, selN, gOf]

theorem Vcmp.reads (s : Vcmp) (h : s.wf = true) : (Vcmp.of s.toF).Reads s := by
  simp only [Vcmp.of, Vcmp.toF, ofNat_mul_add_val]
  simpa [Chk.Reads, Vcmp.of, Vcmp.toF, Vcmp.wf, selAB, gOf, xOf, and_assoc] using h

theorem Vcmp.ofPair_reads (s : Vcmp) (h : s.wf = true) (hk : pairOk s.k.val = true) : (Vcmp.ofPair s.toF).Reads s := by
  simp only [Vcmp.ofPair, Vcmp.toF, ofNat_mul_add_val]
  simpa [Chk.Reads, Vcmp.ofPair, Vcmp.toF, Vcmp.wf, selAB, gOf, xOf, and_assoc, hk] using h

theorem Vvotm.reads (s : Vvotm) (h : s.wf = true) : (Vvotm.of s.toF).Reads s := by
  simp only [Vvotm.of, Vvotm.toF, ofNat_mul_add_val]
  simpa [Chk.Reads, Vvotm.of, Vvotm.toF, Vvotm.wf, selN, gOf, xOf, and_assoc] using h

theorem Vkop.reads (s : Vkop) (h : s.wf = true) : (Vkop.of s.toF).Reads s := by
  have hb : 5 ≤ s.op.code → s.b = 0 := by
    intro h5
    obtain e | e | e := s.op.code_sources.1.1 h5 <;> simp_all [Vkop.wf]
  have ha : s.op.code = 7 → s.a = 0 := by
    intro h7
    have e := s.op.code_sources.2.1 h7
    simp_all [Vkop.wf]
  simp only [Vkop.of, Vkop.toF, ofNat_mul_add_val]
  simpa [Chk.Reads, Vkop.of, Vkop.toF, selN, gOf] using ⟨hb, ha⟩

theorem Vmkto.reads (s : Vmkto) (h : s.wf = true) : (Vmkto.of s.toF).Reads s := by
  simpa [Chk.Reads, Vmkto.of, Vmkto.toF, Vmkto.wf, selA, gOf, xOf, and_assoc] using h

theorem Vmkfr.reads (s : Vmkfr) : (Vmkfr.of s.toF).Reads s := by
  simp [Chk.Reads, Vmkfr.of, Vmkfr.toF, selN, gOf]

theorem Vredm.reads (s : Vredm) (h : s.wf = true) : (Vredm.of s.toF).Reads s := by
  have hmod := Nat.mod_eq_of_lt (bit_lt s.min)
  have hlt := bit_lt s.min
  have hle := Nat.le_of_lt_succ hlt
  simpa [Chk.Reads, Vredm.of, Vredm.toF, Vredm.wf, selA, gOf, xOf, and_assoc, hmod, hlt, hle] using h

theorem Vcvt.reads (s : Vcvt) (h : s.wf = true) : (Vcvt.of s.toF).Reads s := by
  have hrm := Nat.mod_eq_of_lt s.rm.code_lt
  obtain ⟨ha, ht⟩ := (Bool.and_eq_true _ _).mp h
  simp [Chk.Reads, Vcvt.of, Vcvt.toF, selA, gOf, xOf, ha, ht, hrm]

theorem Vpart.reads (k : SrcKind) (lim : Nat) (s : Vpart) (h : s.wf k = true) (hp : s.p.val < lim) : (Vpart.of k lim s.toF).Reads s := by
  simpa [Chk.Reads, Vpart.of, Vpart.toF, Vpart.wf, selA, gOf, xOf, and_assoc, hp] using h

theorem Vtws.reads (s : Vtws) (h : s.wf = true) : (Vtws.of s.toF).Reads s := by
  have heven : s.p.code false % 2 = 0 := by simpa [Nat.mod_two_ne_one] using s.p.code_mod_two false fun _ => rfl
  simpa [Chk.Reads, Vtws.of, Vtws.toF, selAB, gOf, heven, Vtws.wf] using h

theorem Vsett.reads (s : Vsett) (h : s.wf = true) : (Vsett.of s.toF).Reads s := by
  have hlt : bit s.men * 8 + s.ksel.val < 16 := by have := bit_lt s.men; omega
  simp only [Vsett.of, Vsett.toF, ofNat_mul_add_val]
  simpa [Chk.Reads, Vsett.of, Vsett.toF, Vsett.wf, selN, gOf, xOf, and_assoc, hlt] using h

theorem Vround.reads (s : Vround) (h : s.wf = true) : (Vround.of s.toF).Reads s := by
  have hrm := Nat.mod_eq_of_lt s.rm.code_lt
  simpa [Chk.Reads, Vround.of, Vround.toF, Vround.wf, selA, gOf, xOf, and_assoc, hrm] using h

theorem Ltset.reads (s : Ltset) (h : s.wf = true) : (Ltset.of s.toF).Reads s := by
  obtain ⟨ha, hc⟩ := (Bool.and_eq_true _ _).mp h
  simp [Chk.Reads, Ltset.of, Ltset.toF, selA, gOf, xOf, ha, hc]

theorem Ltget.reads (s : Ltget) (h : s.wf = true) : (Ltget.of s.toF).Reads s := by
  simpa [Chk.Reads, Ltget.of, Ltget.toF, Ltget.wf, selN, gOf, xOf, and_assoc] using h

theorem Ltcpy.reads (s : Ltcpy) : (Ltcpy.of s.toF).Reads s := by
  simp [Chk.Reads, Ltcpy.of, Ltcpy.toF, selN, gOf, xOf]

theorem Ldae.ofRaw_reads {raw : Nat} (s : Ldae) (h : s.wf = true) : (Ldae.ofRaw (s.toF raw)).Reads s := by
  simp only [Ldae.ofRaw, Ldae.toF, ofNat_mul_add_val]
  simpa [Chk.Reads, Ldae.ofRaw, Ldae.toF, Ldae.wf, selA, gOf, xOf, and_assoc] using h

theorem Ldae.reads (s : Ldae) (h : s.wf = true) : (Ldae.of (s.toF 0)).Reads s := by
  simpa [Chk.Reads, Ldae.of, Ldae.toF, Ldae.wf, selA, gOf, xOf, and_assoc] using h

theorem Leab.ofRaw_reads {raw : Nat} (s : Leab) (h : s.wf .fp .int = true) : (Leab.ofRaw (s.toF raw)).Reads s := by
  simp only [Leab.ofRaw, Leab.toF, ofNat_mul_add_val]
  simpa [Chk.Reads, Leab.ofRaw, Leab.toF, Leab.wf, selAB, gOf, xOf, and_assoc] using h

theorem Leab.reads (ka kb : SrcKind) (s : Leab) (h : s.wf ka kb = true) : (Leab.of ka kb (s.toF 0)).Reads s := by
  simpa [Chk.Reads, Leab.of, Leab.toF, Leab.wf, selAB, gOf, xOf, and_assoc] using h

theorem Lsld.reads (s : Lsld) (h : s.wf = true) : (Lsld.of s.toF).Reads s := by
  simp only [Lsld.of, Lsld.toF, ofNat_mul_add_val]
  simpa [Chk.Reads, Lsld.of, Lsld.toF, Lsld.wf, selA, gOf, xOf, and_assoc] using h

theorem Ldab.reads (s : Ldab) (h : s.wf = true) : (Ldab.of s.toF).Reads s := by
  simpa [Chk.Reads, Ldab.of, Ldab.toF, Ldab.wf, selAB, gOf, xOf, and_assoc] using h

theorem Le.ofA_reads (s : Le) : (Le.ofA s.toFA).Reads s := by
  simp [Chk.Reads, Le.ofA, Le.toFA, selN, gOf, xOf]

theorem Le.ofD_reads (s : Le) : (Le.ofD s.toFD).Reads s := by
  simp [Chk.Reads, Le.ofD, Le.toFD, selN, gOf, xOf]

theorem Lde.reads (s : Lde) : (Lde.of s.toF).Reads s := by
  simp [Chk.Reads, Lde.of, Lde.toF, selN, gOf, xOf]

theorem La.reads (s : La) (h : s.wf = true) : (La.of s.toF).Reads s := by
  simpa [Chk.Reads, La.of, La.toF, La.wf, selA, gOf, xOf, and_assoc] using h

theorem Ldwr.reads (s : Ldwr) (h : s.wf = true) : (Ldwr.of s.toF).Reads s := by
  simp only [Ldwr.of, Ldwr.toF, ofNat_mul_add_val]
  simpa [Chk.Reads, Ldwr.of, Ldwr.toF, Ldwr.wf, selA, gOf, xOf, and_assoc] using h

theorem Llscl.reads (s : Llscl) (h : s.wf = true) : (Llscl.of s.toF).Reads s := by
  have hmod := Nat.mod_eq_of_lt (bit_lt s.sb)
  have hlt := bit_lt s.sb
  have hle := Nat.le_of_lt_succ hlt
  simpa [Chk.Reads, Llscl.of, Llscl.toF, Llscl.wf, selA, gOf, xOf, and_assoc, hmod, hlt, hle] using h

theorem Lacas.reads (s : Lacas) (h : s.wf = true) : (Lacas.of s.toF).Reads s := by
  simp only [Lacas.wf, Bool.and_eq_true, beq_iff_eq, decide_eq_true_eq] at h
  obtain ⟨⟨ha, h2⟩, h30⟩ := h
  simp [Chk.Reads, Lacas.of, Lacas.toF, selA, gOf, xOf, ha, h2, h30]

theorem Lab.reads (s : Lab) (h : s.wf = true) : (Lab.of .int .int s.toF).Reads s := by
  simpa [Chk.Reads, Lab.of, Lab.toF, Lab.wf, selAB, gOf, xOf, and_assoc] using h

theorem Lea.ofDA_reads (s : Lea) (h : s.wf = true) : (Lea.ofDA s.toFDA).Reads s := by
  simpa [Chk.Reads, Lea.ofDA, Lea.toFDA, Lea.wf, selA, gOf, xOf, and_assoc] using h

theorem Lea.ofAB_reads (s : Lea) (h : s.wf = true) : (Lea.ofAB s.toFAB).Reads s := by
  simpa [Chk.Reads, Lea.ofAB, Lea.toFAB, Lea.wf, selB, gOf, xOf, and_assoc] using h

theorem Lea.ofBA_reads (s : Lea) (h : s.wf = true) : (Lea.ofBA s.toFBA).Reads s := by
  simpa [Chk.Reads, Lea.ofBA, Lea.toFBA, Lea.wf, selA, gOf, xOf, and_assoc] using h

theorem Ln.reads (s : Ln) : (Ln.of s.toF).Reads s := by
  simp [Chk.Reads, Ln.of, Ln.toF, selN, gOf, xOf]

theorem Ld.reads (s : Ld) : (Ld.of s.toF).Reads s := by
  simp [Chk.Reads, Ld.of, Ld.toF, selN, gOf, xOf]

theorem Lsflg.reads (s : Lsflg) (h : s.wf = true) : (Lsflg.of s.toF).Reads s := by
  simpa [Chk.Reads, Lsflg.of, Lsflg.toF, Lsflg.wf, selA, gOf, xOf, and_assoc] using h

theorem Lscnt.reads (s : Lscnt) : (Lscnt.of s.toF).Reads s := by
  simp [Chk.Reads, Lscnt.of, Lscnt.toF, selN, gOf, xOf]

theorem Lredp.reads (s : Lredp) (h : s.wf = true) : (Lredp.of s.toF).Reads s := by
  simpa [Chk.Reads, Lredp.of, Lredp.toF, Lredp.wf, selAB, gOf, xOf, and_assoc] using h

theorem Lda.reads (s : Lda) (h : s.wf = true) : (Lda.of s.toF).Reads s := by
  simpa [Chk.Reads, Lda.of, Lda.toF, Lda.wf, selA, gOf, xOf, and_assoc] using h

theorem Ldeb.reads (s : Ldeb) (h : s.wf = true) : (Ldeb.of s.toF).Reads s := by
  simpa [Chk.Reads, Ldeb.of, Ldeb.toF, Ldeb.wf, selB, gOf, xOf, and_assoc] using h

theorem Mn.reads (s : Mn) : (Mn.of s.toF).Reads s := by
  simp [Chk.Reads, Mn.of, Mn.toF, selN, gOf, mF]

theorem Mblk.reads (s : Mblk) (h : s.wf = true) : (Mblk.of s.toF).Reads s := by
  simpa [Chk.Reads, Mblk.of, Mblk.toF, Mblk.wf, selN, gOf, xOf, and_assoc] using h

theorem Mshr.reads (s : Mshr) : (Mshr.of s.toF).Reads s := by
  simp [Chk.Reads, Mshr.of, Mshr.toF, selN, gOf, xOf]

theorem Mdrd.reads (s : Mdrd) (h : s.wf = true) : (Mdrd.of s.toF).Reads s := by
  simp only [Mdrd.wf, Bool.and_eq_true, bne_iff_ne] at h
  obtain ⟨h3, h0⟩ := h
  have h3' : s.out.val ≠ 3 := fun e => h3 (Fin.ext e)
  simpa [Chk.Reads, Mdrd.of, Mdrd.toF, selN, gOf, xOf, h3'] using h0

theorem Mdrv.reads (s : Mdrv) (h : s.wf = true) : (Mdrv.of s.toF).Reads s := by
  have ho : s.o.val < 64 := by omega
  have hout : s.out.val ≠ 3 := fun e => bne_iff_ne.1 h (Fin.ext e)
  simp [Chk.Reads, Mdrv.of, Mdrv.toF, selN, gOf, xOf, ho, hout]

theorem Mdrb.reads (s : Mdrb) (h : s.wf = true) : (Mdrb.of s.toF).Reads s := by
  have hd : s.brow.val / 64 < 32 := by omega
  have hr : s.brow.val % 64 < 64 := by omega
  have hw : s.brow.val / 64 * 64 + s.brow.val % 64 = s.brow.val := by omega
  have hk : s.src.code = 0 ↔ s.src = .k27 := by cases s.src <;> decide
  simp only [Mdrb.wf, Bool.and_eq_true, bne_iff_ne, ne_eq] at h
  obtain ⟨⟨h3, h2⟩, h1⟩ := h
  have h3' : s.out.val ≠ 3 := fun e => h3 (Fin.ext e)
  simpa [Chk.Reads, Mdrb.of, Mdrb.toF, selN, gOf, hd, hr, hw, hk, h3', Fin.ext_iff, -Fin.val_eq_zero_iff] using And.intro h2 h1

theorem Mbas.reads {mode : Nat} (s : Mbas) : (Mbas.of (s.toF mode)).Reads s := by
  have hd : s.cursor.val / 64 < 32 := by omega
  have hr : s.cursor.val % 64 < 64 := by omega
  have hw : s.cursor.val / 64 * 64 + s.cursor.val % 64 = s.cursor.val := by omega
  have hs : s.stride.val / 4 * 4 + s.stride.val % 4 = s.stride.val := by omega
  have hk : s.stride.val % 4 < 4 := by omega
  simp [Chk.Reads, Mbas.of, Mbas.toF, selN, gOf, hd, hr, hw, hs, hk]

theorem Mkst.reads (s : Mkst) : (Mkst.of s.toF).Reads s := by
  have hd : s.val.val / 64 < 32 := by omega
  have hr : s.val.val % 64 < 64 := by omega
  have hw : s.val.val / 64 * 64 + s.val.val % 64 = s.val.val := by omega
  simp [Chk.Reads, Mkst.of, Mkst.toF, selN, gOf, hd, hr, hw]

theorem Mtsr.reads (s : Mtsr) (h : s.wf = true) : (Mtsr.of s.toF).Reads s := by
  have hn : s.n.val < 64 := by omega
  simpa [Chk.Reads, Mtsr.of, Mtsr.toF, selN, gOf, xOf, hn, Mtsr.wf] using h

theorem Mrow.reads (s : Mrow) : (Mrow.of s.toF).Reads s := by
  simp [Chk.Reads, Mrow.of, Mrow.toF, selN, gOf]

theorem Mpoi.reads (s : Mpoi) : (Mpoi.of s.toF).Reads s := by
  simp [Chk.Reads, Mpoi.of, Mpoi.toF, selN, gOf]

end Sys2Proof

namespace Sys2Proof

/-! ### The fields of a shape fit the slot -/

theorem Dst.code_lt (d : Dst) : d.code < 64 := Nat.lt_of_le_of_lt d.code_le (by decide)
theorem mul_add_lt {h l m n : Nat} (hh : h < m) (hl : l < n) (hmn : m * n ≤ 64) : h * n + l < 64 :=
  calc h * n + l < h * n + n := Nat.add_lt_add_left hl _
    _ = (h + 1) * n := (Nat.succ_mul h n).symm
    _ ≤ m * n := Nat.mul_le_mul_right n hh
    _ ≤ 64 := hmn

theorem Bn.toF_inRange (s : Bn) {x : Nat} (hx : x < 2) : (s.toF x).InRange :=
  ⟨hx, s.g.isLt, Nat.zero_lt_succ _, Nat.zero_lt_succ _, Nat.zero_lt_succ _⟩
theorem Bpt.toF_inRange (s : Bpt) : s.toF.InRange :=
  ⟨Nat.zero_lt_two, s.g.isLt, Nat.lt_of_lt_of_le s.t.isLt (by decide), bitsAt_lt _ _ _, bitsAt_lt _ _ _⟩
theorem Bba.toF_inRange (s : Bba) {x : Nat} (hx : x < 2) : (s.toF x).InRange :=
  ⟨hx, s.g.isLt, Nat.lt_of_lt_of_le s.t.isLt (by decide), Src.code_lt _, Nat.zero_lt_succ _⟩
theorem Bb.toF_inRange (s : Bb) : s.toF.InRange :=
  ⟨Nat.zero_lt_two, s.g.isLt, Nat.lt_of_lt_of_le s.t.isLt (by decide), Nat.zero_lt_succ _, Nat.zero_lt_succ _⟩
theorem Ba.toF_inRange (s : Ba) {x : Nat} (hx : x < 2) : (s.toF x).InRange :=
  ⟨hx, s.g.isLt, Nat.zero_lt_succ _, Src.code_lt _, Nat.zero_lt_succ _⟩
theorem Bab.toF_inRange (s : Bab) {x : Nat} (hx : x < 2) : (s.toF x).InRange :=
  ⟨hx, s.g.isLt, Nat.zero_lt_succ _, Src.code_lt _, Src.code_lt _⟩
theorem Blset.toF_inRange (s : Blset) : s.toF.InRange :=
  ⟨Nat.zero_lt_two, s.g.isLt, Nat.lt_of_lt_of_le s.len.isLt (by decide), Src.code_lt _, Nat.zero_lt_succ _⟩
theorem Blstr.toF_inRange (s : Blstr) : s.toF.InRange :=
  ⟨Nat.zero_lt_two, s.g.isLt, Nat.lt_of_lt_of_le s.n.isLt (by decide), Src.code_lt _, Nat.lt_of_lt_of_le s.level.isLt (by decide)⟩
theorem Blbrk.toF_inRange (s : Blbrk) : s.toF.InRange :=
  ⟨Nat.zero_lt_two, s.g.isLt, Nat.lt_of_lt_of_le s.n.isLt (by decide), Nat.zero_lt_succ _, Nat.zero_lt_succ _⟩
theorem Bwfl.toF_inRange (s : Bwfl) : s.toF.InRange :=
  ⟨Nat.zero_lt_two, s.g.isLt, Nat.lt_of_lt_of_le s.flag.isLt (by decide), Src.code_lt _, Nat.zero_lt_succ _⟩
theorem S3.toF_inRange (s : S3) : s.toF.InRange :=
  ⟨bit_lt _, s.g.isLt, Dst.code_lt _, Src.code_lt _, Src.code_lt _⟩
theorem S2.toF_inRange (s : S2) : s.toF.InRange :=
  ⟨bit_lt _, s.g.isLt, Dst.code_lt _, Src.code_lt _, Nat.zero_lt_succ _⟩
theorem S1.toF_inRange (s : S1) : s.toF.InRange :=
  ⟨bit_lt _, s.g.isLt, Dst.code_lt _, Nat.zero_lt_succ _, Nat.zero_lt_succ _⟩
theorem Smovi.toF_inRange (s : Smovi) : s.toF.InRange :=
  ⟨bit_lt _, s.g.isLt, Dst.code_lt _, bitsAt_lt _ _ _, bitsAt_lt _ _ _⟩
theorem Scmp.toF_inRange (s : Scmp) : s.toF.InRange :=
  ⟨bit_lt _, s.g.isLt, mul_add_lt s.cond.code_lt s.j.isLt (by decide), Src.code_lt _, Src.code_lt _⟩
theorem Sfcmp.toF_inRange (s : Sfcmp) : s.toF.InRange :=
  ⟨bit_lt _, s.g.isLt, mul_add_lt s.cond.code_lt s.j.isLt (by decide), Src.code_lt _, Src.code_lt _⟩
theorem Sqop.toF_inRange (s : Sqop) : s.toF.InRange :=
  ⟨bit_lt _, s.g.isLt, mul_add_lt s.op.code_lt s.j.isLt (by decide), Nat.lt_of_lt_of_le s.p.isLt (by decide), Nat.lt_of_lt_of_le s.r.isLt (by decide)⟩
theorem Smovx.toF_inRange (s : Smovx) : s.toF.InRange :=
  ⟨bit_lt _, s.g.isLt, Dst.code_lt _, Src.code_lt _, Nat.lt_of_lt_of_le s.target.code_lt (by decide)⟩
theorem Sfcvt.toF_inRange (s : Sfcvt) : s.toF.InRange :=
  ⟨bit_lt _, s.g.isLt, Dst.code_lt _, Src.code_lt _, mul_add_lt s.code.isLt s.rm.code_lt (by decide)⟩
theorem Sfcls.toF_inRange (s : Sfcls) : s.toF.InRange :=
  ⟨bit_lt _, s.g.isLt, Dst.code_lt _, Src.code_lt _, Nat.lt_of_lt_of_le s.fmt.code_lt (by decide)⟩
theorem Spair.toF_inRange (s : Spair) : s.toF.InRange :=
  ⟨bit_lt _, s.g.isLt, Nat.lt_of_le_of_lt (s.p.code_le _) (by decide), Src.code_lt _, Src.code_lt _⟩
theorem Scsrr.toF_inRange (s : Scsrr) : s.toF.InRange :=
  ⟨bit_lt _, s.g.isLt, Dst.code_lt _, Nat.lt_of_lt_of_le s.csr.isLt (by decide), Nat.zero_lt_succ _⟩
theorem Scsrw.toF_inRange (s : Scsrw) : s.toF.InRange :=
  ⟨bit_lt _, s.g.isLt, Nat.zero_lt_succ _, Nat.lt_of_lt_of_le s.csr.isLt (by decide), Src.code_lt _⟩
theorem Sgset.toF_inRange (s : Sgset) : s.toF.InRange :=
  ⟨bit_lt _, s.g.isLt, Nat.lt_of_lt_of_le s.n.isLt (by decide), Src.code_lt _, Nat.zero_lt_succ _⟩
theorem Slidx.toF_inRange (s : Slidx) : s.toF.InRange :=
  ⟨bit_lt _, s.g.isLt, Dst.code_lt _, Nat.lt_of_lt_of_le s.level.isLt (by decide), Nat.lt_of_lt_of_le s.field.code_lt (by decide)⟩
theorem Stsrd.toF_inRange (s : Stsrd) : s.toF.InRange :=
  ⟨bit_lt _, s.g.isLt, Dst.code_lt _, Nat.lt_of_lt_of_le s.n.isLt (by decide), Nat.zero_lt_succ _⟩
theorem Sab.toF_inRange (s : Sab) : s.toF.InRange :=
  ⟨bit_lt _, s.g.isLt, Nat.zero_lt_succ _, Src.code_lt _, Src.code_lt _⟩
theorem V3.toF_inRange (s : V3) : s.toF.InRange :=
  ⟨Nat.zero_lt_two, s.g.isLt, Dst.code_lt _, Src.code_lt _, Src.code_lt _⟩
theorem V3x.toF_inRange (s : V3x) : s.toF.InRange :=
  ⟨bit_lt _, s.g.isLt, Dst.code_lt _, Src.code_lt _, Src.code_lt _⟩
theorem V2.toF_inRange (s : V2) : s.toF.InRange :=
  ⟨Nat.zero_lt_two, s.g.isLt, Dst.code_lt _, Src.code_lt _, Nat.zero_lt_succ _⟩
theorem V1.toF_inRange (s : V1) : s.toF.InRange :=
  ⟨Nat.zero_lt_two, s.g.isLt, Dst.code_lt _, Nat.zero_lt_succ _, Nat.zero_lt_succ _⟩
theorem Vcmp.toF_inRange (s : Vcmp) : s.toF.InRange :=
  ⟨Nat.zero_lt_two, s.g.isLt, mul_add_lt s.cond.code_lt s.k.isLt (by decide), Src.code_lt _, Src.code_lt _⟩
theorem Vvotm.toF_inRange (s : Vvotm) : s.toF.InRange :=
  ⟨Nat.one_lt_two, s.g.isLt, mul_add_lt s.k.isLt s.j.isLt (by decide), Nat.zero_lt_succ _, Nat.zero_lt_succ _⟩
theorem Vkop.toF_inRange (s : Vkop) : s.toF.InRange :=
  ⟨Nat.zero_lt_two, s.g.isLt, mul_add_lt s.op.code_lt s.d.isLt (by decide), Nat.lt_of_lt_of_le s.a.isLt (by decide), Nat.lt_of_lt_of_le s.b.isLt (by decide)⟩
theorem Vmkto.toF_inRange (s : Vmkto) : s.toF.InRange :=
  ⟨Nat.zero_lt_two, s.g.isLt, Nat.lt_of_lt_of_le s.k.isLt (by decide), Src.code_lt _, Nat.zero_lt_succ _⟩
theorem Vmkfr.toF_inRange (s : Vmkfr) : s.toF.InRange :=
  ⟨Nat.one_lt_two, s.g.isLt, Dst.code_lt _, Nat.lt_of_lt_of_le s.k.isLt (by decide), Nat.zero_lt_succ _⟩
theorem Vredm.toF_inRange (s : Vredm) : s.toF.InRange :=
  ⟨bit_lt _, s.g.isLt, Dst.code_lt _, Src.code_lt _, Nat.lt_of_lt_of_le (bit_lt _) (by decide)⟩
theorem Vcvt.toF_inRange (s : Vcvt) : s.toF.InRange :=
  ⟨bit_lt _, s.g.isLt, Dst.code_lt _, Src.code_lt _, mul_add_lt s.toTy.isLt s.rm.code_lt (by decide)⟩
theorem Vpart.toF_inRange (s : Vpart) : s.toF.InRange :=
  ⟨Nat.zero_lt_two, s.g.isLt, Dst.code_lt _, Src.code_lt _, Nat.lt_of_lt_of_le s.p.isLt (by decide)⟩
theorem Vtws.toF_inRange (s : Vtws) : s.toF.InRange :=
  ⟨Nat.zero_lt_two, s.g.isLt, Nat.lt_of_le_of_lt (s.p.code_le _) (by decide), Src.code_lt _, Src.code_lt _⟩
theorem Vsett.toF_inRange (s : Vsett) : s.toF.InRange :=
  ⟨Nat.zero_lt_two, s.g.isLt, Nat.zero_lt_succ _, mul_add_lt (bit_lt _) s.ksel.isLt (by decide), Nat.lt_of_lt_of_le s.et.isLt (by decide)⟩
theorem Vround.toF_inRange (s : Vround) : s.toF.InRange :=
  ⟨Nat.zero_lt_two, s.g.isLt, Dst.code_lt _, Src.code_lt _, Nat.lt_of_lt_of_le s.rm.code_lt (by decide)⟩
theorem Ltset.toF_inRange (s : Ltset) : s.toF.InRange :=
  ⟨bit_lt _, s.g.isLt, Nat.lt_of_lt_of_le s.e.isLt (by decide), Src.code_lt _, Nat.lt_of_lt_of_le s.code.isLt (by decide)⟩
theorem Ltget.toF_inRange (s : Ltget) : s.toF.InRange :=
  ⟨bit_lt _, s.g.isLt, Dst.code_lt _, Nat.lt_of_lt_of_le s.e.isLt (by decide), Nat.lt_of_lt_of_le s.code.isLt (by decide)⟩
theorem Ltcpy.toF_inRange (s : Ltcpy) : s.toF.InRange :=
  ⟨bit_lt _, s.g.isLt, Nat.lt_of_lt_of_le s.ed.isLt (by decide), Nat.lt_of_lt_of_le s.es.isLt (by decide), Nat.zero_lt_succ _⟩
theorem Ldae.toF_inRange (s : Ldae) {raw : Nat} (hraw : raw < 2) : (s.toF raw).InRange :=
  ⟨bit_lt _, s.g.isLt, Dst.code_lt _, Src.code_lt _, mul_add_lt hraw s.e.isLt (by decide)⟩
theorem Leab.toF_inRange (s : Leab) {raw : Nat} (hraw : raw < 2) : (s.toF raw).InRange :=
  ⟨bit_lt _, s.g.isLt, mul_add_lt hraw s.e.isLt (by decide), Src.code_lt _, Src.code_lt _⟩
theorem Lsld.toF_inRange (s : Lsld) : s.toF.InRange :=
  ⟨bit_lt _, s.g.isLt, Dst.code_lt _, Src.code_lt _, mul_add_lt (bit_lt _) s.e.isLt (by decide)⟩
theorem Ldab.toF_inRange (s : Ldab) : s.toF.InRange :=
  ⟨bit_lt _, s.g.isLt, Dst.code_lt _, Src.code_lt _, Src.code_lt _⟩
theorem Le.toFA_inRange (s : Le) : s.toFA.InRange :=
  ⟨bit_lt _, s.g.isLt, Nat.zero_lt_succ _, Nat.lt_of_lt_of_le s.e.isLt (by decide), Nat.zero_lt_succ _⟩
theorem Le.toFD_inRange (s : Le) : s.toFD.InRange :=
  ⟨bit_lt _, s.g.isLt, Nat.lt_of_lt_of_le s.e.isLt (by decide), Nat.zero_lt_succ _, Nat.zero_lt_succ _⟩
theorem Lde.toF_inRange (s : Lde) : s.toF.InRange :=
  ⟨bit_lt _, s.g.isLt, Dst.code_lt _, Nat.lt_of_lt_of_le s.e.isLt (by decide), Nat.zero_lt_succ _⟩
theorem La.toF_inRange (s : La) : s.toF.InRange :=
  ⟨bit_lt _, s.g.isLt, Nat.zero_lt_succ _, Src.code_lt _, Nat.zero_lt_succ _⟩
theorem Ldwr.toF_inRange (s : Ldwr) : s.toF.InRange :=
  ⟨bit_lt _, s.g.isLt, Nat.lt_of_lt_of_le s.row.isLt (by decide), Src.code_lt _, mul_add_lt (bit_lt _) s.drawer.isLt (by decide)⟩
theorem Llscl.toF_inRange (s : Llscl) : s.toF.InRange :=
  ⟨bit_lt _, s.g.isLt, Nat.lt_of_lt_of_le (bit_lt _) (by decide), Src.code_lt _, Nat.lt_of_lt_of_le s.e.isLt (by decide)⟩
theorem Lacas.toF_inRange (s : Lacas) : s.toF.InRange :=
  ⟨bit_lt _, s.g.isLt, Nat.lt_of_lt_of_le s.e.isLt (by decide), Src.code_lt _, Nat.lt_of_lt_of_le s.pair.isLt (by decide)⟩
theorem Lab.toF_inRange (s : Lab) : s.toF.InRange :=
  ⟨bit_lt _, s.g.isLt, Nat.zero_lt_succ _, Src.code_lt _, Src.code_lt _⟩
theorem Lea.toFDA_inRange (s : Lea) : s.toFDA.InRange :=
  ⟨bit_lt _, s.g.isLt, Nat.lt_of_lt_of_le s.e.isLt (by decide), Src.code_lt _, Nat.zero_lt_succ _⟩
theorem Lea.toFAB_inRange (s : Lea) : s.toFAB.InRange :=
  ⟨bit_lt _, s.g.isLt, Nat.zero_lt_succ _, Nat.lt_of_lt_of_le s.e.isLt (by decide), Src.code_lt _⟩
theorem Lea.toFBA_inRange (s : Lea) : s.toFBA.InRange :=
  ⟨bit_lt _, s.g.isLt, Nat.zero_lt_succ _, Src.code_lt _, Nat.lt_of_lt_of_le s.e.isLt (by decide)⟩
theorem Ln.toF_inRange (s : Ln) : s.toF.InRange :=
  ⟨bit_lt _, s.g.isLt, Nat.zero_lt_succ _, Nat.zero_lt_succ _, Nat.zero_lt_succ _⟩
theorem Ld.toF_inRange (s : Ld) : s.toF.InRange :=
  ⟨bit_lt _, s.g.isLt, Dst.code_lt _, Nat.zero_lt_succ _, Nat.zero_lt_succ _⟩
theorem Lsflg.toF_inRange (s : Lsflg) : s.toF.InRange :=
  ⟨bit_lt _, s.g.isLt, Nat.lt_of_lt_of_le s.flag.isLt (by decide), Src.code_lt _, Nat.zero_lt_succ _⟩
theorem Lscnt.toF_inRange (s : Lscnt) : s.toF.InRange :=
  ⟨bit_lt _, s.g.isLt, Nat.zero_lt_succ _, Nat.lt_of_lt_of_le s.c.isLt (by decide), Nat.zero_lt_succ _⟩
theorem Lredp.toF_inRange (s : Lredp) : s.toF.InRange :=
  ⟨bit_lt _, s.g.isLt, Nat.lt_of_lt_of_le s.fmt.isLt (by decide), Src.code_lt _, Src.code_lt _⟩
theorem Lda.toF_inRange (s : Lda) : s.toF.InRange :=
  ⟨bit_lt _, s.g.isLt, Dst.code_lt _, Src.code_lt _, Nat.zero_lt_succ _⟩
theorem Ldeb.toF_inRange (s : Ldeb) : s.toF.InRange :=
  ⟨bit_lt _, s.g.isLt, Dst.code_lt _, Nat.lt_of_lt_of_le s.e.isLt (by decide), Src.code_lt _⟩

/-! ### Fields that a shape does not refuse are those of a well-formed value -/

theorem div_eq_zero_iff_exists {n c : Nat} (hn : 0 < n) : c / n = 0 ↔ ∃ i : Fin n, i.val = c := by
  rw [Nat.div_eq_zero_iff_lt hn]
  exact ⟨fun h => ⟨⟨c, h⟩, rfl⟩, fun ⟨i, e⟩ => e ▸ i.isLt⟩

theorem Bn.fills {f : Fields} (hf : f.InRange) (h : (Bn.of f).bad = []) :
    ∃ s : Bn, s.toF f.x = f := by
  obtain ⟨x, g, d, a, b, hd, ha, hb, rfl⟩ := hf.exists_eq
  simp only [Bn.of, selN, List.append_eq_nil_iff, and_assoc, zeroBad_eq_nil] at h
  obtain ⟨rfl, rfl, rfl⟩ := h
  exact ⟨⟨g⟩, rfl⟩

theorem Bba.fills {f : Fields} (hf : f.InRange) (h : (Bba.of f).bad = []) :
    ∃ s : Bba, s.wf = true ∧ s.toF f.x = f := by
  obtain ⟨x, g, d, a, b, hd, ha, hb, rfl⟩ := hf.exists_eq
  simp only [Bba.of, selA, List.append_eq_nil_iff, and_assoc, zeroBad_eq_nil, div_eq_zero_iff_exists (n := 4) (by decide), srcBad_eq_nil_iff ha] at h
  obtain ⟨⟨t, rfl⟩, rfl, ⟨a, wa, rfl⟩⟩ := h
  exact ⟨⟨g, t, a⟩, by simp [Bba.wf, wa], rfl⟩

theorem Bb.fills {f : Fields} (hf : f.InRange) (hx : f.x = 0) (h : (Bb.of f).bad = []) :
    ∃ s : Bb, s.toF = f := by
  obtain ⟨x, g, d, a, b, hd, ha, hb, rfl⟩ := hf.exists_eq
  obtain rfl : x = false := by simpa [bit] using hx
  simp only [Bb.of, selN, List.append_eq_nil_iff, and_assoc, zeroBad_eq_nil, div_eq_zero_iff_exists (n := 4) (by decide)] at h
  obtain ⟨⟨t, rfl⟩, rfl, rfl⟩ := h
  exact ⟨⟨g, t⟩, rfl⟩

theorem Ba.fills {f : Fields} (hf : f.InRange) (h : (Ba.of f).bad = []) :
    ∃ s : Ba, s.wf = true ∧ s.toF f.x = f := by
  obtain ⟨x, g, d, a, b, hd, ha, hb, rfl⟩ := hf.exists_eq
  simp only [Ba.of, selA, List.append_eq_nil_iff, and_assoc, zeroBad_eq_nil, srcBad_eq_nil_iff ha] at h
  obtain ⟨rfl, rfl, ⟨a, wa, rfl⟩⟩ := h
  exact ⟨⟨g, a⟩, by simp [Ba.wf, wa], rfl⟩

theorem Bab.fills {f : Fields} (hf : f.InRange) (h : (Bab.of f).bad = []) :
    ∃ s : Bab, s.wf = true ∧ s.toF f.x = f := by
  obtain ⟨x, g, d, a, b, hd, ha, hb, rfl⟩ := hf.exists_eq
  simp only [Bab.of, selAB, List.append_eq_nil_iff, and_assoc, zeroBad_eq_nil, srcBad_eq_nil_iff ha, srcBad_eq_nil_iff hb] at h
  obtain ⟨rfl, ⟨a, wa, rfl⟩, ⟨b, wb, rfl⟩⟩ := h
  exact ⟨⟨g, a, b⟩, by simp [Bab.wf, wa, wb], rfl⟩

theorem Blset.fills {f : Fields} (hf : f.InRange) (hx : f.x = 0) (h : (Blset.of f).bad = []) :
    ∃ s : Blset, s.wf = true ∧ s.toF = f := by
  obtain ⟨x, g, d, a, b, hd, ha, hb, rfl⟩ := hf.exists_eq
  obtain rfl : x = false := by simpa [bit] using hx
  simp only [Blset.of, selA, List.append_eq_nil_iff, zeroBad_eq_nil, srcBad_eq_nil_iff ha] at h
  obtain ⟨rfl, ⟨a, wa, rfl⟩⟩ := h
  exact ⟨⟨g, ⟨d, hd⟩, a⟩, by simp [Blset.wf, wa], rfl⟩

theorem Bwfl.fills {f : Fields} (hf : f.InRange) (h : (Bwfl.of f).bad = []) :
    ∃ s : Bwfl, s.wf = true ∧ s.toF = f := by
  obtain ⟨x, g, d, a, b, hd, ha, hb, rfl⟩ := hf.exists_eq
  simp only [Bwfl.of, selA, List.append_eq_nil_iff, and_assoc, zeroBad_eq_nil, bit_eq_zero, div_eq_zero_iff_exists (n := 32) (by decide), srcBad_eq_nil_iff ha] at h
  obtain ⟨rfl, ⟨flag, rfl⟩, rfl, ⟨a, wa, rfl⟩⟩ := h
  exact ⟨⟨g, flag, a⟩, by simp [Bwfl.wf, wa], rfl⟩

theorem S3.fills (k : SrcKind) {f : Fields} (hf : f.InRange) (h : (S3.of k f).bad = []) :
    ∃ s : S3, s.wf k = true ∧ s.toF = f := by
  obtain ⟨x, g, d, a, b, hd, ha, hb, rfl⟩ := hf.exists_eq
  simp only [S3.of, selAB, List.append_eq_nil_iff, and_assoc, dstBad_eq_nil_iff hd, srcBad_eq_nil_iff ha, srcBad_eq_nil_iff hb] at h
  obtain ⟨⟨d, rfl⟩, ⟨a, wa, rfl⟩, ⟨b, wb, rfl⟩⟩ := h
  exact ⟨⟨g, x, d, a, b⟩, by simp [S3.wf, wa, wb], rfl⟩

theorem S3.ofRd_fills (k : SrcKind) {f : Fields} (hf : f.InRange) (h : (S3.ofRd k f).bad = []) :
    ∃ s : S3, (s.wf k = true ∧ s.d ≠ .latch) ∧ s.toF = f := by
  obtain ⟨x, g, d, a, b, hd, ha, hb, rfl⟩ := hf.exists_eq
  simp only [S3.ofRd, selAB, List.append_eq_nil_iff, and_assoc, dstBad_eq_nil_iff hd, limBad_eq_nil, srcBad_eq_nil_iff ha, srcBad_eq_nil_iff hb] at h
  obtain ⟨⟨d, rfl⟩, hl, ⟨a, wa, rfl⟩, ⟨b, wb, rfl⟩⟩ := h
  exact ⟨⟨g, x, d, a, b⟩, ⟨by simp [S3.wf, wa, wb], by simpa using hl⟩, rfl⟩

theorem S2.fills (k : SrcKind) {f : Fields} (hf : f.InRange) (h : (S2.of k f).bad = []) :
    ∃ s : S2, s.wf k = true ∧ s.toF = f := by
  obtain ⟨x, g, d, a, b, hd, ha, hb, rfl⟩ := hf.exists_eq
  simp only [S2.of, selA, List.append_eq_nil_iff, and_assoc, dstBad_eq_nil_iff hd, zeroBad_eq_nil, srcBad_eq_nil_iff ha] at h
  obtain ⟨⟨d, rfl⟩, rfl, ⟨a, wa, rfl⟩⟩ := h
  exact ⟨⟨g, x, d, a⟩, by simp [S2.wf, wa], rfl⟩

theorem S1.fills {f : Fields} (hf : f.InRange) (h : (S1.of f).bad = []) :
    ∃ s : S1, s.toF = f := by
  obtain ⟨x, g, d, a, b, hd, ha, hb, rfl⟩ := hf.exists_eq
  simp only [S1.of, selN, List.append_eq_nil_iff, and_assoc, dstBad_eq_nil_iff hd, zeroBad_eq_nil] at h
  obtain ⟨⟨d, rfl⟩, rfl, rfl⟩ := h
  exact ⟨⟨g, x, d⟩, rfl⟩

theorem Scsrr.fills {f : Fields} (hf : f.InRange) (h : (Scsrr.of f).bad = []) :
    ∃ s : Scsrr, s.wf = true ∧ s.toF = f := by
  obtain ⟨x, g, d, a, b, hd, ha, hb, rfl⟩ := hf.exists_eq
  simp only [Scsrr.of, selN, List.append_eq_nil_iff, and_assoc, dstBad_eq_nil_iff hd, zeroBad_eq_nil, limBad_eq_nil] at h
  obtain ⟨⟨d, rfl⟩, rfl, hl⟩ := h
  exact ⟨⟨g, x, d, ⟨a, ha⟩⟩, by simp [Scsrr.wf, hl], rfl⟩

theorem Scsrw.fills {f : Fields} (hf : f.InRange) (h : (Scsrw.of f).bad = []) :
    ∃ s : Scsrw, s.wf = true ∧ s.toF = f := by
  obtain ⟨x, g, d, a, b, hd, ha, hb, rfl⟩ := hf.exists_eq
  simp only [Scsrw.of, selB, List.append_eq_nil_iff, and_assoc, zeroBad_eq_nil, limBad_eq_nil, srcBad_eq_nil_iff hb] at h
  obtain ⟨rfl, hl, ⟨b, wb, rfl⟩⟩ := h
  exact ⟨⟨g, x, ⟨a, ha⟩, b⟩, by simp [Scsrw.wf, hl, wb], rfl⟩

theorem Stsrd.fills {f : Fields} (hf : f.InRange) (h : (Stsrd.of f).bad = []) :
    ∃ s : Stsrd, s.toF = f := by
  obtain ⟨x, g, d, a, b, hd, ha, hb, rfl⟩ := hf.exists_eq
  simp only [Stsrd.of, selN, List.append_eq_nil_iff, and_assoc, dstBad_eq_nil_iff hd, zeroBad_eq_nil, div_eq_zero_iff_exists (n := 16) (by decide)] at h
  obtain ⟨⟨d, rfl⟩, ⟨n, rfl⟩, rfl⟩ := h
  exact ⟨⟨g, x, d, n⟩, rfl⟩

theorem Sab.fills {f : Fields} (hf : f.InRange) (h : (Sab.of f).bad = []) :
    ∃ s : Sab, s.wf = true ∧ s.toF = f := by
  obtain ⟨x, g, d, a, b, hd, ha, hb, rfl⟩ := hf.exists_eq
  simp only [Sab.of, selAB, List.append_eq_nil_iff, and_assoc, zeroBad_eq_nil, srcBad_eq_nil_iff ha, srcBad_eq_nil_iff hb] at h
  obtain ⟨rfl, ⟨a, wa, rfl⟩, ⟨b, wb, rfl⟩⟩ := h
  exact ⟨⟨g, x, a, b⟩, by simp [Sab.wf, wa, wb], rfl⟩

theorem V3.fills (ka kb : SrcKind) {f : Fields} (hf : f.InRange) (h : (V3.of ka kb f).bad = []) :
    ∃ s : V3, s.wf ka kb = true ∧ s.toF = f := by
  obtain ⟨x, g, d, a, b, hd, ha, hb, rfl⟩ := hf.exists_eq
  simp only [V3.of, selAB, List.append_eq_nil_iff, and_assoc, zeroBad_eq_nil, bit_eq_zero, dstBad_eq_nil_iff hd, srcBad_eq_nil_iff ha, srcBad_eq_nil_iff hb] at h
  obtain ⟨rfl, ⟨d, rfl⟩, ⟨a, wa, rfl⟩, ⟨b, wb, rfl⟩⟩ := h
  exact ⟨⟨g, d, a, b⟩, by simp [V3.wf, wa, wb], rfl⟩

theorem V3.ofRd_fills {f : Fields} (hf : f.InRange) (h : (V3.ofRd f).bad = []) :
    ∃ s : V3, (s.wf .fp .fp = true ∧ s.d ≠ .latch) ∧ s.toF = f := by
  obtain ⟨x, g, d, a, b, hd, ha, hb, rfl⟩ := hf.exists_eq
  simp only [V3.ofRd, selAB, List.append_eq_nil_iff, and_assoc, zeroBad_eq_nil, bit_eq_zero, dstBad_eq_nil_iff hd, limBad_eq_nil, srcBad_eq_nil_iff ha, srcBad_eq_nil_iff hb] at h
  obtain ⟨rfl, ⟨d, rfl⟩, hl, ⟨a, wa, rfl⟩, ⟨b, wb, rfl⟩⟩ := h
  exact ⟨⟨g, d, a, b⟩, ⟨by simp [V3.wf, wa, wb], by simpa using hl⟩, rfl⟩

theorem V3x.fills (k : SrcKind) {f : Fields} (hf : f.InRange) (h : (V3x.of k f).bad = []) :
    ∃ s : V3x, s.wf k = true ∧ s.toF = f := by
  obtain ⟨x, g, d, a, b, hd, ha, hb, rfl⟩ := hf.exists_eq
  simp only [V3x.of, selAB, List.append_eq_nil_iff, and_assoc, dstBad_eq_nil_iff hd, srcBad_eq_nil_iff ha, srcBad_eq_nil_iff hb] at h
  obtain ⟨⟨d, rfl⟩, ⟨a, wa, rfl⟩, ⟨b, wb, rfl⟩⟩ := h
  exact ⟨⟨g, x, d, a, b⟩, by simp [V3x.wf, wa, wb], rfl⟩

theorem V2.fills (k : SrcKind) {f : Fields} (hf : f.InRange) (h : (V2.of k f).bad = []) :
    ∃ s : V2, s.wf k = true ∧ s.toF = f := by
  obtain ⟨x, g, d, a, b, hd, ha, hb, rfl⟩ := hf.exists_eq
  simp only [V2.of, selA, List.append_eq_nil_iff, and_assoc, zeroBad_eq_nil, bit_eq_zero, dstBad_eq_nil_iff hd, srcBad_eq_nil_iff ha] at h
  obtain ⟨rfl, ⟨d, rfl⟩, rfl, ⟨a, wa, rfl⟩⟩ := h
  exact ⟨⟨g, d, a⟩, by simp [V2.wf, wa], rfl⟩

theorem V1.fills {f : Fields} (hf : f.InRange) (h : (V1.of f).bad = []) :
    ∃ s : V1, s.toF = f := by
  obtain ⟨x, g, d, a, b, hd, ha, hb, rfl⟩ := hf.exists_eq
  simp only [V1.of, selN, List.append_eq_nil_iff, and_assoc, zeroBad_eq_nil, bit_eq_zero, dstBad_eq_nil_iff hd] at h
  obtain ⟨rfl, ⟨d, rfl⟩, rfl, rfl⟩ := h
  exact ⟨⟨g, d⟩, rfl⟩

theorem Vmkto.fills {f : Fields} (hf : f.InRange) (hx : f.x = 0) (h : (Vmkto.of f).bad = []) :
    ∃ s : Vmkto, s.wf = true ∧ s.toF = f := by
  obtain ⟨x, g, d, a, b, hd, ha, hb, rfl⟩ := hf.exists_eq
  obtain rfl : x = false := by simpa [bit] using hx
  simp only [Vmkto.of, selA, List.append_eq_nil_iff, and_assoc, zeroBad_eq_nil, div_eq_zero_iff_exists (n := 8) (by decide), srcBad_eq_nil_iff ha] at h
  obtain ⟨⟨k, rfl⟩, rfl, ⟨a, wa, rfl⟩⟩ := h
  exact ⟨⟨g, k, a⟩, by simp [Vmkto.wf, wa], rfl⟩

theorem Vmkfr.fills {f : Fields} (hf : f.InRange) (hx : f.x = 1) (h : (Vmkfr.of f).bad = []) :
    ∃ s : Vmkfr, s.toF = f := by
  obtain ⟨x, g, d, a, b, hd, ha, hb, rfl⟩ := hf.exists_eq
  obtain rfl : x = true := by simpa [bit] using hx
  simp only [Vmkfr.of, selN, List.append_eq_nil_iff, and_assoc, dstBad_eq_nil_iff hd, zeroBad_eq_nil, div_eq_zero_iff_exists (n := 8) (by decide)] at h
  obtain ⟨⟨d, rfl⟩, ⟨k, rfl⟩, rfl⟩ := h
  exact ⟨⟨g, d, k⟩, rfl⟩

theorem Ltset.fills {f : Fields} (hf : f.InRange) (h : (Ltset.of f).bad = []) :
    ∃ s : Ltset, s.wf = true ∧ s.toF = f := by
  obtain ⟨x, g, d, a, b, hd, ha, hb, rfl⟩ := hf.exists_eq
  simp only [Ltset.of, selA, List.append_eq_nil_iff, and_assoc, zeroBad_eq_nil, div_eq_zero_iff_exists (n := 32) (by decide), limBad_eq_nil, srcBad_eq_nil_iff ha] at h
  obtain ⟨⟨e, rfl⟩, hl, ⟨a, wa, rfl⟩⟩ := h
  exact ⟨⟨g, x, e, a, ⟨b, hb⟩⟩, by simp [Ltset.wf, hl, wa], rfl⟩

theorem Ltget.fills {f : Fields} (hf : f.InRange) (h : (Ltget.of f).bad = []) :
    ∃ s : Ltget, s.wf = true ∧ s.toF = f := by
  obtain ⟨x, g, d, a, b, hd, ha, hb, rfl⟩ := hf.exists_eq
  simp only [Ltget.of, selN, List.append_eq_nil_iff, and_assoc, dstBad_eq_nil_iff hd, zeroBad_eq_nil, div_eq_zero_iff_exists (n := 32) (by decide), limBad_eq_nil] at h
  obtain ⟨⟨d, rfl⟩, ⟨e, rfl⟩, hl⟩ := h
  exact ⟨⟨g, x, d, e, ⟨b, hb⟩⟩, by simp [Ltget.wf, hl], rfl⟩

theorem Ltcpy.fills {f : Fields} (hf : f.InRange) (h : (Ltcpy.of f).bad = []) :
    ∃ s : Ltcpy, s.toF = f := by
  obtain ⟨x, g, d, a, b, hd, ha, hb, rfl⟩ := hf.exists_eq
  simp only [Ltcpy.of, selN, List.append_eq_nil_iff, and_assoc, zeroBad_eq_nil, div_eq_zero_iff_exists (n := 32) (by decide)] at h
  obtain ⟨⟨ed, rfl⟩, ⟨es, rfl⟩, rfl⟩ := h
  exact ⟨⟨g, x, ed, es⟩, rfl⟩

theorem Ldab.fills {f : Fields} (hf : f.InRange) (h : (Ldab.of f).bad = []) :
    ∃ s : Ldab, s.wf = true ∧ s.toF = f := by
  obtain ⟨x, g, d, a, b, hd, ha, hb, rfl⟩ := hf.exists_eq
  simp only [Ldab.of, selAB, List.append_eq_nil_iff, and_assoc, dstBad_eq_nil_iff hd, srcBad_eq_nil_iff ha, srcBad_eq_nil_iff hb] at h
  obtain ⟨⟨d, rfl⟩, ⟨a, wa, rfl⟩, ⟨b, wb, rfl⟩⟩ := h
  exact ⟨⟨g, x, d, a, b⟩, by simp [Ldab.wf, wa, wb], rfl⟩

theorem Le.ofA_fills {f : Fields} (hf : f.InRange) (h : (Le.ofA f).bad = []) :
    ∃ s : Le, s.toFA = f := by
  obtain ⟨x, g, d, a, b, hd, ha, hb, rfl⟩ := hf.exists_eq
  simp only [Le.ofA, selN, List.append_eq_nil_iff, and_assoc, zeroBad_eq_nil, div_eq_zero_iff_exists (n := 32) (by decide)] at h
  obtain ⟨rfl, ⟨e, rfl⟩, rfl⟩ := h
  exact ⟨⟨g, x, e⟩, rfl⟩

theorem Le.ofD_fills {f : Fields} (hf : f.InRange) (h : (Le.ofD f).bad = []) :
    ∃ s : Le, s.toFD = f := by
  obtain ⟨x, g, d, a, b, hd, ha, hb, rfl⟩ := hf.exists_eq
  simp only [Le.ofD, selN, List.append_eq_nil_iff, and_assoc, zeroBad_eq_nil, div_eq_zero_iff_exists (n := 32) (by decide)] at h
  obtain ⟨⟨e, rfl⟩, rfl, rfl⟩ := h
  exact ⟨⟨g, x, e⟩, rfl⟩

theorem Lde.fills {f : Fields} (hf : f.InRange) (h : (Lde.of f).bad = []) :
    ∃ s : Lde, s.toF = f := by
  obtain ⟨x, g, d, a, b, hd, ha, hb, rfl⟩ := hf.exists_eq
  simp only [Lde.of, selN, List.append_eq_nil_iff, and_assoc, dstBad_eq_nil_iff hd, zeroBad_eq_nil, div_eq_zero_iff_exists (n := 32) (by decide)] at h
  obtain ⟨⟨d, rfl⟩, ⟨e, rfl⟩, rfl⟩ := h
  exact ⟨⟨g, x, d, e⟩, rfl⟩

theorem La.fills {f : Fields} (hf : f.InRange) (h : (La.of f).bad = []) :
    ∃ s : La, s.wf = true ∧ s.toF = f := by
  obtain ⟨x, g, d, a, b, hd, ha, hb, rfl⟩ := hf.exists_eq
  simp only [La.of, selA, List.append_eq_nil_iff, and_assoc, zeroBad_eq_nil, srcBad_eq_nil_iff ha] at h
  obtain ⟨rfl, rfl, ⟨a, wa, rfl⟩⟩ := h
  exact ⟨⟨g, x, a⟩, by simp [La.wf, wa], rfl⟩

theorem Lacas.fills {f : Fields} (hf : f.InRange) (h : (Lacas.of f).bad = []) :
    ∃ s : Lacas, s.wf = true ∧ s.toF = f := by
  obtain ⟨x, g, d, a, b, hd, ha, hb, rfl⟩ := hf.exists_eq
  simp only [Lacas.of, selA, List.append_eq_nil_iff, and_assoc, zeroBad_eq_nil, div_eq_zero_iff_exists (n := 32) (by decide), limBad_eq_nil, srcBad_eq_nil_iff ha] at h
  obtain ⟨⟨e, rfl⟩, hl, ⟨a, wa, rfl⟩⟩ := h
  exact ⟨⟨g, x, e, a, ⟨b, hb⟩⟩, by simp [Lacas.wf, hl, wa], rfl⟩

theorem Lab.fills {f : Fields} (hf : f.InRange) (h : (Lab.of .int .int f).bad = []) :
    ∃ s : Lab, s.wf = true ∧ s.toF = f := by
  obtain ⟨x, g, d, a, b, hd, ha, hb, rfl⟩ := hf.exists_eq
  simp only [Lab.of, selAB, List.append_eq_nil_iff, and_assoc, zeroBad_eq_nil, srcBad_eq_nil_iff ha, srcBad_eq_nil_iff hb] at h
  obtain ⟨rfl, ⟨a, wa, rfl⟩, ⟨b, wb, rfl⟩⟩ := h
  exact ⟨⟨g, x, a, b⟩, by simp [Lab.wf, wa, wb], rfl⟩

theorem Lea.ofDA_fills {f : Fields} (hf : f.InRange) (h : (Lea.ofDA f).bad = []) :
    ∃ s : Lea, s.wf = true ∧ s.toFDA = f := by
  obtain ⟨x, g, d, a, b, hd, ha, hb, rfl⟩ := hf.exists_eq
  simp only [Lea.ofDA, selA, List.append_eq_nil_iff, and_assoc, zeroBad_eq_nil, div_eq_zero_iff_exists (n := 32) (by decide), srcBad_eq_nil_iff ha] at h
  obtain ⟨⟨e, rfl⟩, rfl, ⟨a, wa, rfl⟩⟩ := h
  exact ⟨⟨g, x, e, a⟩, by simp [Lea.wf, wa], rfl⟩

theorem Lea.ofAB_fills {f : Fields} (hf : f.InRange) (h : (Lea.ofAB f).bad = []) :
    ∃ s : Lea, s.wf = true ∧ s.toFAB = f := by
  obtain ⟨x, g, d, a, b, hd, ha, hb, rfl⟩ := hf.exists_eq
  simp only [Lea.ofAB, selB, List.append_eq_nil_iff, and_assoc, zeroBad_eq_nil, div_eq_zero_iff_exists (n := 32) (by decide), srcBad_eq_nil_iff hb] at h
  obtain ⟨rfl, ⟨e, rfl⟩, ⟨a, wb, rfl⟩⟩ := h
  exact ⟨⟨g, x, e, a⟩, by simp [Lea.wf, wb], rfl⟩

theorem Lea.ofBA_fills {f : Fields} (hf : f.InRange) (h : (Lea.ofBA f).bad = []) :
    ∃ s : Lea, s.wf = true ∧ s.toFBA = f := by
  obtain ⟨x, g, d, a, b, hd, ha, hb, rfl⟩ := hf.exists_eq
  simp only [Lea.ofBA, selA, List.append_eq_nil_iff, and_assoc, zeroBad_eq_nil, div_eq_zero_iff_exists (n := 32) (by decide), srcBad_eq_nil_iff ha] at h
  obtain ⟨rfl, ⟨e, rfl⟩, ⟨a, wa, rfl⟩⟩ := h
  exact ⟨⟨g, x, e, a⟩, by simp [Lea.wf, wa], rfl⟩

theorem Ln.fills {f : Fields} (hf : f.InRange) (h : (Ln.of f).bad = []) :
    ∃ s : Ln, s.toF = f := by
  obtain ⟨x, g, d, a, b, hd, ha, hb, rfl⟩ := hf.exists_eq
  simp only [Ln.of, selN, List.append_eq_nil_iff, and_assoc, zeroBad_eq_nil] at h
  obtain ⟨rfl, rfl, rfl⟩ := h
  exact ⟨⟨g, x⟩, rfl⟩

theorem Ld.fills {f : Fields} (hf : f.InRange) (h : (Ld.of f).bad = []) :
    ∃ s : Ld, s.toF = f := by
  obtain ⟨x, g, d, a, b, hd, ha, hb, rfl⟩ := hf.exists_eq
  simp only [Ld.of, selN, List.append_eq_nil_iff, and_assoc, dstBad_eq_nil_iff hd, zeroBad_eq_nil] at h
  obtain ⟨⟨d, rfl⟩, rfl, rfl⟩ := h
  exact ⟨⟨g, x, d⟩, rfl⟩

theorem Lsflg.fills {f : Fields} (hf : f.InRange) (h : (Lsflg.of f).bad = []) :
    ∃ s : Lsflg, s.wf = true ∧ s.toF = f := by
  obtain ⟨x, g, d, a, b, hd, ha, hb, rfl⟩ := hf.exists_eq
  simp only [Lsflg.of, selA, List.append_eq_nil_iff, and_assoc, zeroBad_eq_nil, div_eq_zero_iff_exists (n := 32) (by decide), srcBad_eq_nil_iff ha] at h
  obtain ⟨⟨flag, rfl⟩, rfl, ⟨a, wa, rfl⟩⟩ := h
  exact ⟨⟨g, x, flag, a⟩, by simp [Lsflg.wf, wa], rfl⟩

theorem Lscnt.fills {f : Fields} (hf : f.InRange) (h : (Lscnt.of f).bad = []) :
    ∃ s : Lscnt, s.toF = f := by
  obtain ⟨x, g, d, a, b, hd, ha, hb, rfl⟩ := hf.exists_eq
  simp only [Lscnt.of, selN, List.append_eq_nil_iff, and_assoc, zeroBad_eq_nil, div_eq_zero_iff_exists (n := 32) (by decide)] at h
  obtain ⟨rfl, ⟨c, rfl⟩, rfl⟩ := h
  exact ⟨⟨g, x, c⟩, rfl⟩

theorem Lda.fills {f : Fields} (hf : f.InRange) (h : (Lda.of f).bad = []) :
    ∃ s : Lda, s.wf = true ∧ s.toF = f := by
  obtain ⟨x, g, d, a, b, hd, ha, hb, rfl⟩ := hf.exists_eq
  simp only [Lda.of, selA, List.append_eq_nil_iff, and_assoc, dstBad_eq_nil_iff hd, zeroBad_eq_nil, srcBad_eq_nil_iff ha] at h
  obtain ⟨⟨d, rfl⟩, rfl, ⟨a, wa, rfl⟩⟩ := h
  exact ⟨⟨g, x, d, a⟩, by simp [Lda.wf, wa], rfl⟩

theorem Ldeb.fills {f : Fields} (hf : f.InRange) (h : (Ldeb.of f).bad = []) :
    ∃ s : Ldeb, s.wf = true ∧ s.toF = f := by
  obtain ⟨x, g, d, a, b, hd, ha, hb, rfl⟩ := hf.exists_eq
  simp only [Ldeb.of, selB, List.append_eq_nil_iff, and_assoc, dstBad_eq_nil_iff hd, zeroBad_eq_nil, div_eq_zero_iff_exists (n := 32) (by decide), srcBad_eq_nil_iff hb] at h
  obtain ⟨⟨d, rfl⟩, ⟨e, rfl⟩, ⟨b, wb, rfl⟩⟩ := h
  exact ⟨⟨g, x, d, e, b⟩, by simp [Ldeb.wf, wb], rfl⟩


/-- A code above a number of `n` values. -/
theorem exists_eq_mul_add {n m c : Nat} (hc : c < m * n) : ∃ h, ∃ l : Fin n, h < m ∧ h * n + l.val = c := by
  have hn : 0 < n := Nat.pos_of_ne_zero fun h => by simp [h] at hc
  exact ⟨c / n, ⟨c % n, Nat.mod_lt _ hn⟩, Nat.div_lt_of_lt_mul (Nat.mul_comm m n ▸ hc), Nat.div_add_mod' c n⟩

theorem CmpCond.exists_code {c : Nat} (h : c < 8) : ∃ k : CmpCond, k.code = c := ⟨.ofCode c, code_ofCode c h⟩
theorem FcmpCond.exists_code {c : Nat} (h : c < 8) : ∃ k : FcmpCond, k.code = c := ⟨.ofCode c, code_ofCode c h⟩
theorem VCond.exists_code {c : Nat} (h : c < 8) : ∃ k : VCond, k.code = c := ⟨.ofCode c, code_ofCode c h⟩
theorem PredOp.exists_code {c : Nat} (h : c < 6) : ∃ o : PredOp, o.code = c := ⟨.ofCode c, code_ofCode c h⟩
theorem MaskOp.exists_code {c : Nat} (h : c < 8) : ∃ o : MaskOp, o.code = c := ⟨.ofCode c, code_ofCode c h⟩
theorem Rm.exists_code {c : Nat} (h : c < 4) : ∃ r : Rm, r.code = c := ⟨.ofCode c, code_ofCode c h⟩
theorem MovxTarget.exists_code {c : Nat} (h : c < 5) : ∃ t : MovxTarget, t.code = c := ⟨.ofCode c, code_ofCode c h⟩
theorem LidxField.exists_code {c : Nat} (h : c < 3) : ∃ l : LidxField, l.code = c := ⟨.ofCode c, code_ofCode c h⟩
theorem FclsFmt.exists_code {c : Nat} (h : c < 4) : ∃ t : FclsFmt, t.code = c := ⟨.ofCode c, code_ofCode c h⟩
theorem MFmt.exists_code {c : Nat} (h : c < 4) : ∃ t : MFmt, t.code = c := ⟨.ofCode c, code_ofCode c h⟩
theorem exists_bit {n : Nat} (h : n < 2) : ∃ b, bit b = n := ⟨n == 1, bit_beq_one n h⟩

theorem exists_bitsAt {a b : Nat} (ha : a < 64) (hb : b < 64) :
    ∃ v : BitVec 12, bitsAt v.toNat 6 6 = a ∧ bitsAt v.toNat 0 6 = b := by
  refine ⟨BitVec.ofNat 12 (a * 64 + b), ?_⟩
  simp only [bitsAt, BitVec.toNat_ofNat]
  omega

theorem PairDst.exists_code {c : Nat} (hc : c < 64) (h : dstBad c = []) : ∃ (p : PairDst) (wide : Bool), (p ≠ .latch ∨ wide = false) ∧ p.code wide = c := by
  by_cases hlt : c < 32
  · exact ⟨.regs ⟨c / 2, by omega⟩, c % 2 == 1, .inl nofun, by
      rw [PairDst.code, bit_beq_one _ (Nat.mod_lt _ Nat.zero_lt_two)]
      exact Nat.div_add_mod c 2⟩
  · obtain ⟨d, rfl⟩ := (dstBad_eq_nil_iff hc).1 h
    rw [Dst.code_lt_iff, Decidable.not_not] at hlt
    exact ⟨.latch, false, .inr rfl, hlt ▸ rfl⟩

theorem Ppsc.fills {f : Fields} (hf : f.InRange) (h : (Ppsc.of f).bad = []) : ∃ s : Ppsc, s.wf = true ∧ s.toF = f := by
  have hs : bitsAt f.low23 20 3 < 5 := by
    refine Decidable.byContradiction fun hge => ?_
    simp [Ppsc.of, selN, hge] at h
  have hp (lo : Nat) : portCode (portOf (bitsAt f.low23 lo 5)) = bitsAt f.low23 lo 5 := portCode_portOf _ (bitsAt_lt _ _ _)
  refine ⟨⟨⟨bitsAt f.low23 20 3, bitsAt_lt _ _ _⟩, portOf (bitsAt f.low23 15 5), portOf (bitsAt f.low23 10 5), portOf (bitsAt f.low23 5 5),
    portOf (bitsAt f.low23 0 5)⟩, by simpa [Ppsc.wf] using hs, ?_⟩
  rw [Ppsc.toF_eq, hp, hp, hp, hp, pscNumber_bitsAt (Fields.low23_lt hf), Fields.ofLow23_low23 hf]

theorem Pimm.fills {f : Fields} (hf : f.InRange) : ∃ s : Pimm, s.toF = f := by
  refine ⟨⟨BitVec.ofNat 23 f.low23⟩, ?_⟩
  rw [Pimm.toF, BitVec.toNat_ofNat, Nat.mod_eq_of_lt (Fields.low23_lt hf), Fields.ofLow23_low23 hf]

theorem Bpt.fills {f : Fields} (hf : f.InRange) (h : (Bpt.of f).bad = []) : ∃ s : Bpt, s.toF = f := by
  obtain ⟨x, g, d, a, b, hd, ha, hb, rfl⟩ := hf.exists_eq
  simp only [Bpt.of, selN, List.append_eq_nil_iff, zeroBad_eq_nil, bit_eq_zero, div_eq_zero_iff_exists (n := 4) (by decide)] at h
  obtain ⟨rfl, t, rfl⟩ := h
  obtain ⟨off, rfl, rfl⟩ := exists_bitsAt ha hb
  exact ⟨⟨g, t, off⟩, rfl⟩

theorem Smovi.fills {f : Fields} (hf : f.InRange) (h : (Smovi.of f).bad = []) : ∃ s : Smovi, s.toF = f := by
  obtain ⟨x, g, d, a, b, hd, ha, hb, rfl⟩ := hf.exists_eq
  simp only [Smovi.of, selN, dstBad_eq_nil_iff hd] at h
  obtain ⟨d, rfl⟩ := h
  obtain ⟨imm, rfl, rfl⟩ := exists_bitsAt ha hb
  exact ⟨⟨g, x, d, imm⟩, rfl⟩

theorem Blstr.fills {f : Fields} (hf : f.InRange) (h : (Blstr.of f).bad = []) : ∃ s : Blstr, s.wf = true ∧ s.toF = f := by
  obtain ⟨x, g, d, a, b, hd, ha, hb, rfl⟩ := hf.exists_eq
  simp only [Blstr.of, selA, List.append_eq_nil_iff, and_assoc, zeroBad_eq_nil, bit_eq_zero, limBad_eq_nil, bne_iff_ne,
    div_eq_zero_iff_exists (n := 32) (by decide), div_eq_zero_iff_exists (n := 8) (by decide), srcBad_eq_nil_iff ha] at h
  obtain ⟨rfl, ⟨n, rfl⟩, ⟨level, rfl⟩, hn, hl, a, wa, rfl⟩ := h
  rw [val_mod] at hn hl
  have hn' : n ≠ 31 := fun e => hn (e ▸ rfl)
  have hl' : level ≠ 6 := fun e => hl (e ▸ rfl)
  exact ⟨⟨g, n, a, level⟩, by simp [Blstr.wf, wa, hn', hl'], rfl⟩

theorem Blbrk.fills {f : Fields} (hf : f.InRange) (h : (Blbrk.of f).bad = []) : ∃ s : Blbrk, s.wf = true ∧ s.toF = f := by
  obtain ⟨x, g, d, a, b, hd, ha, hb, rfl⟩ := hf.exists_eq
  simp only [Blbrk.of, selN, List.append_eq_nil_iff, and_assoc, zeroBad_eq_nil, bit_eq_zero, limBad_eq_nil, Bool.and_eq_true, bne_iff_ne,
    div_eq_zero_iff_exists (n := 8) (by decide)] at h
  obtain ⟨rfl, ⟨n, rfl⟩, rfl, rfl, h0, h7⟩ := h
  rw [val_mod] at h0 h7
  have h0' : n ≠ 0 := fun e => h0 (e ▸ rfl)
  have h7' : n ≠ 7 := fun e => h7 (e ▸ rfl)
  exact ⟨⟨g, n⟩, by simp [Blbrk.wf, h0', h7'], rfl⟩

theorem Scmp.fills {f : Fields} (hf : f.InRange) (h : (Scmp.of f).bad = []) : ∃ s : Scmp, s.wf = true ∧ s.toF = f := by
  obtain ⟨x, g, d, a, b, hd, ha, hb, rfl⟩ := hf.exists_eq
  obtain ⟨c, j, hc, rfl⟩ := exists_eq_mul_add (n := 8) (m := 8) hd
  obtain ⟨c, rfl⟩ := CmpCond.exists_code hc
  simp only [Scmp.of, selAB, List.append_eq_nil_iff, and_assoc, pairBad_eq_nil, mul_add_mod_of_lt j.isLt, srcBad_eq_nil_iff ha,
    srcBad_eq_nil_iff hb] at h
  obtain ⟨hj, ⟨a, wa, rfl⟩, b, wb, rfl⟩ := h
  exact ⟨⟨g, x, c, j, a, b⟩, by simp [Scmp.wf, hj, wa, wb], rfl⟩

theorem Sfcmp.fills {f : Fields} (hf : f.InRange) (h : (Sfcmp.of f).bad = []) : ∃ s : Sfcmp, s.wf = true ∧ s.toF = f := by
  obtain ⟨x, g, d, a, b, hd, ha, hb, rfl⟩ := hf.exists_eq
  obtain ⟨c, j, hc, rfl⟩ := exists_eq_mul_add (n := 8) (m := 8) hd
  obtain ⟨c, rfl⟩ := FcmpCond.exists_code hc
  simp only [Sfcmp.of, selAB, List.append_eq_nil_iff, and_assoc, pairBad_eq_nil, mul_add_mod_of_lt j.isLt, srcBad_eq_nil_iff ha,
    srcBad_eq_nil_iff hb] at h
  obtain ⟨hj, ⟨a, wa, rfl⟩, b, wb, rfl⟩ := h
  exact ⟨⟨g, x, c, j, a, b⟩, by simp [Sfcmp.wf, hj, wa, wb], rfl⟩

theorem Sqop.fills {f : Fields} (hf : f.InRange) (h : (Sqop.of f).bad = []) : ∃ s : Sqop, s.wf = true ∧ s.toF = f := by
  obtain ⟨x, g, d, a, b, hd, ha, hb, rfl⟩ := hf.exists_eq
  obtain ⟨o, j, -, rfl⟩ := exists_eq_mul_add (n := 8) (m := 8) hd
  simp only [Sqop.of, selN, List.append_eq_nil_iff, and_assoc, pairBad_eq_nil, mul_add_mod_of_lt j.isLt, mul_add_div_of_lt j.isLt,
    zeroBad_eq_nil, limBad_eq_nil, decide_eq_true_eq, div_eq_zero_iff_exists (n := 16) (by decide)] at h
  obtain ⟨hj, ⟨p, rfl⟩, ⟨r, rfl⟩, ho, hr⟩ := h
  obtain ⟨o, rfl⟩ := PredOp.exists_code ho
  have hr' : o = .mov → r = 0 := by
    rintro rfl
    change zeroBad (r.val % 16) = [] at hr
    rw [zeroBad_eq_nil, val_mod] at hr
    exact Fin.ext hr
  exact ⟨⟨g, x, o, j, p, r⟩, by simpa [Sqop.wf, hj, Decidable.imp_iff_not_or] using hr', rfl⟩

theorem Smovx.fills {f : Fields} (hf : f.InRange) (h : (Smovx.of f).bad = []) : ∃ s : Smovx, s.wf = true ∧ s.toF = f := by
  obtain ⟨x, g, d, a, b, hd, ha, hb, rfl⟩ := hf.exists_eq
  simp only [Smovx.of, selA, List.append_eq_nil_iff, and_assoc, dstBad_eq_nil_iff hd, zeroBad_eq_nil, limBad_eq_nil, decide_eq_true_eq,
    srcBad_eq_nil_iff ha] at h
  obtain ⟨⟨d, rfl⟩, h8, hlt, hz, a, wa, rfl⟩ := h
  have h5 : b < 5 := by omega
  obtain ⟨t, rfl⟩ := MovxTarget.exists_code h5
  have ht : d = .latch → t = .s0 := by
    rintro rfl
    change zeroBad t.code = [] at hz
    rw [zeroBad_eq_nil] at hz
    rw [← t.ofCode_code, hz]
    rfl
  exact ⟨⟨g, x, d, a, t⟩, by simpa [Smovx.wf, wa, Decidable.imp_iff_not_or] using ht, rfl⟩

theorem Sfcvt.fills {f : Fields} (hf : f.InRange) (h : (Sfcvt.of f).bad = []) : ∃ s : Sfcvt, s.wf = true ∧ s.toF = f := by
  obtain ⟨x, g, d, a, b, hd, ha, hb, rfl⟩ := hf.exists_eq
  obtain ⟨code, rm, hc, rfl⟩ := exists_eq_mul_add (n := 4) (m := 16) hb
  simp only [Sfcvt.of, selA, List.append_eq_nil_iff, dstBad_eq_nil_iff hd, srcBad_eq_nil_iff ha, mul_add_div_of_lt rm.isLt] at h
  obtain ⟨⟨d, rfl⟩, a, wa, rfl⟩ := h
  obtain ⟨r, hr⟩ := Rm.exists_code rm.isLt
  exact ⟨⟨g, x, d, a, ⟨code, hc⟩, r⟩, wa, by rw [Sfcvt.toF, hr]⟩

theorem Sfcls.fills {f : Fields} (hf : f.InRange) (h : (Sfcls.of f).bad = []) : ∃ s : Sfcls, s.wf = true ∧ s.toF = f := by
  obtain ⟨x, g, d, a, b, hd, ha, hb, rfl⟩ := hf.exists_eq
  simp only [Sfcls.of, selA, List.append_eq_nil_iff, and_assoc, dstBad_eq_nil_iff hd, limBad_eq_nil, decide_eq_true_eq,
    srcBad_eq_nil_iff ha] at h
  obtain ⟨⟨d, rfl⟩, hlt, a, wa, rfl⟩ := h
  obtain ⟨t, rfl⟩ := FclsFmt.exists_code hlt
  exact ⟨⟨g, x, d, a, t⟩, wa, rfl⟩

theorem Spair.fills {f : Fields} (hf : f.InRange) (h : (Spair.of f).bad = []) : ∃ s : Spair, s.wf = true ∧ s.toF = f := by
  obtain ⟨x, g, d, a, b, hd, ha, hb, rfl⟩ := hf.exists_eq
  simp only [Spair.of, selAB, List.append_eq_nil_iff, and_assoc, srcBad_eq_nil_iff ha, srcBad_eq_nil_iff hb] at h
  obtain ⟨hp, ⟨a, wa, rfl⟩, b, wb, rfl⟩ := h
  obtain ⟨p, wide, hw, rfl⟩ := PairDst.exists_code hd hp
  exact ⟨⟨g, x, p, wide, a, b⟩, by simpa [Spair.wf, wa, wb] using hw, rfl⟩

theorem Sgset.fills {f : Fields} (hf : f.InRange) (h : (Sgset.of f).bad = []) : ∃ s : Sgset, s.wf = true ∧ s.toF = f := by
  obtain ⟨x, g, d, a, b, hd, ha, hb, rfl⟩ := hf.exists_eq
  simp only [Sgset.of, selA, List.append_eq_nil_iff, and_assoc, zeroBad_eq_nil, limBad_eq_nil, decide_eq_true_eq, srcBad_eq_nil_iff ha] at h
  obtain ⟨rfl, hlt, a, wa, rfl⟩ := h
  have hne : (⟨d, Nat.lt_succ_of_lt hlt⟩ : Fin 32) ≠ 31 := fun e => Nat.ne_of_lt hlt (Fin.ext_iff.1 e)
  exact ⟨⟨g, x, ⟨d, Nat.lt_succ_of_lt hlt⟩, a⟩, by simp [Sgset.wf, hne, wa], rfl⟩

theorem Slidx.fills {f : Fields} (hf : f.InRange) (h : (Slidx.of f).bad = []) : ∃ s : Slidx, s.wf = true ∧ s.toF = f := by
  obtain ⟨x, g, d, a, b, hd, ha, hb, rfl⟩ := hf.exists_eq
  simp only [Slidx.of, selN, List.append_eq_nil_iff, and_assoc, dstBad_eq_nil_iff hd, zeroBad_eq_nil, limBad_eq_nil, decide_eq_true_eq] at h
  obtain ⟨⟨d, rfl⟩, h8, h4, hl, hlt⟩ := h
  have h3 : b < 3 := by omega
  obtain ⟨t, rfl⟩ := LidxField.exists_code h3
  have hlv : a < 8 := by omega
  rw [Nat.mod_eq_of_lt hlv] at hl
  exact ⟨⟨g, x, d, ⟨a, hlv⟩, t⟩, by simpa [Slidx.wf] using hl, rfl⟩

theorem Vcmp.fills {f : Fields} (hf : f.InRange) (h : (Vcmp.of f).bad = []) : ∃ s : Vcmp, s.wf = true ∧ s.toF = f := by
  obtain ⟨x, g, d, a, b, hd, ha, hb, rfl⟩ := hf.exists_eq
  obtain ⟨c, k, hc, rfl⟩ := exists_eq_mul_add (n := 8) (m := 8) hd
  obtain ⟨c, rfl⟩ := VCond.exists_code hc
  simp only [Vcmp.of, selAB, List.append_eq_nil_iff, and_assoc, zeroBad_eq_nil, bit_eq_zero, srcBad_eq_nil_iff ha, srcBad_eq_nil_iff hb] at h
  obtain ⟨rfl, ⟨a, wa, rfl⟩, b, wb, rfl⟩ := h
  exact ⟨⟨g, c, k, a, b⟩, by simp [Vcmp.wf, wa, wb], rfl⟩

theorem Vcmp.ofPair_fills {f : Fields} (hf : f.InRange) (hx : f.x = 0) (h : (Vcmp.ofPair f).bad = []) :
    ∃ s : Vcmp, (s.wf = true ∧ pairOk s.k.val = true) ∧ s.toF = f := by
  obtain ⟨x, g, d, a, b, hd, ha, hb, rfl⟩ := hf.exists_eq
  obtain rfl : x = false := by simpa [bit] using hx
  obtain ⟨c, k, hc, rfl⟩ := exists_eq_mul_add (n := 8) (m := 8) hd
  obtain ⟨c, rfl⟩ := VCond.exists_code hc
  simp only [Vcmp.ofPair, selAB, List.append_eq_nil_iff, and_assoc, pairBad_eq_nil, mul_add_mod_of_lt k.isLt, srcBad_eq_nil_iff ha,
    srcBad_eq_nil_iff hb] at h
  obtain ⟨hk, ⟨a, wa, rfl⟩, b, wb, rfl⟩ := h
  exact ⟨⟨g, c, k, a, b⟩, ⟨by simp [Vcmp.wf, wa, wb], hk⟩, rfl⟩

theorem Vvotm.fills {f : Fields} (hf : f.InRange) (hx : f.x = 1) (h : (Vvotm.of f).bad = []) : ∃ s : Vvotm, s.wf = true ∧ s.toF = f := by
  obtain ⟨x, g, d, a, b, hd, ha, hb, rfl⟩ := hf.exists_eq
  obtain rfl : x = true := by simpa [bit] using hx
  obtain ⟨k, j, hk, rfl⟩ := exists_eq_mul_add (n := 8) (m := 8) hd
  simp only [Vvotm.of, selN, List.append_eq_nil_iff, and_assoc, pairBad_eq_nil, mul_add_mod_of_lt j.isLt, zeroBad_eq_nil] at h
  obtain ⟨hj, rfl, rfl⟩ := h
  exact ⟨⟨g, ⟨k, hk⟩, j⟩, hj, rfl⟩

theorem Vkop.fills {f : Fields} (hf : f.InRange) (h : (Vkop.of f).bad = []) : ∃ s : Vkop, s.wf = true ∧ s.toF = f := by
  obtain ⟨x, g, d, a, b, hd, ha, hb, rfl⟩ := hf.exists_eq
  obtain ⟨o, k, ho, rfl⟩ := exists_eq_mul_add (n := 8) (m := 8) hd
  obtain ⟨o, rfl⟩ := MaskOp.exists_code ho
  simp only [Vkop.of, selN, List.append_eq_nil_iff, and_assoc, zeroBad_eq_nil, bit_eq_zero, mul_add_div_of_lt k.isLt,
    div_eq_zero_iff_exists (n := 8) (by decide)] at h
  obtain ⟨rfl, ⟨a, rfl⟩, ⟨b, rfl⟩, h5, h7⟩ := h
  refine ⟨⟨g, o, k, a, b⟩, ?_, rfl⟩
  rw [val_mod] at h5 h7
  cases o <;> simp_all [Vkop.wf, MaskOp.code]

theorem Vredm.fills {f : Fields} (hf : f.InRange) (h : (Vredm.of f).bad = []) : ∃ s : Vredm, s.wf = true ∧ s.toF = f := by
  obtain ⟨x, g, d, a, b, hd, ha, hb, rfl⟩ := hf.exists_eq
  simp only [Vredm.of, selA, List.append_eq_nil_iff, and_assoc, dstBad_eq_nil_iff hd, zeroBad_eq_nil, Nat.div_eq_zero_iff_lt Nat.zero_lt_two,
    srcBad_eq_nil_iff ha] at h
  obtain ⟨⟨d, rfl⟩, h2, a, wa, rfl⟩ := h
  obtain ⟨min, rfl⟩ := exists_bit h2
  exact ⟨⟨g, x, d, a, min⟩, wa, rfl⟩

theorem Vcvt.fills {f : Fields} (hf : f.InRange) (h : (Vcvt.of f).bad = []) : ∃ s : Vcvt, s.wf = true ∧ s.toF = f := by
  obtain ⟨x, g, d, a, b, hd, ha, hb, rfl⟩ := hf.exists_eq
  obtain ⟨ty, rm, ht, rfl⟩ := exists_eq_mul_add (n := 4) (m := 16) hb
  simp only [Vcvt.of, selA, List.append_eq_nil_iff, and_assoc, dstBad_eq_nil_iff hd, srcBad_eq_nil_iff ha, mul_add_div_of_lt rm.isLt,
    limBad_eq_nil] at h
  obtain ⟨⟨d, rfl⟩, hl, a, wa, rfl⟩ := h
  obtain ⟨r, hr⟩ := Rm.exists_code rm.isLt
  exact ⟨⟨g, x, d, a, ⟨ty, ht⟩, r⟩, by simp [Vcvt.wf, wa, hl], by rw [Vcvt.toF, hr]⟩

theorem Vpart.fills (k : SrcKind) (lim : Nat) {f : Fields} (hf : f.InRange) (h : (Vpart.of k lim f).bad = []) :
    ∃ s : Vpart, (s.wf k = true ∧ s.p.val < lim) ∧ s.toF = f := by
  obtain ⟨x, g, d, a, b, hd, ha, hb, rfl⟩ := hf.exists_eq
  simp only [Vpart.of, selA, List.append_eq_nil_iff, and_assoc, zeroBad_eq_nil, bit_eq_zero, dstBad_eq_nil_iff hd, limBad_eq_nil,
    decide_eq_true_eq, div_eq_zero_iff_exists (n := 4) (by decide), srcBad_eq_nil_iff ha] at h
  obtain ⟨rfl, ⟨d, rfl⟩, ⟨p, rfl⟩, hl, a, wa, rfl⟩ := h
  exact ⟨⟨g, d, a, p⟩, ⟨wa, by rwa [val_mod] at hl⟩, rfl⟩

theorem Vtws.fills {f : Fields} (hf : f.InRange) (h : (Vtws.of f).bad = []) : ∃ s : Vtws, s.wf = true ∧ s.toF = f := by
  obtain ⟨x, g, d, a, b, hd, ha, hb, rfl⟩ := hf.exists_eq
  simp only [Vtws.of, selAB, List.append_eq_nil_iff, and_assoc, zeroBad_eq_nil, bit_eq_zero, srcBad_eq_nil_iff ha, srcBad_eq_nil_iff hb] at h
  obtain ⟨rfl, heven, hp, ⟨a, wa, rfl⟩, b, wb, rfl⟩ := h
  obtain ⟨p, wide, hw, rfl⟩ := PairDst.exists_code hd hp
  obtain rfl : false = wide := by
    rw [← p.code_mod_two wide fun e => hw.resolve_left fun hne => hne e, heven]
    rfl
  exact ⟨⟨g, p, a, b⟩, by simp [Vtws.wf, wa, wb], rfl⟩

theorem Vsett.fills {f : Fields} (hf : f.InRange) (h : (Vsett.of f).bad = []) : ∃ s : Vsett, s.wf = true ∧ s.toF = f := by
  obtain ⟨x, g, d, a, b, hd, ha, hb, rfl⟩ := hf.exists_eq
  obtain ⟨m, k, -, rfl⟩ := exists_eq_mul_add (n := 8) (m := 8) ha
  simp only [Vsett.of, selN, List.append_eq_nil_iff, and_assoc, zeroBad_eq_nil, bit_eq_zero, limBad_eq_nil, decide_eq_true_eq] at h
  obtain ⟨rfl, rfl, h16, hb16, h10⟩ := h
  have hm : m < 2 := by omega
  have hlt : b < 16 := by omega
  rw [Nat.mod_eq_of_lt hlt] at h10
  obtain ⟨men, rfl⟩ := exists_bit hm
  exact ⟨⟨g, men, k, ⟨b, hlt⟩⟩, by simpa [Vsett.wf] using h10, rfl⟩

theorem Vround.fills {f : Fields} (hf : f.InRange) (h : (Vround.of f).bad = []) : ∃ s : Vround, s.wf = true ∧ s.toF = f := by
  obtain ⟨x, g, d, a, b, hd, ha, hb, rfl⟩ := hf.exists_eq
  simp only [Vround.of, selA, List.append_eq_nil_iff, and_assoc, zeroBad_eq_nil, bit_eq_zero, dstBad_eq_nil_iff hd, srcBad_eq_nil_iff ha,
    Nat.div_eq_zero_iff_lt (show 0 < 4 by decide)] at h
  obtain ⟨rfl, ⟨d, rfl⟩, h4, a, wa, rfl⟩ := h
  obtain ⟨r, rfl⟩ := Rm.exists_code h4
  exact ⟨⟨g, d, a, r⟩, wa, rfl⟩

theorem Ldae.ofRaw_fills {f : Fields} (hf : f.InRange) (h : (Ldae.ofRaw f).bad = []) :
    ∃ s : Ldae, s.wf = true ∧ s.toF (f.b / 32) = f := by
  obtain ⟨x, g, d, a, b, hd, ha, hb, rfl⟩ := hf.exists_eq
  simp only [Ldae.ofRaw, selA, List.append_eq_nil_iff, dstBad_eq_nil_iff hd, srcBad_eq_nil_iff ha] at h
  obtain ⟨⟨d, rfl⟩, a, wa, rfl⟩ := h
  obtain ⟨r, e, -, rfl⟩ := exists_eq_mul_add (n := 32) (m := 2) hb
  exact ⟨⟨g, x, d, a, e⟩, wa, by rw [mul_add_div_of_lt e.isLt, Ldae.toF]⟩

theorem Ldae.fills {f : Fields} (hf : f.InRange) (h : (Ldae.of f).bad = []) : ∃ s : Ldae, s.wf = true ∧ s.toF 0 = f := by
  simp only [Ldae.of, selA, List.append_eq_nil_iff, zeroBad_eq_nil] at h
  obtain ⟨⟨hd, hraw⟩, ha⟩ := h
  have hbad : (Ldae.ofRaw f).bad = [] := by simp [Ldae.ofRaw, selA, hd, ha]
  simpa [hraw] using Ldae.ofRaw_fills hf hbad

theorem Leab.fills (ka kb : SrcKind) {f : Fields} (hf : f.InRange) (h : (Leab.of ka kb f).bad = []) :
    ∃ s : Leab, s.wf ka kb = true ∧ s.toF 0 = f := by
  obtain ⟨x, g, d, a, b, hd, ha, hb, rfl⟩ := hf.exists_eq
  simp only [Leab.of, selAB, List.append_eq_nil_iff, and_assoc, zeroBad_eq_nil, div_eq_zero_iff_exists (n := 32) (by decide),
    srcBad_eq_nil_iff ha, srcBad_eq_nil_iff hb] at h
  obtain ⟨⟨e, rfl⟩, ⟨a, wa, rfl⟩, b, wb, rfl⟩ := h
  exact ⟨⟨g, x, e, a, b⟩, by simp [Leab.wf, wa, wb], by simp [Leab.toF]⟩

theorem Leab.ofRaw_fills {f : Fields} (hf : f.InRange) (h : (Leab.ofRaw f).bad = []) :
    ∃ s : Leab, s.wf .fp .int = true ∧ s.toF (f.d / 32) = f := by
  obtain ⟨x, g, d, a, b, hd, ha, hb, rfl⟩ := hf.exists_eq
  simp only [Leab.ofRaw, selAB, List.append_eq_nil_iff, List.nil_append, srcBad_eq_nil_iff ha, srcBad_eq_nil_iff hb] at h
  obtain ⟨⟨a, wa, rfl⟩, b, wb, rfl⟩ := h
  obtain ⟨r, e, -, rfl⟩ := exists_eq_mul_add (n := 32) (m := 2) hd
  exact ⟨⟨g, x, e, a, b⟩, by simp [Leab.wf, wa, wb], by rw [mul_add_div_of_lt e.isLt, Leab.toF]⟩

theorem Lsld.fills {f : Fields} (hf : f.InRange) (h : (Lsld.of f).bad = []) : ∃ s : Lsld, s.wf = true ∧ s.toF = f := by
  obtain ⟨x, g, d, a, b, hd, ha, hb, rfl⟩ := hf.exists_eq
  simp only [Lsld.of, selA, List.append_eq_nil_iff, dstBad_eq_nil_iff hd, srcBad_eq_nil_iff ha] at h
  obtain ⟨⟨d, rfl⟩, a, wa, rfl⟩ := h
  obtain ⟨sx, e, h2, rfl⟩ := exists_eq_mul_add (n := 32) (m := 2) hb
  obtain ⟨sx, rfl⟩ := exists_bit h2
  exact ⟨⟨g, x, d, a, e, sx⟩, wa, rfl⟩

theorem Ldwr.fills {f : Fields} (hf : f.InRange) (h : (Ldwr.of f).bad = []) : ∃ s : Ldwr, s.wf = true ∧ s.toF = f := by
  obtain ⟨x, g, d, a, b, hd, ha, hb, rfl⟩ := hf.exists_eq
  simp only [Ldwr.of, selA, List.nil_append, srcBad_eq_nil_iff ha] at h
  obtain ⟨a, wa, rfl⟩ := h
  obtain ⟨hi, w, h2, rfl⟩ := exists_eq_mul_add (n := 32) (m := 2) hb
  obtain ⟨hi, rfl⟩ := exists_bit h2
  exact ⟨⟨g, x, ⟨d, hd⟩, a, w, hi⟩, wa, rfl⟩

theorem Llscl.fills {f : Fields} (hf : f.InRange) (h : (Llscl.of f).bad = []) : ∃ s : Llscl, s.wf = true ∧ s.toF = f := by
  obtain ⟨x, g, d, a, b, hd, ha, hb, rfl⟩ := hf.exists_eq
  simp only [Llscl.of, selA, List.append_eq_nil_iff, and_assoc, zeroBad_eq_nil, Nat.div_eq_zero_iff_lt Nat.zero_lt_two,
    div_eq_zero_iff_exists (n := 32) (by decide), srcBad_eq_nil_iff ha] at h
  obtain ⟨h2, ⟨e, rfl⟩, a, wa, rfl⟩ := h
  obtain ⟨sb, rfl⟩ := exists_bit h2
  exact ⟨⟨g, x, sb, a, e⟩, wa, rfl⟩

theorem Lredp.fills {f : Fields} (hf : f.InRange) (h : (Lredp.of f).bad = []) : ∃ s : Lredp, s.wf = true ∧ s.toF = f := by
  obtain ⟨x, g, d, a, b, hd, ha, hb, rfl⟩ := hf.exists_eq
  simp only [Lredp.of, selAB, List.append_eq_nil_iff, and_assoc, zeroBad_eq_nil, limBad_eq_nil, div_eq_zero_iff_exists (n := 8) (by decide),
    srcBad_eq_nil_iff ha, srcBad_eq_nil_iff hb] at h
  obtain ⟨⟨fmt, rfl⟩, hl, ⟨a, wa, rfl⟩, b, wb, rfl⟩ := h
  rw [val_mod] at hl wa
  exact ⟨⟨g, x, fmt, a, b⟩, by simpa [Lredp.wf, wa, wb] using hl, rfl⟩

/-! M slots (09 R247). -/

/-- The fields of an M slot with its three low bits. -/
def mSlot (x : Bool) (g : Guard) (fmt : Nat) (drawer : Fin 32) (row : Fin 64) (kb : Fin 4) (low : Nat) : Fields :=
  ⟨bit x, g.val, fmt * 16 + drawer.val / 2, drawer.val % 2 * 32 + row.val / 2, row.val % 2 * 32 + kb.val * 8 + low⟩

theorem Fields.InRange.exists_mSlot {f : Fields} (hf : f.InRange) :
    ∃ x g fmt drawer row kb low, fmt < 4 ∧ low < 8 ∧ f = mSlot x g fmt drawer row kb low := by
  obtain ⟨x, g, d, a, b, hd, ha, hb, rfl⟩ := hf.exists_eq
  refine ⟨x, g, d / 16, ⟨d % 16 * 2 + a / 32, by omega⟩, ⟨a % 32 * 2 + b / 32, by omega⟩, ⟨b % 32 / 8, by omega⟩, b % 8, by omega, by omega, ?_⟩
  simp only [mSlot, Fields.mk.injEq, true_and]
  omega

section
variable {x : Bool} {g : Guard} {fmt : Nat} {drawer : Fin 32} {row : Fin 64} {kb : Fin 4} {low : Nat}

theorem mSlot_zero : mSlot x g fmt drawer row kb 0 = mF (bit x) g.val fmt drawer.val row.val kb.val := rfl

@[simp] theorem mSlot_x : (mSlot x g fmt drawer row kb low).x = bit x := rfl
@[simp] theorem mSlot_mFmt : (mSlot x g fmt drawer row kb low).mFmt = fmt := by
  simp only [mSlot, Fields.mFmt]; omega
@[simp] theorem mSlot_mDrawer : (mSlot x g fmt drawer row kb low).mDrawer = drawer.val := by
  simp only [mSlot, Fields.mDrawer]; omega

variable (hlow : low < 8)
include hlow

theorem mSlot_mRow : (mSlot x g fmt drawer row kb low).mRow = row.val := by
  simp only [mSlot, Fields.mRow]; omega
theorem mSlot_mKb : (mSlot x g fmt drawer row kb low).mKb = kb.val := by
  simp only [mSlot, Fields.mKb]; omega
theorem mSlot_mLow : (mSlot x g fmt drawer row kb low).mLow = low := by
  simp only [mSlot, Fields.mLow]; omega
theorem mSlot_b_mod_eq_zero : (mSlot x g fmt drawer row kb low).b % 32 = 0 ↔ kb = 0 ∧ low = 0 := by
  rw [Fin.ext_iff]
  simp only [mSlot, Fin.val_zero]; omega

end

theorem mF_inRange {mode g fmt drawer row kb : Nat} (hm : mode < 2) (hg : g < 16) (hf : fmt < 4) (hd : drawer < 32) (hr : row < 64)
    (hk : kb < 4) : (mF mode g fmt drawer row kb).InRange := by
  simp only [mF]
  exact ⟨hm, hg, by dsimp only; omega, by dsimp only; omega, by dsimp only; omega⟩

theorem Mn.toF_inRange (s : Mn) : s.toF.InRange :=
  mF_inRange (by decide) s.g.isLt (by decide) (by decide) (by decide) (by decide)
theorem Mblk.toF_inRange (s : Mblk) : s.toF.InRange :=
  mF_inRange (by decide) s.g.isLt s.fmt.code_lt s.drawer.isLt s.row.isLt s.kb.isLt
theorem Mshr.toF_inRange (s : Mshr) : s.toF.InRange :=
  mF_inRange (bit_lt _) s.g.isLt s.fmt.code_lt (by decide) (by decide) (by decide)
theorem Mdrd.toF_inRange (s : Mdrd) : s.toF.InRange :=
  mF_inRange (bit_lt _) s.g.isLt s.src.code_lt s.drawer.isLt s.row.isLt s.out.isLt
theorem Mdrv.toF_inRange (s : Mdrv) : s.toF.InRange :=
  mF_inRange (bit_lt _) s.g.isLt s.src.code_lt (by decide) (Nat.lt_of_lt_of_le s.o.isLt (by decide)) s.out.isLt
theorem Mdrb.toF_inRange (s : Mdrb) : s.toF.InRange :=
  mF_inRange (by decide) s.g.isLt s.src.code_lt (by omega) (by omega) s.out.isLt
theorem Mbas.toF_inRange (s : Mbas) {mode : Nat} (hm : mode < 2) : (s.toF mode).InRange :=
  mF_inRange hm s.g.isLt (by omega) (by omega) (by omega) (by omega)
theorem Mkst.toF_inRange (s : Mkst) : s.toF.InRange :=
  mF_inRange (by decide) s.g.isLt (by decide) (by omega) (by omega) (by decide)
theorem Mtsr.toF_inRange (s : Mtsr) : s.toF.InRange :=
  mF_inRange (bit_lt _) s.g.isLt (by decide) (by decide) (Nat.lt_of_lt_of_le s.n.isLt (by decide)) (by decide)
theorem Mrow.toF_inRange (s : Mrow) : s.toF.InRange :=
  mF_inRange (by decide) s.g.isLt (by decide) s.drawer.isLt s.row.isLt (by decide)
theorem Mpoi.toF_inRange (s : Mpoi) : s.toF.InRange :=
  mF_inRange (by decide) s.g.isLt s.fmt.code_lt (by decide) (by decide) (by decide)

theorem Mn.fills {f : Fields} (hf : f.InRange) (h : (Mn.of f).bad = []) : ∃ s : Mn, s.toF = f := by
  obtain ⟨x, g, d, a, b, hd, ha, hb, rfl⟩ := hf.exists_eq
  simp only [Mn.of, selN, List.append_eq_nil_iff, and_assoc, zeroBad_eq_nil, bit_eq_zero] at h
  obtain ⟨rfl, rfl, rfl, rfl⟩ := h
  exact ⟨⟨g⟩, rfl⟩

theorem Mblk.fills {f : Fields} (hf : f.InRange) (h : (Mblk.of f).bad = []) : ∃ s : Mblk, s.wf = true ∧ s.toF = f := by
  obtain ⟨x, g, fmt, drawer, row, kb, low, hfmt, hlow, rfl⟩ := hf.exists_mSlot
  simp only [Mblk.of, selN, List.append_eq_nil_iff, and_assoc, zeroBad_eq_nil, limBad_eq_nil, mSlot_x, bit_eq_zero, mSlot_mLow hlow,
    mSlot_mFmt, mSlot_mKb hlow] at h
  obtain ⟨rfl, rfl, hl⟩ := h
  obtain ⟨t, rfl⟩ := MFmt.exists_code hfmt
  exact ⟨⟨g, t, drawer, row, kb⟩, hl, rfl⟩

theorem Mshr.fills {f : Fields} (hf : f.InRange) (h : (Mshr.of f).bad = []) : ∃ s : Mshr, s.toF = f := by
  obtain ⟨x, g, fmt, drawer, row, kb, low, hfmt, hlow, rfl⟩ := hf.exists_mSlot
  simp only [Mshr.of, selN, List.append_eq_nil_iff, and_assoc, zeroBad_eq_nil, mSlot_mDrawer, mSlot_mRow hlow, Fin.val_eq_zero_iff,
    mSlot_b_mod_eq_zero hlow] at h
  obtain ⟨rfl, rfl, rfl, rfl⟩ := h
  obtain ⟨t, rfl⟩ := MFmt.exists_code hfmt
  exact ⟨⟨g, x, t⟩, rfl⟩

theorem DrainSrc.exists_code {c : Nat} (hc : c < 4) (h : drainSrcLegal c = true) : ∃ s : DrainSrc, s.code = c :=
  ⟨.ofCode c, code_ofCode c hc h⟩

theorem Mdrd.fills {f : Fields} (hf : f.InRange) (h : (Mdrd.of f).bad = []) : ∃ s : Mdrd, s.wf = true ∧ s.toF = f := by
  obtain ⟨x, g, fmt, drawer, row, kb, low, hfmt, hlow, rfl⟩ := hf.exists_mSlot
  simp only [Mdrd.of, selN, List.append_eq_nil_iff, and_assoc, zeroBad_eq_nil, limBad_eq_nil, mSlot_x, mSlot_mLow hlow,
    mSlot_mFmt, mSlot_mKb hlow, bit_eq_one] at h
  obtain ⟨rfl, hs, h3, h0⟩ := h
  obtain ⟨src, rfl⟩ := DrainSrc.exists_code hfmt hs
  have h3' : kb ≠ 3 := by rintro rfl; cases h3
  exact ⟨⟨g, x, src, drawer, row, kb⟩, by simpa [Mdrd.wf, h3'] using h0, rfl⟩

theorem Mdrv.fills {f : Fields} (hf : f.InRange) (h : (Mdrv.of f).bad = []) : ∃ s : Mdrv, s.wf = true ∧ s.toF = f := by
  obtain ⟨x, g, fmt, drawer, row, kb, low, hfmt, hlow, rfl⟩ := hf.exists_mSlot
  simp only [Mdrv.of, selN, List.append_eq_nil_iff, and_assoc, zeroBad_eq_nil, limBad_eq_nil, mSlot_mLow hlow, mSlot_mDrawer,
    Fin.val_eq_zero_iff, mSlot_mRow hlow, mSlot_mFmt, mSlot_mKb hlow, Nat.div_eq_zero_iff_lt (show 0 < 8 by decide)] at h
  obtain ⟨rfl, rfl, ho, hs, h3⟩ := h
  obtain ⟨src, rfl⟩ := DrainSrc.exists_code hfmt hs
  have h3' : kb ≠ 3 := by rintro rfl; cases h3
  exact ⟨⟨g, x, src, ⟨row.val, ho⟩, kb⟩, by simp [Mdrv.wf, h3'], rfl⟩

/-- DRAWER and ROW make one number of 11 bits. -/
theorem exists_mWide (drawer : Fin 32) (row : Fin 64) :
    ∃ n : Fin 2048, n.val / 64 = drawer.val ∧ n.val % 64 = row.val :=
  ⟨⟨drawer.val * 64 + row.val, by omega⟩, by dsimp only; omega, by dsimp only; omega⟩

theorem Mdrb.fills {f : Fields} (hf : f.InRange) (h : (Mdrb.of f).bad = []) : ∃ s : Mdrb, s.wf = true ∧ s.toF = f := by
  obtain ⟨x, g, fmt, drawer, row, kb, low, hfmt, hlow, rfl⟩ := hf.exists_mSlot
  simp only [Mdrb.of, selN, List.append_eq_nil_iff, and_assoc, zeroBad_eq_nil, limBad_eq_nil, mSlot_x, bit_eq_zero, mSlot_mLow hlow,
    mSlot_mRow hlow, mSlot_mFmt, mSlot_mKb hlow] at h
  obtain ⟨rfl, rfl, hs, h3, h2, h1⟩ := h
  obtain ⟨src, rfl⟩ := DrainSrc.exists_code hfmt hs
  obtain ⟨n, hn, hr⟩ := exists_mWide drawer row
  have hodd : n.val % 2 = row.val % 2 := by omega
  have h3' : kb ≠ 3 := by rintro rfl; cases h3
  have h2' : kb = 2 → src = .k27 := by rintro rfl; cases src <;> simp_all [DrainSrc.code]
  have h1' : kb = 1 → n.val % 2 = 0 := by rintro rfl; simpa [hodd] using h1
  refine ⟨⟨g, src, n, kb⟩, ?_, by rw [Mdrb.toF, hn, hr]; rfl⟩
  simpa [Mdrb.wf, h3', Decidable.imp_iff_not_or] using And.intro h2' h1'

theorem Mbas.fills {f : Fields} (hf : f.InRange) (h : (Mbas.of f).bad = []) : ∃ s : Mbas, s.toF f.x = f := by
  obtain ⟨x, g, fmt, drawer, row, kb, low, hfmt, hlow, rfl⟩ := hf.exists_mSlot
  simp only [Mbas.of, selN, zeroBad_eq_nil, mSlot_mLow hlow] at h
  subst h
  obtain ⟨n, hn, hr⟩ := exists_mWide drawer row
  refine ⟨⟨g, n, ⟨fmt * 4 + kb.val, by omega⟩⟩, ?_⟩
  rw [Mbas.toF, hn, hr, mul_add_div_of_lt kb.isLt, mul_add_mod_of_lt kb.isLt]
  rfl

theorem Mkst.fills {f : Fields} (hf : f.InRange) (h : (Mkst.of f).bad = []) : ∃ s : Mkst, s.toF = f := by
  obtain ⟨x, g, fmt, drawer, row, kb, low, hfmt, hlow, rfl⟩ := hf.exists_mSlot
  simp only [Mkst.of, selN, List.append_eq_nil_iff, and_assoc, zeroBad_eq_nil, mSlot_x, bit_eq_zero, mSlot_mFmt,
    mSlot_b_mod_eq_zero hlow] at h
  obtain ⟨rfl, rfl, rfl, rfl⟩ := h
  obtain ⟨n, hn, hr⟩ := exists_mWide drawer row
  exact ⟨⟨g, n⟩, by rw [Mkst.toF, hn, hr]; rfl⟩

theorem Mtsr.fills {f : Fields} (hf : f.InRange) (h : (Mtsr.of f).bad = []) : ∃ s : Mtsr, s.wf = true ∧ s.toF = f := by
  obtain ⟨x, g, fmt, drawer, row, kb, low, hfmt, hlow, rfl⟩ := hf.exists_mSlot
  simp only [Mtsr.of, selN, List.append_eq_nil_iff, and_assoc, zeroBad_eq_nil, limBad_eq_nil, mSlot_x, bit_eq_one, mSlot_mFmt,
    mSlot_mDrawer, Fin.val_eq_zero_iff, mSlot_mRow hlow, mSlot_b_mod_eq_zero hlow, Nat.div_eq_zero_iff_lt (show 0 < 16 by decide)] at h
  obtain ⟨rfl, rfl, hn, rfl, rfl, hl⟩ := h
  rw [Nat.mod_eq_of_lt hn] at hl
  refine ⟨⟨g, x, ⟨row.val, hn⟩⟩, ?_, rfl⟩
  cases x with
  | false => rfl
  | true =>
    have hz : row = 0 := by simpa using hl
    subst hz
    rfl

theorem Mrow.fills {f : Fields} (hf : f.InRange) (h : (Mrow.of f).bad = []) : ∃ s : Mrow, s.toF = f := by
  obtain ⟨x, g, fmt, drawer, row, kb, low, hfmt, hlow, rfl⟩ := hf.exists_mSlot
  simp only [Mrow.of, selN, List.append_eq_nil_iff, and_assoc, zeroBad_eq_nil, mSlot_x, bit_eq_zero, mSlot_mFmt,
    mSlot_b_mod_eq_zero hlow] at h
  obtain ⟨rfl, rfl, rfl, rfl⟩ := h
  exact ⟨⟨g, drawer, row⟩, rfl⟩

theorem Mpoi.fills {f : Fields} (hf : f.InRange) (h : (Mpoi.of f).bad = []) : ∃ s : Mpoi, s.toF = f := by
  obtain ⟨x, g, fmt, drawer, row, kb, low, hfmt, hlow, rfl⟩ := hf.exists_mSlot
  simp only [Mpoi.of, selN, List.append_eq_nil_iff, and_assoc, zeroBad_eq_nil, mSlot_x, bit_eq_zero, mSlot_mDrawer, mSlot_mRow hlow,
    Fin.val_eq_zero_iff, mSlot_b_mod_eq_zero hlow] at h
  obtain ⟨rfl, rfl, rfl, rfl, rfl⟩ := h
  obtain ⟨t, rfl⟩ := MFmt.exists_code hfmt
  exact ⟨⟨g, t⟩, rfl⟩

end Sys2Proof

namespace Sys2Proof

/-! ### A slot word and its instruction -/

/-- What the opcode map makes of an opcode and the fields of its slot (10 R260). -/
def slotOf (op : Nat) (f : Fields) : Chk Instr :=
  if op < 0x04 then decodeP op f
  else if op < 0x20 then decodeB op f
  else if op < 0x60 then decodeS op f
  else if op < 0xA0 then decodeV op f
  else if op < 0xE0 then decodeL op f
  else decodeM op f

theorem slotChk_eq (w : Nat) : slotChk w = slotOf (opOf w) (fieldsOf w) := rfl

theorem slotChk_wordOf {op : Nat} {f : Fields} (hop : op < 256) (hf : f.InRange) : slotChk (wordOf op f) = slotOf op f := by
  rw [slotChk_eq, opOf_wordOf hop hf, fieldsOf_wordOf hf]

theorem Chk.Reads.map {c : Chk α} {v : α} (h : c.Reads v) (mk : α → Instr) : (c.map mk).Reads (mk v) := ⟨h.1, congrArg mk h.2⟩

/-- A check of X adds nothing where X is 0. -/
theorem Chk.Reads.x0 {c : Chk α} {v : α} {f : Fields} (h : c.Reads v) (hx : f.x = 0) : (Sys2Proof.x0 f c).Reads v := by
  obtain ⟨hbad, hval⟩ := h
  exact ⟨by simp [Sys2Proof.x0, hbad, hx], hval⟩

/-- An instruction that the map reads back from its own fields is what its word decodes to. -/
theorem decodeSlot_of_reads {i : Instr} {w : SlotWord} {op : Nat} {f : Fields} (hw : encodeSlot i = some w)
    (he : encodeSlot i = some (BitVec.ofNat 32 (wordOf op f))) (hop : op < 256) (hf : f.InRange) (h : (slotOf op f).Reads i) :
    decodeSlot w = some i := by
  obtain rfl : BitVec.ofNat 32 (wordOf op f) = w := Option.some.inj (he.symm.trans hw)
  have hn : (BitVec.ofNat 32 (wordOf op f)).toNat = wordOf op f :=
    (BitVec.toNat_ofNat _ _).trans (Nat.mod_eq_of_lt (Nat.lt_trans (wordOf_lt hop hf) (by decide)))
  obtain ⟨hbad, hval⟩ := h
  simp [decodeSlot, hn, slotChk_wordOf hop hf, hbad, hval]

/-- A slot the map does not refuse is well formed and encodes to the opcode and the fields it was read from. -/
def Faithful (op : Nat) (f : Fields) (c : Chk Instr) : Prop :=
  c.bad = [] → c.val.wf = true ∧ encodeSlot c.val = some (BitVec.ofNat 32 (wordOf op f))

section
variable {op : Nat} {f : Fields}

theorem faithful_unassigned : Faithful op f unassigned := nofun

/-- For a shape whose values are those of `P`. -/
theorem Faithful.map {c : Fields → Chk α} {P : α → Prop} {toF : α → Fields} {mk : α → Instr}
    (hfill : (c f).bad = [] → ∃ v, P v ∧ toF v = f) (hread : ∀ v, P v → (c (toF v)).Reads v) (hwf : ∀ v, P v → (mk v).wf = true)
    (henc : ∀ v, encodeSlot (mk v) = some (BitVec.ofNat 32 (wordOf op (toF v)))) : Faithful op f ((c f).map mk) := by
  intro hbad
  obtain ⟨v, hv, rfl⟩ := hfill hbad
  obtain ⟨-, hval⟩ := hread v hv
  simp only [Chk.map, hval]
  exact ⟨hwf v hv, henc v⟩

/-- For a shape without a limit. -/
theorem Faithful.mapAll {c : Fields → Chk α} {toF : α → Fields} {mk : α → Instr} (hfill : (c f).bad = [] → ∃ v, toF v = f)
    (hread : ∀ v, (c (toF v)).Reads v) (hwf : ∀ v, (mk v).wf = true)
    (henc : ∀ v, encodeSlot (mk v) = some (BitVec.ofNat 32 (wordOf op (toF v)))) : Faithful op f ((c f).map mk) :=
  Faithful.map (P := fun _ => True) (fun h => (hfill h).imp fun _ e => ⟨trivial, e⟩) (fun v _ => hread v) (fun v _ => hwf v) henc

theorem Faithful.x0 {c : Chk α} {mk : α → Instr} (h : f.x = 0 → Faithful op f (c.map mk)) :
    Faithful op f ((Sys2Proof.x0 f c).map mk) := by
  intro hbad
  obtain ⟨hc, hx⟩ := List.append_eq_nil_iff.1 hbad
  exact h ((zeroBad_eq_nil _).1 hx) hc

/-- Two entries under one opcode, told apart by a field that is 0 or 1. -/
theorem Faithful.byField {n : Nat} {c d : Chk Instr} (hn : n < 2) (h0 : n = 0 → Faithful op f c) (h1 : n = 1 → Faithful op f d) :
    Faithful op f (if n = 0 then c else d) := by
  split
  · exact h0 ‹_›
  · exact h1 (by omega)

end

/-! Every class of the opcode map is faithful (10 R260), one line for each opcode. -/

theorem and_wf {a b : Bool} (ha : a = true) (hb : b = true) : (a && b) = true := (Bool.and_eq_true _ _).mpr ⟨ha, hb⟩

section
variable {op : Nat} {f : Fields} (hf : f.InRange)
include hf


theorem decodeP_faithful : Faithful op f (decodeP op f) := by
  unfold decodeP
  split
  · exact .map (Ppsc.fills hf) (Ppsc.reads) (fun _ h => h) fun _ => rfl
  · exact .mapAll (fun _ => Pimm.fills hf) (Pimm.reads) (fun _ => rfl) fun _ => rfl
  · exact .mapAll (fun _ => Pimm.fills hf) (Pimm.reads) (fun _ => rfl) fun _ => rfl
  · exact faithful_unassigned

theorem decodeB_faithful : Faithful op f (decodeB op f) := by
  unfold decodeB
  split
  · exact Faithful.x0 fun hx => .mapAll (fun h => hx ▸ Bn.fills hf h) (fun v => v.reads) (fun _ => rfl) fun _ => rfl
  · exact .mapAll (Bpt.fills hf) (Bpt.reads) (fun _ => rfl) fun _ => rfl
  · exact .byField hf.x (fun hx => .map (fun h => hx ▸ Bba.fills hf h) (fun v h => Bba.reads v h) (fun _ h => h) fun _ => rfl)
      fun hx => .map (fun h => hx ▸ Bba.fills hf h) (fun v h => Bba.reads v h) (fun _ h => h) fun _ => rfl
  · exact Faithful.x0 fun hx => .mapAll (Bb.fills hf hx) (Bb.reads) (fun _ => rfl) fun _ => rfl
  · exact .byField hf.x (fun hx => .mapAll (Bb.fills hf hx) (Bb.reads) (fun _ => rfl) fun _ => rfl)
      fun hx => .map (fun h => hx ▸ Ba.fills hf h) (fun v h => Ba.reads v h) (fun _ h => h) fun _ => rfl
  · exact .byField hf.x (fun hx => .mapAll (fun h => hx ▸ Bn.fills hf h) (fun v => v.reads) (fun _ => rfl) fun _ => rfl)
      fun hx => .map (fun h => hx ▸ Ba.fills hf h) (fun v h => Ba.reads v h) (fun _ h => h) fun _ => rfl
  · exact .byField hf.x (fun hx => .map (Blset.fills hf hx) (Blset.reads) (fun _ h => h) fun _ => rfl)
      fun hx => .map (fun h => hx ▸ Bab.fills hf h) (fun v h => Bab.reads v h) (fun _ h => h) fun _ => rfl
  · exact .map (Blstr.fills hf) (Blstr.reads) (fun _ h => h) fun _ => rfl
  · exact .map (Blbrk.fills hf) (Blbrk.reads) (fun _ h => h) fun _ => rfl
  · exact Faithful.x0 fun hx => .map (fun h => hx ▸ Ba.fills hf h) (fun v h => Ba.reads v h) (fun _ h => h) fun _ => rfl
  · exact Faithful.x0 fun hx => .mapAll (fun h => hx ▸ Bn.fills hf h) (fun v => v.reads) (fun _ => rfl) fun _ => rfl
  · exact Faithful.x0 fun hx => .mapAll (fun h => hx ▸ Bn.fills hf h) (fun v => v.reads) (fun _ => rfl) fun _ => rfl
  · exact Faithful.x0 fun hx => .map (fun h => hx ▸ Ba.fills hf h) (fun v h => Ba.reads v h) (fun _ h => h) fun _ => rfl
  · exact .map (Bwfl.fills hf) (Bwfl.reads) (fun _ h => h) fun _ => rfl
  · exact Faithful.x0 fun hx => .map (fun h => hx ▸ Ba.fills hf h) (fun v h => Ba.reads v h) (fun _ h => h) fun _ => rfl
  · exact Faithful.x0 fun hx => .map (fun h => hx ▸ Bab.fills hf h) (fun v h => Bab.reads v h) (fun _ h => h) fun _ => rfl
  · exact Faithful.x0 fun hx => .mapAll (fun h => hx ▸ Bn.fills hf h) (fun v => v.reads) (fun _ => rfl) fun _ => rfl
  · exact .byField hf.x (fun hx => .map (fun h => hx ▸ Ba.fills hf h) (fun v h => Ba.reads v h) (fun _ h => h) fun _ => rfl)
      fun hx => .map (fun h => hx ▸ Ba.fills hf h) (fun v h => Ba.reads v h) (fun _ h => h) fun _ => rfl
  · exact Faithful.x0 fun hx => .mapAll (fun h => hx ▸ Bn.fills hf h) (fun v => v.reads) (fun _ => rfl) fun _ => rfl
  · exact Faithful.x0 fun hx => .map (fun h => hx ▸ Ba.fills hf h) (fun v h => Ba.reads v h) (fun _ h => h) fun _ => rfl
  · exact Faithful.x0 fun hx => .map (fun h => hx ▸ Ba.fills hf h) (fun v h => Ba.reads v h) (fun _ h => h) fun _ => rfl
  · exact Faithful.x0 fun hx => .map (fun h => hx ▸ Ba.fills hf h) (fun v h => Ba.reads v h) (fun _ h => h) fun _ => rfl
  · exact Faithful.x0 fun hx => .map (fun h => hx ▸ Ba.fills hf h) (fun v h => Ba.reads v h) (fun _ h => h) fun _ => rfl
  · exact faithful_unassigned

theorem decodeS_faithful : Faithful op f (decodeS op f) := by
  unfold decodeS
  split
  · exact .map (S3.fills .int hf) (S3.reads .int) (fun _ h => h) fun _ => rfl
  · exact .map (S3.fills .int hf) (S3.reads .int) (fun _ h => h) fun _ => rfl
  · exact .map (S3.fills .int hf) (S3.reads .int) (fun _ h => h) fun _ => rfl
  · exact .map (S3.fills .int hf) (S3.reads .int) (fun _ h => h) fun _ => rfl
  · exact .map (S3.fills .int hf) (S3.reads .int) (fun _ h => h) fun _ => rfl
  · exact .map (S3.fills .int hf) (S3.reads .int) (fun _ h => h) fun _ => rfl
  · exact .map (S3.fills .int hf) (S3.reads .int) (fun _ h => h) fun _ => rfl
  · exact .map (S3.fills .int hf) (S3.reads .int) (fun _ h => h) fun _ => rfl
  · exact .map (S3.fills .int hf) (S3.reads .int) (fun _ h => h) fun _ => rfl
  · exact .map (S3.fills .int hf) (S3.reads .int) (fun _ h => h) fun _ => rfl
  · exact .map (S3.fills .int hf) (S3.reads .int) (fun _ h => h) fun _ => rfl
  · exact .map (S3.fills .int hf) (S3.reads .int) (fun _ h => h) fun _ => rfl
  · exact .map (S3.fills .int hf) (S3.reads .int) (fun _ h => h) fun _ => rfl
  · exact .map (S3.fills .int hf) (S3.reads .int) (fun _ h => h) fun _ => rfl
  · exact .map (S3.fills .int hf) (S3.reads .int) (fun _ h => h) fun _ => rfl
  · exact .map (S3.fills .int hf) (S3.reads .int) (fun _ h => h) fun _ => rfl
  · exact .map (S3.fills .int hf) (S3.reads .int) (fun _ h => h) fun _ => rfl
  · exact .map (S2.fills .int hf) (S2.reads .int) (fun _ h => h) fun _ => rfl
  · exact .map (S2.fills .int hf) (S2.reads .int) (fun _ h => h) fun _ => rfl
  · exact .map (S2.fills .int hf) (S2.reads .int) (fun _ h => h) fun _ => rfl
  · exact .map (S3.fills .int hf) (S3.reads .int) (fun _ h => h) fun _ => rfl
  · exact .map (S3.fills .int hf) (S3.reads .int) (fun _ h => h) fun _ => rfl
  · exact .map (S3.fills .int hf) (S3.reads .int) (fun _ h => h) fun _ => rfl
  · exact .map (S3.fills .int hf) (S3.reads .int) (fun _ h => h) fun _ => rfl
  · exact .map (S3.ofRd_fills .int hf) (fun v h => S3.ofRd_reads .int v h.1 h.2) (fun _ h => and_wf h.1 (bne_iff_ne.2 h.2)) fun _ => rfl
  · exact .map (S3.fills .int hf) (S3.reads .int) (fun _ h => h) fun _ => rfl
  · exact .map (S3.ofRd_fills .int hf) (fun v h => S3.ofRd_reads .int v h.1 h.2) (fun _ h => and_wf h.1 (bne_iff_ne.2 h.2)) fun _ => rfl
  · exact .map (S3.fills .int hf) (S3.reads .int) (fun _ h => h) fun _ => rfl
  · exact .map (Scmp.fills hf) (Scmp.reads) (fun _ h => h) fun _ => rfl
  · exact .map (Sfcmp.fills hf) (Sfcmp.reads) (fun _ h => h) fun _ => rfl
  · exact .map (Sqop.fills hf) (Sqop.reads) (fun _ h => h) fun _ => rfl
  · exact .map (Smovx.fills hf) (Smovx.reads) (fun _ h => h) fun _ => rfl
  · exact .map (S3.fills .fp hf) (S3.reads .fp) (fun _ h => h) fun _ => rfl
  · exact .map (S3.fills .fp hf) (S3.reads .fp) (fun _ h => h) fun _ => rfl
  · exact .map (S3.fills .fp hf) (S3.reads .fp) (fun _ h => h) fun _ => rfl
  · exact .map (S3.fills .fp hf) (S3.reads .fp) (fun _ h => h) fun _ => rfl
  · exact .map (S3.fills .fp hf) (S3.reads .fp) (fun _ h => h) fun _ => rfl
  · exact .map (S3.fills .fp hf) (S3.reads .fp) (fun _ h => h) fun _ => rfl
  · exact .map (S3.ofRd_fills .fp hf) (fun v h => S3.ofRd_reads .fp v h.1 h.2) (fun _ h => and_wf h.1 (bne_iff_ne.2 h.2)) fun _ => rfl
  · exact .map (S3.ofRd_fills .fp hf) (fun v h => S3.ofRd_reads .fp v h.1 h.2) (fun _ h => and_wf h.1 (bne_iff_ne.2 h.2)) fun _ => rfl
  · exact .map (S3.fills .fp hf) (S3.reads .fp) (fun _ h => h) fun _ => rfl
  · exact .map (S3.fills .fp hf) (S3.reads .fp) (fun _ h => h) fun _ => rfl
  · exact .map (S2.fills .fp hf) (S2.reads .fp) (fun _ h => h) fun _ => rfl
  · exact .map (S2.fills .fp hf) (S2.reads .fp) (fun _ h => h) fun _ => rfl
  · exact .map (S3.fills .fp hf) (S3.reads .fp) (fun _ h => h) fun _ => rfl
  · exact .map (S3.fills .fp hf) (S3.reads .fp) (fun _ h => h) fun _ => rfl
  · exact .map (S3.fills .fp hf) (S3.reads .fp) (fun _ h => h) fun _ => rfl
  · exact .map (S3.fills .fp hf) (S3.reads .fp) (fun _ h => h) fun _ => rfl
  · exact .map (Sfcvt.fills hf) (Sfcvt.reads) (fun _ h => h) fun _ => rfl
  · exact .map (Sfcls.fills hf) (Sfcls.reads) (fun _ h => h) fun _ => rfl
  · exact .map (Spair.fills hf) (Spair.reads) (fun _ h => h) fun _ => rfl
  · exact .map (Spair.fills hf) (Spair.reads) (fun _ h => h) fun _ => rfl
  · exact .map (Scsrr.fills hf) (Scsrr.reads) (fun _ h => h) fun _ => rfl
  · exact .map (Scsrw.fills hf) (Scsrw.reads) (fun _ h => h) fun _ => rfl
  · exact .map (Sgset.fills hf) (Sgset.reads) (fun _ h => h) fun _ => rfl
  · exact .map (Slidx.fills hf) (Slidx.reads) (fun _ h => h) fun _ => rfl
  · exact .mapAll (S1.fills hf) (S1.reads) (fun _ => rfl) fun _ => rfl
  · exact .mapAll (Smovi.fills hf) (Smovi.reads) (fun _ => rfl) fun _ => rfl
  · exact .mapAll (Stsrd.fills hf) (Stsrd.reads) (fun _ => rfl) fun _ => rfl
  · exact .map (Sab.fills hf) (Sab.reads) (fun _ h => h) fun _ => rfl
  · exact faithful_unassigned

theorem decodeV_faithful : Faithful op f (decodeV op f) := by
  unfold decodeV
  split
  · exact .map (V3.fills .fp .fp hf) (V3.reads .fp .fp) (fun _ h => h) fun _ => rfl
  · exact .map (V3.fills .fp .fp hf) (V3.reads .fp .fp) (fun _ h => h) fun _ => rfl
  · exact .map (V3.fills .fp .fp hf) (V3.reads .fp .fp) (fun _ h => h) fun _ => rfl
  · exact .map (V3.ofRd_fills hf) (fun v h => v.ofRd_reads h.1 h.2) (fun _ h => and_wf h.1 (bne_iff_ne.2 h.2)) fun _ => rfl
  · exact .map (V3.ofRd_fills hf) (fun v h => v.ofRd_reads h.1 h.2) (fun _ h => and_wf h.1 (bne_iff_ne.2 h.2)) fun _ => rfl
  · exact .map (V3.fills .fp .fp hf) (V3.reads .fp .fp) (fun _ h => h) fun _ => rfl
  · exact .map (V2.fills .fp hf) (V2.reads .fp) (fun _ h => h) fun _ => rfl
  · exact .map (V3x.fills .fp hf) (V3x.reads .fp) (fun _ h => h) fun _ => rfl
  · exact .map (V3x.fills .fp hf) (V3x.reads .fp) (fun _ h => h) fun _ => rfl
  · exact .map (V2.fills .fp hf) (V2.reads .fp) (fun _ h => h) fun _ => rfl
  · exact .map (V2.fills .fp hf) (V2.reads .fp) (fun _ h => h) fun _ => rfl
  · exact .map (V2.fills .fp hf) (V2.reads .fp) (fun _ h => h) fun _ => rfl
  · exact .map (V2.fills .fp hf) (V2.reads .fp) (fun _ h => h) fun _ => rfl
  · exact .map (V2.fills .fp hf) (V2.reads .fp) (fun _ h => h) fun _ => rfl
  · exact .map (V2.fills .fp hf) (V2.reads .fp) (fun _ h => h) fun _ => rfl
  · exact .map (Vcmp.fills hf) (Vcmp.reads) (fun _ h => h) fun _ => rfl
  · exact .map (V3.fills .fp .fp hf) (V3.reads .fp .fp) (fun _ h => h) fun _ => rfl
  · exact .byField hf.x (fun hx => .map (Vcmp.ofPair_fills hf hx) (fun v h => v.ofPair_reads h.1 h.2) (fun _ h => and_wf h.1 h.2) fun _ => rfl)
      fun hx => .map (Vvotm.fills hf hx) (Vvotm.reads) (fun _ h => h) fun _ => rfl
  · exact .byField hf.x (fun hx => .map (Vcmp.ofPair_fills hf hx) (fun v h => v.ofPair_reads h.1 h.2) (fun _ h => and_wf h.1 h.2) fun _ => rfl)
      fun hx => .map (Vvotm.fills hf hx) (Vvotm.reads) (fun _ h => h) fun _ => rfl
  · exact .map (Vkop.fills hf) (Vkop.reads) (fun _ h => h) fun _ => rfl
  · exact .map (V3.fills .int .int hf) (V3.reads .int .int) (fun _ h => h) fun _ => rfl
  · exact .map (V3.fills .int .int hf) (V3.reads .int .int) (fun _ h => h) fun _ => rfl
  · exact .map (V3.fills .int .int hf) (V3.reads .int .int) (fun _ h => h) fun _ => rfl
  · exact .map (V3.fills .int .int hf) (V3.reads .int .int) (fun _ h => h) fun _ => rfl
  · exact .map (V3.fills .int .int hf) (V3.reads .int .int) (fun _ h => h) fun _ => rfl
  · exact .map (V3.fills .int .int hf) (V3.reads .int .int) (fun _ h => h) fun _ => rfl
  · exact .map (V3.fills .fp .int hf) (V3.reads .fp .int) (fun _ h => h) fun _ => rfl
  · exact .map (V3.fills .fp .int hf) (V3.reads .fp .int) (fun _ h => h) fun _ => rfl
  · exact .map (V3.fills .fp .fp hf) (V3.reads .fp .fp) (fun _ h => h) fun _ => rfl
  · exact .map (V3.fills .fp .int hf) (V3.reads .fp .int) (fun _ h => h) fun _ => rfl
  · exact .map (V3.fills .fp .int hf) (V3.reads .fp .int) (fun _ h => h) fun _ => rfl
  · exact .map (V3.fills .fp .int hf) (V3.reads .fp .int) (fun _ h => h) fun _ => rfl
  · exact .map (V2.fills .fp hf) (V2.reads .fp) (fun _ h => h) fun _ => rfl
  · exact .map (Vredm.fills hf) (Vredm.reads) (fun _ h => h) fun _ => rfl
  · exact .map (Vcvt.fills hf) (Vcvt.reads) (fun _ h => h) fun _ => rfl
  · exact .map (Vpart.fills .fp 4 hf) (fun v h => Vpart.reads .fp 4 v h.1 h.2) (fun _ h => h.1) fun _ => rfl
  · exact .map (Vpart.fills .fp 4 hf) (fun v h => Vpart.reads .fp 4 v h.1 h.2) (fun _ h => h.1) fun _ => rfl
  · exact .map (V3.fills .fp .fp hf) (V3.reads .fp .fp) (fun _ h => h) fun _ => rfl
  · exact .map (V3.ofRd_fills hf) (fun v h => v.ofRd_reads h.1 h.2) (fun _ h => and_wf h.1 (bne_iff_ne.2 h.2)) fun _ => rfl
  · exact .map (Vtws.fills hf) (Vtws.reads) (fun _ h => h) fun _ => rfl
  · exact .map (V3.fills .fp .fp hf) (V3.reads .fp .fp) (fun _ h => h) fun _ => rfl
  · exact .map (V2.fills .fp hf) (V2.reads .fp) (fun _ h => h) fun _ => rfl
  · exact .map (V3.fills .fp .int hf) (V3.reads .fp .int) (fun _ h => h) fun _ => rfl
  · exact .map (V3.fills .fp .int hf) (V3.reads .fp .int) (fun _ h => h) fun _ => rfl
  · exact .map (V2.fills .fp hf) (V2.reads .fp) (fun _ h => h) fun _ => rfl
  · exact .map (V2.fills .int hf) (V2.reads .int) (fun _ h => h) fun _ => rfl
  · exact .map (V2.fills .int hf) (V2.reads .int) (fun _ h => h) fun _ => rfl
  · exact .map (Vsett.fills hf) (Vsett.reads) (fun _ h => h) fun _ => rfl
  · exact .byField hf.x (fun hx => .map (Vmkto.fills hf hx) (Vmkto.reads) (fun _ h => h) fun _ => rfl)
      fun hx => .mapAll (Vmkfr.fills hf hx) (Vmkfr.reads) (fun _ => rfl) fun _ => rfl
  · exact .map (V2.fills .fp hf) (V2.reads .fp) (fun _ h => h) fun _ => rfl
  · exact .map (Vround.fills hf) (Vround.reads) (fun _ h => h) fun _ => rfl
  · exact .map (V3x.fills .int hf) (V3x.reads .int) (fun _ h => h) fun _ => rfl
  · exact .map (V3x.fills .fp hf) (V3x.reads .fp) (fun _ h => h) fun _ => rfl
  · exact .map (V2.fills .int hf) (V2.reads .int) (fun _ h => h) fun _ => rfl
  · exact .map (V2.fills .int hf) (V2.reads .int) (fun _ h => h) fun _ => rfl
  · exact .map (Vpart.fills .int 3 hf) (fun v h => Vpart.reads .int 3 v h.1 h.2) (fun _ h => and_wf h.1 (bne_iff_ne.2 fun e => absurd h.2 (by rw [e]; decide))) fun _ => rfl
  · exact .map (V3.fills .fp .int hf) (V3.reads .fp .int) (fun _ h => h) fun _ => rfl
  · exact .map (V3.fills .int .int hf) (V3.reads .int .int) (fun _ h => h) fun _ => rfl
  · exact .map (V3.fills .fp .int hf) (V3.reads .fp .int) (fun _ h => h) fun _ => rfl
  · exact .mapAll (V1.fills hf) (V1.reads) (fun _ => rfl) fun _ => rfl
  · exact faithful_unassigned

theorem decodeL_faithful : Faithful op f (decodeL op f) := by
  unfold decodeL
  split
  · exact .map (Ltset.fills hf) (Ltset.reads) (fun _ h => h) fun _ => rfl
  · exact .map (Ltget.fills hf) (Ltget.reads) (fun _ h => h) fun _ => rfl
  · exact .mapAll (Ltcpy.fills hf) (Ltcpy.reads) (fun _ => rfl) fun _ => rfl
  · exact .byField (Nat.div_lt_of_lt_mul hf.b) (fun hx => .map (fun h => hx ▸ Ldae.ofRaw_fills hf h) (fun v h => Ldae.ofRaw_reads v h) (fun _ h => h) fun _ => rfl)
      fun hx => .map (fun h => hx ▸ Ldae.ofRaw_fills hf h) (fun v h => Ldae.ofRaw_reads v h) (fun _ h => h) fun _ => rfl
  · exact .byField (Nat.div_lt_of_lt_mul hf.d) (fun hx => .map (fun h => hx ▸ Leab.ofRaw_fills hf h) (fun v h => Leab.ofRaw_reads v h) (fun _ h => h) fun _ => rfl)
      fun hx => .map (fun h => hx ▸ Leab.ofRaw_fills hf h) (fun v h => Leab.ofRaw_reads v h) (fun _ h => h) fun _ => rfl
  · exact .map (Lsld.fills hf) (Lsld.reads) (fun _ h => h) fun _ => rfl
  · exact .map (Leab.fills .fp .int hf) (fun v h => Leab.reads .fp .int v h) (fun _ h => h) fun _ => rfl
  · exact .map (Ldae.fills hf) (fun v h => Ldae.reads v h) (fun _ h => h) fun _ => rfl
  · exact .map (Leab.fills .fp .int hf) (fun v h => Leab.reads .fp .int v h) (fun _ h => h) fun _ => rfl
  · exact .map (Ldab.fills hf) (Ldab.reads) (fun _ h => h) fun _ => rfl
  · exact .map (Ldab.fills hf) (Ldab.reads) (fun _ h => h) fun _ => rfl
  · exact .mapAll (Le.ofA_fills hf) (Le.ofA_reads) (fun _ => rfl) fun _ => rfl
  · exact .map (Ldab.fills hf) (Ldab.reads) (fun _ h => h) fun _ => rfl
  · exact .map (La.fills hf) (La.reads) (fun _ h => h) fun _ => rfl
  · exact .map (Ldwr.fills hf) (Ldwr.reads) (fun _ h => h) fun _ => rfl
  · exact .map (Llscl.fills hf) (Llscl.reads) (fun _ h => h) fun _ => rfl
  · exact .map (Leab.fills .int .int hf) (fun v h => Leab.reads .int .int v h) (fun _ h => h) fun _ => rfl
  · exact .map (Leab.fills .int .fp hf) (fun v h => Leab.reads .int .fp v h) (fun _ h => h) fun _ => rfl
  · exact .map (Leab.fills .int .int hf) (fun v h => Leab.reads .int .int v h) (fun _ h => h) fun _ => rfl
  · exact .map (Leab.fills .int .int hf) (fun v h => Leab.reads .int .int v h) (fun _ h => h) fun _ => rfl
  · exact .map (Leab.fills .int .int hf) (fun v h => Leab.reads .int .int v h) (fun _ h => h) fun _ => rfl
  · exact .map (Leab.fills .int .int hf) (fun v h => Leab.reads .int .int v h) (fun _ h => h) fun _ => rfl
  · exact .map (Leab.fills .int .int hf) (fun v h => Leab.reads .int .int v h) (fun _ h => h) fun _ => rfl
  · exact .map (Leab.fills .int .fp hf) (fun v h => Leab.reads .int .fp v h) (fun _ h => h) fun _ => rfl
  · exact .map (Lacas.fills hf) (Lacas.reads) (fun _ h => h) fun _ => rfl
  · exact .map (Leab.fills .int .int hf) (fun v h => Leab.reads .int .int v h) (fun _ h => h) fun _ => rfl
  · exact .map (Leab.fills .int .int hf) (fun v h => Leab.reads .int .int v h) (fun _ h => h) fun _ => rfl
  · exact .map (Leab.fills .int .int hf) (fun v h => Leab.reads .int .int v h) (fun _ h => h) fun _ => rfl
  · exact .map (Lab.fills hf) (Lab.reads) (fun _ h => h) fun _ => rfl
  · exact .map (Lea.ofDA_fills hf) (Lea.ofDA_reads) (fun _ h => h) fun _ => rfl
  · exact .mapAll (Le.ofD_fills hf) (Le.ofD_reads) (fun _ => rfl) fun _ => rfl
  · exact .mapAll (Le.ofA_fills hf) (Le.ofA_reads) (fun _ => rfl) fun _ => rfl
  · exact .mapAll (Le.ofA_fills hf) (Le.ofA_reads) (fun _ => rfl) fun _ => rfl
  · exact .map (Lea.ofAB_fills hf) (Lea.ofAB_reads) (fun _ h => h) fun _ => rfl
  · exact .mapAll (Ln.fills hf) (Ln.reads) (fun _ => rfl) fun _ => rfl
  · exact .mapAll (Ld.fills hf) (Ld.reads) (fun _ => rfl) fun _ => rfl
  · exact .map (La.fills hf) (La.reads) (fun _ h => h) fun _ => rfl
  · exact .map (Lsflg.fills hf) (Lsflg.reads) (fun _ h => h) fun _ => rfl
  · exact .mapAll (Lscnt.fills hf) (Lscnt.reads) (fun _ => rfl) fun _ => rfl
  · exact .map (Leab.fills .fp .int hf) (fun v h => Leab.reads .fp .int v h) (fun _ h => h) fun _ => rfl
  · exact .map (Lredp.fills hf) (Lredp.reads) (fun _ h => h) fun _ => rfl
  · exact .map (Ldae.fills hf) (fun v h => Ldae.reads v h) (fun _ h => h) fun _ => rfl
  · exact .mapAll (Ld.fills hf) (Ld.reads) (fun _ => rfl) fun _ => rfl
  · exact .map (La.fills hf) (La.reads) (fun _ h => h) fun _ => rfl
  · exact .mapAll (Ld.fills hf) (Ld.reads) (fun _ => rfl) fun _ => rfl
  · exact .map (Lda.fills hf) (Lda.reads) (fun _ h => h) fun _ => rfl
  · exact .map (Lea.ofBA_fills hf) (Lea.ofBA_reads) (fun _ h => h) fun _ => rfl
  · exact .mapAll (Lde.fills hf) (Lde.reads) (fun _ => rfl) fun _ => rfl
  · exact .map (Lab.fills hf) (Lab.reads) (fun _ h => h) fun _ => rfl
  · exact .map (Lda.fills hf) (Lda.reads) (fun _ h => h) fun _ => rfl
  · exact .map (Lda.fills hf) (Lda.reads) (fun _ h => h) fun _ => rfl
  · exact .map (Lea.ofBA_fills hf) (Lea.ofBA_reads) (fun _ h => h) fun _ => rfl
  · exact .map (Lda.fills hf) (Lda.reads) (fun _ h => h) fun _ => rfl
  · exact .map (Lab.fills hf) (Lab.reads) (fun _ h => h) fun _ => rfl
  · exact .map (La.fills hf) (La.reads) (fun _ h => h) fun _ => rfl
  · exact .map (Lda.fills hf) (Lda.reads) (fun _ h => h) fun _ => rfl
  · exact .map (Ldeb.fills hf) (Ldeb.reads) (fun _ h => h) fun _ => rfl
  · exact .map (Ldae.fills hf) (fun v h => Ldae.reads v h) (fun _ h => h) fun _ => rfl
  · exact faithful_unassigned

theorem decodeM_faithful : Faithful op f (decodeM op f) := by
  unfold decodeM
  split
  · exact .mapAll (Mn.fills hf) (Mn.reads) (fun _ => rfl) fun _ => rfl
  · exact .map (Mblk.fills hf) (Mblk.reads) (fun _ h => h) fun _ => rfl
  · exact .mapAll (Mshr.fills hf) (Mshr.reads) (fun _ => rfl) fun _ => rfl
  · exact .mapAll (Mn.fills hf) (Mn.reads) (fun _ => rfl) fun _ => rfl
  · exact .map (Mblk.fills hf) (Mblk.reads) (fun _ h => h) fun _ => rfl
  · exact .map (Mblk.fills hf) (Mblk.reads) (fun _ h => h) fun _ => rfl
  · exact .map (Mblk.fills hf) (Mblk.reads) (fun _ h => h) fun _ => rfl
  · exact .map (Mblk.fills hf) (Mblk.reads) (fun _ h => h) fun _ => rfl
  · exact .map (Mdrd.fills hf) (Mdrd.reads) (fun _ h => h) fun _ => rfl
  · exact .map (Mdrv.fills hf) (Mdrv.reads) (fun _ h => h) fun _ => rfl
  · exact .map (Mdrb.fills hf) (Mdrb.reads) (fun _ h => h) fun _ => rfl
  · exact .byField hf.x (fun hx => .mapAll (fun h => hx ▸ Mbas.fills hf h) (fun v => v.reads) (fun _ => rfl) fun _ => rfl)
      fun hx => .mapAll (fun h => hx ▸ Mbas.fills hf h) (fun v => v.reads) (fun _ => rfl) fun _ => rfl
  · exact .mapAll (Mn.fills hf) (Mn.reads) (fun _ => rfl) fun _ => rfl
  · exact .mapAll (Mkst.fills hf) (Mkst.reads) (fun _ => rfl) fun _ => rfl
  · exact .mapAll (Mn.fills hf) (Mn.reads) (fun _ => rfl) fun _ => rfl
  · exact .map (Mtsr.fills hf) (Mtsr.reads) (fun _ h => h) fun _ => rfl
  · exact .mapAll (Mrow.fills hf) (Mrow.reads) (fun _ => rfl) fun _ => rfl
  · exact .mapAll (Mrow.fills hf) (Mrow.reads) (fun _ => rfl) fun _ => rfl
  · exact .mapAll (Mn.fills hf) (Mn.reads) (fun _ => rfl) fun _ => rfl
  · exact .mapAll (Mpoi.fills hf) (Mpoi.reads) (fun _ => rfl) fun _ => rfl
  · exact faithful_unassigned

theorem slotOf_faithful : Faithful op f (slotOf op f) := by
  unfold slotOf
  split; · exact decodeP_faithful hf
  split; · exact decodeB_faithful hf
  split; · exact decodeS_faithful hf
  split; · exact decodeV_faithful hf
  split; · exact decodeL_faithful hf
  exact decodeM_faithful hf

end

theorem and_left {a b : Bool} (h : (a && b) = true) : a = true := ((Bool.and_eq_true _ _).mp h).1
theorem and_right {a b : Bool} (h : (a && b) = true) : b = true := ((Bool.and_eq_true _ _).mp h).2
theorem ne_latch {a : Bool} {d : Dst} (h : (a && d != .latch) = true) : d ≠ .latch := bne_iff_ne.1 (and_right h)
theorem lt_three {a : Bool} {p : Fin 4} (h : (a && p != 3) = true) : p.val < 3 := by
  have hne : p ≠ 3 := bne_iff_ne.1 (and_right h)
  omega

/-! The two entries under VLD's opcode, and under VST's, are told apart by the bit that `toF` sets (14 R356). -/

theorem slotOf_vld (s : Ldae) : slotOf 0xA3 (s.toF 0) = (Ldae.ofRaw (s.toF 0)).map .vld :=
  if_pos (mul_add_div_of_lt (c := 0) s.e.isLt)
theorem slotOf_vldRaw (s : Ldae) : slotOf 0xA3 (s.toF 1) = (Ldae.ofRaw (s.toF 1)).map .vldRaw :=
  if_neg fun h => Nat.one_ne_zero ((mul_add_div_of_lt (c := 1) s.e.isLt).symm.trans h)
theorem slotOf_vst (s : Leab) : slotOf 0xA4 (s.toF 0) = (Leab.ofRaw (s.toF 0)).map .vst :=
  if_pos (mul_add_div_of_lt (c := 0) s.e.isLt)
theorem slotOf_vstRaw (s : Leab) : slotOf 0xA4 (s.toF 1) = (Leab.ofRaw (s.toF 1)).map .vstRaw :=
  if_neg fun h => Nat.one_ne_zero ((mul_add_div_of_lt (c := 1) s.e.isLt).symm.trans h)

/-- Settles O2: each entry of the map reads back what its shape put into the fields. -/
theorem slotRoundTrip : Obligations.SlotRoundTrip := by
  intro i w hwf he
  cases i with
  | psc f =>
    exact decodeSlot_of_reads he rfl (by decide) (Fields.ofLow23_inRange _) (.map (Ppsc.reads f hwf) _)
  | pim f | pimh f =>
    exact decodeSlot_of_reads he rfl (by decide) (Fields.ofLow23_inRange _) (.map f.reads _)
  | nopb f | yld f | yldp f | tend f | rtt f =>
    exact decodeSlot_of_reads he rfl (by decide) (f.toF_inRange (by decide)) (.map (.x0 f.reads rfl) _)
  | bpt f | bcl f | cycr f | movi f | tsrd f | vmovkToReg f | vzero f | ltcpy f | fnc f | fni f | scnt f | qpop f
  | qlev f | digq f | mnop f | mshr f | mswp f | mzro f | mkst f | mkrd f | mbld f | mbst f | msyn f | mpoi f =>
    exact decodeSlot_of_reads he rfl (by decide) f.toF_inRange (.map f.reads _)
  | bptr f | bptrRel f =>
    exact decodeSlot_of_reads he rfl (by decide) (f.toF_inRange (by decide)) (.map (Bba.reads f hwf) _)
  | btr f =>
    exact decodeSlot_of_reads he rfl (by decide) f.toF_inRange (.map (.x0 f.reads rfl) _)
  | bclA f | brtnA f | trap f | trapSv f =>
    exact decodeSlot_of_reads he rfl (by decide) (f.toF_inRange (by decide)) (.map (Ba.reads f hwf) _)
  | brtn f | mbas f | mbasKeep f =>
    exact decodeSlot_of_reads he rfl (by decide) (f.toF_inRange (by decide)) (.map f.reads _)
  | lset f =>
    exact decodeSlot_of_reads he rfl (by decide) f.toF_inRange (.map (Blset.reads f hwf) _)
  | lsetReg f =>
    exact decodeSlot_of_reads he rfl (by decide) (f.toF_inRange (by decide)) (.map (Bab.reads f hwf) _)
  | lstr f =>
    exact decodeSlot_of_reads he rfl (by decide) f.toF_inRange (.map (Blstr.reads f hwf) _)
  | lbrk f =>
    exact decodeSlot_of_reads he rfl (by decide) f.toF_inRange (.map (Blbrk.reads f hwf) _)
  | lrrb f | wtc f | wmon f | ask f | askr f | snap f | snapw f =>
    exact decodeSlot_of_reads he rfl (by decide) (f.toF_inRange (by decide)) (.map (.x0 (Ba.reads f hwf) rfl) _)
  | wfl f =>
    exact decodeSlot_of_reads he rfl (by decide) f.toF_inRange (.map (Bwfl.reads f hwf) _)
  | tspn f =>
    exact decodeSlot_of_reads he rfl (by decide) (f.toF_inRange (by decide)) (.map (.x0 (Bab.reads f hwf) rfl) _)
  | add f | sub f | mul f | mulh f | mulhu f | div f | divu f | rem f | remu f | and f | or f | xor f | andn f | shl f
  | shr f | sar f | rotl f | min f | max f | minu f | maxu f | bext f | addw f =>
    exact decodeSlot_of_reads he rfl (by decide) f.toF_inRange (.map (S3.reads .int f hwf) _)
  | clz f | ctz f | popc f =>
    exact decodeSlot_of_reads he rfl (by decide) f.toF_inRange (.map (S2.reads .int f hwf) _)
  | sel f | bins f =>
    exact decodeSlot_of_reads he rfl (by decide) f.toF_inRange (.map (S3.ofRd_reads .int f (and_left hwf) (ne_latch hwf)) _)
  | cmp f =>
    exact decodeSlot_of_reads he rfl (by decide) f.toF_inRange (.map (Scmp.reads f hwf) _)
  | fcmp f =>
    exact decodeSlot_of_reads he rfl (by decide) f.toF_inRange (.map (Sfcmp.reads f hwf) _)
  | qop f =>
    exact decodeSlot_of_reads he rfl (by decide) f.toF_inRange (.map (Sqop.reads f hwf) _)
  | movx f =>
    exact decodeSlot_of_reads he rfl (by decide) f.toF_inRange (.map (Smovx.reads f hwf) _)
  | fadds f | faddd f | fsubs f | fsubd f | fmuls f | fmuld f | fdivs f | fdivd f | fmins f | fmaxs f | fmind f
  | fmaxd f =>
    exact decodeSlot_of_reads he rfl (by decide) f.toF_inRange (.map (S3.reads .fp f hwf) _)
  | fmas f | fmad f =>
    exact decodeSlot_of_reads he rfl (by decide) f.toF_inRange (.map (S3.ofRd_reads .fp f (and_left hwf) (ne_latch hwf)) _)
  | fsqrs f | fsqrd f =>
    exact decodeSlot_of_reads he rfl (by decide) f.toF_inRange (.map (S2.reads .fp f hwf) _)
  | fcvt f =>
    exact decodeSlot_of_reads he rfl (by decide) f.toF_inRange (.map (Sfcvt.reads f hwf) _)
  | fcls f =>
    exact decodeSlot_of_reads he rfl (by decide) f.toF_inRange (.map (Sfcls.reads f hwf) _)
  | twos f | twop f =>
    exact decodeSlot_of_reads he rfl (by decide) f.toF_inRange (.map (Spair.reads f hwf) _)
  | csrr f =>
    exact decodeSlot_of_reads he rfl (by decide) f.toF_inRange (.map (Scsrr.reads f hwf) _)
  | csrw f =>
    exact decodeSlot_of_reads he rfl (by decide) f.toF_inRange (.map (Scsrw.reads f hwf) _)
  | gset f =>
    exact decodeSlot_of_reads he rfl (by decide) f.toF_inRange (.map (Sgset.reads f hwf) _)
  | lidx f =>
    exact decodeSlot_of_reads he rfl (by decide) f.toF_inRange (.map (Slidx.reads f hwf) _)
  | tlbi f =>
    exact decodeSlot_of_reads he rfl (by decide) f.toF_inRange (.map (Sab.reads f hwf) _)
  | vadd f | vsub f | vmul f | vdiv f | vsel f | viota f | vcmul f | vcadd f =>
    exact decodeSlot_of_reads he rfl (by decide) f.toF_inRange (.map (V3.reads .fp .fp f hwf) _)
  | vfma f | vfms f | vcmac f =>
    exact decodeSlot_of_reads he rfl (by decide) f.toF_inRange (.map (V3.ofRd_reads f (and_left hwf) (ne_latch hwf)) _)
  | vsqrt f | vabs f | vneg f | vexp2 f | vlog2 f | vrcp f | vrsq f | vreda f | vhad f | vdq f | vcls f =>
    exact decodeSlot_of_reads he rfl (by decide) f.toF_inRange (.map (V2.reads .fp f hwf) _)
  | vmin f | vmax f | vabsd f =>
    exact decodeSlot_of_reads he rfl (by decide) f.toF_inRange (.map (V3x.reads .fp f hwf) _)
  | vcmp f =>
    exact decodeSlot_of_reads he rfl (by decide) f.toF_inRange (.map (Vcmp.reads f hwf) _)
  | vany f | vall f =>
    exact decodeSlot_of_reads he rfl (by decide) f.toF_inRange (.map (f.ofPair_reads (and_left hwf) (and_right hwf)) _)
  | vanyMask f | vallMask f =>
    exact decodeSlot_of_reads he rfl (by decide) f.toF_inRange (.map (Vvotm.reads f hwf) _)
  | vkop f =>
    exact decodeSlot_of_reads he rfl (by decide) f.toF_inRange (.map (Vkop.reads f hwf) _)
  | vand f | vor f | vxor f | vshl f | vshr f | vsar f | vmix f =>
    exact decodeSlot_of_reads he rfl (by decide) f.toF_inRange (.map (V3.reads .int .int f hwf) _)
  | vbcst f | vxtr f | vperm f | vbfly f | vrotl f | vsgn f | vqnt f | vscl f | vsplt f =>
    exact decodeSlot_of_reads he rfl (by decide) f.toF_inRange (.map (V3.reads .fp .int f hwf) _)
  | vredm f =>
    exact decodeSlot_of_reads he rfl (by decide) f.toF_inRange (.map (Vredm.reads f hwf) _)
  | vcvt f =>
    exact decodeSlot_of_reads he rfl (by decide) f.toF_inRange (.map (Vcvt.reads f hwf) _)
  | vpck f | vupk f =>
    exact decodeSlot_of_reads he rfl (by decide) f.toF_inRange (.map (Vpart.reads .fp 4 f hwf f.p.isLt) _)
  | vtws f =>
    exact decodeSlot_of_reads he rfl (by decide) f.toF_inRange (.map (Vtws.reads f hwf) _)
  | vcrt f | vres f | vclz f | vpopc f =>
    exact decodeSlot_of_reads he rfl (by decide) f.toF_inRange (.map (V2.reads .int f hwf) _)
  | vsett f =>
    exact decodeSlot_of_reads he rfl (by decide) f.toF_inRange (.map (Vsett.reads f hwf) _)
  | vmovkToMask f =>
    exact decodeSlot_of_reads he rfl (by decide) f.toF_inRange (.map (Vmkto.reads f hwf) _)
  | vround f =>
    exact decodeSlot_of_reads he rfl (by decide) f.toF_inRange (.map (Vround.reads f hwf) _)
  | vmulh f =>
    exact decodeSlot_of_reads he rfl (by decide) f.toF_inRange (.map (V3x.reads .int f hwf) _)
  | vsatn f =>
    exact decodeSlot_of_reads he rfl (by decide) f.toF_inRange (.map (Vpart.reads .int 3 f (and_left hwf) (lt_three hwf)) _)
  | ltset f =>
    exact decodeSlot_of_reads he rfl (by decide) f.toF_inRange (.map (Ltset.reads f hwf) _)
  | ltget f =>
    exact decodeSlot_of_reads he rfl (by decide) f.toF_inRange (.map (Ltget.reads f hwf) _)
  | vld f =>
    exact decodeSlot_of_reads he rfl (by decide) (f.toF_inRange (by decide)) (slotOf_vld f ▸ .map (Ldae.ofRaw_reads f hwf) _)
  | vldRaw f =>
    exact decodeSlot_of_reads he rfl (by decide) (f.toF_inRange (by decide)) (slotOf_vldRaw f ▸ .map (Ldae.ofRaw_reads f hwf) _)
  | vst f =>
    exact decodeSlot_of_reads he rfl (by decide) (f.toF_inRange (by decide)) (slotOf_vst f ▸ .map (Leab.ofRaw_reads f hwf) _)
  | vstRaw f =>
    exact decodeSlot_of_reads he rfl (by decide) (f.toF_inRange (by decide)) (slotOf_vstRaw f ▸ .map (Leab.ofRaw_reads f hwf) _)
  | sld f =>
    exact decodeSlot_of_reads he rfl (by decide) f.toF_inRange (.map (Lsld.reads f hwf) _)
  | sst f | vsct f | sbeq f =>
    exact decodeSlot_of_reads he rfl (by decide) (f.toF_inRange (by decide)) (.map (Leab.reads .fp .int f hwf) _)
  | vgth f | redw f | sprb f =>
    exact decodeSlot_of_reads he rfl (by decide) (f.toF_inRange (by decide)) (.map (Ldae.reads f hwf) _)
  | cpy f | cpya f | dclm f =>
    exact decodeSlot_of_reads he rfl (by decide) f.toF_inRange (.map (Ldab.reads f hwf) _)
  | pub f | acq f | rel f =>
    exact decodeSlot_of_reads he rfl (by decide) f.toFA_inRange (.map f.ofA_reads _)
  | drel f | fnw f | qpsh f | bzero f =>
    exact decodeSlot_of_reads he rfl (by decide) f.toF_inRange (.map (La.reads f hwf) _)
  | dwr f =>
    exact decodeSlot_of_reads he rfl (by decide) f.toF_inRange (.map (Ldwr.reads f hwf) _)
  | lscl f =>
    exact decodeSlot_of_reads he rfl (by decide) f.toF_inRange (.map (Llscl.reads f hwf) _)
  | aadd f | aaddk f | amin f | amax f | aminu f | amaxu f | aand f | aor f | axor f =>
    exact decodeSlot_of_reads he rfl (by decide) (f.toF_inRange (by decide)) (.map (Leab.reads .int .int f hwf) _)
  | aaddf f | axch f =>
    exact decodeSlot_of_reads he rfl (by decide) (f.toF_inRange (by decide)) (.map (Leab.reads .int .fp f hwf) _)
  | acas f =>
    exact decodeSlot_of_reads he rfl (by decide) f.toF_inRange (.map (Lacas.reads f hwf) _)
  | tdec f | hgset f | bst f =>
    exact decodeSlot_of_reads he rfl (by decide) f.toF_inRange (.map (f.reads hwf) _)
  | bind f =>
    exact decodeSlot_of_reads he rfl (by decide) f.toFDA_inRange (.map (Lea.ofDA_reads f hwf) _)
  | unbd f =>
    exact decodeSlot_of_reads he rfl (by decide) f.toFD_inRange (.map f.ofD_reads _)
  | acqt f =>
    exact decodeSlot_of_reads he rfl (by decide) f.toFAB_inRange (.map (Lea.ofAB_reads f hwf) _)
  | sflg f =>
    exact decodeSlot_of_reads he rfl (by decide) f.toF_inRange (.map (Lsflg.reads f hwf) _)
  | redp f =>
    exact decodeSlot_of_reads he rfl (by decide) f.toF_inRange (.map (Lredp.reads f hwf) _)
  | walw f | hgget f | manr f | bld f | cpyw f =>
    exact decodeSlot_of_reads he rfl (by decide) f.toF_inRange (.map (Lda.reads f hwf) _)
  | mona f | pref f =>
    exact decodeSlot_of_reads he rfl (by decide) f.toFBA_inRange (.map (Lea.ofBA_reads f hwf) _)
  | lthdr f =>
    exact decodeSlot_of_reads he rfl (by decide) f.toF_inRange (.map (Ldeb.reads f hwf) _)
  | mshb f | mpsa f | mpss f | mpra f | mprs f =>
    exact decodeSlot_of_reads he rfl (by decide) f.toF_inRange (.map (Mblk.reads f hwf) _)
  | mdrd f =>
    exact decodeSlot_of_reads he rfl (by decide) f.toF_inRange (.map (Mdrd.reads f hwf) _)
  | mdrv f =>
    exact decodeSlot_of_reads he rfl (by decide) f.toF_inRange (.map (Mdrv.reads f hwf) _)
  | mdrb f =>
    exact decodeSlot_of_reads he rfl (by decide) f.toF_inRange (.map (Mdrb.reads f hwf) _)
  | mtsr f =>
    exact decodeSlot_of_reads he rfl (by decide) f.toF_inRange (.map (Mtsr.reads f hwf) _)
  | _ => cases he

/-- Settles O4: what the map does not refuse is well formed, and its fields are all the bits of the word but the stop bit. -/
theorem decodedSlotsAreWellFormed : Obligations.DecodedSlotsAreWellFormed := by
  intro w i h
  have hc : (slotChk w.toNat).bad = [] ∧ (slotChk w.toNat).val = i := by
    simpa [decodeSlot, List.isEmpty_iff] using h
  obtain ⟨hbad, rfl⟩ := hc
  rw [slotChk_eq] at hbad ⊢
  obtain ⟨hwf, henc⟩ := slotOf_faithful (fieldsOf_inRange _) hbad
  refine ⟨hwf, henc.trans (congrArg some (BitVec.eq_of_toNat_eq ?_))⟩
  have hmask : (0x7FFFFFFF : BitVec 32).toNat = 2 ^ 31 - 1 := rfl
  rw [wordOf_fieldsOf, BitVec.toNat_and, hmask, Nat.and_two_pow_sub_one_eq_mod, BitVec.toNat_ofNat]
  exact Nat.mod_eq_of_lt (Nat.lt_trans (Nat.mod_lt _ (by decide)) (by decide))

end Sys2Proof

/-! ### Side-core words (16 R411, R414) -/

namespace Sys2Proof

/-! The fields of a word of each format. -/

section
variable {opc rd f3 rs1 rs2 f7 : Nat} (hopc : opc < 2 ^ 7) (hrd : rd < 2 ^ 5) (hf3 : f3 < 2 ^ 3) (hrs1 : rs1 < 2 ^ 5) (hrs2 : rs2 < 2 ^ 5)
  (hf7 : f7 < 2 ^ 7)
include hopc hrd hf3 hrs1 hrs2 hf7

theorem rType_fields :
    bitsAt (rType opc rd f3 rs1 rs2 f7) 0 7 = opc ∧ bitsAt (rType opc rd f3 rs1 rs2 f7) 7 5 = rd ∧
      bitsAt (rType opc rd f3 rs1 rs2 f7) 12 3 = f3 ∧ bitsAt (rType opc rd f3 rs1 rs2 f7) 15 5 = rs1 ∧
      bitsAt (rType opc rd f3 rs1 rs2 f7) 20 5 = rs2 ∧ bitsAt (rType opc rd f3 rs1 rs2 f7) 25 7 = f7 := by
  simp only [rType, bitsAt]
  omega

theorem rType_high : bitsAt (rType opc rd f3 rs1 rs2 f7) 20 12 = f7 * 32 + rs2 ∧
    bitsAt (rType opc rd f3 rs1 rs2 f7) 25 5 = f7 % 32 ∧ rType opc rd f3 rs1 rs2 f7 < 2 ^ 32 := by
  simp only [rType, bitsAt]
  omega

end

section
variable {opc rd f3 rs1 imm : Nat} (hopc : opc < 2 ^ 7) (hrd : rd < 2 ^ 5) (hf3 : f3 < 2 ^ 3) (hrs1 : rs1 < 2 ^ 5) (himm : imm < 2 ^ 12)
include hopc hrd hf3 hrs1 himm

theorem iType_fields :
    bitsAt (iType opc rd f3 rs1 imm) 0 7 = opc ∧ bitsAt (iType opc rd f3 rs1 imm) 7 5 = rd ∧
      bitsAt (iType opc rd f3 rs1 imm) 12 3 = f3 ∧ bitsAt (iType opc rd f3 rs1 imm) 15 5 = rs1 ∧
      bitsAt (iType opc rd f3 rs1 imm) 20 12 = imm ∧ iType opc rd f3 rs1 imm < 2 ^ 32 := by
  simp only [iType, bitsAt]
  omega

end

theorem regAt_eq {r : Reg5} {w lo : Nat} (h : bitsAt w lo 5 = r.val) : regAt w lo = r := by
  rw [regAt, h, Fin.ofNat_val_eq_self]

/-! Xjaind (16 R414). -/

/-- The fields of an Xjaind word decide it: an R-type word with registers `d`, `s` and `t`. -/
theorem decodeSide_xjaind {opc f3 f7 : Nat} {d s t : Reg5} {i : Instr} (hopc : opc = 0x0B ∨ opc = 0x2B) (hf3 : f3 < 2 ^ 3)
    (hf7 : f7 < 2 ^ 7)
    (h : ∀ w, bitsAt w 0 7 = opc → bitsAt w 7 5 = d.val → bitsAt w 12 3 = f3 → bitsAt w 15 5 = s.val → bitsAt w 20 5 = t.val →
      bitsAt w 25 7 = f7 → bitsAt w 25 5 = f7 % 32 → decodeXjaind w = some i) :
    rType opc d.val f3 s.val t.val f7 < 2 ^ 32 ∧ decodeSide (rType opc d.val f3 s.val t.val f7) = some i := by
  have hlt : opc < 2 ^ 7 := by omega
  obtain ⟨e0, e7, e12, e15, e20, e25⟩ := rType_fields hlt d.isLt hf3 s.isLt t.isLt hf7
  obtain ⟨-, e5, hw⟩ := rType_high hlt d.isLt hf3 s.isLt t.isLt hf7
  refine ⟨hw, ?_⟩
  rw [decodeSide, e0, if_pos hopc]
  exact h _ e0 e7 e12 e15 e20 e25 e5

theorem xjaind_roundTrip {i : Instr} {w : Nat} (hrv : ∀ r, i ≠ .sideCoreRv64Instruction r) (he : encodeSide i = some w) :
    w < 2 ^ 32 ∧ decodeSide w = some i := by
  cases i with
  | sideCoreRv64Instruction r => exact absurd rfl (hrv r)
  | jqPush s =>
    cases he
    exact decodeSide_xjaind (d := 0) (t := 0) (.inl rfl) (by decide) (by decide) fun w h0 h7 h12 h15 h20 h25 _ => by
      simp [decodeXjaind, xjaindOk, h0, h7, h12, h20, h25, regAt_eq h15]
  | jqPull d =>
    cases he
    exact decodeSide_xjaind (s := 0) (t := 0) (.inl rfl) (by decide) (by decide) fun w h0 h7 h12 h15 h20 h25 _ => by
      simp [decodeXjaind, xjaindOk, h0, regAt_eq h7, h12, h15, h20, h25]
  | jqPullLev d =>
    cases he
    exact decodeSide_xjaind (s := 0) (t := 0) (.inl rfl) (by decide) (by decide) fun w h0 h7 h12 h15 h20 h25 _ => by
      simp [decodeXjaind, xjaindOk, h0, regAt_eq h7, h12, h15, h20, h25]
  | jCpy d s t =>
    cases he
    exact decodeSide_xjaind (.inl rfl) (by decide) (by decide) fun w h0 h7 h12 h15 h20 h25 _ => by
      simp [decodeXjaind, xjaindOk, h0, regAt_eq h7, h12, regAt_eq h15, regAt_eq h20, h25]
  | jWtc d s =>
    cases he
    exact decodeSide_xjaind (t := 0) (.inl rfl) (by decide) (by decide) fun w h0 h7 h12 h15 h20 h25 _ => by
      simp [decodeXjaind, xjaindOk, h0, regAt_eq h7, h12, regAt_eq h15, h20, h25]
  | jDclm d s t =>
    cases he
    exact decodeSide_xjaind (.inl rfl) (by decide) (by decide) fun w h0 h7 h12 h15 h20 h25 _ => by
      simp [decodeXjaind, xjaindOk, h0, regAt_eq h7, h12, regAt_eq h15, regAt_eq h20, h25]
  | jLte d s =>
    cases he
    exact decodeSide_xjaind (t := 0) (.inl rfl) (by decide) (by decide) fun w h0 h7 h12 h15 h20 h25 _ => by
      simp [decodeXjaind, xjaindOk, h0, regAt_eq h7, h12, regAt_eq h15, h20, h25]
  | jLteW s t =>
    cases he
    exact decodeSide_xjaind (d := 0) (.inl rfl) (by decide) (by decide) fun w h0 h7 h12 h15 h20 h25 _ => by
      simp [decodeXjaind, xjaindOk, h0, h7, h12, regAt_eq h15, regAt_eq h20, h25]
  | jFlag s =>
    cases he
    exact decodeSide_xjaind (d := 0) (t := 0) (.inl rfl) (by decide) (by decide) fun w h0 h7 h12 h15 h20 h25 _ => by
      simp [decodeXjaind, xjaindOk, h0, h7, h12, regAt_eq h15, h20, h25]
  | jCyc d =>
    cases he
    exact decodeSide_xjaind (s := 0) (t := 0) (.inl rfl) (by decide) (by decide) fun w h0 h7 h12 h15 h20 h25 _ => by
      simp [decodeXjaind, xjaindOk, h0, regAt_eq h7, h12, h15, h20, h25]
  | jPub e s =>
    cases he
    exact decodeSide_xjaind (d := 0) (t := 0) (.inr rfl) (by decide) (Nat.lt_of_lt_of_le e.isLt (by decide)) fun w h0 h7 h12 h15 h20 h25 h5 => by
      rw [val_mod] at h5
      simp [decodeXjaind, xjaindOk, h0, h7, h12, regAt_eq h15, h20, h25, regAt_eq h5]
  | jAcq e s =>
    cases he
    exact decodeSide_xjaind (d := 0) (t := 0) (.inr rfl) (by decide) (Nat.lt_of_lt_of_le e.isLt (by decide)) fun w h0 h7 h12 h15 h20 h25 h5 => by
      rw [val_mod] at h5
      simp [decodeXjaind, xjaindOk, h0, h7, h12, regAt_eq h15, h20, h25, regAt_eq h5]
  | jRel e s =>
    cases he
    exact decodeSide_xjaind (d := 0) (t := 0) (.inr rfl) (by decide) (Nat.lt_of_lt_of_le e.isLt (by decide)) fun w h0 h7 h12 h15 h20 h25 h5 => by
      rw [val_mod] at h5
      simp [decodeXjaind, xjaindOk, h0, h7, h12, regAt_eq h15, h20, h25, regAt_eq h5]
  | jSbeq e s t =>
    cases he
    exact decodeSide_xjaind (d := 0) (.inr rfl) (by decide) (Nat.lt_of_lt_of_le e.isLt (by decide)) fun w h0 h7 h12 h15 h20 h25 h5 => by
      rw [val_mod] at h5
      simp [decodeXjaind, xjaindOk, h0, h7, h12, regAt_eq h15, regAt_eq h20, h25, regAt_eq h5]
  | _ => cases he

/-! RV64 (16 R411). -/

theorem RvBranch.find_f3 (k : RvBranch) : RvBranch.all.find? (fun j => j.f3 == k.f3) = some k := by cases k <;> rfl
theorem RvLoad.find_f3 (k : RvLoad) : RvLoad.all.find? (fun j => j.f3 == k.f3) = some k := by cases k <;> rfl
theorem RvStore.find_f3 (k : RvStore) : RvStore.all.find? (fun j => j.f3 == k.f3) = some k := by cases k <;> rfl
theorem RvCsrOp.find_f3 (k : RvCsrOp) : RvCsrOp.all.find? (fun j => j.f3 == k.f3) = some k := by cases k <;> rfl
theorem RvOp.find_key (k : RvOp) : RvOp.all.find? (fun j => j.key == k.key) = some k := by cases k <;> rfl
theorem RvOpImm.find_key (k : RvOpImm) : RvOpImm.all.find? (fun j => j.key == k.key) = some k := by cases k <;> rfl
theorem RvUnary.find_key (k : RvUnary) : RvUnary.all.find? (fun j => j.key == k.key) = some k := by cases k <;> rfl
theorem RvShImm.find_key (k : RvShImm) {sh : Nat} (h : sh < k.limit) :
    RvShImm.all.find? (fun j => j.key == k.key && sh < j.limit) = some k := by
  cases k <;> simp_all [RvShImm.all, RvShImm.key, RvShImm.limit]

theorem RvBranch.f3_lt (k : RvBranch) : k.f3 < 8 := by cases k <;> decide
theorem RvLoad.f3_lt (k : RvLoad) : k.f3 < 8 := by cases k <;> decide
theorem RvStore.f3_lt (k : RvStore) : k.f3 < 8 := by cases k <;> decide
theorem RvCsrOp.f3_bounds (k : RvCsrOp) : 0 < k.f3 ∧ k.f3 < 4 := by cases k <;> decide

/-- The opcodes of the operations with a key are none of those that decide a word on their own. -/
def keyedOpcode (opc : Nat) : Prop := opc = 0x13 ∨ opc = 0x1B ∨ opc = 0x33 ∨ opc = 0x3B

theorem RvOp.key_bounds (k : RvOp) : keyedOpcode k.key.1 ∧ k.key.2.1 < 8 ∧ k.key.2.2 < 128 := by
  cases k <;> simp [RvOp.key, keyedOpcode]
theorem RvOpImm.key_bounds (k : RvOpImm) : keyedOpcode k.key.1 ∧ k.key.2 < 8 := by
  cases k <;> simp [RvOpImm.key, keyedOpcode]
theorem RvShImm.key_bounds (k : RvShImm) : keyedOpcode k.key.1 ∧ k.key.2.1 < 8 ∧ k.key.2.2 < 64 := by
  cases k <;> simp [RvShImm.key, keyedOpcode]
theorem RvUnary.key_bounds (k : RvUnary) : keyedOpcode k.key.1 ∧ k.key.2.1 < 8 ∧ k.key.2.2 < 4096 := by
  cases k <;> simp [RvUnary.key, keyedOpcode]

/-! No operation is taken for one of a list that is searched before its own. -/

theorem RvOpImm.not_unary (k : RvOpImm) (imm : Nat) : RvUnary.all.find? (fun j => j.key == (k.key.1, k.key.2, imm)) = none := by
  cases k <;> simp [RvUnary.all, RvUnary.key, RvOpImm.key]
theorem RvShImm.not_unary (k : RvShImm) {sh : Nat} (h : sh < 64) :
    RvUnary.all.find? (fun j => j.key == (k.key.1, k.key.2.1, k.key.2.2 * 2 ^ 6 + sh)) = none := by
  cases k <;> simp [RvUnary.all, RvUnary.key, RvShImm.key] <;> omega
theorem RvShImm.not_opImm (k : RvShImm) : RvOpImm.all.find? (fun j => j.key == (k.key.1, k.key.2.1)) = none := by cases k <;> rfl
theorem RvOp.not_unary (k : RvOp) {rs2 : Nat} (h : rs2 < 32) :
    RvUnary.all.find? (fun j => j.key == (k.key.1, k.key.2.1, k.key.2.2 * 32 + rs2)) = none := by
  cases k <;> simp [RvUnary.all, RvUnary.key, RvOp.key] <;> omega
theorem RvOp.not_opImm (k : RvOp) : RvOpImm.all.find? (fun j => j.key == (k.key.1, k.key.2.1)) = none := by cases k <;> rfl
theorem RvOp.not_shImm (k : RvOp) (f6 sh : Nat) :
    RvShImm.all.find? (fun j => j.key == (k.key.1, k.key.2.1, f6) && sh < j.limit) = none := by
  cases k <;> simp [RvShImm.all, RvShImm.key, RvOp.key]

section
variable {w opc f3 : Nat} (h0 : bitsAt w 0 7 = opc) (h12 : bitsAt w 12 3 = f3) (hk : keyedOpcode opc)
include h0 h12 hk

theorem decodeRv_unary {k : RvUnary} (h : RvUnary.all.find? (fun j => j.key == (opc, f3, bitsAt w 20 12)) = some k) :
    decodeRv w = some (.unary k (regAt w 7) (regAt w 15)) := by
  obtain rfl | rfl | rfl | rfl := hk <;> simp [decodeRv, h0, h12, h]

variable (hu : RvUnary.all.find? (fun j => j.key == (opc, f3, bitsAt w 20 12)) = none)
include hu

theorem decodeRv_opImm {k : RvOpImm} (h : RvOpImm.all.find? (fun j => j.key == (opc, f3)) = some k) :
    decodeRv w = some (.opImm k (regAt w 7) (regAt w 15) (BitVec.ofNat 12 (bitsAt w 20 12))) := by
  obtain rfl | rfl | rfl | rfl := hk <;> simp [decodeRv, h0, h12, h, hu]

variable (hi : RvOpImm.all.find? (fun j => j.key == (opc, f3)) = none)
include hi

theorem decodeRv_shImm {k : RvShImm}
    (h : RvShImm.all.find? (fun j => j.key == (opc, f3, bitsAt w 26 6) && bitsAt w 20 6 < j.limit) = some k) :
    decodeRv w = some (.shImm k (regAt w 7) (regAt w 15) (Fin.ofNat 64 (bitsAt w 20 6))) := by
  obtain rfl | rfl | rfl | rfl := hk <;> simp [decodeRv, h0, h12, h, hu, hi]

theorem decodeRv_op {k : RvOp}
    (hs : RvShImm.all.find? (fun j => j.key == (opc, f3, bitsAt w 26 6) && bitsAt w 20 6 < j.limit) = none)
    (h : RvOp.all.find? (fun j => j.key == (opc, f3, bitsAt w 25 7)) = some k) :
    decodeRv w = some (.op k (regAt w 7) (regAt w 15) (regAt w 20)) := by
  obtain rfl | rfl | rfl | rfl := hk <;> simp [decodeRv, h0, h12, h, hu, hi, hs]

end

theorem decodeSide_rv {w opc : Nat} {r : RvInstr} (hlt : w < 2 ^ 32) (h0 : bitsAt w 0 7 = opc) (hq : opc ≠ 0x0B) (hr : opc ≠ 0x2B)
    (h : decodeRv w = some r) : w < 2 ^ 32 ∧ decodeSide w = some (.sideCoreRv64Instruction r) := by
  refine ⟨hlt, ?_⟩
  rw [decodeSide, h0, if_neg (not_or.2 ⟨hq, hr⟩), h]
  rfl

theorem decodeSide_keyed {w opc : Nat} {r : RvInstr} (hlt : w < 2 ^ 32) (h0 : bitsAt w 0 7 = opc) (hk : keyedOpcode opc)
    (h : decodeRv w = some r) : w < 2 ^ 32 ∧ decodeSide w = some (.sideCoreRv64Instruction r) := by
  refine decodeSide_rv hlt h0 ?_ ?_ h <;> obtain rfl | rfl | rfl | rfl := hk <;> decide

/-- U-type words. -/
theorem uType_fields {opc rd imm : Nat} (hopc : opc < 2 ^ 7) (hrd : rd < 2 ^ 5) (himm : imm < 2 ^ 20) :
    ∀ w, w = imm * 2 ^ 12 + rd * 2 ^ 7 + opc → bitsAt w 0 7 = opc ∧ bitsAt w 7 5 = rd ∧ bitsAt w 12 20 = imm ∧ w < 2 ^ 32 := by
  rintro w rfl
  simp only [bitsAt]
  omega

/-- J-type words. -/
theorem jType_fields {a b c d rd : Nat} (ha : a < 2) (hb : b < 2 ^ 10) (hc : c < 2) (hd : d < 2 ^ 8) (hrd : rd < 2 ^ 5) :
    ∀ w, w = a * 2 ^ 31 + b * 2 ^ 21 + c * 2 ^ 20 + d * 2 ^ 12 + rd * 2 ^ 7 + 0x6F →
      bitsAt w 0 7 = 0x6F ∧ bitsAt w 7 5 = rd ∧ bitsAt w 31 1 = a ∧ bitsAt w 12 8 = d ∧ bitsAt w 20 1 = c ∧ bitsAt w 21 10 = b ∧
        w < 2 ^ 32 := by
  rintro w rfl
  simp only [bitsAt]
  refine ⟨?_, ?_, ?_, ?_, ?_, ?_, ?_⟩ <;> omega

theorem bitsAt_jal_imm (off : BitVec 20) :
    bitsAt off.toNat 19 1 * 2 ^ 19 + bitsAt off.toNat 11 8 * 2 ^ 11 + bitsAt off.toNat 10 1 * 2 ^ 10 + bitsAt off.toNat 0 10 = off.toNat := by
  have hoff := off.isLt
  simp only [bitsAt]
  omega

/-- B-type words. -/
theorem bType_fields {a b rs2 rs1 f3 c d : Nat} (ha : a < 2) (hb : b < 2 ^ 6) (h2 : rs2 < 2 ^ 5) (h1 : rs1 < 2 ^ 5) (hf3 : f3 < 2 ^ 3)
    (hc : c < 2 ^ 4) (hd : d < 2) :
    ∀ w, w = a * 2 ^ 31 + b * 2 ^ 25 + rs2 * 2 ^ 20 + rs1 * 2 ^ 15 + f3 * 2 ^ 12 + c * 2 ^ 8 + d * 2 ^ 7 + 0x63 →
      bitsAt w 0 7 = 0x63 ∧ bitsAt w 12 3 = f3 ∧ bitsAt w 15 5 = rs1 ∧ bitsAt w 20 5 = rs2 ∧ bitsAt w 31 1 = a ∧ bitsAt w 7 1 = d ∧
        bitsAt w 25 6 = b ∧ bitsAt w 8 4 = c ∧ w < 2 ^ 32 := by
  rintro w rfl
  simp only [bitsAt]
  refine ⟨?_, ?_, ?_, ?_, ?_, ?_, ?_, ?_, ?_⟩ <;> omega

theorem bitsAt_branch_imm (off : BitVec 12) :
    bitsAt off.toNat 11 1 * 2 ^ 11 + bitsAt off.toNat 10 1 * 2 ^ 10 + bitsAt off.toNat 4 6 * 2 ^ 4 + bitsAt off.toNat 0 4 = off.toNat := by
  have hoff := off.isLt
  simp only [bitsAt]
  omega

/-- The two halves of an S-type immediate. -/
theorem bitsAt_store_imm (imm : BitVec 12) : bitsAt imm.toNat 5 7 * 2 ^ 5 + bitsAt imm.toNat 0 5 = imm.toNat := by
  have himm := imm.isLt
  simp only [bitsAt]
  omega

/-- An I-type immediate of 12 bits in two fields of 6. -/
theorem bitsAt_of_high {w h l : Nat} (hl : l < 2 ^ 6) (e : bitsAt w 20 12 = h * 2 ^ 6 + l) :
    bitsAt w 26 6 = h ∧ bitsAt w 20 6 = l := by
  simp only [bitsAt] at *
  omega

theorem RvInstr.shImm_lt_limit {k : RvShImm} {rd rs1 : Reg5} {sh : Fin 64} (h : (RvInstr.shImm k rd rs1 sh).wf = true) :
    sh.val < k.limit := by
  have hsh := sh.isLt
  cases k <;> simp_all [RvInstr.wf, RvShImm.limit]

/-- Decoding the word of an RV64 instruction gives it back (16 R411). -/
theorem rv_roundTrip (r : RvInstr) (hwf : r.wf = true) :
    encodeRv r < 2 ^ 32 ∧ decodeSide (encodeRv r) = some (.sideCoreRv64Instruction r) := by
  cases r with
  | lui rd imm =>
    obtain ⟨h0, h7, h12, hlt⟩ := uType_fields (opc := 0x37) (by decide) rd.isLt imm.isLt (encodeRv (.lui rd imm)) rfl
    exact decodeSide_rv hlt h0 (by decide) (by decide) (by simp [decodeRv, h0, regAt_eq h7, h12])
  | auipc rd imm =>
    obtain ⟨h0, h7, h12, hlt⟩ := uType_fields (opc := 0x17) (by decide) rd.isLt imm.isLt (encodeRv (.auipc rd imm)) rfl
    exact decodeSide_rv hlt h0 (by decide) (by decide) (by simp [decodeRv, h0, regAt_eq h7, h12])
  | jal rd off =>
    obtain ⟨h0, h7, h31, h12, h20, h21, hlt⟩ := jType_fields (bitsAt_lt off.toNat 19 1) (bitsAt_lt off.toNat 0 10)
      (bitsAt_lt off.toNat 10 1) (bitsAt_lt off.toNat 11 8) rd.isLt (encodeRv (.jal rd off)) rfl
    exact decodeSide_rv hlt h0 (by decide) (by decide)
      (by simp [decodeRv, h0, regAt_eq h7, -Nat.reducePow, h31, h12, h20, h21, bitsAt_jal_imm])
  | jalr rd rs1 imm =>
    obtain ⟨h0, h7, h12, h15, h20, hlt⟩ := iType_fields (opc := 0x67) (f3 := 0) (by decide) rd.isLt (by decide) rs1.isLt imm.isLt
    exact decodeSide_rv hlt h0 (by decide) (by decide) (by simp [decodeRv, encodeRv, h0, regAt_eq h7, h12, regAt_eq h15, h20])
  | branch k rs1 rs2 off =>
    obtain ⟨h0, h12, h15, h20, h31, h7, h25, h8, hlt⟩ := bType_fields (bitsAt_lt off.toNat 11 1) (bitsAt_lt off.toNat 4 6) rs2.isLt
      rs1.isLt k.f3_lt (bitsAt_lt off.toNat 0 4) (bitsAt_lt off.toNat 10 1) (encodeRv (.branch k rs1 rs2 off)) rfl
    exact decodeSide_rv hlt h0 (by decide) (by decide)
      (by simp [decodeRv, h0, h12, regAt_eq h15, regAt_eq h20, -Nat.reducePow, h31, h7, h25, h8, bitsAt_branch_imm,
        k.find_f3])
  | load k rd rs1 imm =>
    obtain ⟨h0, h7, h12, h15, h20, hlt⟩ := iType_fields (opc := 0x03) (by decide) rd.isLt k.f3_lt rs1.isLt imm.isLt
    exact decodeSide_rv hlt h0 (by decide) (by decide)
      (by simp [decodeRv, encodeRv, h0, regAt_eq h7, h12, regAt_eq h15, h20, k.find_f3])
  | store k rs1 rs2 imm =>
    obtain ⟨h0, h7, h12, h15, h20, h25⟩ := rType_fields (opc := 0x23) (by decide) (bitsAt_lt imm.toNat 0 5) k.f3_lt rs1.isLt rs2.isLt
      (bitsAt_lt imm.toNat 5 7)
    obtain ⟨-, -, hlt⟩ := rType_high (opc := 0x23) (by decide) (bitsAt_lt imm.toNat 0 5) k.f3_lt rs1.isLt rs2.isLt
      (bitsAt_lt imm.toNat 5 7)
    exact decodeSide_rv hlt h0 (by decide) (by decide)
      (by simp [decodeRv, encodeRv, h0, h7, h12, regAt_eq h15, regAt_eq h20, h25, k.find_f3, -Nat.reducePow, bitsAt_store_imm])
  | opImm k rd rs1 imm =>
    obtain ⟨hk, hf3⟩ := k.key_bounds
    have hopc : k.key.1 < 2 ^ 7 := by obtain h | h | h | h := hk <;> omega
    obtain ⟨h0, h7, h12, h15, h20, hlt⟩ := iType_fields hopc rd.isLt hf3 rs1.isLt imm.isLt
    refine decodeSide_keyed hlt h0 hk ((decodeRv_opImm h0 h12 hk (k.not_unary _) k.find_key).trans ?_)
    simp [regAt_eq h7, regAt_eq h15, h20]
  | shImm k rd rs1 sh =>
    obtain ⟨hk, hf3, hf6⟩ := k.key_bounds
    have hopc : k.key.1 < 2 ^ 7 := by obtain h | h | h | h := hk <;> omega
    have himm : k.key.2.2 * 2 ^ 6 + sh.val < 2 ^ 12 := by omega
    obtain ⟨h0, h7, h12, h15, h20, hlt⟩ := iType_fields hopc rd.isLt hf3 rs1.isLt himm
    obtain ⟨h26, h6⟩ := bitsAt_of_high sh.isLt h20
    refine decodeSide_keyed hlt h0 hk ((decodeRv_shImm (k := k) h0 h12 hk ?_ k.not_opImm ?_).trans ?_)
    · rw [h20]; exact k.not_unary sh.isLt
    · rw [h26, h6]; exact k.find_key (RvInstr.shImm_lt_limit hwf)
    · rw [regAt_eq h7, regAt_eq h15, h6, Fin.ofNat_val_eq_self]
  | op k rd rs1 rs2 =>
    obtain ⟨hk, hf3, hf7⟩ := k.key_bounds
    have hopc : k.key.1 < 2 ^ 7 := by obtain h | h | h | h := hk <;> omega
    obtain ⟨h0, h7, h12, h15, h20, h25⟩ := rType_fields hopc rd.isLt hf3 rs1.isLt rs2.isLt hf7
    obtain ⟨hh, -, hlt⟩ := rType_high hopc rd.isLt hf3 rs1.isLt rs2.isLt hf7
    refine decodeSide_keyed hlt h0 hk ((decodeRv_op (k := k) h0 h12 hk ?_ k.not_opImm (k.not_shImm _ _) ?_).trans ?_)
    · rw [hh]; exact k.not_unary rs2.isLt
    · rw [h25]; exact k.find_key
    · rw [regAt_eq h7, regAt_eq h15, regAt_eq h20]
  | unary k rd rs1 =>
    obtain ⟨hk, hf3, himm⟩ := k.key_bounds
    have hopc : k.key.1 < 2 ^ 7 := by obtain h | h | h | h := hk <;> omega
    obtain ⟨h0, h7, h12, h15, h20, hlt⟩ := iType_fields hopc rd.isLt hf3 rs1.isLt himm
    refine decodeSide_keyed hlt h0 hk ((decodeRv_unary (k := k) h0 h12 hk ?_).trans ?_)
    · rw [h20]; exact k.find_key
    · rw [regAt_eq h7, regAt_eq h15]
  | csr k rd rs1 csr =>
    obtain ⟨hlo, hhi⟩ := k.f3_bounds
    obtain ⟨h0, h7, h12, h15, h20, hlt⟩ := iType_fields (opc := 0x73) (by decide) rd.isLt (Nat.lt_trans hhi (by decide)) rs1.isLt csr.isLt
    have hne0 : k.f3 ≠ 0 := by omega
    have hne4 : k.f3 ≠ 4 := by omega
    exact decodeSide_rv hlt h0 (by decide) (by decide)
      (by simp [decodeRv, encodeRv, h0, regAt_eq h7, h12, regAt_eq h15, h20, hne0, hne4, hhi, Nat.mod_eq_of_lt hhi, k.find_f3])
  | csrImm k rd uimm csr =>
    obtain ⟨hlo, hhi⟩ := k.f3_bounds
    obtain ⟨h0, h7, h12, h15, h20, hlt⟩ := iType_fields (opc := 0x73) (f3 := k.f3 + 4) (by decide) rd.isLt (by omega) uimm.isLt csr.isLt
    have hne0 : k.f3 ≠ 0 := by omega
    have hmod : (k.f3 + 4) % 4 = k.f3 := by omega
    exact decodeSide_rv hlt h0 (by decide) (by decide)
      (by simp [decodeRv, encodeRv, h0, regAt_eq h7, h12, h15, h20, hne0, hmod, k.find_f3])
  | fence => exact decodeSide_rv (opc := 0x0F) (by decide) (by decide) (by decide) (by decide) rfl
  | fenceI => exact decodeSide_rv (opc := 0x0F) (by decide) (by decide) (by decide) (by decide) rfl
  | wfi => exact decodeSide_rv (opc := 0x73) (by decide) (by decide) (by decide) (by decide) rfl
  | ecall => exact decodeSide_rv (opc := 0x73) (by decide) (by decide) (by decide) (by decide) rfl
  | ebreak => exact decodeSide_rv (opc := 0x73) (by decide) (by decide) (by decide) (by decide) rfl

/-- Settles O3: Xjaind words by their fields, RV64 words by their format. -/
theorem sideRoundTrip : Obligations.SideRoundTrip := by
  intro i w hwf he
  by_cases hrv : ∃ r, i = .sideCoreRv64Instruction r
  · obtain ⟨r, rfl⟩ := hrv
    cases he
    exact rv_roundTrip r hwf
  · exact xjaind_roundTrip (fun r e => hrv ⟨r, e⟩) he

end Sys2Proof

/-! ### Guards (09 R251) -/

namespace Sys2Proof.Machine

/-- Every slot with a guard answers a next state: that of its action where the guard reads true, the state itself elsewhere. -/
theorem exec_guarded {i : Instr} {g : Guard} (h : i.guard = some g) (s : State) :
    ∃ t : State, exec i s = .next (if s.seat.pred g.val then t else s) := by
  cases i with
  | nopb f | mnop f => exact ⟨s, congrArg Host.Outcome.next (ite_self s).symm⟩
  | bpt f | bptr f | bptrRel f | btr f | bcl f | bclA f | brtn f | brtnA f | lset f | lsetReg f | lstr f | lbrk f | lrrb f
  | yld f | yldp f | wtc f | wfl f | wmon f | tspn f | tend f | trap f | trapSv f | rtt f | ask f | askr f | snap f | snapw f
  | add f | sub f | mul f | mulh f | mulhu f | div f | divu f | rem f | remu f | and f | or f | xor f | andn f | shl f | shr f
  | sar f | rotl f | clz f | ctz f | popc f | min f | max f | minu f | maxu f | sel f | bext f | bins f | addw f | cmp f | fcmp f
  | qop f | movx f | fadds f | faddd f | fsubs f | fsubd f | fmuls f | fmuld f | fmas f | fmad f | fdivs f | fdivd f | fsqrs f
  | fsqrd f | fmins f | fmaxs f | fmind f | fmaxd f | fcvt f | fcls f | twos f | twop f | csrr f | csrw f | gset f | lidx f
  | cycr f | movi f | tsrd f | tlbi f | vadd f | vsub f | vmul f | vfma f | vfms f | vdiv f | vsqrt f | vmin f | vmax f | vabs f
  | vneg f | vexp2 f | vlog2 f | vrcp f | vrsq f | vcmp f | vsel f | vany f | vanyMask f | vall f | vallMask f | vkop f | vand f
  | vor f | vxor f | vshl f | vshr f | vsar f | vbcst f | vxtr f | viota f | vperm f | vbfly f | vrotl f | vreda f | vredm f
  | vcvt f | vpck f | vupk f | vcmul f | vcmac f | vtws f | vcadd f | vhad f | vsgn f | vqnt f | vdq f | vcrt f | vres f
  | vsett f | vmovkToMask f | vmovkToReg f | vcls f | vround f | vmulh f | vabsd f | vclz f | vpopc f | vsatn f | vscl f | vmix f
  | vsplt f | vzero f | ltset f | ltget f | ltcpy f | vld f | vldRaw f | vst f | vstRaw f | sld f | sst f | vgth f | vsct f
  | cpy f | cpya f | pub f | dclm f | drel f | dwr f | lscl f | aadd f | aaddf f | aaddk f | amin f | amax f | aminu f | amaxu f
  | axch f | acas f | aand f | aor f | axor f | tdec f | bind f | unbd f | acq f | rel f | acqt f | fnc f | fni f | fnw f
  | sflg f | scnt f | sbeq f | redp f | redw f | qpop f | qpsh f | qlev f | walw f | mona f | digq f | hgset f | hgget f | manr f
  | pref f | bld f | bst f | bzero f | cpyw f | lthdr f | sprb f | mshb f | mshr f | mswp f | mpsa f | mpss f | mpra f | mprs f
  | mdrd f | mdrv f | mdrb f | mbas f | mbasKeep f | mzro f | mkst f | mkrd f | mtsr f | mbld f | mbst f | msyn f | mpoi f =>
    cases h
    exact ⟨_, rfl⟩
  | _ => cases h

/-- Settles O11. -/
theorem disabledSlots : Obligations.DisabledSlots := by
  intro i g s hg hoff
  obtain ⟨t, h⟩ := exec_guarded hg s
  rw [h, hoff]
  rfl

/-- The P slots, which have no guard (09 R244). -/
def isPrefix : Instr → Bool
  | .psc _ | .pim _ | .pimh _ => true
  | _ => false

theorem exec_prefix {i : Instr} (h : isPrefix i = true) (s : State) : ∃ t, exec i s = .next t := by
  cases i with
  | psc f | pim f | pimh f => exact ⟨_, rfl⟩
  | _ => cases h

/-- A slot has a guard or is a P slot. -/
theorem slot_guard_or_prefix (i : Instr) : (i.guard.isSome || (encodeSlot i).isNone || isPrefix i) = true := by
  cases i <;> rfl

/-- Settles O10. -/
theorem slotsNeverStop : Obligations.SlotsNeverStop := by
  intro i s hslot
  by_cases hp : isPrefix i = true
  · exact exec_prefix hp s
  · have hg : i.guard.isSome = true := by
      simpa [hp, Option.isNone_iff_eq_none, Option.isSome_iff_ne_none.1 hslot] using slot_guard_or_prefix i
    obtain ⟨g, hg⟩ := Option.isSome_iff_exists.1 hg
    obtain ⟨t, ht⟩ := exec_guarded hg s
    exact ⟨_, ht⟩

end Sys2Proof.Machine

/-! ### Slots that the mode or a pure task forbids (10 R270, 15 R409) -/

namespace Sys2Proof.Machine

/-- RTT outside a delay bundle, in user mode and outside a user handler, is a privileged slot (11 R289). -/
theorem execRtt_user (f : Bn) (s : State) (hp : s.seat.pred f.g.val = true) (hsup : s.seat.sup = false) (hpend : s.seat.pend = none)
    (hbits : bitOf s.seat.tstat tstatUIP = false ∨ bitOf s.seat.tstat tstatSIP = true) :
    execRtt f s = .next (s.raise 3 s.slotTval) := by
  rcases hbits with h | h <;> simp [execRtt, State.guarded_on _ _ _ hp, State.noDelay, hpend, hsup, h]

/-- Settles O50. -/
theorem forbiddenSlots : Obligations.ForbiddenSlots := by
  intro i g s hg hp
  refine ⟨fun hsup h => ?_, fun hpure h => ?_⟩
  · rcases h with ⟨f, rfl⟩ | ⟨f, rfl⟩ | ⟨f, rfl⟩ | ⟨f, rfl⟩ | ⟨f, rfl⟩ | ⟨⟨f, rfl⟩, hpend, hbits⟩ <;> cases hg
    case inr.inr.inr.inr.inr.refl => exact execRtt_user f s hp hsup hpend hbits
    all_goals
      delta exec execTlbi execHgset execHgget execManr execMpoi
      exact State.privileged_user s f.g _ hp hsup
  · rcases h with ⟨f, rfl⟩ | ⟨f, rfl⟩ | ⟨f, rfl⟩ | ⟨f, rfl⟩ | ⟨f, rfl⟩ | ⟨f, rfl⟩ | ⟨f, rfl⟩ |
      ⟨f, rfl | rfl | rfl | rfl | rfl | rfl | rfl | rfl | rfl | rfl | rfl⟩ | ⟨f, rfl⟩ | ⟨f, rfl⟩ | ⟨f, rfl⟩ | ⟨f, rfl | rfl | rfl⟩ |
      ⟨f, rfl⟩ | ⟨f, rfl⟩ | ⟨f, rfl⟩ | ⟨f, rfl⟩ | ⟨f, rfl⟩ | ⟨f, rfl⟩ | ⟨f, rfl | rfl⟩ | ⟨f, rfl⟩ | ⟨f, rfl⟩ | ⟨f, rfl⟩ | ⟨f, rfl⟩ |
      ⟨f, rfl⟩ | ⟨f, rfl | rfl | rfl⟩ | ⟨f, rfl⟩ <;> cases hg
    all_goals
      delta exec execLtset execLtcpy execBind execUnbd execBld execBst execBzero execAadd execAaddf execAaddk execAmin execAmax
        execAminu execAmaxu execAxch execAand execAor execAxor atomicOp execAcas execTdec execCpya execPub execRel execAcq execAcqt
        execSflg execScnt execSbeq execRedp execRedw execQpop execQlev execQpsh execWalw execMona execCycr execTspn execSnap execSnapw
        execTrapSv execWfl
      exact State.effectful_pure s f.g _ hp hpure

end Sys2Proof.Machine

/-! ### What an S or V slot changes at issue (07 R197) -/

namespace Sys2Proof

/-- A slot word holds the opcode it is encoded under. -/
theorem opOf_of_encodeSlot {i : Instr} {w : SlotWord} {op : Nat} {f : Fields} (hw : encodeSlot i = some w)
    (he : encodeSlot i = some (BitVec.ofNat 32 (wordOf op f))) (hop : op < 256) (hf : f.InRange) : opOf w.toNat = op := by
  obtain rfl : BitVec.ofNat 32 (wordOf op f) = w := Option.some.inj (he.symm.trans hw)
  rw [BitVec.toNat_ofNat, Nat.mod_eq_of_lt (Nat.lt_trans (wordOf_lt hop hf) (by decide)), opOf_wordOf hop hf]

/-- A slot of an opcode of another class is no S or V slot. -/
theorem not_register_slot {i : Instr} {w : SlotWord} {op : Nat} {f : Fields} (hw : encodeSlot i = some w)
    (hc : classRank (opOf w.toNat) = 2 ∨ classRank (opOf w.toNat) = 3) (he : encodeSlot i = some (BitVec.ofNat 32 (wordOf op f)))
    (hop : op < 256 ∧ classRank op ≠ 2 ∧ classRank op ≠ 3) (hf : f.InRange) : False := by
  rw [opOf_of_encodeSlot hw he hop.1 hf] at hc
  exact hc.elim hop.2.1 hop.2.2

end Sys2Proof

namespace Sys2Proof.Machine

theorem tput_tput (t : Tab α) (k : Nat) (v w : α) : tput (tput t k v) k w = tput t k w := by
  induction t with
  | nil => simp [tput]
  | cons p t ih =>
    obtain ⟨j, x⟩ := p
    rcases Nat.lt_trichotomy j k with h | h | h
    · simp [tput, h, ih]
    · simp [tput, h]
    · simp [tput, Nat.lt_asymm h, Nat.ne_of_gt h]

/-- Two changes of one core are one. -/
theorem State.onCore_onCore (s : State) (c : Nat) (f g : Core → Core) : (s.onCore c f).onCore c g = s.onCore c fun k => g (f k) := by
  simp [State.onCore, State.setCore, State.core, tput_tput]

/-- Results of the issuing core take flight, and nothing else changes. -/
def Sends (s t : State) : Prop :=
  ∃ ls, t = s.onCore s.cx.core fun k => { k with flight := k.flight ++ ls }

theorem Sends.fly (s : State) (u : UnitId) (lat : Nat) (e : Effect) (v : Option Vec) : Sends s (s.fly u lat e v) := ⟨_, rfl⟩

theorem Sends.result (s : State) (u : UnitId) (d : Dst) (lat : Nat) (v : Word) : Sends s (s.result u d lat v) := .fly ..

theorem Sends.vresult (s : State) (d : Dst) (lat : Nat) (v : Vec) : Sends s (s.vresult d lat v) := .fly ..

theorem Sends.trans {s t u : State} (h : Sends s t) (h' : Sends t u) : Sends s u := by
  obtain ⟨ls, rfl⟩ := h
  obtain ⟨ms, rfl⟩ := h'
  exact ⟨ls ++ ms, by simp [State.onCore_onCore]⟩

/-- The state itself, results in flight beside it, or a trap. -/
inductive Issues (s : State) : State → Prop where
  | same : Issues s s
  | sends {t : State} (h : Sends s t) : Issues s t
  | traps {t : State} (h : t.cx.out ≠ .go) : Issues s t

theorem Issues.raise (s : State) (cause : Nat) (tval : Word) : Issues s (s.raise cause tval) :=
  .traps (by simp [State.raise_out])

theorem Issues.guarded {s t : State} {g : Guard} {act : State → State} (ha : Issues s (act s)) (h : s.guarded g act = .next t) :
    Issues s t := by
  rw [State.guarded_next] at h
  subst h
  split
  · exact ha
  · exact .same

theorem Issues.effectful {s t : State} {g : Guard} {act : State → State} (ha : Issues s (act s)) (h : s.effectful g act = .next t) :
    Issues s t := by
  refine Issues.guarded ?_ h
  split
  · exact .raise ..
  · exact ha

theorem Issues.typed {s t : State} {g : Guard} {ok : ElemTy → Bool} {vals : List Src} {act : ElemTy → State → State}
    (ha : ∀ ty, Issues s (act ty s)) (h : s.typed g ok vals act = .next t) : Issues s t := by
  refine Issues.guarded ?_ h
  split
  · exact .raise ..
  · split
    · exact ha _
    · exact .raise ..

theorem execCsrr_issues (f : Scsrr) (s t : State) (h : execCsrr f s = .next t) : Issues s t := by
  refine Issues.guarded ?_ h
  split
  · exact .raise ..
  · split
    · exact .raise ..
    · exact .sends (.result ..)

theorem pairOp_issues (op : FpFmt → Nat → Nat → Nat × Nat) (f : Spair) (s t : State) (h : pairOp op f s = .next t) : Issues s t :=
  Issues.guarded (.sends ((Sends.result ..).trans (.result ..))) h

theorem execVtws_issues (f : Vtws) (s t : State) (h : execVtws f s = .next t) : Issues s t :=
  Issues.typed (fun _ => .sends ((Sends.vresult ..).trans (.vresult ..))) h

theorem execVcvt_issues (f : Vcvt) (s t : State) (h : execVcvt f s = .next t) : Issues s t := by
  refine Issues.typed (fun ty => ?_) h
  split
  · exact .same
  · dsimp only
    split
    · exact .sends (.vresult ..)
    · split <;> exact .sends (.vresult ..)

theorem execVreda_issues (f : V2) (s t : State) (h : execVreda f s = .next t) : Issues s t := by
  refine Issues.typed (fun ty => ?_) h
  split <;> exact .sends (.vresult ..)

theorem execVredm_issues (f : Vredm) (s t : State) (h : execVredm f s = .next t) : Issues s t := by
  refine Issues.typed (fun ty => ?_) h
  split <;> exact .sends (.vresult ..)

/-- A CSRW that does not trap sends its write, and its seat's iteration is not idle. -/
theorem execCsrw_issues (f : Scsrw) (s t : State) (h : execCsrw f s = .next t) : Issues s t ∨ ∃ u, Sends s u ∧ t = u.busy := by
  rw [execCsrw, State.guarded_next] at h
  subst h
  split
  · dsimp only
    split
    · exact .inl (.raise ..)
    · split
      · exact .inl (.raise ..)
      · exact .inr ⟨_, .fly .., rfl⟩
  · exact .inl .same

/-- The S and V slots but TLBI and CSRW. -/
theorem exec_issues {i : Instr} {w : SlotWord} {s t : State} (hw : encodeSlot i = some w)
    (hc : classRank (opOf w.toNat) = 2 ∨ classRank (opOf w.toNat) = 3) (htlbi : ∀ f, i ≠ .tlbi f) (hcsrw : ∀ f, i ≠ .csrw f)
    (h : exec i s = .next t) : Issues s t := by
  cases i with
  | tlbi f => exact absurd rfl (htlbi f)
  | csrw f => exact absurd rfl (hcsrw f)
  | csrr f => exact execCsrr_issues f s t h
  | cycr f =>
    delta exec execCycr at h
    exact Issues.effectful (.sends (.result ..)) h
  | twos f | twop f => exact pairOp_issues _ f s t h
  | vtws f => exact execVtws_issues f s t h
  | vcvt f => exact execVcvt_issues f s t h
  | vreda f => exact execVreda_issues f s t h
  | vredm f => exact execVredm_issues f s t h
  | add f | sub f | mul f | mulh f | mulhu f | div f | divu f | rem f | remu f | and f | or f | xor f | andn f | shl f | shr f
  | sar f | rotl f | clz f | ctz f | popc f | min f | max f | minu f | maxu f | sel f | bext f | bins f | addw f | cmp f | fcmp f
  | qop f | movx f | fadds f | faddd f | fsubs f | fsubd f | fmuls f | fmuld f | fmas f | fmad f | fdivs f | fdivd f | fsqrs f
  | fsqrd f | fmins f | fmaxs f | fmind f | fmaxd f | fcvt f | fcls f | gset f | lidx f | movi f | tsrd f | vanyMask f
  | vallMask f | vkop f | vmovkToMask f | vmovkToReg f | vmix f | vsett f | vzero f =>
    delta exec execAdd execSub execMul execMulh execMulhu execDiv execDivu execRem execRemu execAnd execOr execXor execAndn execShl
      execShr execSar execRotl execClz execCtz execPopc execMin execMax execMinu execMaxu execSel execBext execBins execAddw
      execCmp execFcmp execQop execMovx execFadds execFaddd execFsubs execFsubd execFmuls execFmuld execFmas execFmad
      execFdivs execFdivd execFsqrs execFsqrd execFmins execFmaxs execFmind execFmaxd execFcvt execFcls execGset execLidx
      execMovi execTsrd execVanyMask execVallMask execVkop execVmovkToMask execVmovkToReg execVmix execVsett execVzero
      intOp intUnary intMerge fpOp fpFused fpRoot at h
    exact Issues.guarded (.sends ⟨_, rfl⟩) h
  | vadd f | vsub f | vmul f | vfma f | vfms f | vdiv f | vsqrt f | vmin f | vmax f | vabs f | vneg f | vexp2 f | vlog2 f | vrcp f
  | vrsq f | vcmp f | vsel f | vany f | vall f | vand f | vor f | vxor f | vshl f | vshr f | vsar f | vbcst f | vxtr f | viota f
  | vperm f | vbfly f | vrotl f | vpck f | vupk f | vcmul f | vcmac f | vcadd f | vhad f | vsgn f | vqnt f | vdq f | vcrt f
  | vres f | vcls f | vround f | vmulh f | vabsd f | vclz f | vpopc f | vsatn f | vscl f | vsplt f =>
    delta exec execVadd execVsub execVmul execVfma execVfms execVdiv execVsqrt execVmin execVmax execVabs execVneg execVexp2 execVlog2
      execVrcp execVrsq execVcmp execVsel execVany execVall execVand execVor execVxor execVshl execVshr execVsar execVbcst
      execVxtr execViota execVperm execVbfly execVrotl execVpck execVupk execVcmul execVcmac execVcadd execVhad execVsgn
      execVqnt execVdq execVcrt execVres execVcls execVround execVmulh execVabsd execVclz execVpopc execVsatn execVscl
      execVsplt
      vun vbin vbits vbinx vmove vfused vote vcomplex at h
    exact Issues.typed (fun _ => .sends ⟨_, rfl⟩) h
  | psc f | pim f | pimh f =>
    exact (not_register_slot hw hc rfl (by decide) (Fields.ofLow23_inRange _)).elim
  | nopb f | bptr f | bptrRel f | bclA f | brtn f | brtnA f | lsetReg f | lrrb f | yld f | yldp f | wtc f | wmon f | tspn f
  | tend f | trap f | trapSv f | rtt f | ask f | askr f | snap f | snapw f | vld f | vldRaw f | vst f | vstRaw f | sst f | vgth f
  | vsct f | aadd f | aaddf f | aaddk f | amin f | amax f | aminu f | amaxu f | axch f | aand f | aor f | axor f | sbeq f | redw f
  | sprb f | mbas f | mbasKeep f =>
    exact (not_register_slot hw hc rfl (by decide) (f.toF_inRange (by decide))).elim
  | pub f | acq f | rel f =>
    exact (not_register_slot hw hc rfl (by decide) f.toFA_inRange).elim
  | bind f =>
    exact (not_register_slot hw hc rfl (by decide) f.toFDA_inRange).elim
  | unbd f =>
    exact (not_register_slot hw hc rfl (by decide) f.toFD_inRange).elim
  | acqt f =>
    exact (not_register_slot hw hc rfl (by decide) f.toFAB_inRange).elim
  | mona f | pref f =>
    exact (not_register_slot hw hc rfl (by decide) f.toFBA_inRange).elim
  | bpt f | btr f | bcl f | lset f | lstr f | lbrk f | wfl f | ltset f | ltget f | ltcpy f | sld f | cpy f | cpya f | dclm f
  | drel f | dwr f | lscl f | acas f | tdec f | fnc f | fni f | fnw f | sflg f | scnt f | redp f | qpop f | qpsh f | qlev f
  | walw f | digq f | hgset f | hgget f | manr f | bld f | bst f | bzero f | cpyw f | lthdr f | mnop f | mshb f | mshr f | mswp f
  | mpsa f | mpss f | mpra f | mprs f | mdrd f | mdrv f | mdrb f | mzro f | mkst f | mkrd f | mtsr f | mbld f | mbst f | msyn f
  | mpoi f =>
    exact (not_register_slot hw hc rfl (by decide) f.toF_inRange).elim
  | _ => cases hw

/-- Settles O17. -/
theorem registerSlotsFrame : Obligations.RegisterSlotsFrame := by
  intro i w s t hw hc htlbi h hout hgo
  have hclean : t.cx.out = .go := hout.trans hgo
  have key : Issues s t ∨ (∃ f, i = .csrw f) ∧ ∃ u, Sends s u ∧ t = u.busy := by
    by_cases hcsrw : ∃ f, i = .csrw f
    · obtain ⟨f, rfl⟩ := hcsrw
      exact (execCsrw_issues f s t h).imp_right fun hu => ⟨⟨f, rfl⟩, hu⟩
    · exact .inl (exec_issues hw hc htlbi (fun f e => hcsrw ⟨f, e⟩) h)
  rcases key with (_ | ⟨ls, hls⟩ | htrap) | ⟨hcsrw, u, ⟨ls, hls⟩, hu⟩
  · exact .inl rfl
  · exact .inr ⟨ls, .inl hls⟩
  · exact absurd hclean htrap
  · exact .inr ⟨ls, .inr ⟨hcsrw, hls ▸ hu⟩⟩

end Sys2Proof.Machine

/-! ### What a CSR write stores (11 R286) -/

namespace Sys2Proof.Machine

/-- No CSR write changes a byte of memory. -/
@[simp] theorem State.csrWrite_mem (s : State) (c n i : Nat) (v : Word) : (s.csrWrite c n i v).mem = s.mem := by
  unfold State.csrWrite
  split
  case h_15 => dsimp only; split <;> rfl
  all_goals rfl

/-- Settles O21. -/
theorem csrWriteLanding : Obligations.CsrWriteLanding := by
  intro s c n v low
  refine ⟨?rrb, ?vtype, ?redto, ?wdog, ?xto, ?best, ?pfd, fun hlock => ?locked, fun hlock => ?user, ?readOnly,
    fun i => s.csrWrite_mem c n i v⟩
  case wdog | xto => simp [State.csrWrite, atLeast64K, low]
  case readOnly => rintro i (rfl | rfl | rfl | rfl | rfl) <;> rfl
  case best | pfd => simp [State.csrWrite, field]
  all_goals simp [State.csrWrite, tvecUser, *]

end Sys2Proof.Machine

/-! ### The close of a loop level (11 R296) -/

namespace Sys2Proof.Machine

/-- The g registers after the strides of a level have been added. -/
def bumped (strides : List (Nat × Word)) (g : Tab Word) : Tab Word :=
  strides.foldl (fun g p => tset 0 g p.1 (tget 0 g p.1 + p.2)) g

theorem tget_bumped_other (strides : List (Nat × Word)) (g : Tab Word) (n : Nat) (h : n ∉ strides.map (·.1)) :
    tget 0 (bumped strides g) n = tget 0 g n := by
  induction strides generalizing g with
  | nil => rfl
  | cons p t ih =>
    rw [List.map_cons, List.mem_cons, not_or] at h
    exact (ih _ h.2).trans (tget_tset_other _ _ _ _ _ h.1)

/-- Writing into a table, at some keys, what another holds there. -/
theorem tget_copied (keys : List Nat) (g g' : Tab Word) (n : Nat) :
    tget 0 ((keys.map fun k => (k, tget 0 g' k)).foldl (fun t p => tset 0 t p.1 p.2) g) n =
      if n ∈ keys then tget 0 g' n else tget 0 g n := by
  induction keys generalizing g with
  | nil => rfl
  | cons k t ih =>
    rw [List.map_cons, List.foldl_cons, ih]
    by_cases hk : n = k
    · simp [hk]
    · simp [hk, tget_tset_other _ _ _ _ _ hk]

/-- What a close lands of the strides of one level are the g registers with the strides added. -/
theorem tget_landed_strides (strides : List (Nat × Word)) (g : Tab Word) (n : Nat) :
    tget 0 ((strides.map fun p => (p.1, tget 0 (bumped strides g) p.1)).foldl (fun t p => tset 0 t p.1 p.2) g) n =
      tget 0 (bumped strides g) n := by
  have h := tget_copied (strides.map (·.1)) g (bumped strides g) n
  rw [List.map_map] at h
  refine h.trans ?_
  split
  · rfl
  · exact (tget_bumped_other strides g n ‹_›).symm

/-- A close changes the g registers and the levels. -/
theorem closeLevels_eq (addr : VA) (n : Nat) (st : Seat) : ∃ g ls, closeLevels addr n st = { st with g := g, levels := ls } := by
  induction n generalizing st with
  | zero => exact ⟨_, _, rfl⟩
  | succ n ih =>
    unfold closeLevels
    split
    · exact ⟨_, _, rfl⟩
    · dsimp only
      split
      · split
        · split
          · obtain ⟨g, ls, h⟩ := ih { st with g := bumped _ st.g, levels := _ :: _ }
            exact ⟨g, ls, h⟩
          · exact ⟨_, _, rfl⟩
        · exact ⟨_, _, rfl⟩
      · exact ⟨_, _, rfl⟩

section
variable {st : Seat} {l o : Level} {rest more : List Level} {addr : VA}

/-- A level that is not at its last iteration counts on. -/
theorem closeLevels_counts (h : st.levels = l :: rest) (hi : l.idx + 1 ≠ l.count) (n : Nat) :
    closeLevels addr (n + 1) st = { st with g := bumped l.strides st.g, levels := { l with idx := l.idx + 1 } :: rest } := by
  simp only [closeLevels, h, if_neg hi, bumped]

theorem closedStrides_counts (hi : l.idx + 1 ≠ l.count) (st' : Seat) :
    closedStrides addr st' (l :: rest) = l.strides.map fun p => (p.1, tget 0 st'.g p.1) := by
  simp only [closedStrides, if_neg hi, List.append_nil]

/-- A level at its last iteration ends; no other closes with it where the enclosing one ends elsewhere. -/
theorem closeLevels_ends (h : st.levels = l :: rest) (hi : l.idx + 1 = l.count) (ho : ∀ o, rest.head? = some o → o.stop ≠ addr) (n : Nat) :
    closeLevels addr (n + 1) st = { st with g := bumped l.strides st.g, levels := rest } := by
  cases rest with
  | nil => simp only [closeLevels, h, if_pos hi, bumped]
  | cons o more => simp only [closeLevels, h, if_pos hi, if_neg (ho o rfl), bumped]

theorem closedStrides_ends (ho : ∀ o, rest.head? = some o → o.stop ≠ addr) (st' : Seat) :
    closedStrides addr st' (l :: rest) = l.strides.map fun p => (p.1, tget 0 st'.g p.1) := by
  cases rest with
  | nil => simp [closedStrides]
  | cons o more => simp [closedStrides, ho o rfl]

/-- The enclosing level that ends at the same address closes in turn. -/
theorem closeLevels_nested (h : st.levels = l :: o :: more) (hi : l.idx + 1 = l.count) (hs : o.stop = addr) (n : Nat) :
    closeLevels addr (n + 1) st = closeLevels addr n { st with g := bumped l.strides st.g, levels := o :: more } := by
  simp only [closeLevels, h, if_pos hi, if_pos hs, bumped]

end

/-- Settles O25. -/
theorem loopClose : Obligations.LoopClose := by
  intro st l rest addr h t bump
  obtain ⟨g, ls, hframe⟩ := closeLevels_eq addr 6 st
  have ht : t = { closeLevels addr 6 st with
      rrb := st.rrb + 1
      g := (closedStrides addr (closeLevels addr 6 st) (l :: rest)).foldl (fun t p => tset 0 t p.1 p.2) st.g } := by
    rw [← h]; rfl
  refine ⟨rfl, fun hi => ?counts, fun hi ho => ?ends, fun hi o more hrest hs hio => ?nested, fun _ => rfl, ?_⟩
  case counts =>
    rw [ht, closeLevels_counts h hi, closedStrides_counts hi]
    exact ⟨rfl, tget_landed_strides l.strides st.g⟩
  case ends =>
    rw [ht, closeLevels_ends h hi ho, closedStrides_ends ho]
    exact ⟨rfl, tget_landed_strides l.strides st.g⟩
  case nested =>
    subst hrest
    rw [ht, closeLevels_nested h hi hs, closeLevels_counts rfl hio]
  · rw [ht, hframe]
    exact ⟨rfl, rfl, rfl, rfl, rfl, rfl⟩

end Sys2Proof.Machine

/-! ### Lanes of a vector (12 R306, R309) -/

namespace Sys2Proof.Machine

/-- The number of which a vector of lanes is made, first lane lowest. -/
def lanesNat (lw : Nat) (xs : List Nat) : Nat := xs.foldr (fun x a => x % 2 ^ lw + a * 2 ^ lw) 0

theorem lanesNat_cons (lw x : Nat) (xs : List Nat) : lanesNat lw (x :: xs) = x % 2 ^ lw + lanesNat lw xs * 2 ^ lw := rfl

theorem lanesNat_lt (lw : Nat) (xs : List Nat) : lanesNat lw xs < 2 ^ (lw * xs.length) := by
  induction xs with
  | nil => simp [lanesNat]
  | cons x xs ih =>
    have hx : x % 2 ^ lw < 2 ^ lw := Nat.mod_lt _ (Nat.two_pow_pos lw)
    rw [lanesNat_cons, List.length_cons, Nat.mul_succ, Nat.pow_add]
    calc x % 2 ^ lw + lanesNat lw xs * 2 ^ lw < (lanesNat lw xs + 1) * 2 ^ lw := by rw [Nat.add_one_mul]; omega
      _ ≤ 2 ^ (lw * xs.length) * 2 ^ lw := Nat.mul_le_mul_right _ ih

theorem lanesNat_lane (lw : Nat) (xs : List Nat) (i : Nat) : lanesNat lw xs / 2 ^ (lw * i) % 2 ^ lw = xs.getD i 0 % 2 ^ lw := by
  induction xs generalizing i with
  | nil => simp [lanesNat]
  | cons x xs ih =>
    rw [lanesNat_cons]
    cases i with
    | zero => simp
    | succ i =>
      have hx : (x % 2 ^ lw + lanesNat lw xs * 2 ^ lw) / 2 ^ lw = lanesNat lw xs := by
        rw [Nat.add_mul_div_right _ _ (Nat.two_pow_pos lw), Nat.div_eq_of_lt (Nat.mod_lt _ (Nat.two_pow_pos lw)), Nat.zero_add]
      rw [Nat.mul_succ, Nat.add_comm (lw * i), Nat.pow_add, ← Nat.div_div_eq_div_mul, hx, ih, List.getD_cons_succ]

/-- A lane of a vector made of lanes that fit is that lane. -/
theorem laneGet_ofLanes {lw : Nat} {xs : List Nat} (h : lw * xs.length ≤ 4096) (i : Nat) :
    laneGet lw (ofLanes lw xs) i = xs.getD i 0 % 2 ^ lw := by
  have hlt : lanesNat lw xs < 2 ^ 4096 := Nat.lt_of_lt_of_le (lanesNat_lt lw xs) (Nat.pow_le_pow_right Nat.two_pos h)
  rw [← lanesNat_lane lw xs i, laneGet, ofLanes, BitVec.toNat_ofNat, ← lanesNat, Nat.mod_eq_of_lt hlt]

theorem laneGet_lt (lw : Nat) (v : Vec) (i : Nat) : laneGet lw v i < 2 ^ lw := Nat.mod_lt _ (Nat.two_pow_pos lw)

/-- The lanes of an element type fill a vector, and an element fits its lane. -/
theorem elemTy_lanes {code : Nat} {t : ElemTy} (h : elemTy code = some t) : t.lane * t.n = 4096 ∧ t.w ≤ t.lane := by
  unfold elemTy at h
  split at h <;> cases h <;> exact ⟨rfl, by decide⟩

/-- Settles O30: element by element, as the seat's mask says. -/
theorem vectorMerging : Obligations.VectorMerging := by
  intro s t code old r i ht hi k act
  obtain ⟨hlanes, hw⟩ := elemTy_lanes ht
  have hact : s.seat.active t.n i = act := rfl
  have hmod : r.getD i 0 % 2 ^ t.w % 2 ^ t.lane = r.getD i 0 % 2 ^ t.w :=
    Nat.mod_eq_of_lt (Nat.lt_of_lt_of_le (Nat.mod_lt _ (Nat.two_pow_pos _)) (Nat.pow_le_pow_right (by decide) hw))
  have hmerged (o : Option Vec) : laneGet t.lane (s.merged t o r) i =
      (if act then r.getD i 0 % 2 ^ t.w else match o with
        | some o => laneGet t.lane o i
        | none => 0) % 2 ^ t.lane := by
    rw [State.merged, laneGet_ofLanes (by simp [hlanes]), List.getD_eq_getElem?_getD, List.getElem?_map, List.getElem?_range hi]
    rw [← hact]
    rfl
  rw [hmerged, hmerged]
  cases act
  · exact ⟨Nat.mod_eq_of_lt (laneGet_lt ..), Nat.zero_mod _⟩
  · exact ⟨hmod, hmod⟩

end Sys2Proof.Machine

/-! ### The M slots (13) -/

namespace Sys2Proof.Machine

@[simp] theorem State.onCore_me (s : State) (f : Core → Core) : (s.onCore s.cx.core f).me = f s.me := s.onCore_self s.cx.core f

@[simp] theorem State.onCore_seat (s : State) (f : Core → Core) : (s.onCore s.cx.core f).seat = (f s.me).seat s.cx.seat :=
  congrArg (·.seat s.cx.seat) (s.onCore_me f)

@[simp] theorem State.fly_basinRow (s : State) (u : UnitId) (lat : Nat) (e : Effect) (v : Option Vec) (c r : Nat) :
    (s.fly u lat e v).basinRow c r = s.basinRow c r := rfl

/-- A drain reads the seat's scales and the basin, which a result in flight leaves. -/
@[simp] theorem State.fly_drain (s : State) (u : UnitId) (lat : Nat) (e : Effect) (v : Option Vec) (src : DrainSrc) (f : FpFmt) (c : Nat) :
    (s.fly u lat e v).drain src f c = s.drain src f c := by
  simp [State.drain]

section
variable {s : State} {drawer row : Nat} {act : Row → State → State}

theorem State.beat_ready (h : tget .ready s.me.rows (drawer * 64 + row) = .ready) :
    s.beat drawer row act = act (s.drawerRow s.cx.core (drawer * 64 + row)) s := by
  simp [State.beat, h]

theorem State.beat_pending {id : Nat} (h : tget .ready s.me.rows (drawer * 64 + row) = .pending id) :
    s.beat drawer row act = s.stall (s.waitFor .drawer) := by
  simp [State.beat, h]

theorem State.beat_faulted {cause : Nat} {tval : Word} (h : tget .ready s.me.rows (drawer * 64 + row) = .faulted cause tval) :
    s.beat drawer row act = s.raise 16 tval := by
  simp [State.beat, h]

end

theorem State.push_busy {s : State} {add : Bool} {fmt : MFmt} {a : List Nat} (h : s.me.idx < s.me.gridUntil) :
    s.push add fmt a = s.raise 17 (BitVec.ofNat 64 ((s.me.gridUntil - s.me.idx) % 256)) := by
  simp [State.push, h]

/-- A push on a free grid occupies it and sends its sums behind the next cursor. -/
theorem State.push_free {s : State} {add : Bool} {fmt : MFmt} {a : List Nat} (h : s.me.gridUntil ≤ s.me.idx) :
    s.push add fmt a =
      (((s.onCore s.cx.core fun k => { k with gridUntil := s.me.idx + occupancy fmt }).fly .m 1
        (.cursor ((s.seat.cursor + s.seat.stride) % 2048)) none).fly .m 68
        (.push s.seat.cursor add fmt (columnSums fmt (s.seat.plane s.seat.act) a)) none) := by
  have hseat : (s.onCore s.cx.core fun k => { k with gridUntil := k.idx + occupancy fmt }).seat = s.seat := by
    rw [State.onCore_seat]
    rfl
  simp only [State.push, if_neg (Nat.not_lt.2 h), State.atCursor, hseat]
  rfl

theorem State.push_cx {s : State} {add : Bool} {fmt : MFmt} {a : List Nat} (h : s.me.gridUntil ≤ s.me.idx) : (s.push add fmt a).cx = s.cx := by
  rw [State.push_free h]
  rfl

/-- Settles O37. -/
theorem matrixTraps : Obligations.MatrixTraps := by
  refine ⟨fun f s hp => ⟨fun id hrow => ?pending, fun cause tval hrow => ?faulted, fun hrow hgrid => ?grid⟩, fun f s hp hsup => ?mpoi⟩
  case mpoi =>
    delta exec execMpoi
    exact State.privileged_user s f.g _ hp hsup
  all_goals delta exec execMshb execMpsa execMpss
  case pending => simp only [State.guarded_on _ _ _ hp, State.beat_pending hrow, and_self]
  case faulted => simp only [State.guarded_on _ _ _ hp, State.beat_faulted hrow, and_self]
  case grid => simp only [State.guarded_on _ _ _ hp, State.beat_ready hrow, State.push_busy hgrid, and_self]

/-- The read that an MPR slot waits for is not lost where none of its row is. -/
theorem mine_not_lost {t : Stream} {row kb : Nat} (h : ∀ r ∈ t.reads, r.row = row → r.lost = none) :
    (t.reads.find? fun r => r.row == row && r.blocks.any fun b => b.1 == kb).bind (·.lost) = none := by
  cases hf : t.reads.find? fun r => r.row == row && r.blocks.any fun b => b.1 == kb with
  | none => rfl
  | some r =>
    have hrow := List.find?_some hf
    simp only [Bool.and_eq_true, beq_iff_eq] at hrow
    exact h r (List.mem_of_find?_eq_some hf) hrow.1

/-- An MPR slot whose row is there takes it from the stream and pushes it. -/
theorem State.streamPush_there {s : State} {f : Mblk} {add : Bool} {fm : Formed} {xs : List Spot} {p : Nat × Row}
    (hform : s.form { s.issuing with bad := lteSize (s.streamFor f.drawer.val f.row.val).1.bits != mSize f.fmt } .load
      (s.streamFor f.drawer.val f.row.val).1.entry 0 (s.streamFor f.drawer.val f.row.val).1.bits
      [64 * f.kb.val, f.row.val + (s.streamFor f.drawer.val f.row.val).1.count, 0, 0] 64 = .ok fm)
    (hspots : s.spots { s.issuing with bad := lteSize (s.streamFor f.drawer.val f.row.val).1.bits != mSize f.fmt } .load fm
      (List.range 64) = .ok xs)
    (hlost : ∀ r ∈ (s.streamFor f.drawer.val f.row.val).1.reads,
      r.row = f.row.val + (s.streamFor f.drawer.val f.row.val).1.count → r.lost = none)
    (hahead : (s.streamFor f.drawer.val f.row.val).1.ahead.find?
      (fun q => q.1 == 4 * (f.row.val + (s.streamFor f.drawer.val f.row.val).1.count) + f.kb.val) = some p) :
    s.streamPush f add = ((s.onMe fun st => { st with
      stream := some { (s.streamFor f.drawer.val f.row.val).1 with
        count := (s.streamFor f.drawer.val f.row.val).1.count + 1
        ahead := (s.streamFor f.drawer.val f.row.val).1.ahead.filter
          fun q => q.1 / 4 != f.row.val + (s.streamFor f.drawer.val f.row.val).1.count
        fresh := false }
      aside := none }).push add f.fmt (blockOf f.fmt 0 p.2)).busy := by
  generalize he : s.streamFor f.drawer.val f.row.val = e at *
  obtain ⟨t, aside⟩ := e
  simp only [State.streamPush, he, hform, hspots, mine_not_lost hlost, hahead]

/-- Settles O34. -/
theorem matrixPlaneAndPushResults : Obligations.MatrixPlaneAndPushResults := by
  refine ⟨fun f s => ⟨rfl, fun hp => ?swap⟩, fun f s hp => ?shift, ?drawer, ?stream⟩
  case swap | shift =>
    delta exec execMswp execMshr
    exact State.guarded_on s f.g _ hp
  case drawer =>
    intro f s hp key block st hrow
    refine ⟨?_, fun hgrid => ?_⟩
    · delta exec execMshb
      simp only [State.guarded_on _ _ _ hp, State.beat_ready hrow]
      rfl
    · delta exec execMpsa execMpss
      have hocc : occupancy f.fmt = match f.fmt with
        | .rx8 => 1
        | .fp32 => 16
        | _ => 4 := by cases f.fmt <;> rfl
      simp only [State.guarded_on _ _ _ hp, State.beat_ready hrow, State.push_free hgrid, hocc]
      trivial
  case stream =>
    intro f s hp hgrid t row w fm xs p hform hspots hlost hahead b
    have hb : b.me.gridUntil ≤ b.me.idx := by
      simpa [b, State.onMe, State.onSeat, State.me, Core.setSeat] using hgrid
    delta exec execMpra execMprs
    simp only [State.guarded_on _ _ _ hp, State.streamPush_there hform hspots hlost hahead]
    exact ⟨rfl, rfl, congrArg (·.out) (State.push_cx hb)⟩

/-- Settles O35. -/
theorem matrixBasinResults : Obligations.MatrixBasinResults := by
  intro s st c b r
  refine ⟨fun f hp => ⟨?_, ?_⟩, fun f hp => ⟨?_, ?_, fun harr => ?msyn⟩, fun f hp hsup => ?mpoi,
    fun f hp => ?_, fun f hp => ?_, fun f hp => ⟨?_, fun hrow => ?mbld⟩, fun f hp => ?mdrd, fun f hp => ?mdrv, fun f hp => ⟨fun ho => ?raw, fun ho => ?one, fun ho => ?two⟩⟩
  case mpoi =>
    delta exec execMpoi
    exact State.privileged_sup s f.g _ hp hsup
  case msyn =>
    have hany : (s.me.flight.any fun l => l.seat == s.cx.seat && l.effect.inArray) = false := by
      rw [List.any_eq_false]
      intro l hl
      have := List.all_eq_true.1 harr l hl
      simpa [Decidable.imp_iff_not_or] using this
    delta exec execMsyn
    simp only [State.guarded_on _ _ _ hp, hany]
    rfl
  case mbld =>
    delta exec execMbld
    simp only [State.guarded_on _ _ _ hp, State.beat_ready hrow]
    rfl
  case mdrd | mdrv =>
    delta exec execMdrd execMdrv
    simp only [State.guarded_on _ _ _ hp, State.drained, State.atCursor, State.fly_drain]
    rfl
  case raw | one | two =>
    delta exec execMdrb
    simp only [State.guarded_on _ _ _ hp, ho, State.drained, State.atCursor, State.fly_drain]
    rfl
  all_goals
    delta exec execMbas execMbasKeep execMzro execMkrd execMkst execMtsr execMbst
    exact State.guarded_on s f.g _ hp

end Sys2Proof.Machine

/-! ### Formation of an access (01 R18, R19, R21) -/

namespace Sys2Proof.Machine

/-- A chain of checks whose every end is a fault of a set ends in one. -/
theorem error_ite {α : Type} {p : Prop} [Decidable p] {a : Fail} {r : Except Fail α} {P : Fail → Prop} (ha : P a)
    (hr : ∃ x, r = .error x ∧ P x) : ∃ x, (if p then .error a else r) = .error x ∧ P x := by
  split
  · exact ⟨a, rfl, ha⟩
  · exact hr

/-- Settles O43. -/
theorem accessFormatFaults : Obligations.AccessFormatFaults := by
  intro s w u e lane b cs n hspace
  have hspace' : lteSpace b ≠ 0 := hspace
  refine ⟨fun hbad => ?_, fun hatomic => ?_⟩
  · have hformat : formatFault b w.binds = true := by
      rcases hbad with ⟨hs | hs, hsub | hsub⟩ | ⟨hsh, hsync⟩ <;>
        simp [formatFault, lteShadow, lteSpace, lteSub, lteSync, *]
    simp [State.form, hspace', hformat, accessTval]
  · unfold State.form
    rw [if_neg hspace']
    refine error_ite (.inl rfl) (error_ite (by simp) ?_)
    split
    · exact ⟨_, rfl, by simp⟩
    · refine error_ite (by simp) (error_ite (by simp) (error_ite (by simp) ?_))
      rw [if_pos hatomic]
      exact ⟨_, rfl, by simp⟩

end Sys2Proof.Machine

/-! ### What a load from the own scratchpad or basin brings (14 R359) -/

namespace Sys2Proof.Machine

@[simp] theorem chunks_length (k n : Nat) (bs : List Byte) : (chunks k n bs).length = n := by
  induction n generalizing bs with
  | zero => rfl
  | succ n ih => simp [chunks, ih]

theorem chunks_getElem? {k n i : Nat} (bs : List Byte) (hi : i < n) : (chunks k n bs)[i]? = some ((bs.drop (k * i)).take k) := by
  induction n generalizing bs i with
  | zero => omega
  | succ n ih =>
    cases i with
    | zero => simp [chunks]
    | succ i => simp [chunks, ih (bs.drop k) (Nat.lt_of_succ_lt_succ hi), List.drop_drop, Nat.mul_succ, Nat.add_comm]

/-- The lane of an element of one of the four sizes holds its bytes. -/
theorem size_pow_le_lane {size : Nat} (h : size = 1 ∨ size = 2 ∨ size = 4 ∨ size = 8) : 256 ^ size ≤ 2 ^ laneOf size := by
  rcases h with rfl | rfl | rfl | rfl <;> decide

theorem lanes_fill {size : Nat} (h : size = 1 ∨ size = 2 ∨ size = 4 ∨ size = 8) : laneOf size * (4096 / laneOf size) = 4096 := by
  rcases h with rfl | rfl | rfl | rfl <;> rfl

/-- One element of its size in each lane. -/
theorem laneGet_formValue_lanes {size i : Nat} {bs : List Byte} (h : size = 1 ∨ size = 2 ∨ size = 4 ∨ size = 8)
    (hi : i < 4096 / laneOf size) (hlen : bs.length = size * (4096 / laneOf size)) :
    laneGet (laneOf size) (formValue (.lanes size) bs) i = leNat ((bs.drop (size * i)).take size) := by
  have hpos : 0 < size := by omega
  have hcount : bs.length / size = 4096 / laneOf size := by rw [hlen, Nat.mul_div_cancel_left _ hpos]
  have hlt : leNat ((bs.drop (size * i)).take size) < 2 ^ laneOf size :=
    calc leNat ((bs.drop (size * i)).take size) < 256 ^ ((bs.drop (size * i)).take size).length := leNat_lt _
      _ ≤ 256 ^ size := Nat.pow_le_pow_right (by decide) (List.length_take_le _ _)
      _ ≤ 2 ^ laneOf size := size_pow_le_lane h
  rw [formValue, hcount, laneGet_ofLanes (by simp [lanes_fill h]), List.getD_eq_getElem?_getD, List.getElem?_map, chunks_getElem? _ hi]
  exact Nat.mod_eq_of_lt hlt

/-- The bytes in order. -/
theorem formValue_raw (bs : List Byte) : formValue .raw bs = ofLanes 8 (bs.map BitVec.toNat) := by
  have h : leNat bs = (bs.map BitVec.toNat).foldr (fun x a => x % 2 ^ 8 + a * 2 ^ 8) 0 := by
    induction bs with
    | nil => rfl
    | cons b bs ih =>
      have hb := b.isLt
      rw [leNat, ih, List.map_cons, List.foldr_cons]
      omega
  rw [formValue, h, ofLanes]

/-- Through the L port a value takes the latency of the memory the entry names. -/
theorem accessLatency_port {c : Nat} {b : LteBits} {spad basin : Nat} {xs : List Spot} (hport : throughPort b = true)
    (hsel : selectorHorizon c b = 0) : accessLatency c b spad basin xs = if lteSpace b = 1 then spad else basin := by
  have hspace : lteSpace b = 1 ∨ lteSpace b = 2 := by simpa [throughPort] using hport
  rcases hspace with h | h <;> simp [accessLatency, h, hsel]

/-- The lines and rows that an access touches are noted in the issue context alone. -/
theorem State.touch_eq (s : State) (b : LteBits) (xs : List Spot) :
    ∃ banks rows, s.touch b xs = { s with cx := { s.cx with banks := banks, rows := rows } } := by
  unfold State.touch
  split
  · exact ⟨_, _, rfl⟩
  · split
    · exact ⟨_, _, rfl⟩
    · exact ⟨s.cx.banks, s.cx.rows, rfl⟩

/-- What a value that is here takes flight as. -/
def State.arrival (s : State) (u : UnitId) (lat : Nat) (e : Effect) (latch : Bool) (gran : Option Nat) (v : Vec) : Landing :=
  ⟨s.cx.seat, s.me.idx + lat, s.me.idx * 16 + s.cx.pos, s.cx.pos, u, e.fill v, if latch then some v else none, .here, gran,
    s.seat.spin.live, false⟩

theorem State.armSpin_mem (s : State) (c n ord : Nat) (g : Option Nat) : (s.armSpin c n ord g).mem = s.mem := by cases g <;> rfl

/-- Arming the spin detector changes nothing else. -/
theorem State.armSpin_seatAt (s : State) (c n ord : Nat) (g : Option Nat) (c' n' : Nat) :
    { (s.armSpin c n ord g).seatAt c' n' with spin := .clear } = { s.seatAt c' n' with spin := .clear } := by
  cases g with
  | none => rfl
  | some g =>
    by_cases h : c' = c ∧ n' = n
    · obtain ⟨rfl, rfl⟩ := h
      simp [State.armSpin]
    · rw [State.armSpin, State.onSeat_other _ _ _ _ _ _ (by omega)]

theorem State.armSpin_flight (s : State) (c n ord : Nat) (g : Option Nat) (c' : Nat) :
    ((s.armSpin c n ord g).core c').flight = (s.core c').flight := by
  cases g with
  | none => rfl
  | some g =>
    by_cases h : c' = c
    · subst h
      simp [State.armSpin, State.onSeat, Core.setSeat]
    · rw [State.armSpin, State.onSeat_core _ _ _ _ _ h]

/-- A load through the L port, performed in its issue cycle. -/
theorem State.fetch_port {s : State} {u : UnitId} {fm : Formed} {xs : List Spot} {form : LoadForm} {spad basin : Nat} {e : Effect} {latch : Bool}
    (h : s.atPort fm.bits (spotBytes fm.size xs) = true) :
    ∃ gran banks rows, s.fetch u fm xs form spad basin e latch =
      (State.onCore { s with cx := { s.cx with banks := banks, rows := rows } } s.cx.core fun k => { k with flight := k.flight ++
        [s.arrival u (if lteSpace fm.bits = 1 then spad else basin) e latch gran (formValue form ((spotBytes fm.size xs).map s.byte))] }).armSpin
          s.cx.core s.cx.seat (s.me.idx * 16 + s.cx.pos) gran := by
  obtain ⟨banks, rows, htouch⟩ := s.touch_eq fm.bits xs
  have hport : throughPort fm.bits = true ∧ selectorHorizon s.cx.core fm.bits = 0 := by
    simp only [State.atPort, Bool.and_eq_true, beq_iff_eq] at h
    exact h.1
  simp only [State.fetch, h, if_true, htouch, accessLatency_port hport.1 hport.2]
  exact ⟨_, banks, rows, rfl⟩

/-- Settles O40. -/
theorem ownMemoryLoads : Obligations.OwnMemoryLoads := by
  refine ⟨fun s u fm xs form spad basin e latch hport => ?_, fun size sx bs _ _ => rfl,
    fun size bs i hsize hi hlen => laneGet_formValue_lanes hsize hi hlen, fun bs i hi hlen => ?_⟩
  · intro t bytes
    obtain ⟨gran, banks, rows, ht⟩ := State.fetch_port (u := u) (form := form) (spad := spad) (basin := basin) (e := e) (latch := latch) hport
    have hcore : t.cx.core = s.cx.core := by
      simp only [t, ht]
      cases gran <;> rfl
    refine ⟨?_, fun c n => ?_, s.arrival u (if lteSpace fm.bits = 1 then spad else basin) e latch gran (formValue form bytes), ?_,
      rfl, rfl, rfl, rfl, rfl, rfl⟩
    · simp only [t, ht]
      exact State.armSpin_mem ..
    · simp only [t, ht]
      refine (State.armSpin_seatAt ..).trans ?_
      by_cases hc : c = s.cx.core
      · subst hc
        rw [State.seatAt, State.onCore_self]
        rfl
      · simp only [State.seatAt, State.onCore_other _ _ _ _ hc]
        rfl
    · rw [State.me, hcore]
      simp only [t, ht, State.armSpin_flight, State.onCore_self]
      rfl
  · rw [formValue_raw, laneGet_ofLanes (by simpa using Nat.mul_le_mul_left 8 hlen), List.getD_eq_getElem?_getD, List.getElem?_map,
      List.getElem?_eq_getElem hi, List.getD_eq_getElem?_getD, List.getElem?_eq_getElem hi]
    exact Nat.mod_eq_of_lt (BitVec.isLt _)

end Sys2Proof.Machine

/-! ### What a store leaves unchanged (02 R51, 06 R153) -/

namespace Sys2Proof.Machine

/-- A seat with other waits, another count of writes, and other detectors. -/
def Seat.Beside (st st' : Seat) : Prop :=
  ∃ ws w m p sp, st' = { st with waits := ws, writes := w, monitor := m, park := p, spin := sp }

theorem Seat.Beside.refl (st : Seat) : st.Beside st := ⟨_, _, _, _, _, rfl⟩

theorem Seat.Beside.trans {st st' st'' : Seat} (h : st.Beside st') (h' : st'.Beside st'') : st.Beside st'' := by
  obtain ⟨ws, w, m, p, sp, rfl⟩ := h
  obtain ⟨ws', w', m', p', sp', rfl⟩ := h'
  exact ⟨ws', w', m', p', sp', rfl⟩

theorem Seat.Beside.notified (gs : List Nat) (st : Seat) : st.Beside (st.notified gs) := ⟨_, _, _, _, _, rfl⟩

/-- A core whose results in flight stand, and whose seats stand but for what lies beside. -/
structure Core.Beside (k k' : Core) : Prop where
  flight : k'.flight = k.flight
  seats : ∀ n, (k.seat n).Beside (k'.seat n)

theorem Core.Beside.refl (k : Core) : k.Beside k := ⟨rfl, fun _ => .refl _⟩

theorem Core.Beside.trans {k k' k'' : Core} (h : k.Beside k') (h' : k'.Beside k'') : k.Beside k'' :=
  ⟨h'.flight.trans h.flight, fun n => (h.seats n).trans (h'.seats n)⟩

theorem Core.Beside.setSeat (k : Core) (n : Nat) (st : Seat) (h : (k.seat n).Beside st) : k.Beside (k.setSeat n st) where
  flight := rfl
  seats n' := by
    by_cases e : n' = n
    · subst e
      rwa [Core.setSeat_self]
    · rw [Core.setSeat_other _ _ _ _ e]
      exact .refl _

theorem tget_map {α : Type} (d : α) (t : Tab α) (f : α → α) (k : Nat) :
    tget d (t.map fun p => (p.1, f p.2)) k = tget d t k ∨ tget d (t.map fun p => (p.1, f p.2)) k = f (tget d t k) := by
  induction t with
  | nil => exact .inl rfl
  | cons p t ih =>
    obtain ⟨j, v⟩ := p
    by_cases h : j = k
    · exact .inr (by simp [tget, h])
    · simpa [tget, h] using ih

theorem Core.Beside.notified (gs : List Nat) (k : Core) : k.Beside { k with seats := k.seats.map fun q => (q.1, q.2.notified gs) } where
  flight := rfl
  seats n := by
    show (k.seat n).Beside (tget Seat.reset (k.seats.map fun q => (q.1, q.2.notified gs)) n)
    rcases tget_map Seat.reset k.seats (Seat.notified gs) n with h | h <;> rw [h]
    · exact .refl _
    · exact .notified gs _

/-- What the issuing seat is, and every core, but for what lies beside. -/
structure Aside (s t : State) : Prop where
  core : t.cx.core = s.cx.core
  seat : t.cx.seat = s.cx.seat
  cores : ∀ c, (s.core c).Beside (t.core c)

theorem Aside.of_cores {s t : State} (hcore : t.cx.core = s.cx.core) (hseat : t.cx.seat = s.cx.seat) (h : t.cores = s.cores) : Aside s t :=
  ⟨hcore, hseat, fun c => by rw [State.core, State.core, h]; exact .refl _⟩

theorem Aside.refl (s : State) : Aside s s := .of_cores rfl rfl rfl

theorem Aside.trans {s t u : State} (h : Aside s t) (h' : Aside t u) : Aside s u :=
  ⟨h'.core.trans h.core, h'.seat.trans h.seat, fun c => (h.cores c).trans (h'.cores c)⟩

theorem Aside.onCore (s : State) (c : Nat) (f : Core → Core) (hf : (s.core c).Beside (f (s.core c))) : Aside s (s.onCore c f) where
  core := rfl
  seat := rfl
  cores c' := by
    by_cases h : c' = c
    · subst h
      rwa [State.onCore_self]
    · rw [State.onCore_other _ _ _ _ h]
      exact .refl _

theorem Aside.onSeat (s : State) (c n : Nat) (f : Seat → Seat) (hf : (s.seatAt c n).Beside (f (s.seatAt c n))) : Aside s (s.onSeat c n f) :=
  .onCore _ _ _ (.setSeat _ _ _ hf)

theorem Aside.onDie (s : State) (d : Nat) (f : Die → Die) : Aside s (s.onDie d f) := .of_cores rfl rfl rfl

/-- A write that others see changes what watches memory. -/
theorem Aside.notify (s : State) (gs : List Nat) : Aside s (s.notify gs) where
  core := rfl
  seat := rfl
  cores c := by
    show (s.core c).Beside (tget Core.reset (s.cores.map fun p => (p.1, _)) c)
    rcases tget_map Core.reset s.cores (fun k => { k with seats := k.seats.map fun q => (q.1, q.2.notified gs) }) c with h | h <;> rw [h]
    · exact .refl _
    · exact .notified gs _

theorem Aside.countWrite (s : State) : Aside s s.countWrite := by
  unfold State.countWrite
  exact .onSeat _ _ _ _ ⟨_, _, _, _, _, rfl⟩

theorem Aside.stall (s : State) (w : Wait) : Aside s (s.stall w) := by
  refine Aside.trans (t := s.onMe fun st => if st.waits.any (fun v => v.pos == s.cx.pos) then st else { st with waits := st.waits ++ [w] })
    (.onSeat _ _ _ _ ?_) (.of_cores rfl rfl rfl)
  split
  · exact .refl _
  · exact ⟨_, _, _, _, _, rfl⟩

theorem Aside.touch (s : State) (b : LteBits) (xs : List Spot) : Aside s (s.touch b xs) := by
  obtain ⟨banks, rows, h⟩ := s.touch_eq b xs
  exact h ▸ .of_cores rfl rfl rfl

/-- A relation that every step of a fold keeps holds of its end. -/
theorem foldl_rel {σ α : Type} {R : σ → σ → Prop} (refl : ∀ s, R s s) (trans : ∀ {s t u}, R s t → R t u → R s u) {f : σ → α → σ}
    (h : ∀ s a, R s (f s a)) (l : List α) (s : σ) : R s (l.foldl f s) := by
  induction l generalizing s with
  | nil => exact refl s
  | cons a l ih => exact trans (h s a) (ih (f s a))

/-- The same, and memory is what it was. -/
structure Quiet (s t : State) : Prop extends Aside s t where
  mem : t.mem = s.mem

theorem Quiet.refl (s : State) : Quiet s s := ⟨.refl s, rfl⟩

theorem Quiet.trans {s t u : State} (h : Quiet s t) (h' : Quiet t u) : Quiet s u := ⟨h.toAside.trans h'.toAside, h'.mem.trans h.mem⟩

theorem Quiet.of_cores {s t : State} (hcore : t.cx.core = s.cx.core) (hseat : t.cx.seat = s.cx.seat) (h : t.cores = s.cores)
    (hmem : t.mem = s.mem) : Quiet s t := ⟨.of_cores hcore hseat h, hmem⟩

theorem Quiet.foldl {α : Type} {f : State → α → State} (h : ∀ s a, Quiet s (f s a)) (l : List α) (s : State) : Quiet s (l.foldl f s) :=
  foldl_rel .refl .trans h l s

theorem Quiet.touchTlb (s : State) (c ctx va : Nat) : Quiet s (s.touchTlb c ctx va) := by
  unfold State.touchTlb
  dsimp only
  split
  · exact ⟨.onCore _ _ _ ⟨rfl, fun _ => .refl _⟩, rfl⟩
  · split
    · exact ⟨Aside.trans (.onCore _ _ _ ⟨rfl, fun _ => .refl _⟩) (.onDie _ _ _), rfl⟩
    · exact .refl s

theorem Quiet.noteMiss (s : State) (c ctx va rank : Nat) : Quiet s (s.noteMiss c ctx va rank) := by
  unfold State.noteMiss
  dsimp only
  split
  · exact .touchTlb s c ctx va
  · split
    · exact .of_cores rfl rfl rfl rfl
    · split <;> exact .of_cores rfl rfl rfl rfl

theorem Quiet.noteMisses (s : State) (w : Issuing) (rank : Nat) (xs : List Spot) : Quiet s (s.noteMisses w rank xs) :=
  .foldl (fun s _ => .noteMiss s _ _ _ _) _ s

theorem Quiet.askSelector (s : State) (item : Posted) (c : Nat) (b : LteBits) (stamp : Nat) : Quiet s (s.askSelector item c b stamp).2 := by
  unfold State.askSelector
  split
  · exact .refl s
  · dsimp only
    split <;> exact .of_cores rfl rfl rfl rfl

theorem Quiet.post (s : State) (p : Posted) : Quiet s (s.post p) := .of_cores rfl rfl rfl rfl

theorem Quiet.postPacket (s : State) (item : Posted) (peer : Nat) (p : Packet) (win : Option Nat) (after : List Nat) :
    Quiet s (s.postPacket item peer p win after) := by
  cases win <;> exact .of_cores rfl rfl rfl rfl

theorem Quiet.sendMine (s : State) (b : LteBits) (m : BeMsg) (after : List Nat) : Quiet s (s.sendMine b m after) := by
  unfold State.sendMine
  dsimp only
  split <;> exact .of_cores rfl rfl rfl rfl

theorem Quiet.postStore (s : State) (f : Formed) (xs : List Spot) (bytes : Nat → List Byte) (after : List Nat) :
    Quiet s (s.postStore f xs bytes after) := by
  unfold State.postStore
  split
  · exact .foldl (fun s _ => .postPacket s _ _ _ _ _) _ s
  · split
    · exact .foldl (fun s _ => .sendMine s _ _ _) _ s
    · unfold State.postGranules
      exact .foldl (fun s _ => .post s _) _ s

/-- A store that does not act in its issue cycle and meets no map fault leaves memory, and acts on the cores aside. -/
theorem State.put_quiet {s : State} {fm : Formed} {xs : List Spot} {bytes : Nat → List Byte}
    (hport : s.atPort fm.bits ((spotWrites xs bytes).map (·.1)) = false)
    (hmap : ((s.touch fm.bits xs).noteMisses s.issuing (slotRank s.cx.word) xs).spotTest (dieOf s.cx.core) s.seat.ctx State.mapFault xs = none) :
    Quiet s (s.put fm xs bytes) := by
  have hmem : (s.touch fm.bits xs).mem = s.mem := by
    obtain ⟨_, _, h⟩ := s.touch_eq fm.bits xs
    rw [h]
  have hlook : Quiet s ((s.touch fm.bits xs).noteMisses s.issuing (slotRank s.cx.word) xs) :=
    Quiet.trans ⟨.touch s fm.bits xs, hmem⟩ (.noteMisses ..)
  simp only [State.put, hport, Bool.false_eq_true, if_false, hmap]
  split
  · exact hlook.trans ⟨.stall _ _, rfl⟩
  · split
    · exact hlook.trans ⟨.stall _ _, rfl⟩
    · exact hlook.trans ((Quiet.askSelector ..).trans ((Quiet.postStore ..).trans ⟨.countWrite _, rfl⟩))

/-! ### A store performed in its issue cycle -/

theorem Aside.store (s : State) (bs : List (Nat × Byte)) : Aside s (s.store bs) := .of_cores rfl rfl rfl

theorem Aside.reseal (s : State) (m : BitVec 512) (g : Nat) : Aside s (s.reseal m g) := by
  unfold State.reseal
  split
  · exact .refl s
  · exact .of_cores rfl rfl rfl

theorem Aside.storeKeyed (s : State) (m : Option (BitVec 512)) (bs : List (Nat × Byte)) : Aside s (s.storeKeyed m bs) := by
  cases m with
  | none => exact .store s bs
  | some m =>
    refine Aside.trans (foldl_rel .refl .trans (fun s p => ?_) bs s) (.store _ bs)
    split
    · exact .reseal s m _
    · exact .refl s

theorem Aside.ring (s : State) (bs : List (Nat × Byte)) : Aside s (s.ring bs) := by
  unfold State.ring
  dsimp only
  split
  · exact .refl s
  · exact .of_cores rfl rfl rfl

theorem Aside.clip (s : State) (a : Nat) : Aside s (s.clip a) := by
  unfold State.clip
  dsimp only
  split
  · exact .store s _
  · split
    · exact .store s _
    · exact .refl s

theorem Aside.writeBytes (s : State) (m : Option (BitVec 512)) (bs : List (Nat × Byte)) : Aside s (s.writeBytes m bs) :=
  ((((Aside.storeKeyed s m _).trans (.notify _ _)).trans (.ring _ bs))).trans (foldl_rel .refl .trans (fun s p => .clip s p.1) bs _)

/-- An address in a scratchpad or a basin. -/
def ofCoreMemory (a : Nat) : Prop := ∃ c, homeOf a = .spad c ∨ homeOf a = .basin c

section
variable {a : Nat} (h : ofCoreMemory a)
include h

theorem State.accepted_ofCoreMemory (s : State) (b : Byte) : s.accepted (a, b) = (a, b) := by
  obtain ⟨c, h | h⟩ := h <;> simp [State.accepted, State.writable, h]

theorem State.clip_ofCoreMemory (s : State) : s.clip a = s := by
  obtain ⟨c, h | h⟩ := h <;> simp [State.clip, State.inQuota, inLog2c, h]

theorem ne_doorbell_of_ofCoreMemory : a ≠ doorbell := by
  rintro rfl
  have hioc : homeOf doorbell = .ioc := by decide
  obtain ⟨c, h | h⟩ := h <;> exact Home.noConfusion (hioc.symm.trans h)

end

/-- Bytes that software writes to scratchpads and basins are written as they are. -/
theorem State.writeBytes_ofCoreMemory {s : State} {bs : List (Nat × Byte)} (h : ∀ p ∈ bs, ofCoreMemory p.1) :
    (s.writeBytes none bs).mem = (s.store bs).mem := by
  have haccepted : bs.map s.accepted = bs := (List.map_congr_left fun p hp => s.accepted_ofCoreMemory (h p hp) p.2).trans (List.map_id _)
  have hring (t : State) : t.ring bs = t :=
    t.ring_other bs (List.all_eq_true.2 fun p hp => bne_iff_ne.2 (ne_doorbell_of_ofCoreMemory (h p hp)))
  have hclip (l : List (Nat × Byte)) (hl : ∀ p ∈ l, ofCoreMemory p.1) (t : State) : l.foldl (fun s p => s.clip p.1) t = t := by
    induction l with
    | nil => rfl
    | cons p l ih =>
      rw [List.foldl_cons, t.clip_ofCoreMemory (hl p (List.mem_cons_self ..))]
      exact ih fun q hq => hl q (List.mem_cons_of_mem _ hq)
  rw [State.writeBytes, haccepted, hring, hclip bs h]
  rfl

theorem State.store_append (s : State) (bs cs : List (Nat × Byte)) : s.store (bs ++ cs) = (s.store bs).store cs := by
  simp [State.store, memPuts, List.foldl_append]

theorem mem_placed {a : Nat} {bs : List Byte} {p : Nat × Byte} (h : p ∈ placed a bs) : ∃ i < bs.length, p.1 = a + i := by
  simp only [placed, List.mem_map, List.mem_range] at h
  obtain ⟨i, hi, rfl⟩ := h
  exact ⟨i, hi, rfl⟩

theorem mem_spotWrites {xs : List Spot} {bytes : Nat → List Byte} {p : Nat × Byte} (h : p ∈ spotWrites xs bytes) :
    ∃ x ∈ xs, ∃ i < (bytes x.lane).length, p.1 = x.flat + i := by
  obtain ⟨x, hx, hp⟩ := List.mem_flatMap.1 h
  exact ⟨x, hx, mem_placed hp⟩

/-- A byte outside every element stands. -/
theorem State.byte_store_spots_other {s : State} {xs : List Spot} {bytes : Nat → List Byte} {size a : Nat}
    (hlen : ∀ x ∈ xs, (bytes x.lane).length = size) (h : ∀ x ∈ xs, a < x.flat ∨ x.flat + size ≤ a) :
    (s.store (spotWrites xs bytes)).byte a = s.byte a := by
  refine s.byte_store_other _ _ fun p hp => ?_
  obtain ⟨x, hx, i, hi, he⟩ := mem_spotWrites hp
  have := hlen x hx
  have := h x hx
  omega

/-- The last of the elements at an address wins. -/
theorem State.byte_store_spots_last {s : State} {pre post : List Spot} {x : Spot} {bytes : Nat → List Byte} {size j : Nat}
    (hlen : ∀ y ∈ pre ++ x :: post, (bytes y.lane).length = size) (hj : j < size)
    (h : ∀ y ∈ post, x.flat + j < y.flat ∨ y.flat + size ≤ x.flat + j) :
    (s.store (spotWrites (pre ++ x :: post) bytes)).byte (x.flat + j) = (bytes x.lane).getD j 0 := by
  have hsplit : spotWrites (pre ++ x :: post) bytes = spotWrites pre bytes ++ placed x.flat (bytes x.lane) ++ spotWrites post bytes := by
    simp [spotWrites]
  rw [hsplit, State.store_append, State.byte_store_spots_other (fun y hy => hlen y (by simp [hy])) h, State.store_append,
    State.byte_store_placed _ _ _ _ (by rwa [hlen x (by simp)])]

/-- A store through the L port, performed in its issue cycle. -/
theorem State.put_port {s : State} {fm : Formed} {xs : List Spot} {bytes : Nat → List Byte}
    (hport : s.atPort fm.bits ((spotWrites xs bytes).map (·.1)) = true) :
    s.put fm xs bytes = ((s.touch fm.bits xs).writeBytes none (spotWrites xs bytes)).countWrite := by
  simp only [State.put, hport, if_true]

theorem State.touch_mem (s : State) (b : LteBits) (xs : List Spot) : (s.touch b xs).mem = s.mem := by
  obtain ⟨_, _, h⟩ := s.touch_eq b xs
  rw [h]

/-- Settles O42. -/
theorem storeFrame : Obligations.StoreFrame := by
  intro s fm xs bytes hlen t port seen
  refine ⟨fun hport hown => ?own, fun hport hseen => (State.put_quiet hport hseen).mem, fun h => ?frame⟩
  case own =>
    have hcore : ∀ p ∈ spotWrites xs bytes, ofCoreMemory p.1 := by
      intro p hp
      obtain ⟨x, hx, i, hi, he⟩ := mem_spotWrites hp
      exact ⟨s.cx.core, he ▸ hown x hx i (hlen x hx ▸ hi)⟩
    have hbyte (a : Nat) : t.byte a = (s.store (spotWrites xs bytes)).byte a := by
      have hmem : t.mem = (s.store (spotWrites xs bytes)).mem := by
        rw [show t = _ from State.put_port hport]
        refine (State.writeBytes_ofCoreMemory hcore).trans ?_
        rw [State.store, State.touch_mem]
        rfl
      rw [State.byte, State.byte, hmem]
    refine ⟨fun a ha => ?_, fun pre x post j hxs hj hpost => ?_⟩
    · rw [hbyte, State.byte_store_spots_other hlen ha]
    · subst hxs
      rw [hbyte, State.byte_store_spots_last hlen hj hpost]
  case frame =>
    have haside : Aside s t := by
      by_cases hport : port = true
      · rw [show t = _ from State.put_port hport]
        exact (Aside.touch ..).trans ((Aside.writeBytes ..).trans (.countWrite _))
      · exact (State.put_quiet (Bool.eq_false_iff.2 hport) (h.resolve_left hport)).toAside
    refine ⟨?_, fun c n => ?_⟩
    · rw [State.me, haside.core]
      exact (haside.cores _).flight
    · obtain ⟨ws, w, m, p, sp, e⟩ := (haside.cores c).seats n
      dsimp only
      rw [State.seatAt, e]
      simp [State.seatAt]

end Sys2Proof.Machine

/-! ### Fields of a 64-bit register -/

namespace Sys2Proof.Machine

theorem field_testBit (w : Word) (hi lo j : Nat) : (field w hi lo).testBit j = (decide (j < hi + 1 - lo) && w.getLsbD (lo + j)) := by
  rw [field, Nat.testBit_mod_two_pow, Nat.testBit_div_two_pow, BitVec.getLsbD, Nat.add_comm lo j]

/-- A number with its `k` bits from `lo` on replaced. -/
def splice (x lo k v : Nat) : Nat := x - x / 2 ^ lo % 2 ^ k * 2 ^ lo + v * 2 ^ lo

theorem splice_testBit {v k : Nat} (x lo i : Nat) (hv : v < 2 ^ k) :
    (splice x lo k v).testBit i = if lo ≤ i ∧ i < lo + k then v.testBit (i - lo) else x.testBit i := by
  have hf : x / 2 ^ lo % 2 ^ k < 2 ^ k := Nat.mod_lt _ (Nat.two_pow_pos k)
  have hlow : x % 2 ^ lo < 2 ^ lo := Nat.mod_lt _ (Nat.two_pow_pos lo)
  have hx : x = 2 ^ lo * (2 ^ k * (x / 2 ^ lo / 2 ^ k) + x / 2 ^ lo % 2 ^ k) + x % 2 ^ lo := by
    rw [Nat.div_add_mod, Nat.div_add_mod]
  have hn : splice x lo k v = 2 ^ lo * (2 ^ k * (x / 2 ^ lo / 2 ^ k) + v) + x % 2 ^ lo := by
    rw [splice]
    generalize x / 2 ^ lo % 2 ^ k = f at *
    generalize x / 2 ^ lo / 2 ^ k = h at *
    generalize x % 2 ^ lo = l at *
    rw [hx, Nat.mul_add, Nat.mul_add, Nat.mul_comm f, Nat.mul_comm v]
    omega
  have hbit : x.testBit i = if i < lo then (x % 2 ^ lo).testBit i
      else if i - lo < k then (x / 2 ^ lo % 2 ^ k).testBit (i - lo) else (x / 2 ^ lo / 2 ^ k).testBit (i - lo - k) := by
    rw [congrArg (Nat.testBit · i) hx, Nat.testBit_two_pow_mul_add _ hlow, Nat.testBit_two_pow_mul_add _ hf]
  rw [hn, Nat.testBit_two_pow_mul_add _ hlow, Nat.testBit_two_pow_mul_add _ hv, hbit]
  by_cases h1 : i < lo
  · rw [if_pos h1, if_pos h1, if_neg (by omega)]
  · by_cases h2 : i - lo < k
    · rw [if_neg h1, if_pos h2, if_pos (by omega)]
    · rw [if_neg h1, if_neg h2, if_neg (by omega), if_neg h1, if_neg h2]

/-- A replaced field holds the low bits of the value, and every other bit stands. -/
theorem putField_getLsbD {hi lo : Nat} (w : Word) (v i : Nat) (hlo : lo ≤ hi) (hhi : hi < 64) :
    (putField w hi lo v).getLsbD i = if lo ≤ i ∧ i ≤ hi then v.testBit (i - lo) else w.getLsbD i := by
  have hsplice : putField w hi lo v = BitVec.ofNat 64 (splice w.toNat lo (hi + 1 - lo) (v % 2 ^ (hi + 1 - lo))) := rfl
  rw [hsplice, BitVec.getLsbD_ofNat, splice_testBit _ _ _ (Nat.mod_lt _ (Nat.two_pow_pos _)), Nat.testBit_mod_two_pow]
  by_cases h64 : i < 64
  · by_cases h : lo ≤ i ∧ i ≤ hi
    · rw [if_pos h, if_pos (by omega), decide_eq_true h64, decide_eq_true (show i - lo < hi + 1 - lo by omega), Bool.true_and, Bool.true_and]
    · rw [if_neg h, if_neg (by omega), decide_eq_true h64, Bool.true_and, BitVec.getLsbD]
  · have h : ¬(lo ≤ i ∧ i ≤ hi) := by omega
    rw [decide_eq_false h64, Bool.false_and, if_neg h, BitVec.getLsbD_of_ge _ _ (by omega)]

theorem field_putField_self {hi lo : Nat} (w : Word) (v : Nat) (hlo : lo ≤ hi) (hhi : hi < 64) :
    field (putField w hi lo v) hi lo = v % 2 ^ (hi + 1 - lo) := by
  refine Nat.eq_of_testBit_eq fun j => ?_
  rw [field_testBit, putField_getLsbD w v _ hlo hhi, Nat.testBit_mod_two_pow]
  by_cases hj : j < hi + 1 - lo
  · rw [if_pos (by omega), Nat.add_sub_cancel_left]
  · rw [decide_eq_false hj]
    rfl

theorem field_putField_other {hi lo hi' lo' : Nat} (w : Word) (v : Nat) (hlo : lo' ≤ hi') (hhi : hi' < 64) (h : hi < lo' ∨ hi' < lo) :
    field (putField w hi' lo' v) hi lo = field w hi lo := by
  refine Nat.eq_of_testBit_eq fun j => ?_
  rw [field_testBit, field_testBit, putField_getLsbD w v _ hlo hhi]
  by_cases hj : j < hi + 1 - lo
  · rw [if_neg (by omega)]
  · rw [decide_eq_false hj]
    rfl

theorem bitOf_putField_other {hi lo n : Nat} (w : Word) (v : Nat) (hlo : lo ≤ hi) (hhi : hi < 64) (h : n < lo ∨ hi < n) :
    bitOf (putField w hi lo v) n = bitOf w n := by
  rw [bitOf, putField_getLsbD w v _ hlo hhi, if_neg (by omega), bitOf]

theorem bitOf_setBit_self {n : Nat} (w : Word) (v : Bool) (hn : n < 64) : bitOf (setBit w n v) n = v := by
  rw [bitOf, setBit, putField_getLsbD w _ _ (Nat.le_refl n) hn, if_pos ⟨Nat.le_refl n, Nat.le_refl n⟩, Nat.sub_self]
  cases v <;> rfl

theorem bitOf_setBit_other {n m : Nat} (w : Word) (v : Bool) (hn : n < 64) (h : m ≠ n) : bitOf (setBit w n v) m = bitOf w m :=
  bitOf_putField_other w _ (Nat.le_refl n) hn (by omega)

theorem field_setBit_other {n hi lo : Nat} (w : Word) (v : Bool) (hn : n < 64) (h : hi < n ∨ n < lo) :
    field (setBit w n v) hi lo = field w hi lo := field_putField_other w _ (Nat.le_refl n) hn h

end Sys2Proof.Machine

/-! ### Traps and returns (18 R443, R449) -/

namespace Sys2Proof.Machine

theorem userCause_iff (cause : Nat) : userCause cause = true ↔ 32 ≤ cause ∧ cause ≤ 36 := by simp [userCause]

section
variable {cause slot : Nat} (hc : cause < 64) (hs : slot < 8) (user : Bool)
include hc hs

theorem causeWord_toNat : (causeWord user cause slot).toNat = (if user then 2 ^ 63 else 0) + slot * 256 + cause := by
  rw [causeWord, BitVec.toNat_ofNat, Nat.mod_eq_of_lt hs, Nat.mod_eq_of_lt (show cause < 256 by omega)]
  cases user <;> simp <;> omega

theorem causeWord_slot : field (causeWord user cause slot) 10 8 = slot := by
  rw [field, causeWord_toNat hc hs]
  cases user <;> simp <;> omega

theorem causeWord_code : field (causeWord user cause slot) 7 0 = cause := by
  rw [field, causeWord_toNat hc hs]
  cases user <;> simp <;> omega

theorem causeWord_user : bitOf (causeWord user cause slot) 63 = user := by
  rw [bitOf, BitVec.getLsbD, causeWord_toNat hc hs, Nat.testBit_eq_decide_div_mod_eq]
  cases user <;> simp <;> omega

end

theorem withPending_dly (t : Word) (p : Option (VA × Nat)) : field (withPending t p) 59 58 = match p with
    | some (_, d) => d % 4
    | none => 0 := by
  cases p with
  | none => exact field_putField_self t 0 (by decide) (by decide)
  | some p => exact (field_putField_other _ _ (by decide) (by decide) (.inr (by decide))).trans (field_putField_self t p.2 (by decide) (by decide))

theorem withPending_bit (t : Word) (p : Option (VA × Nat)) {n : Nat} (h : 59 < n) : bitOf (withPending t p) n = bitOf t n := by
  cases p with
  | none => exact bitOf_putField_other t _ (by decide) (by decide) (.inr h)
  | some p =>
    exact (bitOf_putField_other _ _ (by decide) (by decide) (.inr (by omega))).trans (bitOf_putField_other t _ (by decide) (by decide) (.inr h))

/-- What a trap clears in the seat before its registers are written (18 R443). -/
def Seat.cleared (st : Seat) : Seat :=
  { st with
    pend := none, pendFrom := none, pendRtt := false, waits := [], held := none, trapping := none, fence := none, spin := .clear
    body := none, scan := none, drained := none
    stream := ((st.stream.filter fun (t : Stream) => !t.fresh).or st.aside).map Stream.reread, aside := none
    tstat := setBit (withPending st.tstat st.pend) tstatFORCED false }

theorem Seat.cleared_dly (st : Seat) : field st.cleared.tstat 59 58 = match st.pend with
    | some (_, d) => d % 4
    | none => 0 :=
  (field_setBit_other _ _ (by decide) (.inr (by decide))).trans (withPending_dly st.tstat st.pend)

theorem Seat.cleared_bit (st : Seat) {n : Nat} (h : 59 < n) : bitOf st.cleared.tstat n = bitOf st.tstat n :=
  (bitOf_setBit_other _ _ (by decide) (Nat.ne_of_gt (Nat.lt_trans (by decide) h))).trans (withPending_bit st.tstat st.pend h)

/-- Whether a trap of a cause goes to the user's handler (18 R443). -/
def Seat.toUser (st : Seat) (cause : Nat) : Bool := userCause cause && bitOf st.tvec 63 && !bitOf st.tstat tstatUIP

theorem Seat.nested_cleared (st : Seat) (cause : Nat) (tval : Word) : st.cleared.nested cause tval = st.nested cause tval := by
  rw [Seat.nested, Seat.nested, st.cleared_bit (n := tstatUIP) (by decide)]

/-- The seat of a trap that the user's handler takes, and of one that the die firmware takes, with its TCAUSE and TVAL. -/
def Seat.toHandler (st : Seat) (f : Frame) (tpc : VA) (tcause tval : Word) : Seat :=
  { st.cleared with
    tstat := setBit st.cleared.tstat tstatUIP true, pc := BitVec.ofNat 55 (field st.tvec 54 4 * 16), frame := some f
    tpc := tpc.setWidth 64, tcause := tcause, tval := tval }

def Seat.toFirmware (st : Seat) (f : Frame) (tpc : VA) (tcause tval : Word) : Seat :=
  { st.cleared with
    userFrame := if bitOf st.cleared.tstat tstatUIP then some ⟨st.frame, st.tpc, st.tcause, st.tval, st.tstat⟩ else st.userFrame
    tstat := setBit (setBit st.cleared.tstat tstatSIP true) tstatPMODE st.sup
    sup := true, firmware := true, pc := Config.firmwareVector, frame := some f
    tpc := tpc.setWidth 64, tcause := tcause, tval := tval }

theorem Seat.trapped_eq (st : Seat) (f : Frame) (cause : Nat) (tval : Word) (slot : Nat) (tpc : VA) :
    st.trapped f cause tval slot tpc =
      if userCause cause ∧ bitOf st.cleared.tvec 63 ∧ !bitOf st.cleared.tstat tstatUIP then
        st.toHandler f tpc (causeWord (userCause (st.cleared.nested cause tval).1) (st.cleared.nested cause tval).1 slot)
          (st.cleared.nested cause tval).2
      else st.toFirmware f tpc (causeWord (userCause (st.cleared.nested cause tval).1) (st.cleared.nested cause tval).1 slot)
        (st.cleared.nested cause tval).2 := rfl

section
variable {st : Seat} {cause : Nat} (f : Frame) (tval : Word) (slot : Nat) (tpc : VA)

theorem Seat.trapped_user (h : st.toUser cause = true) :
    st.trapped f cause tval slot tpc = st.toHandler f tpc (causeWord true cause slot) tval := by
  simp only [Seat.toUser, Bool.and_eq_true, Bool.not_eq_true'] at h
  obtain ⟨⟨huser, hvec⟩, huip⟩ := h
  have hbit : bitOf st.cleared.tstat tstatUIP = false := (st.cleared_bit (by decide)).trans huip
  have hn : st.nested cause tval = (cause, tval) := by simp [Seat.nested, huip]
  rw [Seat.trapped_eq, if_pos ⟨huser, hvec, by rw [hbit]; rfl⟩, Seat.nested_cleared, hn, huser]

theorem Seat.trapped_sup (h : st.toUser cause = false) :
    st.trapped f cause tval slot tpc =
      st.toFirmware f tpc (causeWord (userCause (st.nested cause tval).1) (st.nested cause tval).1 slot) (st.nested cause tval).2 := by
  have hnot : ¬(userCause cause = true ∧ bitOf st.cleared.tvec 63 = true ∧ (!bitOf st.cleared.tstat tstatUIP) = true) := by
    rintro ⟨huser, hvec, huip⟩
    rw [st.cleared_bit (by decide)] at huip
    have hvec' : bitOf st.tvec 63 = true := hvec
    simp [Seat.toUser, huser, hvec', huip] at h
  rw [Seat.trapped_eq, if_neg hnot, Seat.nested_cleared]

end

/-- A trap that is taken: the seat of the core, with its results gone from the pipelines (02 R40). -/
def State.trapTaken (b : State) (c n : Nat) (st : Seat) : State :=
  (b.dropWaits c n).onCore c fun k => (k.drain n).setSeat n st

theorem State.dropWaits_core (b : State) (c n : Nat) :
    (b.dropWaits c n).core c = (b.core c).setSeat n { b.seatAt c n with waits := [] } := State.onCore_self _ _ _

theorem Core.bank_setSeat (k : Core) (n : Nat) (ws : List Wait) : (k.setSeat n { k.seat n with waits := ws }).bank n = k.bank n := by
  rw [Core.bank, Core.setSeat_self]
  rfl

theorem Seat.trapped_waits (st : Seat) (ws : List Wait) (f : Frame) (cause : Nat) (tval : Word) (slot : Nat) (tpc : VA) :
    Seat.trapped { st with waits := ws } f cause tval slot tpc = st.trapped f cause tval slot tpc := rfl

section
variable {s b : State} {c n cause slot : Nat} {tval : Word} {tpc : VA} (hb : s.landDue c (s.core c).idx = b)
  (htrips : b.tripsOf c n = [])
include hb htrips

/-- A trap that a handler takes (18 R443). -/
theorem State.takeTrap_taken (h : bitOf (b.seatAt c n).tstat tstatSIP = false ∨ (b.seatAt c n).toUser cause = true) :
    s.takeTrap c n cause tval slot tpc = b.trapTaken c n ((b.seatAt c n).trapped ((b.core c).bank n) cause tval slot tpc) := by
  have hsup : ¬(bitOf (b.seatAt c n).tstat tstatSIP = true ∧ (!(b.seatAt c n).toUser cause) = true) := by
    rcases h with h | h <;> simp [h]
  have hcore : ((b.dropWaits c n).core c).seat n = { b.seatAt c n with waits := [] } := by
    rw [State.dropWaits_core, Core.setSeat_self]
  have hbank : ((b.dropWaits c n).core c).bank n = (b.core c).bank n := by
    rw [State.dropWaits_core]
    exact Core.bank_setSeat _ _ _
  rw [State.takeTrap, hb]
  simp only [← Seat.toUser.eq_1, htrips, List.isEmpty_nil, Bool.not_true, Bool.false_eq_true, if_false, if_neg hsup]
  rw [State.trapTaken, State.onCore, State.onCore, hcore, hbank, Seat.trapped_waits]

/-- A trap that needs a third level (18 R447). -/
theorem State.takeTrap_third (hsip : bitOf (b.seatAt c n).tstat tstatSIP = true) (h : (b.seatAt c n).toUser cause = false) :
    s.takeTrap c n cause tval slot tpc = b.failTask c n
      (causeWord (userCause ((b.seatAt c n).nested cause tval).1) ((b.seatAt c n).nested cause tval).1 slot)
      ((b.seatAt c n).nested cause tval).2 := by
  rw [State.takeTrap, hb]
  simp only [← Seat.toUser.eq_1, htrips, hsip, h, List.isEmpty_nil, Bool.not_true, Bool.false_eq_true, if_false, Bool.not_false, and_self,
    if_true]

end

/-! ### What a trap leaves -/

section
variable (b : State) (c n : Nat) (st : Seat)

theorem State.trapTaken_seatAt : (b.trapTaken c n st).seatAt c n = st := by
  rw [State.trapTaken, State.seatAt, State.onCore_self, Core.setSeat_self]

theorem State.trapTaken_other {c' n' : Nat} (h : (c', n') ≠ (c, n)) : (b.trapTaken c n st).seatAt c' n' = b.seatAt c' n' := by
  by_cases hc : c' = c
  · subst hc
    have hn : n' ≠ n := fun e => h (e ▸ rfl)
    rw [State.trapTaken, State.seatAt, State.onCore_self, Core.setSeat_other _ _ _ _ hn, State.dropWaits_core]
    exact Core.setSeat_other _ _ _ _ hn
  · rw [State.trapTaken, State.seatAt, State.onCore_other _ _ _ _ hc]
    exact State.onSeat_other _ _ _ _ _ _ (.inl hc)

theorem State.trapTaken_flight : ((b.trapTaken c n st).core c).flight = (b.core c).flight.filter (fun l => l.seat != n) := by
  rw [State.trapTaken, State.onCore_self, State.dropWaits_core]
  rfl

end

/-- The record of a trap (18 R443): what every trap that is taken writes in the seat, with the trap's frame and resume address. -/
structure Seat.Trapped (st : Seat) (f : Frame) (tpc : VA) (slot : Nat) (x : Seat) : Prop where
  seat : ∃ tstat pc uf sup fw tc tv, x = { st.cleared with
    tstat := tstat, pc := pc, userFrame := uf, sup := sup, firmware := fw, tcause := tc, tval := tv, frame := some f, tpc := tpc.setWidth 64 }
  dly : field x.tstat 59 58 = match st.pend with
    | some (_, d) => d % 4
    | none => 0
  slot : field x.tcause 10 8 = slot

section
variable {st : Seat} {f : Frame} {tpc : VA} {slot cause : Nat} {tval : Word} {user : Bool} (hc : cause < 64) (hs : slot < 8)
include hc hs

theorem Seat.toHandler_trapped : st.Trapped f tpc slot (st.toHandler f tpc (causeWord user cause slot) tval) where
  seat := ⟨_, _, _, _, _, _, _, rfl⟩
  dly := (field_setBit_other _ _ (by decide) (.inl (by decide))).trans st.cleared_dly
  slot := causeWord_slot hc hs user

theorem Seat.toFirmware_trapped : st.Trapped f tpc slot (st.toFirmware f tpc (causeWord user cause slot) tval) where
  seat := ⟨_, _, _, _, _, _, _, rfl⟩
  dly := (field_setBit_other _ _ (by decide) (.inl (by decide))).trans
    ((field_setBit_other _ _ (by decide) (.inl (by decide))).trans st.cleared_dly)
  slot := causeWord_slot hc hs user

end

theorem Seat.toHandler_uip (st : Seat) (f : Frame) (tpc : VA) (tcause tval : Word) :
    bitOf (st.toHandler f tpc tcause tval).tstat tstatUIP = true := bitOf_setBit_self _ _ (by decide)

theorem Seat.toFirmware_sip (st : Seat) (f : Frame) (tpc : VA) (tcause tval : Word) :
    bitOf (st.toFirmware f tpc tcause tval).tstat tstatSIP = true :=
  (bitOf_setBit_other _ _ (by decide) (by decide)).trans (bitOf_setBit_self _ _ (by decide))

theorem Seat.toFirmware_pmode (st : Seat) (f : Frame) (tpc : VA) (tcause tval : Word) :
    bitOf (st.toFirmware f tpc tcause tval).tstat tstatPMODE = st.sup := bitOf_setBit_self _ _ (by decide)

/-- Within a user trap the firmware keeps what that trap saved. -/
theorem Seat.toFirmware_userFrame {st : Seat} (h : bitOf st.tstat tstatUIP = true) (f : Frame) (tpc : VA) (tcause tval : Word) :
    (st.toFirmware f tpc tcause tval).userFrame = some ⟨st.frame, st.tpc, st.tcause, st.tval, st.tstat⟩ :=
  if_pos ((st.cleared_bit (by decide)).trans h)

theorem Seat.nested_eq (st : Seat) (cause : Nat) (tval : Word) :
    (userCause cause = true → bitOf st.tstat tstatUIP = true → st.nested cause tval = (40, BitVec.ofNat 64 cause)) ∧
    (userCause cause = false ∨ bitOf st.tstat tstatUIP = false → st.nested cause tval = (cause, tval)) := by
  refine ⟨fun h h' => by simp [Seat.nested, h, h'], fun h => ?_⟩
  rcases h with h | h <;> simp [Seat.nested, h]

/-- What a return leaves, by the trap it returns from. -/
theorem Seat.returned_eq (st : Seat) : ∃ sup tstat fw fr tpc tc tv uf pf pr,
    st.returned = { st with
      pc := st.tpc.setWidth 55, spin := .clear, body := none, scan := none, drained := some (st.frame.getD ⟨[], .zero, false, none⟩)
      pend := if field st.tstat 59 58 = 0 then none else some (BitVec.ofNat 55 (field st.tstat 54 4 * 16), field st.tstat 59 58)
      levels := keepLevels (st.tpc.setWidth 55) st.levels
      sup := sup, tstat := tstat, firmware := fw, frame := fr, tpc := tpc, tcause := tc, tval := tv, userFrame := uf, pendFrom := pf
      pendRtt := pr } := by
  unfold Seat.returned Seat.resumed
  dsimp only
  split
  · split
    · split
      · exact ⟨_, _, _, _, _, _, _, _, _, _, rfl⟩
      · exact ⟨_, _, _, _, _, _, _, _, _, _, rfl⟩
    · exact ⟨_, _, _, _, _, _, _, _, _, _, rfl⟩
  · exact ⟨_, _, _, _, _, _, _, _, _, _, rfl⟩

theorem Seat.returned_sup {st : Seat} (h : bitOf st.tstat tstatSIP = true) :
    st.returned.sup = bitOf st.tstat tstatPMODE ∧ bitOf st.returned.tstat tstatSIP = false ∧ st.returned.firmware = false ∧
      ∀ u, st.userFrame = some u → bitOf st.tstat tstatUIP = true →
        st.returned.frame = u.frame ∧ st.returned.tpc = u.tpc ∧ st.returned.tcause = u.tcause ∧ st.returned.tval = u.tval := by
  have hbit : bitOf (setBit st.tstat tstatSIP false) tstatSIP = false := bitOf_setBit_self _ _ (by decide)
  unfold Seat.returned Seat.resumed
  rw [if_pos h]
  cases hu : st.userFrame with
  | none => exact ⟨rfl, hbit, rfl, fun u hu => nomatch hu⟩
  | some u =>
    by_cases huip : bitOf st.tstat tstatUIP = true
    · dsimp only
      rw [if_pos huip]
      refine ⟨rfl, ?_, rfl, fun v hv _ => ?_⟩
      · exact (bitOf_putField_other _ _ (by decide) (by decide) (.inr (by decide))).trans
          ((bitOf_putField_other _ _ (by decide) (by decide) (.inr (by decide))).trans hbit)
      · cases hv
        exact ⟨rfl, rfl, rfl, rfl⟩
    · dsimp only
      rw [if_neg huip]
      exact ⟨rfl, hbit, rfl, fun _ _ h => absurd h huip⟩

theorem Seat.returned_user {st : Seat} (h : bitOf st.tstat tstatSIP = false) :
    bitOf st.returned.tstat tstatUIP = false ∧ st.returned.frame = none := by
  unfold Seat.returned Seat.resumed
  rw [if_neg (Bool.eq_false_iff.1 h)]
  exact ⟨bitOf_setBit_self _ _ (by decide), rfl⟩

/-- Settles O60. -/
theorem trapEntryAndReturn : Obligations.TrapEntryAndReturn := by
  refine ⟨fun s c n cause slot tval tpc hcause hslot => ?entry, fun st => ?back⟩
  case entry =>
    intro b st t x user toUser taken
    have huser : userCause cause = true ↔ user := userCause_iff cause
    have htoUser : st.toUser cause = true ↔ toUser := by
      simp only [Seat.toUser, Bool.and_eq_true, Bool.not_eq_true', huser, and_assoc, toUser]
    have hb : s.landDue c (s.core c).idx = b := rfl
    have htaken (x' : Seat) (ht : t = b.trapTaken c n x') (hx : st.Trapped ((b.core c).bank n) tpc slot x') : x = x' ∧ taken := by
      have hxx : x = x' := (congrArg (·.seatAt c n) ht).trans (b.trapTaken_seatAt c n x')
      refine ⟨hxx, by rw [ht]; rfl, by rw [ht]; rfl, ?_⟩
      rw [hxx, ht, State.trapTaken_flight]
      obtain ⟨⟨tstat, pc, uf, sup, fw, tc, tv, rfl⟩, hdly, hsl⟩ := hx
      exact ⟨rfl, rfl, rfl, rfl, rfl, rfl, hsl, hdly, rfl, rfl, rfl, rfl, rfl, rfl, rfl, rfl, rfl, rfl, rfl, rfl, rfl, rfl, rfl, rfl, rfl, rfl,
        rfl, rfl, fun c' n' hne => b.trapTaken_other c n _ hne⟩
    have h40 : 40 < 64 := by decide
    refine ⟨fun htrips => ?waits, fun htrips hto => ?user, fun htrips hto hsip => ?sup, fun htrips hto hsip => ?third⟩
    case waits =>
      exact s.takeTrap_waits c n cause slot tval tpc (by simpa using htrips)
    case user =>
      have hto' := htoUser.2 hto
      have ht : t = b.trapTaken c n (st.toHandler ((b.core c).bank n) tpc (causeWord true cause slot) tval) := by
        rw [← Seat.trapped_user _ _ _ _ hto']
        exact State.takeTrap_taken hb htrips (.inr hto')
      obtain ⟨hx, htk⟩ := htaken _ ht (Seat.toHandler_trapped hcause hslot)
      rw [hx]
      exact ⟨htk, rfl, rfl, Seat.toHandler_uip .., causeWord_code hcause hslot true, causeWord_user hcause hslot true, rfl⟩
    case sup =>
      have hto' : st.toUser cause = false := Bool.eq_false_iff.2 fun h => hto (htoUser.1 h)
      have hcode : (st.nested cause tval).1 < 64 := by
        unfold Seat.nested
        split
        · exact h40
        · exact hcause
      have ht : t = b.trapTaken c n (st.toFirmware ((b.core c).bank n) tpc
          (causeWord (userCause (st.nested cause tval).1) (st.nested cause tval).1 slot) (st.nested cause tval).2) := by
        rw [← Seat.trapped_sup _ _ _ _ hto']
        exact State.takeTrap_taken hb htrips (.inl hsip)
      obtain ⟨hx, htk⟩ := htaken _ ht (Seat.toFirmware_trapped hcode hslot)
      rw [hx]
      refine ⟨htk, rfl, rfl, rfl, Seat.toFirmware_sip .., Seat.toFirmware_pmode .., fun h => Seat.toFirmware_userFrame h .., fun hu huip => ?_,
        fun hu huip => ?_, fun hu => ?_⟩
      · rw [(st.nested_eq cause tval).1 (huser.2 hu) huip]
        exact ⟨causeWord_code h40 hslot _, causeWord_user h40 hslot _, rfl⟩
      · rw [(st.nested_eq cause tval).2 (.inr huip)]
        exact ⟨causeWord_code hcause hslot _, (causeWord_user hcause hslot _).trans (huser.2 hu), rfl⟩
      · have hnot : userCause cause = false := Bool.eq_false_iff.2 fun h => hu (huser.1 h)
        rw [(st.nested_eq cause tval).2 (.inl hnot)]
        exact ⟨causeWord_code hcause hslot _, (causeWord_user hcause hslot _).trans hnot, rfl⟩
    case third =>
      have hto' : st.toUser cause = false := Bool.eq_false_iff.2 fun h => hto (htoUser.1 h)
      refine (State.takeTrap_third hb htrips hsip hto').trans ?_
      split
      · next h =>
        rw [(st.nested_eq cause tval).1 (huser.2 h.1) h.2]
        rfl
      · next h =>
        have hnest : userCause cause = false ∨ bitOf st.tstat tstatUIP = false := by
          by_cases hu : user
          · exact .inr (Bool.eq_false_iff.2 fun huip => h ⟨hu, huip⟩)
          · exact .inl (Bool.eq_false_iff.2 fun hc => hu (huser.1 hc))
        have hdec : userCause cause = decide user := Bool.eq_iff_iff.2 (huser.trans decide_eq_true_iff.symm)
        rw [(st.nested_eq cause tval).2 hnest, hdec]
  case back =>
    intro x
    obtain ⟨sup, tstat, fw, fr, tpc, tc, tv, uf, pf, pr, h⟩ := st.returned_eq
    refine ⟨?_, ?_, ?_, ?_, ?_, ?_, ?_, Seat.returned_sup, Seat.returned_user⟩ <;> simp only [x, h]

end Sys2Proof.Machine

/-! ### Words, reset and the step -/

namespace Sys2Proof.Machine

/-- Settles O1. -/
theorem decodeSpecWords : Obligations.DecodeSpecWords :=
  ⟨by decide +kernel, by decide +kernel, by decide +kernel, by decide +kernel, by decide +kernel, by decide +kernel, by decide +kernel⟩

/-- Settles O12. -/
theorem resetRegisters : Obligations.ResetRegisters :=
  ⟨fun _ => ⟨rfl, rfl, rfl, rfl, rfl, fun _ => rfl⟩, fun _ => rfl, rfl, rfl, fun _ => ⟨rfl, rfl, rfl⟩,
    fun _ _ => ⟨rfl, rfl, rfl, rfl, rfl, rfl, rfl, rfl, rfl, rfl⟩, fun _ => ⟨rfl, rfl⟩, rfl⟩

/-- Settles O13. -/
theorem resetMemory : Obligations.ResetMemory := ⟨State.reset_ok, fun _ => rfl⟩

/-- With power, the step takes the first turn of the agenda. -/
theorem step_turn {s : State} {t : Turn} {rest : List Turn} (ha : s.agenda = t :: rest) (hp : s.hostSide.power = true) :
    step s = State.turn { s with agenda := rest } t := by
  simp only [step, ha, hp, Bool.true_or, if_true]

/-- Without power, the step takes none but a boot. -/
theorem step_without_power {s : State} (hp : s.hostSide.power = false) (hb : ∀ t rest, s.agenda = t :: rest → t.boots = false) :
    step s = .fault .poweredDown := by
  cases ha : s.agenda with
  | nil => simp [step, ha, hp]
  | cons t rest => simp [step, ha, hp, hb t rest ha]

/-- Settles O6. -/
theorem stepRunsSideWord : Obligations.StepRunsSideWord := by
  intro s c storer rest w i ha hp hruns hfetch hdecode
  have hruns' : ((({ s with agenda := rest } : State).core c).side storer).runs = true := hruns
  rw [step_turn ha hp]
  show State.sideCycle _ c storer = _
  simp only [State.sideCycle, hruns', hfetch, hdecode, Bool.not_true, Bool.false_eq_true, if_false]

/-- Settles O7. -/
theorem stepRunsEvent : Obligations.StepRunsEvent := by
  refine ⟨fun s rest i hp => ⟨fun ha => step_turn ha hp, fun ha => ?_⟩, fun s => step_without_power⟩
  have hstep : step s = orNothing { s with agenda := rest } (exec i { s with agenda := rest }) := step_turn ha hp
  refine ⟨fun t ht => ?_, fun name hn => ?_⟩
  · rw [hstep, ht]
    rfl
  · rw [hstep, hn]
    rfl

/-! ### The core cycle of a core that issues -/

theorem Core.spanTick_running (k : Core) : k.spanTick.running = k.running := by
  unfold Core.spanTick
  split <;> rfl

section
variable {s : State} {c n : Nat} {ws : List Nat} {b : Bundle}

/-- A seat whose next bundle is not held issues the bundle at its PC. -/
theorem State.nextBundle_issues (hheld : (s.seatAt c n).held = none) (hws : s.bundleAt c n = .ok ws) (hb : decodeBundle ws = .ok b) :
    s.nextBundle c n = s.issue c n ws b := by
  simp only [State.nextBundle, hheld, hws, hb]

theorem State.runSeat_next (hfirmware : (s.seatAt c n).firmware = false)
    (hwaits : ((s.onCore c fun k => (k.replay n).holdLost).core c).waits = false) :
    s.runSeat c n = ((s.onCore c fun k => (k.replay n).holdLost).onCore c fun k => { k with frozenSince := none }).nextBundle c n := by
  simp only [State.runSeat, hfirmware, hwaits, Bool.false_eq_true, if_false]

/-- A core that nothing holds runs its seat. -/
theorem State.cycleOn_runs (htrap : ((s.core c).seat n).trapping = none) (hfreeze : (s.core c).freeze = 0) (hwaits : (s.core c).waits = false)
    (hbubble : (s.core c).bubble = false) (hrun : (s.core c).running = some n) (hspan : s.overSpan c n = false) (hfence : s.fenced c = false) :
    s.cycleOn c = (s.onCore c Core.spanTick).runSeat c n := by
  have hsel : s.onCore c (fun k => (if k.running.isNone then k.select else k).spanTick) = s.onCore c Core.spanTick := by
    simp [State.onCore, hrun]
  have hrun' : ((s.onCore c Core.spanTick).core c).running = some n := by
    rw [State.onCore_self, Core.spanTick_running, hrun]
  simp only [State.cycleOn, hsel, hrun', hrun, htrap, hspan, hfreeze, hwaits, hfence, hbubble, Option.bind_some, Option.map_none, ne_eq,
    not_true_eq_false, Bool.false_eq_true, if_false]

end

/-- Settles O8. -/
theorem stepIssuesBundle : Obligations.StepIssuesBundle := by
  intro s c n rest ws b ha hp s1 s2 k htrap hfreeze hwaits hbubble hrun hspan hfence s3 s4 hfirmware hwaits' s5 hheld hws hb
  rw [step_turn ha hp]
  exact (State.cycleOn_runs htrap hfreeze hwaits hbubble hrun hspan hfence).trans
    ((State.runSeat_next hfirmware hwaits').trans (State.nextBundle_issues hheld hws hb))

/-- Settles O9. -/
theorem bundleActsTogether : Obligations.BundleActsTogether := by
  intro s c n ws b r s1 s2 hrun
  have hissue : s.issue c n ws b = match r.trap with
      | some (pos, cause, tval) => .next (s.bundleTrap c n pos cause tval b.length)
      | none => if r.stalled then .next (s.bundleStall c n r) else .next (r.s.bundleCommit c) := by
    simp only [State.issue]
    rw [hrun] <;> rfl
  refine ⟨fun pos cause tval ht => ?_, fun ht hs => ?_, fun ht hs => ?_⟩
  · rw [hissue, ht]
  · rw [hissue, ht, hs]
    rfl
  · rw [hissue, ht, hs]
    rfl

end Sys2Proof.Machine

/-! ### Results of the S slots (11 R271-R286) -/

namespace Sys2Proof.Machine

section
variable {s : State}

theorem intOp_acts {f : S3} (hp : s.seat.pred f.g.val = true) (lat : Nat) (op : Word → Word → Word) :
    intOp lat op f s = .next (s.result (sUnit f.x) f.d lat (op (s.srcInt (sUnit f.x) f.a) (s.srcInt (sUnit f.x) f.b))) :=
  State.guarded_on s f.g _ hp

theorem intUnary_acts {f : S2} (hp : s.seat.pred f.g.val = true) (op : Word → Word) :
    intUnary op f s = .next (s.result (sUnit f.x) f.d 1 (op (s.srcInt (sUnit f.x) f.a))) :=
  State.guarded_on s f.g _ hp

theorem intMerge_acts {f : S3} (hp : s.seat.pred f.g.val = true) (op : Word → Word → Word → Word) :
    intMerge op f s = .next (s.result (sUnit f.x) f.d 1
      (op (s.dstOld (sUnit f.x) f.d) (s.srcInt (sUnit f.x) f.a) (s.srcInt (sUnit f.x) f.b))) :=
  State.guarded_on s f.g _ hp

theorem fpOp_acts {f : S3} (hp : s.seat.pred f.g.val = true) (lat : Nat) (fmt : FpFmt) (op : Nat → Nat → Nat) :
    fpOp lat fmt op f s = .next (s.result (sUnit f.x) f.d lat
      (BitVec.ofNat 64 (op (s.srcFp (sUnit f.x) fmt f.a) (s.srcFp (sUnit f.x) fmt f.b)))) :=
  State.guarded_on s f.g _ hp

theorem fpFused_acts {f : S3} (hp : s.seat.pred f.g.val = true) (fmt : FpFmt) :
    fpFused fmt f s = .next (s.result (sUnit f.x) f.d 4 (BitVec.ofNat 64
      (fmt.fma (s.srcFp (sUnit f.x) fmt f.a) (s.srcFp (sUnit f.x) fmt f.b) ((s.dstOld (sUnit f.x) f.d).toNat % 2 ^ fmt.width)))) :=
  State.guarded_on s f.g _ hp

theorem fpRoot_acts {f : S2} (hp : s.seat.pred f.g.val = true) (fmt : FpFmt) :
    fpRoot fmt f s = .next (s.result (sUnit f.x) f.d 18 (BitVec.ofNat 64 (fmt.sqrt (s.srcFp (sUnit f.x) fmt f.a)))) :=
  State.guarded_on s f.g _ hp

end

theorem wordDivu_eq (a b : Word) : wordDivu a b = if b = 0 then -1 else BitVec.ofNat 64 (a.toNat / b.toNat) := by
  rw [wordDivu, ← BitVec.toNat_udiv, BitVec.ofNat_toNat, BitVec.setWidth_eq]
  rfl

theorem wordRemu_eq (a b : Word) : wordRemu a b = if b = 0 then a else BitVec.ofNat 64 (a.toNat % b.toNat) := by
  rw [wordRemu, ← BitVec.toNat_umod, BitVec.ofNat_toNat, BitVec.setWidth_eq]

/-- Settles O18. -/
theorem scalarIntegerResults : Obligations.ScalarIntegerResults := by
  refine ⟨fun f s hp => ?_, fun f s hp => ?_, fun f s hp => ?_⟩
  · intro u a b
    rw [← wordDivu_eq a b, ← wordRemu_eq a b]
    delta exec
    exact ⟨intOp_acts hp _ _, intOp_acts hp _ _, intOp_acts hp _ _, intOp_acts hp _ _, intOp_acts hp _ _, intOp_acts hp _ _, intOp_acts hp _ _,
      intOp_acts hp _ _, intOp_acts hp _ _, intOp_acts hp _ _, intOp_acts hp _ _, intOp_acts hp _ _, intOp_acts hp _ _, intOp_acts hp _ _,
      intOp_acts hp _ _, intOp_acts hp _ _, intOp_acts hp _ _, intOp_acts hp _ _, intOp_acts hp _ _, intOp_acts hp _ _, intOp_acts hp _ _,
      intMerge_acts hp _, intOp_acts hp _ _, intMerge_acts hp _, intOp_acts hp _ _⟩
  · delta exec
    exact ⟨intUnary_acts hp _, intUnary_acts hp _, intUnary_acts hp _⟩
  · delta exec execMovi
    exact State.guarded_on s f.g _ hp

/-- Settles O19. -/
theorem scalarFloatResults : Obligations.ScalarFloatResults := by
  refine ⟨fun f s hp => ?_, fun f s hp => ?_, fun f s hp => ?_, fun f s hp => ?_, fun f s hp => ?_⟩
  · delta exec
    exact ⟨fpOp_acts hp _ _ _, fpOp_acts hp _ _ _, fpOp_acts hp _ _ _, fpOp_acts hp _ _ _, fpOp_acts hp _ _ _, fpOp_acts hp _ _ _,
      fpFused_acts hp _, fpFused_acts hp _, fpOp_acts hp _ _ _, fpOp_acts hp _ _ _, fpOp_acts hp _ _ _, fpOp_acts hp _ _ _,
      fpOp_acts hp _ _ _, fpOp_acts hp _ _ _⟩
  · delta exec
    exact ⟨fpRoot_acts hp _, fpRoot_acts hp _⟩
  · delta exec execFcvt
    exact State.guarded_on s f.g _ hp
  · delta exec execFcls
    exact State.guarded_on s f.g _ hp
  · delta exec execTwos execTwop pairOp
    exact ⟨State.guarded_on s f.g _ hp, State.guarded_on s f.g _ hp⟩

/-- A pair holds what was written, and its complement at the odd place. -/
theorem Effect.pair_read (st : Seat) (j : Nat) (c : Bool) (h1 : 1 ≤ j) (h5 : j ≤ 5) :
    ((Effect.pair j c).onSeat st).pred (2 * j) = c ∧ ((Effect.pair j c).onSeat st).pred (2 * j + 1) = !c := by
  have hread : tget false ((Effect.pair j c).onSeat st).preds j = c := tget_tset_self _ _ _ _
  have heven : 2 * j % 2 = 0 ∧ 2 * j / 2 = j := by omega
  have hodd : (2 * j + 1) % 2 ≠ 0 ∧ (2 * j + 1) / 2 = j := by omega
  constructor
  · rw [Seat.pred, if_neg (by omega), if_neg (by omega), if_pos (by omega), if_pos heven.1, heven.2, hread]
  · rw [Seat.pred, if_neg (by omega), if_neg (by omega), if_pos (by omega), if_neg hodd.1, hodd.2, hread]

/-- Settles O20. -/
theorem scalarSystemResults : Obligations.ScalarSystemResults := by
  refine ⟨fun f s hp => ?_, fun f s hp => ?_, fun f s hp => ?_, fun st j c => Effect.pair_read st j c, fun f s hp => ?movx, fun f s hp => ?_,
    fun f s hp => ?lidx, fun f s hp hpure => ?cycr, fun f s hp => ?_, fun f s hp hmode hpure => ?csrr, fun f s hp hmode hpure => ?csrw⟩
  case movx =>
    delta exec execMovx
    refine (State.guarded_on s f.g _ hp).trans ?_
    dsimp only
    cases dstPhys s.seat.rrb f.d <;> cases f.target <;> rfl
  case lidx =>
    delta exec execLidx
    refine (State.guarded_on s f.g _ hp).trans ?_
    dsimp only [lidxValue]
    cases s.seat.levels[f.level.val]? <;> cases f.field <;> rfl
  case cycr =>
    delta exec execCycr
    exact State.effectful_plain s f.g _ hp hpure
  case csrr =>
    have hpriv : ¬((!s.seat.sup) = true ∧ f.csr.val = 2) := by
      rcases hmode with h | h <;> simp [h]
    have hclean : ¬(s.seat.pure = true ∧ (!csrPure f.csr.val) = true) := by
      rcases hpure with h | h | h <;> simp [h, csrPure]
    delta exec execCsrr
    simp only [State.guarded_on _ _ _ hp, if_neg hpriv, if_neg hclean]
  case csrw =>
    have hpriv : ¬((!s.seat.sup) = true ∧ (!csrUserWrite f.csr.val) = true) := by
      rcases hmode with h | h <;> simp [h]
    have hclean : ¬(s.seat.pure = true ∧ (!csrPure f.csr.val) = true) := by
      rcases hpure with h | h | h <;> simp [h, csrPure]
    delta exec execCsrw
    refine (State.guarded_on s f.g _ hp).trans ?_
    rw [if_neg hpriv, if_neg hclean]
    simp only [Bool.not_eq_true']
  all_goals
    delta exec execCmp execFcmp execQop execGset execTsrd
    exact State.guarded_on s f.g _ hp

end Sys2Proof.Machine

/-! ### The B slots (11 R290-R303, 15 R392-R395) -/

namespace Sys2Proof.Machine

theorem State.noDelay_free {s : State} (h : s.seat.pend = none) (act : State → State) : s.noDelay act = act s := by
  simp [State.noDelay, h]

/-- Outside a delay bundle, a slot that a delay bundle may not hold acts. -/
theorem State.guarded_noDelay {s : State} {g : Guard} (hp : s.seat.pred g.val = true) (h : s.seat.pend = none) (act : State → State) :
    (s.guarded g fun s => s.noDelay act) = .next (act s) := by
  rw [State.guarded_on _ _ _ hp, State.noDelay_free h]

theorem State.aligned_ok {s : State} {v : Word} (h : v.toNat % 16 = 0) (act : State → State) : s.aligned v act = act s := by
  simp [State.aligned, h]

theorem State.aligned_bad {s : State} {v : Word} (h : v.toNat % 16 ≠ 0) (act : State → State) : s.aligned v act = s.raise 5 v := by
  simp only [State.aligned, if_pos h]

/-- Settles O22. -/
theorem prefixAndTargetResults : Obligations.PrefixAndTargetResults := by
  refine ⟨fun f s => rfl, fun f s => ⟨rfl, rfl⟩, fun f s => rfl, fun f s hp => ?bpt, fun f s hp => ?bptr⟩
  case bpt =>
    delta exec execBpt
    exact State.guarded_on s f.g _ hp
  case bptr =>
    intro v r
    have hptr : exec (.bptr f) s = .next (s.aligned v fun s => s.setTarget f.t.val v) := by
      delta exec execBptr
      exact State.guarded_on s f.g _ hp
    have hrel : exec (.bptrRel f) s = .next (s.aligned r fun s => s.setTarget f.t.val r) := by
      delta exec execBptrRel
      exact State.guarded_on s f.g _ hp
    rw [hptr, hrel]
    exact ⟨fun h => by rw [State.aligned_ok h]; rfl, fun h => by rw [State.aligned_bad h],
      fun h => by rw [State.aligned_ok h]; rfl, fun h => by rw [State.aligned_bad h]⟩

/-- A call whose delay bundles can be read links the address after them. -/
theorem State.call_ok {s : State} {link : Nat} (t : Word)
    (h : s.skipBundles s.cx.core s.seat.ctx s.seat.sup 2 (s.cx.addr.toNat + 4 * s.cx.length) = .ok link)
    (ha : (BitVec.ofNat 64 link).toNat % 16 = 0) :
    s.call t = (s.fly .b 2 (.link (BitVec.ofNat 64 link)) (some ((BitVec.ofNat 64 link).setWidth 4096))).transfer (t.setWidth 55) false false := by
  simp only [State.call, h, State.aligned_ok ha]

theorem State.transfer_seat (s : State) (t : VA) (btr rtt : Bool) : (s.transfer t btr rtt).seat =
    { s.seat with pend := some (t, 2), pendFrom := if btr then some s.cx.addr else none, pendRtt := rtt } :=
  s.onMe_seat fun st => { st with pend := some (t, 2), pendFrom := if btr then some s.cx.addr else none, pendRtt := rtt }

/-- Settles O23. -/
theorem transferResults : Obligations.TransferResults := by
  refine ⟨fun f s hp hd => ⟨?btr, fun link hl ha => ?bcl⟩, fun f s hp hd => ?brtn, fun f s hp hd => ?aligned, fun s t btr rtt => ?transfer⟩
  case btr =>
    delta exec execBtr
    exact State.guarded_noDelay hp hd _
  case bcl =>
    delta exec execBcl
    exact (State.guarded_noDelay hp hd _).trans (congrArg _ (State.call_ok _ hl ha))
  case brtn =>
    delta exec execBrtn
    exact State.guarded_noDelay hp hd _
  case aligned =>
    intro v hv
    delta exec execBrtnA execBclA
    exact ⟨(State.guarded_noDelay hp hd _).trans (congrArg _ (State.aligned_ok hv _)),
      fun link hl ha => (State.guarded_noDelay hp hd _).trans (congrArg _ ((State.aligned_ok hv _).trans (State.call_ok _ hl ha)))⟩
  case transfer =>
    rw [State.transfer_seat]
    exact ⟨rfl, rfl, rfl, rfl, rfl⟩

/-- An LSET that nothing forbids opens its level. -/
theorem State.openLoop_opens {s : State} {count len stop : Nat} (hcount : count % 2 ^ 32 ≠ 0) (hlevels : s.seat.levels.length < 6)
    (h1 : 1 ≤ len) (hlen : len ≤ 65536) (hclose : s.closeBundle (s.cx.addr.toNat + 4 * s.cx.length) len = .ok stop)
    (hin : ∀ l, s.seat.levels.head? = some l → stop ≤ l.stop.toNat) :
    s.openLoop count len = s.fly .b 1
      (.loopOpen ⟨BitVec.ofNat 55 (s.cx.addr.toNat + 4 * s.cx.length), BitVec.ofNat 55 stop, BitVec.ofNat 32 count, 0, []⟩) none := by
  simp only [State.openLoop, if_neg hcount, if_neg (Nat.not_le.2 hlevels), if_neg (show ¬(len < 1 ∨ 65536 < len) by omega), hclose]
  cases hl : s.seat.levels with
  | nil => rfl
  | cons l rest =>
    have := hin l (by rw [hl]; rfl)
    simp only [decide_eq_true_eq, if_neg (Nat.not_lt.2 this)]

/-- Settles O24. -/
theorem loopResults : Obligations.LoopResults := by
  refine ⟨fun f s stop hp hd hcount hlevels hclose hin => ?lset, fun f s stop hp hd hcount hlevels h1 hlen hclose hin => ?lsetReg,
    fun f s l hp hl h4 => ?lstr, fun f s hp hd => ?lbrk, fun f s hp => ?lrrb⟩
  case lset =>
    delta exec execLset
    exact (State.guarded_noDelay hp hd _).trans (congrArg _ (State.openLoop_opens hcount hlevels (by omega) (by omega) hclose hin))
  case lsetReg =>
    delta exec execLsetReg
    exact (State.guarded_noDelay hp hd _).trans (congrArg _ (State.openLoop_opens hcount hlevels h1 hlen hclose hin))
  case lstr =>
    delta exec execLstr
    simp only [State.guarded_on _ _ _ hp, hl, if_neg (Nat.not_lt.2 h4)]
  case lbrk =>
    delta exec execLbrk
    exact State.guarded_noDelay hp hd _
  case lrrb =>
    delta exec execLrrb
    exact State.guarded_on s f.g _ hp

/-! ### Yields, the end of a task, software traps and RTT -/

/-- The core and the seat after a yield (07 R190). -/
theorem State.yield_core (s : State) (w : Bool) : (s.yield w).core s.cx.core =
    { ((s.giveUp s.cx.core s.cx.seat .runnable).core s.cx.core) with withheld := if w then some s.cx.seat else none } :=
  State.onCore_self _ _ _

theorem State.giveUp_core (s : State) (c n : Nat) (st' : SeatState) : (s.giveUp c n st').core c =
    { s.core c with
      latches := .zero
      flight := (s.core c).flight.map (fun (l : Landing) => if l.seat = n then { l with latch := none, spin := false, past := false } else l)
      running := none
      bubble := true
      seats := tput (s.core c).seats n { s.seatAt c n with
        st := st', span := 0, spin := .clear, body := none, scan := none, boost := false
        tstat := setBit (s.seatAt c n).tstat tstatFORCED false, leaving := (s.seatAt c n).saving.isSome } } :=
  State.onCore_self _ _ _

/-- Settles O26. -/
theorem yieldAndEndResults : Obligations.YieldAndEndResults := by
  refine ⟨fun f s hp hd => ⟨?yld, ?yldp, fun hcmds => ?tend, fun hmode => ?rtt⟩, fun f s hp => ⟨?trap, fun hpure => ?trapSv⟩, fun s w => ?yield⟩
  case yld | yldp =>
    delta exec execYld execYldp
    exact State.guarded_noDelay hp hd _
  case tend =>
    have hnone : (s.me.cmds.find? fun k => k.issuer == .seat s.cx.seat && k.task == s.myTask && k.faulted.isSome) = none := by
      rw [List.find?_eq_none]
      intro k hk hbad
      simp only [Bool.and_eq_true, beq_iff_eq] at hbad
      rw [hcmds k hk hbad.1.1 hbad.1.2] at hbad
      exact absurd hbad.2 (by decide)
    delta exec execTend
    refine (State.guarded_noDelay hp hd _).trans ?_
    simp only [hnone]
  case rtt =>
    have hcond : ¬((!s.seat.sup && (!bitOf s.seat.tstat tstatUIP || bitOf s.seat.tstat tstatSIP)) = true) := by
      rcases hmode with h | ⟨h, h'⟩
      · simp [h]
      · simp [h, h']
    delta exec execRtt
    refine (State.guarded_noDelay hp hd _).trans ?_
    simp only [if_neg hcond]
  case trap =>
    delta exec execTrap
    exact State.guarded_on s f.g _ hp
  case trapSv =>
    delta exec execTrapSv
    exact State.effectful_plain s f.g _ hp hpure
  case yield =>
    rw [State.seatAt, State.yield_core, State.giveUp_core]
    refine ⟨rfl, rfl, ?_, rfl, rfl⟩
    exact congrArg Seat.st (tget_tput_self _ _ _ _)

/-! ### Waits and leave -/

/-- A wait that has just begun, and whose deadline lies ahead, is not over. -/
theorem State.not_waited {s : State} {d : Nat} (hw : s.myWait = none) (hd : s.cyc < d) : s.waited d = false := by
  simp [State.waited, hw, hd]

/-- Settles O27. -/
theorem waitResults : Obligations.WaitResults := by
  refine ⟨fun f s hp => ?_, fun f s hp hpure => ?_⟩
  · intro v
    refine ⟨fun hv hdue => ?reached, fun hv hw => ?ahead, fun hm => ?noMonitor, fun m hm hf => ?fired, fun m hm hf hw h0 => ?armed,
      fun h0 => ?none, fun w h0 h64 hw hended => ?granted, ?askr⟩
    case reached =>
      have hwaited : s.waited v.toNat = true := by simp [State.waited, hv]
      have hfind : (s.dueCmds v.toNat).find? (fun k => k.faulted.isSome) = none :=
        List.find?_eq_none.2 fun k hk => by simp [(hdue k hk).2]
      have hall : (s.dueCmds v.toNat).all (fun k => k.complete) = true := List.all_eq_true.2 fun k hk => (hdue k hk).1
      delta exec execWtc
      refine (State.guarded_on s f.g _ hp).trans ?_
      simp only [show s.srcInt .b f.a = v from rfl, hwaited, hfind, hall, if_true]
    case ahead =>
      delta exec execWtc
      refine (State.guarded_on s f.g _ hp).trans ?_
      simp only [show s.srcInt .b f.a = v from rfl, State.not_waited hw hv, Bool.false_eq_true, if_false]
      rfl
    case noMonitor =>
      delta exec execWmon
      refine (State.guarded_on s f.g _ hp).trans ?_
      simp only [hm]
    case fired =>
      delta exec execWmon
      refine (State.guarded_on s f.g _ hp).trans ?_
      simp only [hm, hf, Bool.true_or, if_true]
    case armed =>
      delta exec execWmon
      refine (State.guarded_on s f.g _ hp).trans ?_
      simp only [show s.srcInt .b f.a = v from rfl, hm, hf, hw, State.not_waited hw (Nat.lt_add_of_pos_right h0), Bool.or_self,
        Bool.false_eq_true, if_false]
      rfl
    case none =>
      have hv : v.toNat = 0 := by simp [h0]
      delta exec execAsk
      refine (State.guarded_on s f.g _ hp).trans ?_
      simp only [show s.srcInt .b f.a = v from rfl, hv, if_true]
    case granted =>
      have hv : v.toNat ≠ 0 := fun h => h0 (BitVec.eq_of_toNat_eq h)
      delta exec execAsk
      refine (State.guarded_on s f.g _ hp).trans ?_
      simp only [show s.srcInt .b f.a = v from rfl, if_neg hv, if_neg (Nat.not_lt.2 h64), hw, hended, if_true]
    case askr =>
      delta exec execAskr
      refine ⟨_, State.guarded_on s f.g _ hp, ?_, ?_, rfl⟩
      · exact congrArg Seat.leave (s.onMe_seat fun st => { st with leave := st.leave - min (s.srcInt .b f.a).toNat s.seat.leave })
      · exact congrArg Die.grant (State.onDie_self _ _ _)
  · intro n v
    refine ⟨fun hflag herr => ?set, fun hflag hw h0 => ?unset⟩
    case set =>
      delta exec execWfl
      refine (State.effectful_plain s f.g _ hp hpure).trans ?_
      simp only [show f.flag.val = n from rfl, hflag, herr, if_true, Bool.false_eq_true, if_false]
    case unset =>
      delta exec execWfl
      refine (State.effectful_plain s f.g _ hp hpure).trans ?_
      simp only [show f.flag.val = n from rfl, show s.srcInt .b f.a = v from rfl, hflag, hw,
        State.not_waited hw (Nat.lt_add_of_pos_right h0), Bool.false_eq_true, if_false]
      rfl

end Sys2Proof.Machine

/-! ### Results of the V slots (12 R312-R320) -/

namespace Sys2Proof.Machine

section
variable {s : State} {t : ElemTy} {g : Guard}

/-- A V slot under a type that its entry admits, without a constant 0.5 among the operands it takes as integers or K27 words. -/
theorem State.typed_acts {ok : ElemTy → Bool} {vals : List Src} (hp : s.seat.pred g.val = true) (ht : elemTy s.seat.et = some t)
    (hok : ok t = true) (hhalf : (t.isI || t.isK) = true → vals.any srcIsHalf = false) (act : ElemTy → State → State) :
    s.typed g ok vals act = .next (act t s) := by
  have hcond : (ok t && !((t.isI || t.isK) && vals.any srcIsHalf)) = true := by
    rw [hok, Bool.true_and, Bool.not_eq_true']
    by_cases h : (t.isI || t.isK) = true
    · rw [h, hhalf h, Bool.and_false]
    · rw [Bool.eq_false_iff.2 h, Bool.false_and]
  rw [State.typed, State.guarded_on _ _ _ hp]
  simp only [ht, hcond, if_true]

end

section
variable {t : ElemTy} {fm : FpFmt}

theorem isF_of_fp (h : t.cls = .fp fm) : t.isF = true := by simp [ElemTy.isF, h]
theorem not_integer_of_fp (h : t.cls = .fp fm) : (t.isI || t.isK) = false := by simp [ElemTy.isI, ElemTy.isK, h]
theorem isI_of_int (h : t.cls = .int) : t.isI = true := by simp [ElemTy.isI, h]
theorem isK_of_k27 (h : t.cls = .k27) : t.isK = true := by simp [ElemTy.isK, h]

/-- A 0.5 among the operands is no fault of a floating-point type. -/
theorem half_of_fp (h : t.cls = .fp fm) (vals : List Src) : (t.isI || t.isK) = true → vals.any srcIsHalf = false :=
  fun hi => absurd hi (Bool.eq_false_iff.1 (not_integer_of_fp h))

theorem half_of_none (vals : List Src) (h : vals.any srcIsHalf = false) : (t.isI || t.isK) = true → vals.any srcIsHalf = false := fun _ => h

theorem byClass_fp (h : t.cls = .fp fm) (fop : FpFmt → Nat) (i k : Nat) : byClass t fop i k = fop fm := by simp [byClass, h]
theorem byClass_int (h : t.cls = .int) (fop : FpFmt → Nat) (i k : Nat) : byClass t fop i k = i := by simp [byClass, h]
theorem byClass_k27 (h : t.cls = .k27) (fop : FpFmt → Nat) (i k : Nat) : byClass t fop i k = k := by simp [byClass, h]

end

section
variable {s : State} {t : ElemTy}

theorem vbin_acts {f : V3} {ok : ElemTy → Bool} (hp : s.seat.pred f.g.val = true) (ht : elemTy s.seat.et = some t) (hok : ok t = true)
    (hhalf : (t.isI || t.isK) = true → [f.a, f.b].any srcIsHalf = false) (lat : Nat) {op : ElemTy → Nat → Nat → Nat} {r : Nat → Nat → Nat}
    (hr : op t = r) : vbin lat ok op f s = .next (s.velementwise t f.d lat (List.zipWith r (s.velems t f.a) (s.velems t f.b))) := by
  subst hr
  exact State.typed_acts hp ht hok hhalf _

theorem vbinx_acts {f : V3x} {ok : ElemTy → Bool} (hp : s.seat.pred f.g.val = true) (ht : elemTy s.seat.et = some t) (hok : ok t = true)
    (hhalf : (t.isI || t.isK) = true → [f.a, f.b].any srcIsHalf = false) (lat : Nat) {op : ElemTy → Nat → Nat → Nat} {r : Nat → Nat → Nat}
    (hr : op t = r) : vbinx lat ok op f s = .next (s.velementwise t f.d lat (List.zipWith r (s.velems t f.a) (s.velems t f.b))) := by
  subst hr
  exact State.typed_acts hp ht hok hhalf _

theorem vun_acts {f : V2} {ok : ElemTy → Bool} (hp : s.seat.pred f.g.val = true) (ht : elemTy s.seat.et = some t) (hok : ok t = true)
    (hhalf : (t.isI || t.isK) = true → [f.a].any srcIsHalf = false) (lat : Nat) {op : ElemTy → Nat → Nat} {r : Nat → Nat} (hr : op t = r) :
    vun lat ok op f s = .next (s.velementwise t f.d lat ((s.velems t f.a).map r)) := by
  subst hr
  exact State.typed_acts hp ht hok hhalf _

theorem vbits_acts {f : V3} {ok : ElemTy → Bool} (hp : s.seat.pred f.g.val = true) (ht : elemTy s.seat.et = some t) (hok : ok t = true)
    (op : Nat → Nat → Nat → Nat) :
    vbits ok op f s = .next (s.velementwise t f.d 2 (List.zipWith (op t.w) (s.vints t f.a) (s.vints t f.b))) :=
  State.typed_acts hp ht hok (fun _ => rfl) _

theorem vfused_acts {f : V3} (hp : s.seat.pred f.g.val = true) (ht : elemTy s.seat.et = some t) (hok : tyFI t = true)
    (hhalf : (t.isI || t.isK) = true → [f.a, f.b].any srcIsHalf = false) {op : ElemTy → Nat → Nat → Nat → Nat} {r : Nat → Nat → Nat → Nat}
    (hr : ∀ d a b, op t d a b = r d a b) :
    vfused op f s = .next (s.velementwise t f.d 4 ((List.range t.n).map fun i =>
      r ((t.elems (s.vdstOld f.d)).getD i 0) ((s.velems t f.a).getD i 0) ((s.velems t f.b).getD i 0))) := by
  obtain rfl : op t = r := funext fun d => funext fun a => funext fun b => hr d a b
  exact State.typed_acts hp ht hok hhalf _

end

/-- Settles O29. -/
theorem vectorArithmeticResults : Obligations.VectorArithmeticResults := by
  refine ⟨fun f s t fm hp ht h => ?fp, fun f s t hp ht h ha hb => ?int, fun f s t hp ht h => ?shift, fun f s t hp ht => ?bits,
    fun f s t hp ht h ha hb => ?k27, fun f s t hp ht h => ?c32, fun f s t fm hp ht h => ?fpUnary, fun f s t hp ht h ha => ?intUnary,
    fun f s t fm hp ht h => ?fpX, fun f s t hp ht h ha hb => ?intX⟩ <;> delta exec
  case fp =>
    have hF := isF_of_fp h
    have hFI : tyFI t = true := by simp [tyFI, hF]
    have hFIK : tyFIK t = true := by simp [tyFIK, hF]
    have hhalf := half_of_fp h [f.a, f.b]
    refine ⟨vbin_acts hp ht hFIK hhalf _ ?_, vbin_acts hp ht hFIK hhalf _ ?_, vbin_acts hp ht hFIK hhalf _ ?_, vbin_acts hp ht hF hhalf _ ?_,
      State.typed_acts hp ht hF (fun _ => rfl) _, vfused_acts hp ht hFI hhalf (r := fun d a b => fm.fma a b d) fun d a b => ?_,
      vfused_acts hp ht hFI hhalf (r := fun d a b => fm.fms a b d) fun d a b => ?_⟩
    case refine_5 | refine_6 => exact byClass_fp h _ _ _
    all_goals exact funext fun a => funext fun b => byClass_fp h _ _ _
  case int =>
    have hI := isI_of_int h
    have hFI : tyFI t = true := by simp [tyFI, hI]
    have hFIK : tyFIK t = true := by simp [tyFIK, hI]
    have hhalf := half_of_none (t := t) [f.a, f.b] (by simp [ha, hb])
    refine ⟨vbin_acts hp ht hFIK hhalf _ ?_, vbin_acts hp ht hFIK hhalf _ ?_, vbin_acts hp ht hFIK hhalf _ ?_,
      vfused_acts hp ht hFI hhalf (r := fun d a b => a * b + d) fun d a b => ?_,
      vfused_acts hp ht hFI hhalf (r := fun d a b => uint t.w ((d : Int) - a * b)) fun d a b => ?_⟩
    case refine_4 | refine_5 => exact byClass_int h _ _ _
    all_goals exact funext fun a => funext fun b => byClass_int h _ _ _
  case shift =>
    have hI : tyI t = true := isI_of_int h
    exact ⟨vbits_acts hp ht hI _, vbits_acts hp ht hI _, vbits_acts hp ht hI _⟩
  case bits => exact ⟨vbits_acts hp ht rfl _, vbits_acts hp ht rfl _, vbits_acts hp ht rfl _⟩
  case k27 =>
    have hFIK : tyFIK t = true := by simp [tyFIK, isK_of_k27 h]
    have hhalf := half_of_none (t := t) [f.a, f.b] (by simp [ha, hb])
    refine ⟨vbin_acts hp ht hFIK hhalf _ ?_, vbin_acts hp ht hFIK hhalf _ ?_, vbin_acts hp ht hFIK hhalf _ ?_⟩
    all_goals exact funext fun a => funext fun b => byClass_k27 h _ _ _
  case c32 =>
    exact vbin_acts hp ht (by simp [ElemTy.isC, h]) (by simp [ElemTy.isI, ElemTy.isK, h]) _ rfl
  case fpUnary =>
    have hF := isF_of_fp h
    have hFI : tyFI t = true := by simp [tyFI, hF]
    have hhalf := half_of_fp h [f.a]
    refine ⟨vun_acts hp ht hF hhalf _ ?_, vun_acts hp ht hF hhalf _ ?_, vun_acts hp ht hF hhalf _ ?_, vun_acts hp ht hF hhalf _ ?_,
      vun_acts hp ht hF hhalf _ ?_, vun_acts hp ht hFI hhalf _ ?_, vun_acts hp ht hFI hhalf _ ?_, vun_acts hp ht hF hhalf _ ?_,
      fun rm => vun_acts (f := ⟨f.g, f.d, f.a⟩) hp ht hF hhalf _ ?_⟩
    all_goals exact funext fun a => byClass_fp h _ _ _
  case intUnary =>
    have hI : tyI t = true := isI_of_int h
    have hFI : tyFI t = true := by simp [tyFI, isI_of_int h]
    have hhalf := half_of_none (t := t) [f.a] (by simp [ha])
    exact ⟨vun_acts hp ht hFI hhalf _ (funext fun a => byClass_int h _ _ _), vun_acts hp ht hFI hhalf _ (funext fun a => byClass_int h _ _ _),
      vun_acts hp ht hI hhalf _ rfl, vun_acts hp ht hI hhalf _ rfl⟩
  case fpX =>
    have hFI : tyFI t = true := by simp [tyFI, isF_of_fp h]
    have hhalf := half_of_fp h [f.a, f.b]
    refine ⟨vbinx_acts hp ht hFI hhalf _ ?_, vbinx_acts hp ht hFI hhalf _ ?_, vbinx_acts hp ht hFI hhalf _ ?_⟩
    all_goals exact funext fun a => funext fun b => byClass_fp h _ _ _
  case intX =>
    have hI : tyI t = true := isI_of_int h
    have hFI : tyFI t = true := by simp [tyFI, isI_of_int h]
    have hhalf := half_of_none (t := t) [f.a, f.b] (by simp [ha, hb])
    intro a b le
    refine ⟨vbinx_acts hp ht hFI hhalf _ ?_, vbinx_acts hp ht hFI hhalf _ ?_, vbinx_acts hp ht hFI hhalf _ ?_, vbinx_acts hp ht hI hhalf _ rfl⟩
    · funext x y
      rw [vminElem, byClass_int h]
      cases hx : f.x <;> simp [le, hx, Nat.min_def]
    · funext x y
      rw [vmaxElem, byClass_int h]
      cases hx : f.x <;> simp [le, hx, Nat.max_def]
    · exact funext fun x => funext fun y => byClass_int h _ _ _

end Sys2Proof.Machine

/-! ### Compares, masks, moves and reductions (12 R314-R320, R333) -/

namespace Sys2Proof.Machine

/-- The operands of a list are no 0.5 where they are taken as integers. -/
theorem half_of_each {t : ElemTy} {a b : Src} (h : (t.isI || t.isK) = true → srcIsHalf a = false ∧ srcIsHalf b = false) :
    (t.isI || t.isK) = true → [a, b].any srcIsHalf = false := fun hi => by simp [h hi]

theorem half_of_one {t : ElemTy} {a : Src} (h : (t.isI || t.isK) = true → srcIsHalf a = false) :
    (t.isI || t.isK) = true → [a].any srcIsHalf = false := fun hi => by simp [h hi]

/-- Bit `j` of a mask made of 128 bits. -/
theorem mask_getLsbD (bit : Nat → Bool) {j : Nat} (hj : j < 128) :
    ((BitVec.ofBoolListLE ((List.range 128).map bit)).setWidth 128).getLsbD j = bit j := by
  rw [BitVec.getLsbD_setWidth, BitVec.getLsbD_ofBoolListLE, List.getD_eq_getElem?_getD, List.getElem?_map, List.getElem?_range hj]
  simp [hj]

theorem vmove_acts {s : State} {f : V3} {t : ElemTy} (hp : s.seat.pred f.g.val = true) (ht : elemTy s.seat.et = some t)
    (hhalf : (t.isI || t.isK) = true → [f.a].any srcIsHalf = false) (src : ElemTy → List Nat → Nat → Nat) :
    vmove src f s = .next (s.velementwise t f.d 2 ((List.range t.n).map fun i =>
      (s.velems t f.a).getD (src t (s.vints t f.b) i) 0)) :=
  State.typed_acts hp ht rfl hhalf _

/-- Settles O32. -/
theorem vectorMaskAndMoveResults : Obligations.VectorMaskAndMoveResults := by
  refine ⟨fun f s t hp ht hc hh => ?compare, fun f s hp => ?votes, fun f s t hp ht hh => ?vsel, fun f s hp => ?_, fun f s hp => ?_,
    fun f s hp => ?_, fun f s hp => ?_, fun f s hp => ?_, fun f s t hp ht hh => ?moves, fun f s t hp ht hh => ?vreda,
    fun f s t hp ht => ?vredm⟩ <;> delta exec
  case compare =>
    have hhalf := half_of_each hh
    delta execVany execVall vote
    refine ⟨⟨_, State.typed_acts hp ht hc hhalf _, fun j hj => ?_⟩, State.typed_acts hp ht hc hhalf _, State.typed_acts hp ht hc hhalf _⟩
    exact mask_getLsbD _ hj
  case votes =>
    delta execVanyMask execVallMask
    exact ⟨State.guarded_on s f.g _ hp, State.guarded_on s f.g _ hp⟩
  case vsel => exact State.typed_acts hp ht rfl (half_of_each hh) _
  case moves =>
    have hhalf := half_of_one hh
    refine ⟨vmove_acts hp ht hhalf _, vmove_acts hp ht hhalf _, vmove_acts hp ht hhalf _, vmove_acts hp ht hhalf _, vmove_acts hp ht hhalf _,
      State.typed_acts hp ht rfl hhalf _, fun hb h => ?iotaInt, fun fm h => ?iotaFp⟩
    case iotaInt =>
      have hI := isI_of_int h
      have ha := hh (by simp [hI])
      refine (State.typed_acts hp ht (by simp [tyFI, hI]) (half_of_each fun _ => ⟨ha, hb⟩) _).trans ?_
      simp only [byClass_int h]
    case iotaFp =>
      refine (State.typed_acts hp ht (by simp [tyFI, isF_of_fp h]) (half_of_fp h _) _).trans ?_
      simp only [byClass_fp h]
  case vreda => exact State.typed_acts hp ht rfl (half_of_one hh) _
  case vredm =>
    refine ⟨fun fm h => ?_, fun h ha => ?_⟩
    · refine (State.typed_acts hp ht (by simp [tyFI, isF_of_fp h]) (half_of_fp h _) _).trans ?_
      simp only [h]
    · refine (State.typed_acts hp ht (by simp [tyFI, isI_of_int h]) (half_of_one fun _ => ha) _).trans ?_
      simp only [h]
  all_goals
    delta execVkop execVmovkToMask execVmovkToReg execVsett execVzero
    exact State.guarded_on s f.g _ hp

end Sys2Proof.Machine

/-! ### Conversion, packing, complex arithmetic, rotation and residues (12 R321-R332) -/

namespace Sys2Proof.Machine

/-- Every rounded value fits its format. -/
theorem FpFmt.round_lt (f : FpFmt) (rm : Rm) (v : FpVal) : f.round rm v < 2 ^ f.width := by
  have hinf (neg : Bool) : f.inf neg < 2 ^ f.width := by cases f <;> cases neg <;> decide
  have hlargest (neg : Bool) : f.largest neg < 2 ^ f.width := Nat.lt_of_le_of_lt (Nat.sub_le _ _) (hinf neg)
  have hzero (neg : Bool) : f.zero neg + (2 ^ f.ebits - 1) * 2 ^ f.mbits < 2 ^ f.width := hinf neg
  have hfinite (neg : Bool) (bits : Nat) : (if (2 ^ f.ebits - 1) * 2 ^ f.mbits ≤ bits then
      match rm with
      | .rne => f.inf neg
      | .rtz => f.largest neg
      | .rdn => if neg then f.inf true else f.largest false
      | .rup => if neg then f.largest true else f.inf false
      else f.zero neg + bits) < 2 ^ f.width := by
    split
    · cases rm with
      | rne => exact hinf neg
      | rtz => exact hlargest neg
      | rdn => cases neg with
        | false => exact hlargest false
        | true => exact hinf true
      | rup => cases neg with
        | false => exact hinf false
        | true => exact hlargest true
    · next h => exact Nat.lt_trans (Nat.add_lt_add_left (Nat.not_le.1 h) _) (hzero neg)
  unfold FpFmt.round
  split
  · cases f <;> decide
  · exact hinf _
  · split
    · exact Nat.lt_of_le_of_lt (Nat.le_add_right _ _) (hzero _)
    · exact hfinite _ _

/-- The lanes of FP32 and FP64 are as wide as the formats. -/
theorem lane_of_wide {code : Nat} {t : ElemTy} {fm : FpFmt} (ht : elemTy code = some t) (h : t.cls = .fp fm) (hw : fm = .f32 ∨ fm = .f64) :
    t.lane = fm.width := by
  unfold elemTy at ht
  split at ht <;> cases ht <;> cases h <;> first | rfl | exact absurd hw (by decide)

/-- The vector of a complex product, accumulated or not: pairs of elements at a time. -/
def complexVec (s : State) (t : ElemTy) (fm : FpFmt) (acc : Bool) (f : V3) : Vec :=
  let v (xs : List Nat) (i : Nat) := fm.val (xs.getD i 0)
  let a := s.velems t f.a
  let b := s.velems t f.b
  let d := t.elems (s.vdstOld f.d)
  ofLanes t.lane ((List.range t.n).map fun i =>
    let re := i / 2 * 2
    let im := re + 1
    if s.seat.active t.n re then
      let x := if i = re then (v a re).mul (v b re) else (v a re).mul (v b im)
      let y := if i = re then (v a im).mul (v b im) else (v a im).mul (v b re)
      let x := if acc then (v d i).add x else x
      fm.round .rne (if i = re then x.sub y else x.add y)
    else match f.d with
      | .latch => 0
      | _ => laneGet t.lane (s.vdstOld f.d) i)

section
variable {s : State} {t : ElemTy} {fm : FpFmt} {f : V3}

theorem vcomplex_acts (acc : Bool) (hp : s.seat.pred f.g.val = true) (ht : elemTy s.seat.et = some t) (h : t.cls = .fp fm)
    (hw : fm = .f32 ∨ fm = .f64) : vcomplex acc f s = .next (s.vresult f.d 6 (complexVec s t fm acc f)) := by
  have hok : tyWideF t = true := by rcases hw with rfl | rfl <;> simp [tyWideF, h]
  refine (State.typed_acts hp ht hok (half_of_fp h _) _).trans ?_
  simp only [h]
  rfl

/-- An active pair of a complex product, real part and imaginary part. -/
theorem complexVec_lanes (acc : Bool) (ht : elemTy s.seat.et = some t) (h : t.cls = .fp fm) (hw : fm = .f32 ∨ fm = .f64) {m : Nat}
    (hm : 2 * m < t.n) (hact : s.seat.active t.n (2 * m) = true) :
    let av := fun i => fm.val ((s.velems t f.a).getD i 0)
    let bv := fun i => fm.val ((s.velems t f.b).getD i 0)
    let dv := fun i => fm.val ((t.elems (s.vdstOld f.d)).getD i 0)
    let sum (i : Nat) (x : FpVal) := if acc then (dv i).add x else x
    laneGet t.lane (complexVec s t fm acc f) (2 * m) =
      fm.round .rne ((sum (2 * m) ((av (2 * m)).mul (bv (2 * m)))).sub ((av (2 * m + 1)).mul (bv (2 * m + 1)))) ∧
    laneGet t.lane (complexVec s t fm acc f) (2 * m + 1) =
      fm.round .rne ((sum (2 * m + 1) ((av (2 * m)).mul (bv (2 * m + 1)))).add ((av (2 * m + 1)).mul (bv (2 * m)))) := by
  intro av bv dv sum
  have hlanes := (elemTy_lanes ht).1
  have hn : t.n % 2 = 0 := by
    unfold elemTy at ht
    split at ht <;> cases ht <;> rfl
  have hlane := lane_of_wide ht h hw
  have hre : 2 * m / 2 * 2 = 2 * m ∧ (2 * m + 1) / 2 * 2 = 2 * m := by omega
  have hne : 2 * m + 1 ≠ 2 * m := by omega
  constructor
  · rw [complexVec, laneGet_ofLanes (by simp [hlanes]), List.getD_eq_getElem?_getD, List.getElem?_map, List.getElem?_range hm]
    simp only [Option.map_some, Option.getD_some, hre.1, hact, if_true]
    rw [hlane]
    exact Nat.mod_eq_of_lt (fm.round_lt _ _)
  · rw [complexVec, laneGet_ofLanes (by simp [hlanes]), List.getD_eq_getElem?_getD, List.getElem?_map,
      List.getElem?_range (show 2 * m + 1 < t.n by omega)]
    simp only [Option.map_some, Option.getD_some, hre.2, hact, if_true, if_neg hne]
    rw [hlane]
    exact Nat.mod_eq_of_lt (fm.round_lt _ _)

end

/-! ### Packing -/

theorem testBit_lane (w x j b : Nat) : (x / 2 ^ (w * j) % 2 ^ w).testBit b = (decide (b < w) && x.testBit (w * j + b)) := by
  rw [Nat.testBit_mod_two_pow, Nat.testBit_div_two_pow, Nat.add_comm]

/-- A block of 128 elements of `w` bits put into a vector at place `p`. -/
theorem laneGet_splice {w p j : Nat} (old : Nat) (xs : List Nat) (hw : w = 16 ∨ w = 8) (hlen : xs.length = 128) (hp : p < 32 / w)
    (hj : j < 4096 / w) : laneGet w (BitVec.ofNat 4096 (splice old (p * 128 * w) (128 * w) (lanesNat w xs))) j =
      if j / 128 = p then xs.getD (j % 128) 0 % 2 ^ w else old / 2 ^ (w * j) % 2 ^ w := by
  have hlt : lanesNat w xs < 2 ^ (128 * w) := by
    have := lanesNat_lt w xs
    rwa [hlen, Nat.mul_comm] at this
  refine Nat.eq_of_testBit_eq fun b => ?_
  rw [laneGet, testBit_lane, BitVec.toNat_ofNat, Nat.testBit_mod_two_pow, splice_testBit _ _ _ hlt]
  by_cases hb : b < w
  · have h4096 : w * j + b < 4096 := by rcases hw with rfl | rfl <;> omega
    rw [decide_eq_true hb, decide_eq_true h4096, Bool.true_and, Bool.true_and]
    by_cases h : j / 128 = p
    · have hin : p * 128 * w ≤ w * j + b ∧ w * j + b < p * 128 * w + 128 * w := by rcases hw with rfl | rfl <;> omega
      have hat : w * j + b - p * 128 * w = w * (j % 128) + b := by rcases hw with rfl | rfl <;> omega
      rw [if_pos h, if_pos hin, hat, ← lanesNat_lane w xs, testBit_lane, decide_eq_true hb, Bool.true_and]
    · have hout : ¬(p * 128 * w ≤ w * j + b ∧ w * j + b < p * 128 * w + 128 * w) := by rcases hw with rfl | rfl <;> omega
      rw [if_neg h, if_neg hout, testBit_lane, decide_eq_true hb, Bool.true_and]
  · have hout (y : Nat) (hy : y < 2 ^ w) : y.testBit b = false :=
      Nat.testBit_lt_two_pow (Nat.lt_of_lt_of_le hy (Nat.pow_le_pow_right (by decide) (Nat.not_lt.1 hb)))
    rw [decide_eq_false hb, Bool.false_and]
    split
    · exact (hout _ (Nat.mod_lt _ (Nat.two_pow_pos w))).symm
    · exact (hout _ (Nat.mod_lt _ (Nat.two_pow_pos w))).symm

/-- A type of floating-point or integer elements is no K27 type. -/
theorem integer_of_tyFI {t : ElemTy} (h : tyFI t = true) (hi : (t.isI || t.isK) = true) : t.isI = true := by
  cases ht : t.cls <;> simp_all [tyFI, ElemTy.isF, ElemTy.isI, ElemTy.isK]

/-- A type of 8 or 16 bits has 128 elements. -/
theorem dense_n {code : Nat} {t : ElemTy} (ht : elemTy code = some t) (h : t.w = 16 ∨ t.w = 8) : t.n = 128 := by
  unfold elemTy at ht
  split at ht <;> cases ht <;> simp_all

/-- The vector that VPCK writes: the block of a part, in the old destination. -/
def packVec (s : State) (t : ElemTy) (f : Vpart) : Vec :=
  BitVec.ofNat 4096 (splice (match f.d with
    | .latch => 0
    | _ => (s.vdstOld f.d).toNat) (f.p.val % (32 / t.w) * 128 * t.w) (128 * t.w) ((s.velems t f.a).foldr (fun x a => x + a * 2 ^ t.w) 0))

theorem velems_lt {s : State} {t : ElemTy} {x : Src} {e : Nat} (h : e ∈ s.velems t x) : e < 2 ^ t.w := by
  obtain ⟨i, -, rfl⟩ := List.mem_map.1 h
  exact Nat.mod_lt _ (Nat.two_pow_pos _)

theorem velems_length (s : State) (t : ElemTy) (x : Src) : (s.velems t x).length = t.n := by simp [State.velems, ElemTy.elems]

theorem foldr_eq_lanesNat {w : Nat} {xs : List Nat} (h : ∀ x ∈ xs, x < 2 ^ w) : xs.foldr (fun x a => x + a * 2 ^ w) 0 = lanesNat w xs := by
  induction xs with
  | nil => rfl
  | cons x xs ih =>
    rw [List.foldr_cons, ih fun y hy => h y (List.mem_cons_of_mem _ hy), lanesNat_cons, Nat.mod_eq_of_lt (h x (List.mem_cons_self ..))]

theorem packVec_lane {s : State} {t : ElemTy} {f : Vpart} {j : Nat} (ht : elemTy s.seat.et = some t) (hw : t.w = 16 ∨ t.w = 8)
    (hj : j < 4096 / t.w) : laneGet t.w (packVec s t f) j =
      if j / 128 = f.p.val % (32 / t.w) then (s.velems t f.a).getD (j % 128) 0
      else if f.d = .latch then 0 else laneGet t.w (s.vdstOld f.d) j := by
  have hlen : (s.velems t f.a).length = 128 := (velems_length s t f.a).trans (dense_n ht hw)
  have hp : f.p.val % (32 / t.w) < 32 / t.w := Nat.mod_lt _ (by rcases hw with h | h <;> rw [h] <;> decide)
  have hsmall : (s.velems t f.a).getD (j % 128) 0 < 2 ^ t.w := by
    rw [List.getD_eq_getElem?_getD, List.getElem?_eq_getElem (by omega)]
    exact velems_lt (List.getElem_mem _)
  rw [packVec, foldr_eq_lanesNat fun _ => velems_lt, laneGet_splice _ _ hw hlen hp hj, Nat.mod_eq_of_lt hsmall]
  split
  · rfl
  · cases f.d with
    | latch => simp
    | main n => rfl
    | opnd n => rfl

/-- Settles O33. -/
theorem vectorFormatResults : Obligations.VectorFormatResults := by
  refine ⟨fun f s t u hp ht hok hh hu => ?vcvt, fun f s t hp ht hh => ⟨fun hI hw => ?vsatn, fun hw => ⟨?vupk, ?vpck⟩⟩,
    fun f s t fm hp ht h => ⟨fun hw => ?complex, ?vsgn, fun hfm => ?vqnt⟩, fun f s t fm hp ht h => ?vtws,
    fun f s t hp ht => ⟨fun h => ?hadamard, fun hok ha => ?residue⟩, fun f s hp => ?vmix⟩ <;> delta exec
  case vcvt =>
    intro r half
    have hacts := State.typed_acts (vals := [f.a]) hp ht hok (half_of_one fun hi => hh (integer_of_tyFI hok hi))
    refine ⟨fun hn => ?same, fun hn hm => ?narrow, fun hn hm => ?widen⟩ <;> delta execVcvt <;> refine (hacts _).trans ?_ <;> simp only [hu]
    case same => rw [if_pos hn]
    case narrow =>
      rw [if_neg (by omega), if_pos hn]
    case widen =>
      rw [if_neg (by omega), if_neg (by omega)]
      cases f.d <;> simp [r, half]
  case vsatn =>
    have hok : (t.isI && (t.w == 32 || t.w == 16)) = true := by simpa [hI] using hw
    exact State.typed_acts hp ht hok (half_of_one hh) _
  case vupk =>
    have hok : tyDense t = true := by simpa [tyDense] using hw
    exact State.typed_acts hp ht hok (half_of_one hh) _
  case vpck =>
    have hok : tyDense t = true := by simpa [tyDense] using hw
    exact ⟨packVec s t f, State.typed_acts hp ht hok (half_of_one hh) _, fun j hj => packVec_lane ht hw hj⟩
  case complex =>
    refine ⟨complexVec s t fm false f, complexVec s t fm true f, vcomplex_acts false hp ht h hw, vcomplex_acts true hp ht h hw,
      fun m hm hact => ?_⟩
    have hmul := complexVec_lanes (f := f) false ht h hw hm hact
    have hacc := complexVec_lanes (f := f) true ht h hw hm hact
    exact ⟨hmul.1, hmul.2, hacc.1, hacc.2⟩
  case vsgn => exact State.typed_acts hp ht (isF_of_fp h) (half_of_fp h _) _
  case vqnt =>
    subst hfm
    exact State.typed_acts hp ht (by simp [ElemTy.isF32, h]) (half_of_fp h _) _
  case vtws =>
    delta execVtws
    refine (State.typed_acts hp ht (isF_of_fp h) (half_of_fp h _) _).trans ?_
    simp only [h]
    cases f.p <;> rfl
  case hadamard =>
    have hok : ElemTy.isF32 t = true := by simp [ElemTy.isF32, h]
    exact ⟨State.typed_acts hp ht hok (half_of_fp h _) _, vun_acts hp ht hok (half_of_fp h _) _ rfl⟩
  case residue =>
    have hhalf := half_of_one (t := t) fun _ => ha
    refine ⟨vun_acts hp ht hok hhalf _ (funext fun a => ?_), vun_acts hp ht hok hhalf _ rfl⟩
    cases k27Crt a <;> rfl
  case vmix =>
    delta execVmix
    exact State.guarded_on s f.g _ hp

end Sys2Proof.Machine

/-! ### Slots of layout table entries, and the fields they write -/

namespace Sys2Proof.Machine

theorem accessTval_entry {e : Nat} (h : e < 32) : accessTval e 0 0 0 = BitVec.ofNat 64 e := by
  rw [accessTval, Nat.mod_eq_of_lt h]
  simp

theorem lteLocked_iff (b : LteBits) : lteLocked b = true ↔ lteRead b 17 ≠ 0 := by
  have h : lteRead b 17 < 2 := Nat.mod_lt _ (by decide)
  simp only [lteLocked, beq_iff_eq]
  omega

theorem protected_iff (s : State) (e : Nat) :
    (!s.seat.sup && lteLocked (s.seat.entry e)) = true ↔ ¬(s.seat.sup = true ∨ lteRead (s.seat.entry e) 17 = 0) := by
  rw [Bool.and_eq_true, lteLocked_iff]
  cases s.seat.sup <;> simp

theorem State.protect_raise (s : State) {e : Nat} (h : e < 32) : s.protect e = s.raise 10 (BitVec.ofNat 64 e) := by
  rw [State.protect, accessTval_entry h]

/-- A slot that may write its entry does what it does, one that may not raises the protection fault. -/
theorem State.unless_protected (s t : State) {e : Nat} (he : e < 32) :
    ((s.seat.sup = true ∨ lteRead (s.seat.entry e) 17 = 0) →
      (if !s.seat.sup && lteLocked (s.seat.entry e) then s.protect e else t) = t) ∧
    (¬(s.seat.sup = true ∨ lteRead (s.seat.entry e) 17 = 0) →
      (if !s.seat.sup && lteLocked (s.seat.entry e) then s.protect e else t) = s.raise 10 (BitVec.ofNat 64 e)) := by
  constructor
  · intro h
    rw [if_neg fun hp => (protected_iff s e).mp hp h]
  · intro h
    rw [if_pos ((protected_iff s e).mpr h), s.protect_raise he]

theorem State.ltset_protected_iff (s : State) (e code : Nat) :
    (!s.seat.sup && (!lteUserField code || lteLocked (s.seat.entry e))) = true ↔
      ¬(s.seat.sup = true ∨ (code < 13 ∧ lteRead (s.seat.entry e) 17 = 0)) := by
  rw [Bool.and_eq_true, Bool.or_eq_true, lteLocked_iff, lteUserField]
  cases s.seat.sup <;> simp
  omega

/-- A named field of an entry lies within its doubleword. -/
theorem lteField_bounds : ∀ i < 28, (lteField i).1 < 8 ∧ (lteField i).2.2 ≤ (lteField i).2.1 ∧ (lteField i).2.1 < 64 := by decide

/-- Two named fields of an entry share no bit. -/
theorem lteField_disjoint : ∀ i < 28, ∀ j < 28, i ≠ j →
    64 * (lteField i).1 + (lteField i).2.1 < 64 * (lteField j).1 + (lteField j).2.2 ∨
    64 * (lteField j).1 + (lteField j).2.1 < 64 * (lteField i).1 + (lteField i).2.2 := by decide

theorem lteGet_testBit (b : LteBits) (dw hi lo j : Nat) :
    (lteGet b dw hi lo).testBit j = (decide (j < hi + 1 - lo) && b.getLsbD (64 * dw + lo + j)) := by
  rw [lteGet, Nat.testBit_mod_two_pow, Nat.testBit_div_two_pow, BitVec.getLsbD, Nat.add_comm _ j]

/-- A written field holds the low bits of the value, and every other bit of the entry stands. -/
theorem ltePut_getLsbD {dw hi lo : Nat} (b : LteBits) (v i : Nat) (hdw : dw < 8) (hlo : lo ≤ hi) (hhi : hi < 64) :
    (ltePut b dw hi lo v).getLsbD i =
      if 64 * dw + lo ≤ i ∧ i ≤ 64 * dw + hi then v.testBit (i - (64 * dw + lo)) else b.getLsbD i := by
  have hsplice : ltePut b dw hi lo v =
    BitVec.ofNat 512 (splice b.toNat (64 * dw + lo) (hi + 1 - lo) (v % 2 ^ (hi + 1 - lo))) := rfl
  rw [hsplice, BitVec.getLsbD_ofNat, splice_testBit _ _ _ (Nat.mod_lt _ (Nat.two_pow_pos _)), Nat.testBit_mod_two_pow]
  by_cases hin : 64 * dw + lo ≤ i ∧ i ≤ 64 * dw + hi
  · rw [if_pos hin, if_pos (by omega), decide_eq_true (show i < 512 by omega),
      decide_eq_true (show i - (64 * dw + lo) < hi + 1 - lo by omega), Bool.true_and, Bool.true_and]
  · rw [if_neg hin, if_neg (by omega)]
    by_cases h512 : i < 512
    · rw [decide_eq_true h512, Bool.true_and, BitVec.getLsbD]
    · rw [decide_eq_false h512, Bool.false_and, BitVec.getLsbD_of_ge _ _ (by omega)]

theorem lteWrite_named {i : Nat} (b : LteBits) (v : Nat) (hi : i < 28) :
    lteWrite b i v = ltePut b (lteField i).1 (lteField i).2.1 (lteField i).2.2 v := by
  simp only [lteWrite, show i ≠ 37 by omega, show i ≠ 38 by omega, if_false]

theorem lteRead_eq (b : LteBits) (i : Nat) : lteRead b i = lteGet b (lteField i).1 (lteField i).2.1 (lteField i).2.2 := rfl

theorem lteRead_lteWrite_self {i : Nat} (b : LteBits) (v : Nat) (hi : i < 28) :
    lteRead (lteWrite b i v) i = v % 2 ^ ((lteField i).2.1 + 1 - (lteField i).2.2) := by
  obtain ⟨hdw, hlo, hhi⟩ := lteField_bounds i hi
  rw [lteWrite_named b v hi]
  refine Nat.eq_of_testBit_eq fun j => ?_
  rw [lteRead_eq, lteGet_testBit, ltePut_getLsbD b v _ hdw hlo hhi, Nat.testBit_mod_two_pow]
  by_cases hj : j < (lteField i).2.1 + 1 - (lteField i).2.2
  · rw [if_pos (by omega), Nat.add_sub_cancel_left]
  · rw [decide_eq_false hj, Bool.false_and, Bool.false_and]

theorem lteRead_lteWrite_other {i j : Nat} (b : LteBits) (v : Nat) (hi : i < 28) (hj : j < 28) (hij : i ≠ j) :
    lteRead (lteWrite b i v) j = lteRead b j := by
  obtain ⟨hdw, hlo, hhi⟩ := lteField_bounds i hi
  have hdis := lteField_disjoint i hi j hj hij
  rw [lteWrite_named b v hi]
  refine Nat.eq_of_testBit_eq fun n => ?_
  rw [lteRead_eq, lteRead_eq, lteGet_testBit, lteGet_testBit, ltePut_getLsbD b v _ hdw hlo hhi]
  by_cases hn : n < (lteField j).2.1 + 1 - (lteField j).2.2
  · rw [if_neg (by omega)]
  · rw [decide_eq_false hn, Bool.false_and, Bool.false_and]

theorem Seat.entry_lteField_other {n m : Nat} (st : Seat) (code : Nat) (v : Word) (h : m ≠ n) :
    ((Effect.lteField n code v).onSeat st).entry m = st.entry m := tget_tset_other 0 st.lte n m _ h

/-- Settles O38. -/
theorem entryFieldResults : Obligations.EntryFieldResults := by
  unfold Obligations.EntryFieldResults
  refine ⟨fun f s hp => ?ltget, fun f s hp => ?lthdr, fun f s hp hpure => ?ltset, fun f s hp hpure => ?ltcpy,
    fun f s hp hpure => ?bind, fun f s hp hpure => ?unbd, fun st n m code v h => st.entry_lteField_other code v h,
    fun b i j v hi hj hij => ⟨lteRead_lteWrite_self b v hi, lteRead_lteWrite_other b v hi hj hij⟩⟩
  case ltget =>
    delta exec execLtget
    exact State.guarded_on s f.g _ hp
  case lthdr =>
    delta exec execLthdr
    exact State.guarded_on s f.g _ hp
  case ltset =>
    have hexec : exec (.ltset f) s = .next (if !s.seat.sup && (!lteUserField f.code.val || lteLocked (s.seat.entry f.e.val))
        then s.protect f.e.val else s.fly (lUnit f.x) 2 (.lteField f.e.val f.code.val (s.srcInt (lUnit f.x) f.a)) none) := by
      delta exec execLtset
      exact State.effectful_plain s f.g _ hp hpure
    intro may
    refine ⟨fun h => hexec.trans (congrArg _ ?_), fun h => hexec.trans (congrArg _ ?_)⟩
    · exact if_neg fun hprot => (s.ltset_protected_iff _ _).mp hprot h
    · exact (if_pos ((s.ltset_protected_iff _ _).mpr h)).trans (s.protect_raise f.e.isLt)
  case ltcpy =>
    have hexec := show execLtcpy f s = _ from State.effectful_plain s f.g _ hp hpure
    have hif := State.unless_protected s (s.fly (lUnit f.x) 2 (.lteAll f.ed.val (s.seat.entry f.es.val)) none) f.ed.isLt
    exact ⟨fun h => hexec.trans (congrArg _ (hif.1 h)), fun h => hexec.trans (congrArg _ (hif.2 h))⟩
  case bind =>
    have hexec := show execBind f s = _ from State.effectful_plain s f.g _ hp hpure
    intro v sync may
    have hif := State.unless_protected s (s.fly (lUnit f.x) 2 (.lteBind f.e.val sync (field v 23 4)) none) f.e.isLt
    refine ⟨fun h => hexec.trans (congrArg _ ?_), fun h1 h8 h => hexec.trans (congrArg _ ?_),
      fun h1 h8 h => hexec.trans (congrArg _ ?_)⟩
    · exact (if_pos h).trans (by rw [State.badFormat, accessTval_entry f.e.isLt])
    · exact (if_neg (show ¬(sync = 0 ∨ 9 ≤ sync) by omega)).trans (hif.1 h)
    · exact (if_neg (show ¬(sync = 0 ∨ 9 ≤ sync) by omega)).trans (hif.2 h)
  case unbd =>
    have hexec := show execUnbd f s = _ from State.effectful_plain s f.g _ hp hpure
    have hif := State.unless_protected s (s.fly (lUnit f.x) 2 (.lteField f.e.val 16 0) none) f.e.isLt
    exact ⟨fun h => hexec.trans (congrArg _ (hif.1 h)), fun h => hexec.trans (congrArg _ (hif.2 h))⟩

end Sys2Proof.Machine

/-! ### Rows of the basin and the drawer as numbers (14 R361) -/

namespace Sys2Proof.Machine

theorem leNat_append (xs ys : List Byte) : leNat (xs ++ ys) = leNat xs + 256 ^ xs.length * leNat ys := by
  induction xs with
  | nil => simp [leNat]
  | cons b xs ih =>
    rw [List.cons_append, leNat, ih, leNat, List.length_cons, Nat.pow_succ, Nat.mul_add, Nat.add_assoc, Nat.mul_comm (256 ^ xs.length) 256,
      Nat.mul_assoc]

theorem State.loadNat_add (s : State) (a m n : Nat) : s.loadNat a (m + n) = s.loadNat a m + 256 ^ m * s.loadNat (a + m) n := by
  have h : s.load a (m + n) = s.load a m ++ s.load (a + m) n := by
    simp [State.load, List.range_add, Nat.add_assoc]
  rw [State.loadNat, h, leNat_append]
  simp [State.loadNat, State.load]

theorem State.loadNat_lt (s : State) (a n : Nat) : s.loadNat a n < 256 ^ n := by
  have h := leNat_lt (s.load a n)
  simpa [State.loadNat, State.load] using h

theorem State.loadNat_congr {s t : State} (h : t.mem = s.mem) (a n : Nat) : t.loadNat a n = s.loadNat a n := by
  simp only [State.loadNat, State.load, State.byte, h]

theorem pow_256_256 : 256 ^ 256 = 2 ^ 2048 := (Nat.pow_mul 2 8 256).symm

theorem Row.toNat_loadNat (s : State) (a : Nat) : (BitVec.ofNat 2048 (s.loadNat a 256)).toNat = s.loadNat a 256 := by
  rw [BitVec.toNat_ofNat]
  exact Nat.mod_eq_of_lt (pow_256_256 ▸ s.loadNat_lt a 256)

/-- A row pair of the basin as the 512 bytes it is. -/
theorem State.loadNat_rowPair (s : State) (c r : Nat) :
    s.loadNat ((Home.basin c).at (r * 256)) 512 = (s.basinRow c r).toNat + (s.basinRow c (r + 1)).toNat * 2 ^ 2048 := by
  have hnext : (Home.basin c).at ((r + 1) * 256) = (Home.basin c).at (r * 256) + 256 := by
    simp only [Home.at]
    omega
  rw [show 512 = 256 + 256 from rfl, State.loadNat_add, State.basinRow, State.basinRow, Row.toNat_loadNat, Row.toNat_loadNat, hnext,
    pow_256_256, Nat.mul_comm (2 ^ 2048)]

theorem ofCoreMemory_basin (c : Nat) {off : Nat} (h : off < window) : ofCoreMemory ((Home.basin c).at off) := by
  have hdiv : (Home.basin c).at off / window = 2048 + c % 1024 := by
    simp only [Home.at, Home.number, window] at *
    omega
  refine ⟨c % 1024, .inr ?_⟩
  have hc := Nat.mod_lt c (show 1024 > 0 by decide)
  simp only [homeOf, hdiv, Home.ofNumber]
  rw [if_neg (by omega), if_neg (by omega), if_neg (by omega), if_neg (by omega), if_neg (by omega), if_neg (by omega),
    if_pos (by omega), Nat.add_sub_cancel_left]

end Sys2Proof.Machine

/-! ### Results of loads, gathers and probes (14 R359-R361, R369, R386) -/

namespace Sys2Proof.Machine

section
variable {s : State} {w : Issuing} {use : Use} {e n : Nat} {cs lanes : List Nat} {act : Formed → List Spot → State → State}

theorem State.accessing_unformed {x : Fail} (h : s.form w use e 0 (s.seat.entry e) cs n = .error x) :
    s.accessing w use e cs n lanes act = s.raise x.cause x.tval := by
  simp only [State.accessing, h]

theorem State.accessing_untranslated {fm : Formed} {x : Fail} (h : s.form w use e 0 (s.seat.entry e) cs n = .ok fm)
    (hx : s.spots w use fm lanes = .error x) : s.accessing w use e cs n lanes act = s.raise x.cause x.tval := by
  simp only [State.accessing, h, hx]

theorem State.accessing_ok {fm : Formed} {xs : List Spot} (h : s.form w use e 0 (s.seat.entry e) cs n = .ok fm)
    (hx : s.spots w use fm lanes = .ok xs) : s.accessing w use e cs n lanes act = act fm xs s := by
  simp only [State.accessing, h, hx]

end

/-- A state that differs at most in the TLBs of its cores, in its dies, and in what leaves: no core is otherwise different, and no byte. -/
structure Unseen (s t : State) : Prop where
  mem : t.mem = s.mem
  cx : t.cx = s.cx
  cores : ∀ c, ∃ tlb, t.core c = { s.core c with tlb := tlb }

theorem Unseen.of_cores {s t : State} (hmem : t.mem = s.mem) (hcx : t.cx = s.cx) (h : t.cores = s.cores) : Unseen s t where
  mem := hmem
  cx := hcx
  cores c := ⟨(s.core c).tlb, by rw [State.core, h]; rfl⟩

theorem Unseen.refl (s : State) : Unseen s s := .of_cores rfl rfl rfl

theorem Unseen.trans {s t u : State} (h : Unseen s t) (h' : Unseen t u) : Unseen s u where
  mem := h'.mem.trans h.mem
  cx := h'.cx.trans h.cx
  cores c := by
    obtain ⟨tlb, hc⟩ := h.cores c
    obtain ⟨tlb', hc'⟩ := h'.cores c
    exact ⟨tlb', by rw [hc', hc]⟩

theorem Unseen.seatAt {s t : State} (h : Unseen s t) (c n : Nat) : t.seatAt c n = s.seatAt c n := by
  obtain ⟨tlb, hc⟩ := h.cores c
  rw [State.seatAt, hc]
  rfl

theorem Unseen.seat {s t : State} (h : Unseen s t) : t.seat = s.seat := by
  show t.seatAt t.cx.core t.cx.seat = _
  rw [h.cx, h.seatAt]
  rfl

theorem Unseen.me {s t : State} (h : Unseen s t) : ∃ tlb, t.me = { s.me with tlb := tlb } := by
  rw [State.me, h.cx]
  exact h.cores s.cx.core

theorem Unseen.onDie (s : State) (d : Nat) (f : Die → Die) : Unseen s (s.onDie d f) := .of_cores rfl rfl rfl

theorem Unseen.tlb (s : State) (c : Nat) (f : Core → List TlbEntry) : Unseen s (s.onCore c fun k => { k with tlb := f k }) where
  mem := rfl
  cx := rfl
  cores c' := by
    by_cases h : c' = c
    · rw [h, State.onCore_self]
      exact ⟨_, rfl⟩
    · rw [State.onCore_other _ _ _ _ h]
      exact ⟨_, rfl⟩

theorem Unseen.touchTlb (s : State) (c ctx va : Nat) : Unseen s (s.touchTlb c ctx va) := by
  unfold State.touchTlb
  dsimp only
  split
  · exact .tlb ..
  · split
    · exact (Unseen.tlb ..).trans (.onDie ..)
    · exact .refl s

theorem Unseen.noteMiss (s : State) (c ctx va rank : Nat) : Unseen s (s.noteMiss c ctx va rank) := by
  unfold State.noteMiss
  dsimp only
  split
  · exact .touchTlb s c ctx va
  · split
    · exact .onDie ..
    · split <;> exact .onDie ..

theorem Unseen.noteMisses (s : State) (w : Issuing) (rank : Nat) (xs : List Spot) : Unseen s (s.noteMisses w rank xs) :=
  foldl_rel .refl .trans (fun s _ => .noteMiss s _ _ _ _) _ s

theorem probeCode_lt (cause : Nat) : probeCode cause < 8 := by
  unfold probeCode
  split <;> decide

/-- The three fields of a probe's result. -/
theorem probe_fields {tnc bank code : Nat} (ht : tnc = 0 ∨ tnc = 2 ^ 15) (hb : bank < 32) (hc : code < 8) :
    field (BitVec.ofNat 64 (tnc + bank * 256 + code)) 2 0 = code ∧
    field (BitVec.ofNat 64 (tnc + bank * 256 + code)) 15 15 = (if tnc = 2 ^ 15 then 1 else 0) := by
  simp only [field, BitVec.toNat_ofNat]
  rcases ht with rfl | rfl
  · rw [if_neg (by decide)]
    omega
  · rw [if_pos rfl]
    omega

theorem execSprb_result (f : Ldae) (s : State) (hp : s.seat.pred f.g.val = true) :
    let b := s.seat.entry f.e.val
    ∃ v : Word, exec (.sprb f) s = .next (s.result (lUnit f.x) f.d 6 v) ∧
      field v 2 0 = (match s.form s.issuing .load f.e.val 0 b (coords (s.srcInt (lUnit f.x) f.a)) 1 with
        | .ok _ => 0
        | .error x => probeCode x.cause) ∧
      field v 15 15 = (if lteSpace b = 6 ∨ lteSpace b = 7 then 1 else 0) := by
  intro b
  have hexec := show execSprb f s = _ from State.guarded_on s f.g _ hp
  refine ⟨_, hexec, ?_⟩
  have htnc : (if (if lteSpace b = 6 ∨ lteSpace b = 7 then 2 ^ 15 else 0) = 2 ^ 15 then 1 else 0) =
      if lteSpace b = 6 ∨ lteSpace b = 7 then 1 else 0 := by
    split <;> rfl
  rw [← htnc]
  cases hform : s.form s.issuing .load f.e.val 0 b (coords (s.srcInt (lUnit f.x) f.a)) 1 with
  | error x => exact probe_fields (by split <;> simp) (show 0 < 32 by decide) (probeCode_lt x.cause)
  | ok fm =>
    refine probe_fields (by split <;> simp) ?_ (show 0 < 8 by decide)
    dsimp only
    split
    · exact Nat.mod_lt _ (by decide)
    · exact Nat.zero_lt_succ _

theorem execVgth_result (f : Ldae) (s : State) (hp : s.seat.pred f.g.val = true) {xs : List Spot}
    (hx : s.laneSpots s.issuing .load f.e.val (vecCount (s.seat.entry f.e.val))
      (laneCoords (s.vsrc (.int 64) f.a) (vecCount (s.seat.entry f.e.val))) (s.activeLanes (vecCount (s.seat.entry f.e.val))) = .ok xs) :
    exec (.vgth f) s = .next (match xs with
      | [] => s.fly .v (accessLatency s.cx.core (s.seat.entry f.e.val) 10 12 []) (s.vfileEffect f.d) (some 0)
      | xs => s.fetch .v (s.formOf f.e.val) xs
          (.gather (lteSize (s.seat.entry f.e.val)) (s.activeLanes (vecCount (s.seat.entry f.e.val)))) 10 12 (s.vfileEffect f.d) true) := by
  have hexec := show execVgth f s = _ from State.guarded_on s f.g _ hp
  refine hexec.trans ?_
  simp only [hx]
  cases xs <;> rfl

theorem basinEntry_eq : basinEntry = lteWrite 0 13 2 := by
  rw [lteWrite_named 0 2 (by decide)]
  delta basinEntry
  rfl

theorem lteSpace_basinEntry : lteSpace basinEntry = 2 := by
  rw [lteSpace, basinEntry_eq, lteRead_lteWrite_self 0 2 (by decide)]
  decide

theorem selectorHorizon_basinEntry (c : Nat) : selectorHorizon c basinEntry = 0 := by
  have h : lteRead (lteWrite 0 13 2) 19 = lteRead 0 19 := lteRead_lteWrite_other 0 2 (by decide) (by decide) (by decide)
  have hsh : lteShadow basinEntry = false := by
    rw [lteShadow, basinEntry_eq, h]
    simp [lteRead_eq, lteGet]
  simp [selectorHorizon, hsh]

/-- A load of the own basin that may not act in its cycle is on its way, and nothing else but the number it takes changes. -/
theorem State.setOut_basin (s : State) (u : UnitId) (lat : Nat) (e : Effect) (t : Nat → Trip) :
    ∃ tr : Trip, s.setOut u lat e true none basinEntry t =
      State.flyLoad { s with nextPost := s.nextPost + 1 } u lat e true none (.inl tr) := by
  have hover : overFlume s.cx.core basinEntry = false := by simp [overFlume, lteSpace_basinEntry]
  simp only [State.setOut, State.newTrip, State.askSelector, selectorHorizon_basinEntry, if_true]
  split
  · simp only [State.depart, lteSpace_basinEntry, hover, Nat.reduceEqDiff, if_false, Bool.false_eq_true]
    exact ⟨_, rfl⟩
  · exact ⟨_, rfl⟩

theorem execBld_later (f : Lda) (s : State) (hp : s.seat.pred f.g.val = true) (hpure : s.seat.pure = false)
    (hfirst : s.firstThere s.cx.core s.cx.seat s.nextPost ((List.range 512).map
      ((Home.basin s.cx.core).at (rowPair (s.srcInt (lUnit f.x) f.a) * 256) + ·)) = false) :
    ∃ t l, exec (.bld f) s = .next t ∧ t.mem = s.mem ∧ t.me.flight = s.me.flight ++ [l] ∧ l.seat = s.cx.seat ∧
      l.unit = .v ∧ l.due = s.me.idx + 10 ∧ l.effect = s.vfileEffect f.d := by
  have hexec := show execBld f s = _ from State.effectful_plain s f.g _ hp hpure
  simp only [hfirst, Bool.false_eq_true, if_false] at hexec
  obtain ⟨tr, htr⟩ := State.setOut_basin (s.touchRows (rowPair (s.srcInt (lUnit f.x) f.a))) .v 10 (s.vfileEffect f.d) _
  rw [htr] at hexec
  refine ⟨_, ?_, hexec, rfl, ?_, ?_⟩
  rotate_left
  · exact congrArg Core.flight (State.onCore_self ..)
  · exact ⟨rfl, rfl, rfl, rfl⟩

/-- Settles O39. -/
theorem loadResults : Obligations.LoadResults := by
  unfold Obligations.LoadResults
  refine ⟨fun f s hp => ?sld, fun f s hp => ⟨fun fm xs h hx => ?vld, fun fm xs h hx => ?raw, fun xs hx => ?vgth, execSprb_result f s hp⟩,
    fun f s hp => fun fm xs h hx => ?lscl, fun f s hp hpure => ⟨fun hfirst => ?bld, execBld_later f s hp hpure⟩, fun f s hp => ?pref⟩
  case sld =>
    have hexec := show execSld f s = _ from State.guarded_on s f.g _ hp
    refine ⟨fun x h => hexec.trans (congrArg _ (State.accessing_unformed h)), fun fm h => ⟨fun x hx => ?_, fun xs hx => ?_⟩⟩
    · exact hexec.trans (congrArg _ (State.accessing_untranslated h hx))
    · exact hexec.trans (congrArg _ (State.accessing_ok h hx))
  case vld =>
    have hexec := show execVld f s = _ from State.guarded_on s f.g _ hp
    exact hexec.trans (congrArg _ (State.accessing_ok h hx))
  case raw =>
    have hexec := show execVldRaw f s = _ from State.guarded_on s f.g _ hp
    exact hexec.trans (congrArg _ (State.accessing_ok h hx))
  case vgth =>
    have hexec := execVgth_result f s hp hx
    refine ⟨fun hnil => ?_, fun hne => ?_⟩
    · subst hnil
      exact hexec
    · refine hexec.trans ?_
      cases xs with
      | nil => exact absurd rfl hne
      | cons x xs => rfl
  case lscl =>
    have hexec := show execLscl f s = _ from State.guarded_on s f.g _ hp
    exact hexec.trans (congrArg _ (State.accessing_ok h hx))
  case bld =>
    have hexec := show execBld f s = _ from State.effectful_plain s f.g _ hp hpure
    refine hexec.trans (congrArg _ ((if_pos hfirst).trans ?_))
    rw [State.loadNat_rowPair]
    rfl
  case pref =>
    have hexec := show execPref f s = _ from State.guarded_on s f.g _ hp
    have hlook : Unseen s (match s.form s.issuing .load f.e.val 0 (s.seat.entry f.e.val) (coords (s.srcInt (lUnit f.x) f.a)) 1 with
        | .error _ => s
        | .ok fm =>
          match s.spots s.issuing .load fm [0] with
          | .error _ => s
          | .ok xs => s.noteMisses s.issuing (if f.x then 1 else 0) xs) := by
      split
      · exact .refl s
      · split
        · exact .refl s
        · exact .noteMisses ..
    obtain ⟨t, ht, hlook⟩ : ∃ t, exec (.pref f) s = .next t ∧ Unseen s t := ⟨_, hexec, hlook⟩
    obtain ⟨tlb, hme⟩ := hlook.me
    exact ⟨t, ht, hlook.mem, hlook.seat, by rw [hme], hlook.cx⟩

end Sys2Proof.Machine

/-! ### Results of stores, scatters and writes of basin and drawer rows (14 R359-R361) -/

namespace Sys2Proof.Machine

/-- A step that changes no count of posted writes of a seat, and not which seat issues. -/
structure Uncounted (s t : State) : Prop where
  cx : t.cx = s.cx
  writes : ∀ c n, (t.seatAt c n).writes = (s.seatAt c n).writes

theorem Uncounted.refl (s : State) : Uncounted s s := ⟨rfl, fun _ _ => rfl⟩

theorem Uncounted.trans {s t u : State} (h : Uncounted s t) (h' : Uncounted t u) : Uncounted s u :=
  ⟨h'.cx.trans h.cx, fun c n => (h'.writes c n).trans (h.writes c n)⟩

theorem Uncounted.of_cores {s t : State} (hcx : t.cx = s.cx) (h : t.cores = s.cores) : Uncounted s t :=
  ⟨hcx, fun c n => by simp only [State.seatAt, State.core, h]⟩

theorem Uncounted.notify (s : State) (gs : List Nat) : Uncounted s (s.notify gs) where
  cx := rfl
  writes c n := by
    have hcore := tget_map Core.reset s.cores (fun k => { k with seats := k.seats.map fun q => (q.1, q.2.notified gs) }) c
    rcases hcore with h | h
    · exact congrArg (fun k : Core => (k.seat n).writes) h
    · refine (congrArg (fun k : Core => (k.seat n).writes) h).trans ?_
      show (tget Seat.reset ((s.core c).seats.map fun q => (q.1, q.2.notified gs)) n).writes = _
      rcases tget_map Seat.reset (s.core c).seats (Seat.notified gs) n with h | h <;> rw [h] <;> rfl

theorem Uncounted.store (s : State) (bs : List (Nat × Byte)) : Uncounted s (s.store bs) := .of_cores rfl rfl

theorem Uncounted.clip (s : State) (a : Nat) : Uncounted s (s.clip a) := by
  unfold State.clip
  dsimp only
  split
  · exact .store s _
  · split
    · exact .store s _
    · exact .refl s

theorem Uncounted.ring (s : State) (bs : List (Nat × Byte)) : Uncounted s (s.ring bs) := by
  unfold State.ring
  dsimp only
  split
  · exact .refl s
  · exact .of_cores rfl rfl

theorem Uncounted.writeBytes (s : State) (bs : List (Nat × Byte)) : Uncounted s (s.writeBytes none bs) :=
  ((Uncounted.trans (Uncounted.store s _) (.notify _ _)).trans (.ring _ bs)).trans
    (foldl_rel .refl .trans (fun s p => .clip s p.1) bs _)

theorem Uncounted.postGranules (s : State) (b : LteBits) (xs : List Spot) (after : List Nat) (bytes : Nat → List Byte) :
    Uncounted s (s.postGranules b xs after bytes) :=
  foldl_rel .refl .trans (fun _ _ => .of_cores rfl rfl) _ s

theorem State.countWrite_writes {s t : State} (h : Uncounted s t) : t.countWrite.seat.writes = s.seat.writes + 1 := by
  rw [State.countWrite, State.onMe_seat]
  show (t.seatAt t.cx.core t.cx.seat).writes + 1 = _
  rw [h.writes, h.cx]
  rfl

theorem State.postGranules_mem (s : State) (b : LteBits) (xs : List Spot) (after : List Nat) (bytes : Nat → List Byte) :
    (s.postGranules b xs after bytes).mem = s.mem :=
  (Quiet.foldl (fun s _ => .post s _) (granules xs) s).mem

theorem placed_addresses (a n x : Nat) : (placed a (leBytes n x)).map (·.1) = (List.range n).map (a + ·) := by
  simp [placed]

theorem pow_bytes (n : Nat) : 256 ^ n = 2 ^ (8 * n) := (Nat.pow_mul 2 8 n).symm

theorem State.byte_storeNat_other (s : State) {a n b : Nat} (x : Nat) (h : b < a ∨ a + n ≤ b) : (s.storeNat a n x).byte b = s.byte b :=
  s.byte_store_placed_other a (leBytes n x) b (by rwa [leBytes_length])

/-- A number that software writes as `n` bytes of scratchpads and basins is read back, and every other byte stands. -/
theorem State.writeBytes_number (s : State) {a n : Nat} (x : Nat) (h : ∀ i < n, ofCoreMemory (a + i)) :
    (s.writeBytes none (placed a (leBytes n x))).loadNat a n = x % 256 ^ n ∧
    ∀ b, (b < a ∨ a + n ≤ b) → (s.writeBytes none (placed a (leBytes n x))).byte b = s.byte b := by
  have hcore : ∀ p ∈ placed a (leBytes n x), ofCoreMemory p.1 := by
    intro p hp
    obtain ⟨i, hi, he⟩ := mem_placed hp
    rw [leBytes_length] at hi
    exact he ▸ h i hi
  have hmem := State.writeBytes_ofCoreMemory (s := s) hcore
  refine ⟨(State.loadNat_congr hmem a n).trans (s.loadNat_storeNat a n x), fun b hb => ?_⟩
  refine (congrArg (tget blank · b) hmem).trans ?_
  exact s.byte_storeNat_other x hb

theorem ofCoreMemory_rowPair (c : Nat) {r : Nat} (hr : r < 2047) : ∀ i < 512, ofCoreMemory ((Home.basin c).at (r * 256) + i) := by
  intro i hi
  have hadd : (Home.basin c).at (r * 256) + i = (Home.basin c).at (r * 256 + i) := Nat.add_assoc ..
  rw [hadd]
  exact ofCoreMemory_basin _ (by unfold window; omega)

theorem State.countWrite_mem (s : State) : s.countWrite.mem = s.mem := rfl

theorem State.countWrite_byte (s : State) (a : Nat) : s.countWrite.byte a = s.byte a := rfl

theorem State.touchRows_mem (s : State) (r : Nat) : (s.touchRows r).mem = s.mem := rfl

theorem State.touchRows_byte (s : State) (r a : Nat) : (s.touchRows r).byte a = s.byte a := rfl

/-- What a write of a row pair does: at once where nothing of the seat comes first, else posted. -/
theorem State.putPair_result (s : State) {r : Nat} (v : Vec) (hr : r < 2047) :
    (s.putPair r v).seat.writes = s.seat.writes + 1 ∧
    let first := s.firstThere s.cx.core s.cx.seat s.nextPost ((List.range 512).map ((Home.basin s.cx.core).at (r * 256) + ·))
    (first = false → (s.putPair r v).mem = s.mem) ∧
    (first = true →
      (s.putPair r v).loadNat ((Home.basin s.cx.core).at (r * 256)) 512 = v.toNat ∧
      ∀ a, (a < (Home.basin s.cx.core).at (r * 256) ∨ (Home.basin s.cx.core).at (r * 256) + 512 ≤ a) → (s.putPair r v).byte a = s.byte a) := by
  have hput := State.writeBytes_number (s.touchRows r) v.toNat (ofCoreMemory_rowPair s.cx.core hr)
  have hv : v.toNat % 256 ^ 512 = v.toNat := by
    rw [pow_bytes]
    exact Nat.mod_eq_of_lt v.isLt
  rw [State.putPair, placed_addresses]
  dsimp only
  cases s.firstThere s.cx.core s.cx.seat s.nextPost ((List.range 512).map ((Home.basin s.cx.core).at (r * 256) + ·)) with
  | false =>
    rw [if_neg Bool.false_ne_true]
    refine ⟨State.countWrite_writes (s := s.touchRows r) (.postGranules ..), fun _ => ?_, nofun⟩
    rw [State.countWrite_mem, State.postGranules_mem, State.touchRows_mem]
  | true =>
    rw [if_pos rfl]
    refine ⟨State.countWrite_writes (s := s.touchRows r) (.writeBytes ..), nofun, fun _ => ⟨?_, fun a ha => ?_⟩⟩
    · rw [State.loadNat_congr (State.countWrite_mem _), hput.1, hv]
    · rw [State.countWrite_byte, hput.2 a ha, State.touchRows_byte]

theorem Row.eq_zero_of_pair {x y : Row} {k : Nat} (hk : 0 < k) (h : x.toNat + y.toNat * k = 0) : x = 0 ∧ y = 0 := by
  obtain ⟨hx, hy⟩ := Nat.add_eq_zero_iff.1 h
  have hy : y.toNat = 0 := (Nat.mul_eq_zero.1 hy).resolve_right (Nat.ne_of_gt hk)
  exact ⟨BitVec.eq_of_toNat_eq (by simp [hx]), BitVec.eq_of_toNat_eq (by simp [hy])⟩

theorem rowPair_lt (w : Word) : rowPair w < 2047 := by
  unfold rowPair
  omega

theorem half_div (hi : Bool) (x y : Nat) : (if hi then x / y else x) = x / (if hi then y else 1) := by
  cases hi
  · rw [if_neg Bool.false_ne_true, if_neg Bool.false_ne_true, Nat.div_one]
  · rw [if_pos rfl, if_pos rfl]

theorem State.drawerRow_storeNat (s : State) (c key x : Nat) :
    ((s.storeNat ((Home.drawer c).at (key * 256)) 256 x).drawerRow c key).toNat = x % 2 ^ 2048 := by
  rw [State.drawerRow, Row.toNat_loadNat, State.loadNat_storeNat, pow_bytes]

theorem State.onCore_drawerRow (s : State) (c c' key : Nat) (f : Core → Core) : (s.onCore c f).drawerRow c' key = s.drawerRow c' key := rfl

theorem State.busy_drawerRow (s : State) (c key : Nat) : s.busy.drawerRow c key = s.drawerRow c key := rfl

theorem State.busy_byte (s : State) (a : Nat) : s.busy.byte a = s.byte a := rfl

/-- A drawer row written is ready, holds what it was given, and nothing else of memory changes. -/
theorem State.drawerWritten (s : State) (c key x : Nat) :
    let t := (s.storeNat ((Home.drawer c).at (key * 256)) 256 x).onCore c fun k => { k with rows := tdel k.rows key }
    tget .ready (t.core c).rows key = .ready ∧ (t.drawerRow c key).toNat = x % 2 ^ 2048 ∧
    ∀ a, (a < (Home.drawer c).at (key * 256) ∨ (Home.drawer c).at (key * 256) + 256 ≤ a) → t.byte a = s.byte a := by
  dsimp only
  refine ⟨?_, ?_, fun a ha => ?_⟩
  · rw [State.onCore_self]
    exact tget_tdel_self ..
  · rw [State.onCore_drawerRow, State.drawerRow_storeNat]
  · rw [State.onCore_byte, State.byte_storeNat_other _ _ ha]

theorem State.busy_rows (s : State) : s.busy.me.rows = s.me.rows := by
  show ((s.onCore s.cx.core fun k => k.setSeat s.cx.seat _).core s.cx.core).rows = _
  rw [State.onCore_self]
  rfl

theorem execDwr_result (f : Ldwr) (s : State) (hp : s.seat.pred f.g.val = true) :
    let key := f.drawer.val * 64 + f.row.val
    ∃ t, exec (.dwr f) s = .next t ∧ tget .ready t.me.rows key = .ready ∧
      (t.drawerRow s.cx.core key).toNat = (s.vsrc (.int 64) f.a).toNat / (if f.hi then 2 ^ 2048 else 1) % 2 ^ 2048 ∧
      ∀ a, (a < (Home.drawer s.cx.core).at (key * 256) ∨ (Home.drawer s.cx.core).at (key * 256) + 256 ≤ a) → t.byte a = s.byte a := by
  intro key
  obtain ⟨hready, hrow, hbyte⟩ := s.drawerWritten s.cx.core key
    (if f.hi then (s.vsrc (.int 64) f.a).toNat / 2 ^ 2048 else (s.vsrc (.int 64) f.a).toNat)
  have hexec : exec (.dwr f) s = .next (((s.storeNat ((Home.drawer s.cx.core).at (key * 256)) 256
      (if f.hi then (s.vsrc (.int 64) f.a).toNat / 2 ^ 2048 else (s.vsrc (.int 64) f.a).toNat)).onCore s.cx.core
        fun k => { k with rows := tdel k.rows key }).busy) :=
    show execDwr f s = _ from State.guarded_on s f.g _ hp
  refine ⟨_, hexec, ?_, ?_, fun a ha => ?_⟩
  · rw [State.busy_rows]
    exact hready
  · rw [State.busy_drawerRow, ← half_div]
    exact hrow
  · rw [State.busy_byte]
    exact hbyte a ha

/-- Settles O41. -/
theorem storeResults : Obligations.StoreResults := by
  unfold Obligations.StoreResults
  refine ⟨fun f s hp => ⟨fun fm xs h hx => ?sst, fun fm xs h hx => ?vst, fun fm xs h hx => ?raw, fun xs hx => ?vsct⟩,
    fun f s hp hpure => ?bst, fun f s hp hpure => ?bzero, execDwr_result⟩
  case sst =>
    have hexec := show execSst f s = _ from State.guarded_on s f.g _ hp
    exact hexec.trans (congrArg _ (State.accessing_ok h hx))
  case vst =>
    have hexec := show execVst f s = _ from State.guarded_on s f.g _ hp
    exact hexec.trans (congrArg _ (State.accessing_ok h hx))
  case raw =>
    have hexec := show execVstRaw f s = _ from State.guarded_on s f.g _ hp
    exact hexec.trans (congrArg _ (State.accessing_ok h hx))
  case vsct =>
    have hexec := show execVsct f s = _ from State.guarded_on s f.g _ hp
    simp only [hx] at hexec
    refine ⟨fun hnil hhalf => hexec.trans (congrArg _ (if_pos ?_)), fun h => hexec.trans (congrArg _ (if_neg ?_))⟩
    · rw [hnil, hhalf]
      rfl
    · rw [Bool.and_eq_true, List.isEmpty_iff]
      rintro ⟨hnil, hhalf⟩
      exact h.elim (· hnil) fun hno => Bool.false_ne_true (hno.symm.trans hhalf)
  case bst =>
    have hexec : exec (.bst f) s = .next (s.putPair (rowPair (s.srcInt (lUnit f.x) f.b)) (s.vsrc (.int 64) f.a)) :=
      show execBst f s = _ from State.effectful_plain s f.g _ hp hpure
    obtain ⟨hwrites, hlater, hnow⟩ := s.putPair_result (s.vsrc (.int 64) f.a) (rowPair_lt (s.srcInt (lUnit f.x) f.b))
    refine ⟨_, hexec, hwrites, hlater, fun hfirst => ⟨?_, (hnow hfirst).2⟩⟩
    exact (State.loadNat_rowPair ..).symm.trans (hnow hfirst).1
  case bzero =>
    have hexec : exec (.bzero f) s = .next (s.putPair (rowPair (s.srcInt (lUnit f.x) f.a)) 0) :=
      show execBzero f s = _ from State.effectful_plain s f.g _ hp hpure
    obtain ⟨hwrites, hlater, hnow⟩ := s.putPair_result 0 (rowPair_lt (s.srcInt (lUnit f.x) f.a))
    refine ⟨_, hexec, hwrites, hlater, fun hfirst => ?_⟩
    obtain ⟨hrow, hnext⟩ := Row.eq_zero_of_pair (Nat.two_pow_pos 2048)
      ((State.loadNat_rowPair ..).symm.trans ((hnow hfirst).1.trans BitVec.toNat_zero))
    exact ⟨hrow, hnext, (hnow hfirst).2⟩

end Sys2Proof.Machine

/-! ### Results of atomics (14 R370, R371) -/

namespace Sys2Proof.Machine

theorem State.atomic_ok {s : State} {x : Bool} {op : AtomicOp} {e : Nat} {a : Src} {operand compare : Word} {bad : Bool} {fm : Formed}
    {xs : List Spot}
    (h : s.form { s.issuing with bad := bad || !atomicOk op (s.seat.entry e), noAtomic := !basinClass (s.seat.entry e) } .atomic e 0
      (s.seat.entry e) (coords (s.srcInt (lUnit x) a)) 1 = .ok fm)
    (hx : s.spots { s.issuing with bad := bad || !atomicOk op (s.seat.entry e), noAtomic := !basinClass (s.seat.entry e) } .atomic fm [0] = .ok xs) :
    s.atomic x op e a operand compare bad = s.atomicTrip (lUnit x) fm xs ⟨op, fm.size, lteRead (s.seat.entry e) 11, operand, compare⟩ := by
  simp only [State.atomic]
  exact State.accessing_ok h hx

/-- An atomic of one operand whose access forms and translates. -/
theorem atomicOp_acts {s : State} {f : Leab} {op : AtomicOp} {fm : Formed} {xs : List Spot} (hp : s.seat.pred f.g.val = true)
    (hpure : s.seat.pure = false) {y : Word} {bad : Bool}
    (hy : s.src (lUnit f.x) (match op with
      | .addk => ConstForm.k27
      | .addf | .xch => etypeForm (lteRead (s.seat.entry f.e.val) 11)
      | _ => .int 64) f.b = y)
    (hbad : ((op == .addf || op == .xch) && halfBad (s.seat.entry f.e.val) f.b) = bad)
    (h : s.form { s.issuing with bad := bad || !atomicOk op (s.seat.entry f.e.val), noAtomic := !basinClass (s.seat.entry f.e.val) } .atomic
      f.e.val 0 (s.seat.entry f.e.val) (coords (s.srcInt (lUnit f.x) f.a)) 1 = .ok fm)
    (hx : s.spots { s.issuing with bad := bad || !atomicOk op (s.seat.entry f.e.val), noAtomic := !basinClass (s.seat.entry f.e.val) } .atomic
      fm [0] = .ok xs) :
    atomicOp op f s = .next (s.atomicTrip (lUnit f.x) fm xs ⟨op, fm.size, lteRead (s.seat.entry f.e.val) 11, y, 0⟩) := by
  subst hy hbad
  exact (State.effectful_plain s f.g _ hp hpure).trans (congrArg _ (State.atomic_ok h hx))

theorem spotBytes_single (size : Nat) (x : Spot) : spotBytes size [x] = (List.range size).map (x.flat + ·) := by
  simp [spotBytes]

/-- What is in flight stands through a step that acts on the cores aside. -/
theorem Aside.me_flight {s t : State} (h : Aside s t) : t.me.flight = s.me.flight := by
  rw [State.me, h.core]
  exact (h.cores s.cx.core).flight

/-- An atomic in its issue cycle in the own scratchpad or basin. -/
theorem State.atomicTrip_port {s : State} {u : UnitId} {fm : Formed} {x : Spot} {a : Atomic}
    (hport : s.atPort fm.bits (objectBytes (spotBytes fm.size [x])) = true)
    (hown : ∀ i < a.size, homeOf (x.flat + i) = .spad s.cx.core ∨ homeOf (x.flat + i) = .basin s.cx.core) :
    let t := s.atomicTrip u fm [x] a
    let old := s.loadNat x.flat a.size
    t.loadNat x.flat a.size = atomicNew a.op a.size a.etype old a.operand.toNat a.compare.toNat % 2 ^ (8 * a.size) ∧
    (∀ p, (p < x.flat ∨ x.flat + a.size ≤ p) → t.byte p = s.byte p) ∧
    ∃ l, t.me.flight = s.me.flight ++ [l] ∧ l.effect = .nothing ∧ l.unit = u ∧
      l.latch = some ((extend a.size (a.etype == 6) old).setWidth 4096) := by
  intro t old
  have ht : t = (((s.atomicAt a x.flat).2.touch fm.bits [x]).countWrite).flyLoad u (accessLatency s.cx.core fm.bits 12 12 [x]) .nothing true
      none (.inr ((extend a.size (a.etype == 6) old).setWidth 4096)) := if_pos hport
  have hmem : t.mem = (s.atomicAt a x.flat).2.mem := by
    rw [ht]
    exact State.touch_mem ..
  obtain ⟨hnew, hother⟩ := s.writeBytes_number (atomicNew a.op a.size a.etype old a.operand.toNat a.compare.toNat)
    fun i hi => ⟨s.cx.core, hown i hi⟩
  refine ⟨?_, fun p hp => ?_, ?_⟩
  · rw [State.loadNat_congr hmem, ← pow_bytes]
    exact hnew
  · exact (congrArg (tget blank · p) hmem).trans (hother p hp)
  · have haside : Aside s (((s.atomicAt a x.flat).2.touch fm.bits [x]).countWrite) :=
      (Aside.writeBytes s none _).trans ((Aside.touch _ _ _).trans (.countWrite _))
    rw [← haside.me_flight, ht]
    exact ⟨_, congrArg Core.flight (State.onCore_self ..), rfl, rfl, rfl⟩

/-- The new words of five integer operations on an unsigned 32-bit word. -/
theorem atomicNew_word (x y c : Nat) :
    atomicNew .add 4 6 x y c = (x + y) % 2 ^ 32 ∧ atomicNew .xch 4 6 x y c = y % 2 ^ 32 ∧
    atomicNew .cas 4 6 x y c = (if x = c % 2 ^ 32 then y % 2 ^ 32 else x) ∧
    atomicNew .minu 4 6 x y c = min x (y % 2 ^ 32) ∧ atomicNew .maxu 4 6 x y c = max x (y % 2 ^ 32) := by
  refine ⟨rfl, rfl, rfl, (Nat.min_def ..).symm, ?_⟩
  show (if y % 2 ^ 32 ≤ x then x else y % 2 ^ 32) = _
  rw [Nat.max_comm, Nat.max_def]

/-- Settles O45. -/
theorem atomicResults : Obligations.AtomicResults := by
  unfold Obligations.AtomicResults
  refine ⟨fun f s hp hpure => ?op, fun f s hp hpure => ?cas, fun s u fm x a => State.atomicTrip_port, fun x y c _ => atomicNew_word x y c⟩
  case op =>
    refine ⟨?_, ?_, ?_, ?_, ?_, ?_, ?_, ?_, ?_, ?_, ?_⟩ <;> intro fm xs h hx <;> exact atomicOp_acts hp hpure rfl rfl h hx
  case cas =>
    intro u b w fm xs h hx
    exact (show execAcas f s = _ from State.effectful_plain s f.g _ hp hpure).trans (congrArg _ (State.atomic_ok h hx))

end Sys2Proof.Machine

/-! ### Results of releases, acquires, fences and decrements (06 R158-R166, 14 R372-R375) -/

namespace Sys2Proof.Machine

section
variable {s : State}

theorem State.releaseSlot_ok {e : Nat} {pair : Bool} (h : s.bindCheck { s.issuing with binds := true } e (s.seat.entry e) pair = none) :
    s.releaseSlot e pair = (s.release (s.myItem 4) s.cx.core (s.seat.entry e) (if pair then some (lteRead (s.seat.entry e) 18) else none)
      (s.covered s.cx.core s.cx.seat ((syncObject s.cx.core (s.seat.entry e)).getD 0) s.scope)).busy := by
  simp only [State.releaseSlot, h]

theorem meets_iff (v : Word) (t : Nat) :
    meets (v.toNat % 2 ^ 48) (t % 2 ^ 48) = true ↔ (v.toNat % 2 ^ 48 + 2 ^ 48 - t % 2 ^ 48) % 2 ^ 48 < 2 ^ 47 := by
  simp only [meets, Nat.mod_mod, decide_eq_true_eq]

theorem State.recordRefused_iff (d rec tenant : Nat) :
    s.recordRefused d rec tenant = true ↔ s.recState d rec ≠ 0 ∧ s.recTenant d rec ≠ tenant := by
  simp only [State.recordRefused, Bool.and_eq_true, bne_iff_ne]

/-- A decrement through the window of another package. -/
theorem State.handleRefused_away {c tenant : Nat} {h : Word} (haway : bitOf h 63 = true) :
    s.handleRefused c tenant h = true ↔ (tget .reset s.wallow (field h 54 51)).tenant ≠ tenant := by
  simp only [State.handleRefused, haway, if_true, bne_iff_ne]

/-- A decrement of a record of this package. -/
theorem State.handleRefused_here {c tenant : Nat} {h : Word} (hhere : bitOf h 63 = false) :
    s.handleRefused c tenant h = true ↔ field h 19 16 = dieOf c ∧ s.recState (dieOf c) (field h 15 0) ≠ 0 ∧
      s.recTenant (dieOf c) (field h 15 0) ≠ tenant := by
  simp only [State.handleRefused, hhere, Bool.false_eq_true, if_false, Bool.and_eq_true, beq_iff_eq, State.recordRefused_iff]

theorem execAcq_acts {f : Le} (hp : s.seat.pred f.g.val = true) (hpure : s.seat.pure = false)
    (h : s.bindCheck s.issuing f.e.val (s.seat.entry f.e.val) false = none) :
    (∀ w, s.myWait = some w → w.ended = true → exec (.acq f) s = .next s) ∧
    (s.myWait = none →
      exec (.acq f) s = .next (s.stall (s.waitFor (.acquire ((syncObject s.cx.core (s.seat.entry f.e.val)).getD 0))))) := by
  have hexec := show execAcq f s = _ from State.effectful_plain s f.g _ hp hpure
  simp only [h] at hexec
  refine ⟨fun w hw hended => ?_, fun hw => ?_⟩
  · simp only [hw, hended, if_true] at hexec
    exact hexec
  · simp only [hw] at hexec
    exact hexec

theorem execAcqt_acts {f : Lea} (hp : s.seat.pred f.g.val = true) (hpure : s.seat.pure = false)
    (h : s.bindCheck s.issuing f.e.val (s.seat.entry f.e.val) false = none) {w : Wait} {v : Word} (hw : s.myWait = some w)
    (hv : w.got = some v) :
    exec (.acqt f) s =
      .next (if meets (v.toNat % 2 ^ 48) ((s.srcInt (lUnit f.x) f.a).toNat % 2 ^ 48) then s else s.stall w) := by
  have hexec := show execAcqt f s = _ from State.effectful_plain s f.g _ hp hpure
  simp only [h, hw, hv] at hexec
  exact hexec

/-- A fence stalls for what an earlier bundle left, passes when nothing is left, and else holds the core once its bundle has committed. -/
theorem execFnc_acts {f : Ln} (hp : s.seat.pred f.g.val = true) :
    exec (.fnc f) s = .next (
      if (s.unperformed s.cx.core s.cx.seat s.scope).any fun i => i < s.cx.firstId then
        { s with cx := { s.cx with out := if s.cx.out = .go then .stall else s.cx.out } }
      else if (s.unperformed s.cx.core s.cx.seat s.scope).isEmpty then s
      else s.onMe fun st => { st with fence := some (s.nextPost, s.scope) }) :=
  show execFnc f s = _ from State.guarded_on s f.g _ hp

theorem execFnw_acts {f : La} (hp : s.seat.pred f.g.val = true) :
    let t := s.srcInt (lUnit f.x) f.a
    exec (.fnw f) s = .next (
      if s.outstanding s.cx.core s.cx.seat (field t 63 8) (max (min 4 (field t 2 0)) s.scope) then s.stall (s.waitFor .token) else s) :=
  show execFnw f s = _ from State.guarded_on s f.g _ hp

theorem execTdec_acts {f : Lab} (hp : s.seat.pred f.g.val = true) (hpure : s.seat.pure = false) :
    let h := s.srcInt (lUnit f.x) f.a
    exec (.tdec f) s = .next (
      if s.handleRefused s.cx.core s.seat.tenant h then s.raise 13 0
      else (s.decrementBy { s.myItem 2 with lands := s.arrayOrds s.cx.core s.cx.seat } s.cx.core h (s.srcInt (lUnit f.x) f.b).toNat
        (s.earlier s.cx.core s.cx.seat s.scope)).busy) :=
  show execTdec f s = _ from State.effectful_plain s f.g _ hp hpure

end

/-- Settles O46. -/
theorem orderingResults : Obligations.OrderingResults := by
  unfold Obligations.OrderingResults
  refine ⟨fun f s hp hpure => ⟨fun h => ?rel, fun h => ?pub, execAcq_acts hp hpure⟩, fun f s hp hpure => ?acqt, fun f s hp => ?fnc,
    fun f s hp => ?fni, fun f s hp => ?fnw, fun f s hp hpure => ?tdec⟩
  case rel =>
    exact (show execRel f s = _ from State.effectful_plain s f.g _ hp hpure).trans (congrArg _ (State.releaseSlot_ok h))
  case pub =>
    exact (show execPub f s = _ from State.effectful_plain s f.g _ hp hpure).trans (congrArg _ (State.releaseSlot_ok h))
  case acqt =>
    intro b target h
    refine ⟨fun w v hw hv hmet => ?_, fun w v hw hv hfar => ?_⟩
    · exact (execAcqt_acts hp hpure h hw hv).trans (congrArg _ (if_pos ((meets_iff v _).mpr hmet)))
    · exact (execAcqt_acts hp hpure h hw hv).trans (congrArg _ (if_neg fun hm => Nat.not_le_of_gt ((meets_iff v _).mp hm) hfar))
  case fnc =>
    intro left
    have hleft : s.unperformed s.cx.core s.cx.seat s.scope = left := rfl
    have hexec := execFnc_acts hp
    rw [hleft] at hexec
    refine ⟨fun hnil => hexec.trans ?_, fun hold hgo => hexec.trans ?_, fun hne hnew => hexec.trans ?_⟩
    · rw [hnil]
      rfl
    · obtain ⟨i, hi, hlt⟩ := hold
      rw [if_pos (List.any_eq_true.mpr ⟨i, hi, decide_eq_true hlt⟩), if_pos hgo]
    · have hany : left.any (fun i => i < s.cx.firstId) = false :=
        List.any_eq_false.mpr fun i hi => by simpa using hnew i hi
      have hempty : left.isEmpty = false := by simpa using hne
      rw [hany, hempty]
      rfl
  case fni => exact show execFni f s = _ from State.guarded_on s f.g _ hp
  case fnw =>
    intro t left
    have hexec : exec (.fnw f) s = .next (if left then s.stall (s.waitFor .token) else s) := execFnw_acts hp
    refine ⟨fun h => hexec.trans ?_, fun h => hexec.trans ?_⟩ <;> rw [h] <;> rfl
  case tdec =>
    intro u h run mine other
    have hexec := execTdec_acts (f := f) hp hpure
    refine ⟨fun hb hno => hexec.trans (congrArg _ (if_neg ?_)), fun hb hmine hother => hexec.trans (congrArg _ (if_pos ?_)),
      fun hb ht => hexec.trans (congrArg _ (if_neg ?_)), fun hb ht => hexec.trans (congrArg _ (if_pos ?_))⟩
    · exact fun href => hno ((State.handleRefused_here hb).mp href)
    · exact (State.handleRefused_here hb).mpr ⟨hmine, hother⟩
    · exact fun href => (State.handleRefused_away hb).mp href ht
    · exact (State.handleRefused_away hb).mpr ht

end Sys2Proof.Machine

/-! ### Copies, claims and releases of drawer rows (14 R362-R368) -/

namespace Sys2Proof.Machine

theorem Unseen.foldl {α : Type} {f : State → α → State} (h : ∀ s a, Unseen s (f s a)) (l : List α) (s : State) : Unseen s (l.foldl f s) :=
  foldl_rel .refl .trans h l s

theorem Unseen.notePages (s : State) (w : Issuing) (pages : List (Nat × Leaf)) : Unseen s (s.notePages w pages) :=
  .foldl (fun s _ => .noteMiss s _ _ _ _) pages s

theorem Unseen.askSelector (s : State) (item : Posted) (c : Nat) (b : LteBits) (stamp : Nat) : Unseen s (s.askSelector item c b stamp).2 := by
  unfold State.askSelector
  split
  · exact .refl s
  · dsimp only
    split <;> exact .of_cores rfl rfl rfl

theorem sideFigures_pos (s : State) (w : Issuing) (u : Use) (b : LteBits) (off : Nat) : 0 < (s.sideFigures w u b off).1 := by
  have hpage (d : Nat) (h : Home) : 0 < (pageFigures d h).1 := by
    unfold pageFigures
    split
    · split <;> exact Nat.zero_lt_succ _
    · exact Nat.zero_lt_succ _
    · exact Nat.zero_lt_succ _
  unfold State.sideFigures
  dsimp only
  split
  case h_5 => split <;> exact Nat.zero_lt_succ _
  case h_6 =>
    split
    · exact Nat.zero_lt_succ _
    · split
      · exact Nat.zero_lt_succ _
      · exact hpage ..
  all_goals exact Nat.zero_lt_succ _

theorem State.promise_gt (s : State) {c lmax rate bytes : Nat} (h : 0 < lmax) : s.cycOf c + 4 < s.promise c lmax rate bytes := by
  unfold State.promise
  generalize (bytes + rate - 1) / rate = q
  dsimp only
  omega

/-- What an accepted copy is: one command more, its promise at least five cycles away. -/
theorem State.acceptCopy_shape {s t : State} {w : Issuing} {n : Nat} {issuer : Issuer} {kind : CmdKind} {a b : Word} {job num p : Nat}
    {task : Option (Nat × Nat)} {after ords : List Nat} (hfull : s.engineFull w.core = false)
    (h : s.acceptCopy w n issuer kind a b job num task after ords = .ok (p, t)) :
    ∃ s1 k, t = s1.addCmd w.core k ∧ Unseen s s1 ∧ k.kind = kind ∧ k.promise = p ∧ k.complete = false ∧ k.moved = 0 ∧ k.faulted = none ∧
      k.src = (s.seatAt w.core n).entry (field a 4 0) ∧ k.dst = (s.seatAt w.core n).entry (field a 9 5) ∧ s.cycOf w.core + 4 < p := by
  unfold State.acceptCopy at h
  rw [hfull, if_neg Bool.false_ne_true] at h
  dsimp only at h
  split at h
  · cases h
  · simp only [Except.ok.injEq, Prod.mk.injEq] at h
    obtain ⟨hp, ht⟩ := h
    refine ⟨_, _, ht.symm, ?_, rfl, hp, rfl, rfl, rfl, rfl, rfl, ?_⟩
    · exact (Unseen.notePages ..).trans ((Unseen.notePages ..).trans ((Unseen.askSelector ..).trans (.askSelector ..)))
    · rw [← hp]
      exact s.promise_gt (Nat.add_pos_left (Nat.lt_of_lt_of_le (sideFigures_pos ..) (Nat.le_max_left ..)) _)

theorem State.acceptCopy_full {s t : State} {w : Issuing} {n : Nat} {issuer : Issuer} {kind : CmdKind} {a b : Word} {job num p : Nat}
    {task : Option (Nat × Nat)} {after ords : List Nat} (hfull : s.engineFull w.core = true)
    (h : s.acceptCopy w n issuer kind a b job num task after ords = .ok (p, t)) : p = 0 ∧ t = s := by
  unfold State.acceptCopy at h
  rw [if_pos hfull] at h
  obtain ⟨rfl, rfl⟩ := h
  exact ⟨rfl, rfl⟩

/-- Entries put at consecutive keys. -/
theorem tget_foldl_range {α : Type} (d v : α) (base n : Nat) (t : Tab α) :
    ∀ i < n, tget d ((List.range n).foldl (fun t i => tput t (base + i) v) t) (base + i) = v := by
  induction n with
  | zero => exact fun i hi => absurd hi (Nat.not_lt_zero i)
  | succ n ih =>
    intro i hi
    rw [List.range_succ, List.foldl_append, List.foldl_cons, List.foldl_nil]
    by_cases h : i = n
    · rw [h, tget_tput_self]
    · rw [tget_tput_other _ _ _ _ _ (by omega)]
      exact ih i (by omega)

/-- What an accepted claim is: one command more, and its rows pending. -/
theorem State.acceptClaim_shape {s t : State} {w : Issuing} {n : Nat} {issuer : Issuer} {a b : Word} {job p : Nat} {task : Option (Nat × Nat)}
    {after ords : List Nat} (hfull : s.engineFull w.core = false) (h : s.acceptClaim w n issuer a b job task after ords = .ok (p, t)) :
    ∃ k, (t.core w.core).cmds = (s.core w.core).cmds ++ [k] ∧ k.promise = p ∧ k.complete = false ∧
      k.kind = .dclm (field a 9 5) (field a 15 10) ∧
      (∀ i, i ≤ field a 21 16 → tget .ready (t.core w.core).rows (field a 9 5 * 64 + field a 15 10 + i) = .pending (s.core w.core).nextCmd) ∧
      t.mem = s.mem ∧ t.cx = s.cx ∧ ∀ storer, (t.core w.core).side storer = (s.core w.core).side storer := by
  unfold State.acceptClaim at h
  rw [hfull, if_neg Bool.false_ne_true] at h
  dsimp only at h
  split at h
  · cases h
  · simp only [Except.ok.injEq, Prod.mk.injEq] at h
    obtain ⟨hp, ht⟩ := h
    have hlook := (Unseen.notePages s w (s.aheadOf w .read ((s.seatAt w.core n).entry (field a 4 0))
      (lteShadow ((s.seatAt w.core n).entry (field a 4 0)) && s.sampled w.core w.seat ((s.seatAt w.core n).entry (field a 4 0)) w.stamp)
      ((List.range (field a 21 16 + 1)).map fun k => [(coords b).getD 0 0, (coords b).getD 1 0 + k, (coords b).getD 2 0, (coords b).getD 3 0])
      (256 / lteSize ((s.seatAt w.core n).entry (field a 4 0))) [])).trans
      (.askSelector _ (engineItem w job task) w.core ((s.seatAt w.core n).entry (field a 4 0)) w.stamp)
    obtain ⟨tlb, hcore⟩ := hlook.cores w.core
    subst ht
    rw [State.onCore_self, State.addCmd, State.onCore_self, hcore]
    exact ⟨_, rfl, hp, rfl, rfl, fun i hi => tget_foldl_range _ _ _ _ _ i (Nat.lt_succ_of_le hi), hlook.mem, hlook.cx, fun _ => rfl⟩

theorem State.acceptClaim_full {s t : State} {w : Issuing} {n : Nat} {issuer : Issuer} {a b : Word} {job p : Nat} {task : Option (Nat × Nat)}
    {after ords : List Nat} (hfull : s.engineFull w.core = true) (h : s.acceptClaim w n issuer a b job task after ords = .ok (p, t)) :
    p = 0 ∧ t = s := by
  unfold State.acceptClaim at h
  rw [if_pos hfull] at h
  obtain ⟨rfl, rfl⟩ := h
  exact ⟨rfl, rfl⟩

/-! ### Drawer rows released (14 R368) -/

theorem tget_filter_keys {α : Type} (d : α) (t : Tab α) (p : Nat → Bool) (k : Nat) :
    tget d (t.filter fun q => p q.1) k = if p k then tget d t k else d := by
  induction t with
  | nil => exact (ite_self d).symm
  | cons q t ih =>
    obtain ⟨j, v⟩ := q
    by_cases hj : j = k
    · subst hj
      cases hp : p j <;> simp [hp, tget, ih]
    · cases hp : p j <;> simp [hp, tget, hj, ih]

/-- The bytes of the rows of a list stand outside them, and nothing but memory changes. -/
structure RowsOnly (keys : List Nat) (s t : State) : Prop where
  cx : t.cx = s.cx
  cores : t.cores = s.cores
  bytes : ∀ a, (∀ k ∈ keys, a < (Home.drawer s.cx.core).at (k * 256) ∨ (Home.drawer s.cx.core).at (k * 256) + 256 ≤ a) → t.byte a = s.byte a

theorem RowsOnly.refl (keys : List Nat) (s : State) : RowsOnly keys s s := ⟨rfl, rfl, fun _ _ => rfl⟩

theorem RowsOnly.trans {keys : List Nat} {s t u : State} (h : RowsOnly keys s t) (h' : RowsOnly keys t u) : RowsOnly keys s u where
  cx := h'.cx.trans h.cx
  cores := h'.cores.trans h.cores
  bytes a ha := (h'.bytes a (by rwa [h.cx])).trans (h.bytes a ha)

theorem RowsOnly.store {keys : List Nat} {key : Nat} (s : State) (hkey : key ∈ keys) {bs : List Byte} (hlen : bs.length = 256) :
    RowsOnly keys s (s.store (placed ((Home.drawer s.cx.core).at (key * 256)) bs)) where
  cx := rfl
  cores := rfl
  bytes a ha := s.byte_store_placed_other _ _ _ (by rw [hlen]; exact ha key hkey)

theorem State.mixRow_length (s : State) (c id key : Nat) (fill : List Byte) : (s.mixRow c id key fill).length = 256 := by
  simp only [State.mixRow, List.length_map, List.length_range]

theorem RowsOnly.releaseRow {keys : List Nat} {key : Nat} (s : State) (hkey : key ∈ keys) : RowsOnly keys s (s.releaseRow s.cx.core key) := by
  unfold State.releaseRow
  split
  · exact .refl keys s
  · split
    · dsimp only
      split
      · exact .store s hkey (s.mixRow_length ..)
      · exact .refl keys s
    · exact .refl keys s

/-- Steps taken for the rows of a list one after another. -/
theorem RowsOnly.foldl {keys : List Nat} {f : State → Nat → State} (h : ∀ s, ∀ k ∈ keys, RowsOnly keys s (f s k)) (l : List Nat)
    (hl : ∀ k ∈ l, k ∈ keys) (s : State) : RowsOnly keys s (l.foldl f s) := by
  induction l generalizing s with
  | nil => exact .refl keys s
  | cons k l ih => exact (h s k (hl k (List.mem_cons_self ..))).trans (ih (fun j hj => hl j (List.mem_cons_of_mem _ hj)) _)

theorem execDrel_result (f : La) (s : State) (hp : s.seat.pred f.g.val = true) :
    let keys := rangeRows (s.srcInt (lUnit f.x) f.a)
    ∃ t, exec (.drel f) s = .next t ∧ (∀ k ∈ keys, tget .ready t.me.rows k = .ready) ∧
      (∀ k, k ∉ keys → tget .ready t.me.rows k = tget .ready s.me.rows k) ∧
      (∀ a, (∀ k ∈ keys, a < (Home.drawer s.cx.core).at (k * 256) ∨ (Home.drawer s.cx.core).at (k * 256) + 256 ≤ a) →
        t.byte a = s.byte a) := by
  intro keys
  obtain ⟨s1, cmds, hrows, hexec⟩ : ∃ (s1 : State) (cmds : Core → List Cmd), RowsOnly keys s s1 ∧ exec (.drel f) s = .next ((s1.onCore s1.cx.core fun k =>
      { k with cmds := cmds k, rows := k.rows.filter fun p => !keys.contains p.1 }).busy) := by
    refine ⟨_, _, ?_, show execDrel f s = _ from State.guarded_on s f.g _ hp⟩
    refine RowsOnly.foldl (fun s k hk => ?_) keys (fun _ h => h) s
    split
    · exact .refl keys s
    · exact .releaseRow s hk
  have hme (k : Nat) : tget .ready (((s1.onCore s1.cx.core fun k =>
      { k with cmds := cmds k, rows := k.rows.filter fun p => !keys.contains p.1 }).busy).me.rows) k =
      if !keys.contains k then tget .ready s.me.rows k else .ready := by
    rw [State.busy_rows]
    show tget .ready ((s1.onCore s1.cx.core _).core s1.cx.core).rows k = _
    rw [State.onCore_self]
    refine (tget_filter_keys _ _ (fun k => !keys.contains k) k).trans ?_
    rw [State.core, hrows.cores, hrows.cx]
    rfl
  refine ⟨_, hexec, fun k hk => ?_, fun k hk => ?_, hrows.bytes⟩
  · rw [hme, List.contains_iff_mem.mpr hk]
    rfl
  · rw [hme, Bool.eq_false_iff.mpr (mt List.contains_iff_mem.mp hk)]
    rfl

/-! ### Loads that set out (02 R49) -/

theorem Unseen.foldl_fst {α β : Type} {f : State × β → α → State × β} (h : ∀ p a, Unseen p.1 (f p a).1) (l : List α) (p : State × β) :
    Unseen p.1 (l.foldl f p).1 := by
  induction l generalizing p with
  | nil => exact .refl _
  | cons a l ih => exact (h p a).trans (ih (f p a))

theorem Unseen.askCanal (s : State) (c tenant job : Nat) (b : LteBits) (addrs : List Nat) : Unseen s (s.askCanal c tenant job b addrs).1 := by
  unfold State.askCanal
  refine Unseen.foldl_fst (fun p r => ?_) _ (s, [])
  exact .of_cores rfl rfl rfl

theorem Unseen.askFlume (s : State) (c id job : Nat) (b : LteBits) (addrs : List Nat) : Unseen s (s.askFlume c id job b addrs).1 := by
  unfold State.askFlume
  refine Unseen.foldl_fst (fun p r => ?_) _ (s, [])
  exact .of_cores rfl rfl rfl

theorem Unseen.depart (s : State) (c job : Nat) (b : LteBits) (t : Trip) : Unseen s (s.depart c job b t).2 := by
  unfold State.depart
  dsimp only
  split
  · split
    · exact .askCanal ..
    · exact .of_cores rfl rfl rfl
  · split
    · split
      · exact .askFlume ..
      · exact .of_cores rfl rfl rfl
    · exact .refl s

/-- A load that sets out takes flight with its trip; nothing else of a core, and no byte, is touched. -/
theorem State.setOut_flies (s : State) (u : UnitId) (lat : Nat) (e : Effect) (latch : Bool) (gran : Option Nat) (b : LteBits) (t : Nat → Trip) :
    ∃ s' sel r, Unseen s s' ∧ s.setOut u lat e latch gran b t =
      s'.flyLoad u lat e latch gran (.inl { t s.nextPost with after := sel, named := namesCore b, route := r }) := by
  have hnew : Unseen s { s with nextPost := s.nextPost + 1 } := .of_cores rfl rfl rfl
  have hask := hnew.trans (.askSelector _ (State.myItem { s with nextPost := s.nextPost + 1 } 4) s.cx.core b s.stamp)
  unfold State.setOut
  dsimp only [State.newTrip]
  split
  · exact ⟨_, _, _, hask.trans (.depart ..), rfl⟩
  · exact ⟨_, _, _, hask, rfl⟩

/-- What takes flight after a step that no core sees. -/
theorem Unseen.flyLoad {s s' : State} (h : Unseen s s') (u : UnitId) (lat : Nat) (e : Effect) (t : Trip) :
    ∃ l, (s'.flyLoad u lat e true none (.inl t)).me.flight = s.me.flight ++ [l] ∧ l.due = s.me.idx + lat ∧ l.unit = u ∧ l.effect = e ∧
      l.travel = .away t ∧ (s'.flyLoad u lat e true none (.inl t)).mem = s.mem := by
  obtain ⟨tlb, hme⟩ := h.me
  have hflight : s'.me.flight = s.me.flight := by rw [hme]
  have hidx : s'.me.idx = s.me.idx := by rw [hme]
  refine ⟨_, (congrArg Core.flight (State.onCore_self ..)).trans (congrArg (· ++ [_]) hflight), ?_, rfl, rfl, rfl, h.mem⟩
  exact congrArg (· + lat) hidx

/-! ### Digests (14 R384) -/

theorem execDigq_acts {f : Lde} {s : State} (hp : s.seat.pred f.g.val = true)
    (hpure : s.seat.pure = false ∨ lteRead (s.seat.entry f.e.val) 20 = 1) :
    exec (.digq f) s = .next (
      let b := s.seat.entry f.e.val
      let w := { s.issuing with region := true }
      match s.regionSpots w .load f.e.val b with
      | .error x => s.raise x.cause x.tval
      | .ok xs =>
        let trip (id : Nat) : Trip :=
          ⟨id, spotBytes (regionUnit b) xs, [], .digest, none, [], .direct, s.seat.tenant, syncObject s.cx.core b, 3, 0, [], namesCore b⟩
        let lat := 800 + selectorHorizon s.cx.core b
        if lteSpace b = 7 then s.setOut .v lat (s.vfileEffect f.d) true none b trip
        else
          let (id, s1) := s.newTrip
          let (sel, s1) := s1.askSelector (s1.myItem 4) s.cx.core b s.stamp
          s1.flyLoad .v lat (s.vfileEffect f.d) true none
            (.inl { trip id with after := sel, route := .asking (.digest f.e.val b (s.halfOf w b) s.seat.ctx s.seat.sup) })) := by
  have hno : (s.seat.pure && lteRead (s.seat.entry f.e.val) 20 != 1) = false := by
    rcases hpure with h | h <;> simp [h]
  have hexec := show execDigq f s = _ from State.guarded_on s f.g _ hp
  refine hexec.trans (congrArg _ ?_)
  dsimp only
  rw [if_neg (by rw [hno]; exact Bool.false_ne_true)] <;> rfl

theorem execDigq_result {f : Lde} {s : State} (hp : s.seat.pred f.g.val = true)
    (hpure : s.seat.pure = false ∨ lteRead (s.seat.entry f.e.val) 20 = 1) {xs : List Spot}
    (hxs : s.regionSpots { s.issuing with region := true } .load f.e.val (s.seat.entry f.e.val) = .ok xs) :
    let b := s.seat.entry f.e.val
    ∃ t l trip, exec (.digq f) s = .next t ∧ t.mem = s.mem ∧ t.me.flight = s.me.flight ++ [l] ∧
      l.due = s.me.idx + (800 + selectorHorizon s.cx.core b) ∧ l.unit = .v ∧
      l.effect = s.vfileEffect f.d ∧ l.travel = .away trip ∧ trip.form = .digest ∧ trip.addrs = spotBytes (regionUnit b) xs ∧
      (lteSpace b ≠ 7 → trip.route = .asking (.digest f.e.val b (s.halfOf { s.issuing with region := true } b) s.seat.ctx s.seat.sup)) := by
  intro b
  have hexec := execDigq_acts hp hpure
  simp only [hxs] at hexec
  by_cases h7 : lteSpace b = 7
  · rw [if_pos h7] at hexec
    obtain ⟨s', sel, r, hlook, hset⟩ := s.setOut_flies .v (800 + selectorHorizon s.cx.core b) (s.vfileEffect f.d) true none b fun id =>
      ⟨id, spotBytes (regionUnit b) xs, [], .digest, none, [], .direct, s.seat.tenant, syncObject s.cx.core b, 3, 0, [], namesCore b⟩
    rw [hset] at hexec
    obtain ⟨l, hfl, hdue, hu, he, ht, hmem⟩ := hlook.flyLoad .v (800 + selectorHorizon s.cx.core b) (s.vfileEffect f.d) _
    exact ⟨_, l, _, hexec, hmem, hfl, hdue, hu, he, ht, rfl, rfl, fun h => absurd h7 h⟩
  · rw [if_neg h7] at hexec
    have hnew : Unseen s { s with nextPost := s.nextPost + 1 } := .of_cores rfl rfl rfl
    have hask := hnew.trans (.askSelector _ (State.myItem { s with nextPost := s.nextPost + 1 } 4) s.cx.core b s.stamp)
    obtain ⟨l, hfl, hdue, hu, he, ht, hmem⟩ := hask.flyLoad .v (800 + selectorHorizon s.cx.core b) (s.vfileEffect f.d) _
    exact ⟨_, l, _, hexec, hmem, hfl, hdue, hu, he, ht, rfl, rfl, fun _ => rfl⟩

theorem State.answerTo_digest {s : State} {c e : Nat} {b : LteBits} {half sup : Bool} {ctx : Nat} {l : Landing} {t : Trip} {xs : List Spot}
    (hspace : lteSpace b ≠ 6) (h : s.regionIn (l.asker t c ctx sup) .load e b half = .ok xs) :
    s.answerTo c l t (.digest e b half ctx sup) = some (BitVec.ofNat 4096 (leNat (sha256 (s.regionBytes b xs))), s) := by
  have hdig : s.digestIn (l.asker t c ctx sup) e b half = .ok (sha256 (s.regionBytes b xs), s) := by
    simp only [State.digestIn, h]
    exact if_pos hspace
  simp only [State.answerTo, hdig]

/-- Settles O48. -/
theorem engineResults : Obligations.EngineResults := by
  unfold Obligations.EngineResults
  refine ⟨fun f s hp => ?copy, fun f s hp => ?cpyw, execDrel_result, fun f s hp => ?digq, fun s c e b half sup ctx l t xs =>
    State.answerTo_digest⟩
  case copy =>
    intro u own ords task copy claim
    have hslot (kind : CmdKind) {p : Nat} {t : State} (h : copy kind = .ok (p, t)) :
        s.copySlot f kind = (if s.engineFull s.cx.core then t else t.countWrite).result u f.d 4 (BitVec.ofNat 64 p) := by
      have hmatch : s.copySlot f kind = match copy kind with
        | .error x => s.raise x.cause x.tval
        | .ok (p, t) => (if s.engineFull s.cx.core then t else t.countWrite).result u f.d 4 (BitVec.ofNat 64 p) := rfl
      rw [hmatch, h]
    have hclaim : exec (.dclm f) s = .next (match claim with
        | .error x => s.raise x.cause x.tval
        | .ok (p, t) => (if s.engineFull s.cx.core then t else t.busy).result u f.d 4 (BitVec.ofNat 64 p)) :=
      show execDclm f s = _ from State.guarded_on s f.g _ hp
    refine ⟨fun p t h => ?_, fun x h => ?_, fun p t hpure h => ?_, fun p t h => ?_, fun x h => ?_, fun kind p t h => ⟨fun hfull => ?_, fun hfull => ?_⟩,
      fun p t h hfull => ?_⟩
    · exact (show execCpy f s = _ from State.guarded_on s f.g _ hp).trans (congrArg _ (hslot _ h))
    · refine (show execCpy f s = _ from State.guarded_on s f.g _ hp).trans (congrArg _ ?_)
      have hmatch : s.copySlot f .cpy = match copy .cpy with
        | .error x => s.raise x.cause x.tval
        | .ok (p, t) => (if s.engineFull s.cx.core then t else t.countWrite).result u f.d 4 (BitVec.ofNat 64 p) := rfl
      rw [hmatch, h]
    · exact (show execCpya f s = _ from State.effectful_plain s f.g _ hp hpure).trans (congrArg _ (hslot _ h))
    · rw [hclaim, h]
    · rw [hclaim, h]
    · exact State.acceptCopy_full hfull h
    · obtain ⟨s1, k, ht, hlook, hkind, hprom, hc, hm, hf, hsrc, hdst, hlate⟩ := State.acceptCopy_shape hfull h
      obtain ⟨tlb, hme⟩ := hlook.me
      exact ⟨s1, k, ht, hlook.mem, by rw [hme], by rw [hme], by rw [hme], hlook.seatAt, hkind, hprom, hc, hm, hf, hsrc, hdst, hlate⟩
    · obtain ⟨k, hcmds, hprom, hc, hkind, hrows, hmem, hcx, _⟩ := State.acceptClaim_shape hfull h
      refine ⟨k, ?_, hprom, hc, hkind, fun i hi => ?_, hmem⟩
      · rw [State.me, hcx]
        exact hcmds
      · rw [State.me, hcx]
        exact hrows i hi
  case cpyw =>
    intro p due
    have hexec : exec (.cpyw f) s = .next (s.result (lUnit f.x) f.d 4 (BitVec.ofNat 64 (cmdStatus due))) :=
      show execCpyw f s = _ from State.guarded_on s f.g _ hp
    rw [hexec]
    unfold cmdStatus
    split
    · rfl
    · split <;> rfl
  case digq =>
    intro b w due hpure
    refine ⟨fun x hx => (execDigq_acts hp hpure).trans (congrArg _ ?_), fun xs hxs => execDigq_result hp hpure hxs⟩
    dsimp only
    rw [show s.regionSpots .. = _ from hx]

end Sys2Proof.Machine

/-! ### Results of TSPN, SNAP, SNAPW, TLBI, HGSET, HGGET and MANR (15 R391-R399, 14 R385) -/

namespace Sys2Proof.Machine

section
variable {s : State}

/-- The template that a spawn names. -/
def State.spawnTemplate (s : State) (a : Word) : Option Nat :=
  ((s.launch (s.recSlot (dieOf s.cx.core) s.seat.record)).spawned.find? fun p => p.1 == field a 63 61).map (·.2)

theorem execTspn_made {f : Bab} (hp : s.seat.pred f.g.val = true) (hpure : s.seat.pure = false) {l rec slot : Nat}
    (hl : s.spawnTemplate (s.srcInt .b f.a) = some l) (hd : field (s.srcInt .b f.a) 12 0 / 512 = dieOf s.cx.core)
    (hin : s.inField l (field (s.srcInt .b f.a) 12 0) = true) (hrec : s.freeRecord (dieOf s.cx.core) 65536 0 = some rec)
    (hslot : s.freeSave l = some slot) :
    let d := dieOf s.cx.core
    let t := s.createRecord d rec l (field (s.srcInt .b f.a) 12 0) (field (s.srcInt .b f.b) 15 0) slot 0
    exec (.tspn f) s = .next (({ t with spawned := t.spawned ++ [(d, rec, s.earlier s.cx.core s.cx.seat 1)] } : State).busy.fly .b 2
      .nothing (some ((BitVec.ofNat 64 (d * 65536 + rec)).setWidth 4096))) := by
  have hexec := show execTspn f s = _ from State.effectful_plain s f.g _ hp hpure
  simp only [State.spawnTemplate] at hl
  simp only [hl, hd, hin, hrec, hslot, ne_eq, not_true_eq_false, Bool.not_true, Bool.false_eq_true, or_self, if_false] at hexec
  exact hexec

/-- A spawn that finds no template, or no place for its record, gives all ones. -/
theorem execTspn_none {f : Bab} (hp : s.seat.pred f.g.val = true) (hpure : s.seat.pure = false)
    (h : s.spawnTemplate (s.srcInt .b f.a) = none ∨ ∃ l, s.spawnTemplate (s.srcInt .b f.a) = some l ∧
      (field (s.srcInt .b f.a) 12 0 / 512 ≠ dieOf s.cx.core ∨ s.inField l (field (s.srcInt .b f.a) 12 0) = false ∨
        s.freeRecord (dieOf s.cx.core) 65536 0 = none ∨ s.freeSave l = none)) :
    exec (.tspn f) s = .next (s.fly .b 2 .nothing (some ((BitVec.allOnes 64).setWidth 4096))) := by
  have hexec := show execTspn f s = _ from State.effectful_plain s f.g _ hp hpure
  simp only [State.spawnTemplate] at h
  rcases h with hl | ⟨l, hl, h⟩
  · simp only [hl] at hexec
    exact hexec
  · simp only [hl] at hexec
    by_cases hout : field (s.srcInt .b f.a) 12 0 / 512 ≠ dieOf s.cx.core ∨ (!s.inField l (field (s.srcInt .b f.a) 12 0)) = true
    · rw [if_pos hout] at hexec
      exact hexec
    · rw [if_neg hout] at hexec
      obtain ⟨hd, hin⟩ := not_or.mp hout
      rcases h with h | h | h | h
      · exact absurd h hd
      · exact absurd (by rw [h]; rfl) hin
      · simp only [h] at hexec
        exact hexec
      · cases hrec : s.freeRecord (dieOf s.cx.core) 65536 0 <;> simp only [hrec, h] at hexec <;> exact hexec

/-- SNAP: its three faults, its silence while an epoch is under way, and the epoch it begins. -/
theorem execSnap_acts {f : Ba} (hp : s.seat.pred f.g.val = true) (hpure : s.seat.pure = false) :
    exec (.snap f) s = .next (
      let e := (s.srcInt .b f.a).toNat
      let now := s.ctxEpoch (dieOf s.cx.core) s.seat.ctx
      let j := s.job s.seat.job
      if !s.mayShoot then s.snapFault 1 now
      else if j.committed ≠ some now then s.snapFault 2 now
      else if e ≠ (now + 1) % 2 ^ 64 then s.snapFault 3 now
      else if j.phase ≠ .idle then s
      else s.onJob s.seat.job fun j =>
        { j with phase := .saving, epoch := e, asked := [], armed := [], received := [], shot := j.limit,
                 status := field (s.launchDw (s.recSlot (dieOf s.cx.core) s.seat.record) 13) 56 32, abandoned := false }) :=
  show execSnap f s = _ from State.effectful_plain s f.g _ hp hpure

theorem execSnapw_acts {f : Ba} (hp : s.seat.pred f.g.val = true) (hpure : s.seat.pure = false) :
    exec (.snapw f) s = .next (
      if !s.mayShoot then s.snapFault 1 (s.ctxEpoch (dieOf s.cx.core) s.seat.ctx)
      else s.onJob s.seat.job fun j => { j with limit := max 4096 ((s.srcInt .b f.a).toNat % 2 ^ 32) }) :=
  show execSnapw f s = _ from State.effectful_plain s f.g _ hp hpure

/-- A step of one job alone is told by what the job becomes. -/
theorem State.onJob_const (s : State) (j : Nat) (f : Job → Job) : s.onJob j f = s.onJob j fun _ => (s.onJob j f).job j := by
  rw [State.onJob_self]
  rfl

theorem execHgset_acts {f : Lab} {key dw : Nat} (hp : s.seat.pred f.g.val = true) (hsup : s.seat.sup = true)
    (ha : gateAddress (s.srcInt (lUnit f.x) f.a) = some (key, dw)) :
    let v := s.srcInt (lUnit f.x) f.b
    let b := gateStored (tget 0 s.flume.staged (4 * key + 3) ++ tget 0 s.flume.staged (4 * key + 2) ++ tget 0 s.flume.staged (4 * key + 1) ++ v)
    let t := s.busy
    exec (.hgset f) s = .next (
      if dw ≠ 0 then { t with flume := { t.flume with staged := tset 0 t.flume.staged (4 * key + dw) v } }
      else if t.gateRefused key b (t.streamFmt (gateStream b)) (t.streamTenant (gateStream b) t.seat.tenant) then
        t.logMgmt 5 7 0 key t.seat.tenant
      else t.writeGate key b) := by
  have hexec := show execHgset f s = _ from State.privileged_sup s f.g _ hp hsup
  simp only [ha] at hexec
  exact hexec

end

theorem State.ask_flies (s : State) (u : UnitId) (e : Effect) (q : Query) :
    ∃ id, s.ask u e q = ({ s with nextPost := s.nextPost + 1 } : State).flyLoad u 800 e true none
      (.inl ⟨id, [], [], .raw, none, [], .asking q, s.seat.tenant, none, 3, 0, [], false⟩) := ⟨s.nextPost, rfl⟩

/-- Settles O49. -/
theorem systemSlotResults : Obligations.SystemSlotResults := by
  unfold Obligations.SystemSlotResults
  refine ⟨fun f s hp hpure => ?tspn, fun f s hp hpure => ?snap, fun f s hp hsup => ?tlbi, fun f s key dw hp hsup ha => ?hgset,
    fun f s hp hsup ha => ?hgnone, fun f s hp hsup => ?ask, fun s c l t => ?answers⟩
  case tspn =>
    intro a d coord dep k
    exact ⟨fun l rec slot hl hd hin hrec hslot => execTspn_made hp hpure hl hd hin hrec hslot, execTspn_none hp hpure⟩
  case snap =>
    intro j now can fault
    have hsnap := execSnap_acts hp hpure
    have hsnapw := execSnapw_acts hp hpure
    have hmay : s.mayShoot = can := rfl
    have hnot (h : can = true) : ¬ (!s.mayShoot) = true := by rw [hmay, h]; exact Bool.false_ne_true
    have hforbid (h : can = false) : (!s.mayShoot) = true := by rw [hmay, h]; rfl
    refine ⟨fun hcan hcom he hidle => ?_, fun hcan hcom he hphase => ?_, fun hcan => ⟨?_, ?_⟩, fun hcan hcom => ?_,
      fun hcan hcom he => ?_, fun hcan => ?_⟩
    · have hdone := hsnap.trans (congrArg _ ((if_neg (hnot hcan)).trans ((if_neg (not_not_intro hcom)).trans
        ((if_neg (not_not_intro he)).trans (if_neg (not_not_intro hidle))))))
      refine ⟨_, hdone, State.onJob_const .., ?_⟩
      rw [State.onJob_self]
      exact ⟨rfl, he, hcom⟩
    · refine hsnap.trans (congrArg _ ?_)
      exact (if_neg (hnot hcan)).trans ((if_neg (not_not_intro hcom)).trans ((if_neg (not_not_intro he)).trans (if_pos hphase)))
    · exact hsnap.trans (congrArg _ (if_pos (hforbid hcan)))
    · exact hsnapw.trans (congrArg _ (if_pos (hforbid hcan)))
    · exact hsnap.trans (congrArg _ ((if_neg (hnot hcan)).trans (if_pos hcom)))
    · exact hsnap.trans (congrArg _ ((if_neg (hnot hcan)).trans ((if_neg (not_not_intro hcom)).trans (if_pos he))))
    · exact hsnapw.trans (congrArg _ (if_neg (hnot hcan)))
  case tlbi => exact show execTlbi f s = _ from State.privileged_sup s f.g _ hp hsup
  case hgset =>
    intro v b t
    have hexec := execHgset_acts hp hsup ha
    refine ⟨fun hdw => hexec.trans (congrArg _ (if_pos hdw)), fun hdw hok => hexec.trans (congrArg _ ?_),
      fun hdw href => hexec.trans (congrArg _ ?_)⟩
    · exact (if_neg (not_not_intro hdw)).trans (if_neg (by rw [show t.gateRefused .. = _ from hok]; exact Bool.false_ne_true))
    · exact (if_neg (not_not_intro hdw)).trans (if_pos href)
  case hgnone =>
    have hexec := show execHgset f s = _ from State.privileged_sup s f.g _ hp hsup
    simp only [ha] at hexec
    exact hexec
  case ask =>
    exact ⟨fun q => s.ask_flies .., show execHgget f s = _ from State.privileged_sup s f.g _ hp hsup,
      show execManr f s = _ from State.privileged_sup s f.g _ hp hsup⟩
  case answers =>
    refine ⟨fun a key dw ha => ?_, fun a ha => ?_, fun job off => rfl⟩
    · simp only [State.answerTo, State.gateWord, ha]
    · have hzero : BitVec.setWidth 4096 (0 : Word) = 0 := BitVec.setWidth_zero ..
      simp only [State.answerTo, State.gateWord, ha, hzero]

end Sys2Proof.Machine

/-! ### The side core that executes (16 R411, R413) -/

namespace Sys2Proof.Machine

theorem State.setSideAt_side (s : State) (c : Nat) (storer : Bool) (x : Side) : ((s.setSideAt c storer x).core c).side storer = x := by
  rw [State.setSideAt, State.onCore_self]
  cases storer <;> rfl

theorem State.onSide_side (s : State) (f : Side → Side) : (s.onSide f).side = f s.side := s.setSideAt_side _ _ _

/-- A step of a core that leaves its side cores leaves the one that executes. -/
theorem State.onCore_side {s : State} {c : Nat} {f : Core → Core} (h : ∀ storer, (f (s.core c)).side storer = (s.core c).side storer) :
    (s.onCore c f).side = s.side := by
  show ((s.onCore c f).core s.cx.core).side s.cx.storer = (s.core s.cx.core).side s.cx.storer
  by_cases e : s.cx.core = c
  · rw [e, State.onCore_self, h]
  · rw [State.onCore_other _ _ _ _ e]

theorem State.onSeat_side (s : State) (c n : Nat) (f : Seat → Seat) : (s.onSeat c n f).side = s.side := State.onCore_side fun _ => rfl

theorem State.side_of_cores {s t : State} (hcx : t.cx = s.cx) (h : t.cores = s.cores) : t.side = s.side := by
  rw [State.side, State.me, State.core, h, hcx]
  rfl

theorem Unseen.side {s t : State} (h : Unseen s t) : t.side = s.side := by
  obtain ⟨tlb, hme⟩ := h.me
  rw [State.side, hme, h.cx]
  rfl

theorem Side.setReg_instret (x : Side) (r : Reg5) (v : Word) : (x.setReg r v).instret = x.instret := by
  unfold Side.setReg
  split <;> rfl

theorem Side.setReg_pc (x : Side) (r : Reg5) (v : Word) : (x.setReg r v).pc = x.pc := by
  unfold Side.setReg
  split <;> rfl

theorem Side.reg_setReg (x : Side) (rd r : Reg5) (v : Word) :
    (x.setReg rd v).reg r = if r = 0 then 0 else if r = rd then v else x.reg r := by
  by_cases hr : r = 0
  · rw [Side.reg, if_pos hr, if_pos hr]
  · rw [if_neg hr, Side.reg, if_neg hr, Side.setReg]
    by_cases hd : rd = 0
    · rw [if_pos hd, if_neg (by rw [hd]; exact hr), Side.reg, if_neg hr]
    · rw [if_neg hd]
      by_cases he : r = rd
      · rw [if_pos he, he]
        exact tget_tset_self ..
      · rw [if_neg he, Side.reg, if_neg hr]
        exact tget_tset_other _ _ _ _ _ fun h => he (Fin.ext h)

theorem Side.retire_setReg (x : Side) (rd : Reg5) (v pc : Word) :
    (x.setReg rd v).retire pc = { x.setReg rd v with pc := pc, instret := x.instret + 1, waiting := false, acquiring := none } := by
  rw [Side.retire, Side.setReg_instret]

/-- What the retiring of an instruction changes of the side core that executes. -/
structure Retires (s t : State) : Prop where
  pc : t.side.pc = s.side.pc + 4
  instret : t.side.instret = s.side.instret + 1
  waiting : t.side.waiting = false

theorem State.sideDone_retires {s t : State} (h : t.side = s.side) : Retires s t.sideDone := by
  have hside : t.sideDone.side = s.side.retire (s.side.pc + 4) := by rw [State.sideDone, State.onSide_side, h]
  exact ⟨congrArg Side.pc hside, congrArg Side.instret hside, congrArg Side.waiting hside⟩

theorem State.sideResult_retires {s t : State} (h : t.side = s.side) (d : Reg5) (v : Word) : Retires s (t.sideResult d v) := by
  have hside : (t.sideResult d v).side = (s.side.setReg d v).retire (s.side.pc + 4) := by rw [State.sideResult, State.onSide_side, h]
  refine ⟨congrArg Side.pc hside, (congrArg Side.instret hside).trans ?_, congrArg Side.waiting hside⟩
  show (s.side.setReg d v).instret + 1 = _
  rw [Side.setReg_instret]

end Sys2Proof.Machine

/-! ### RV64 instructions (16 R413) -/

namespace Sys2Proof.Machine

section
variable {s : State} {i : RvInstr}

theorem exec_rv_go {rd : Reg5} {v pc : Word} (h : s.side.rv s.cx.word (s.sideData s.cx.core s.cx.storer) i = .go rd v pc) :
    exec (.sideCoreRv64Instruction i) s = .next (s.onSide fun x =>
      { x.setReg rd v with pc := pc, instret := x.instret + 1, waiting := false, acquiring := none }) := by
  have hexec : exec (.sideCoreRv64Instruction i) s = .next (s.onSide fun x => (x.setReg rd v).retire pc) := by
    show execSideCoreRv64Instruction i s = _
    simp only [execSideCoreRv64Instruction, h]
  rw [hexec, State.onSide, Side.retire_setReg]
  rfl

theorem exec_rv_stop {cause val : Nat} (h : s.side.rv s.cx.word (s.sideData s.cx.core s.cx.storer) i = .stop cause val) :
    exec (.sideCoreRv64Instruction i) s = .next (s.stopSide cause val) := by
  show execSideCoreRv64Instruction i s = _
  simp only [execSideCoreRv64Instruction, h]

theorem exec_rv_put {off size v : Nat} (h : s.side.rv s.cx.word (s.sideData s.cx.core s.cx.storer) i = .put off size v) :
    exec (.sideCoreRv64Instruction i) s = .next ((s.storeNat ((Home.data s.cx.core s.cx.storer).at off) size v).sideDone) := by
  show execSideCoreRv64Instruction i s = _
  simp only [execSideCoreRv64Instruction, h]
  rfl

theorem exec_rv_seat {rd : Reg5} {v : Word} {j : Nat} (h : s.side.rv s.cx.word (s.sideData s.cx.core s.cx.storer) i = .seat rd v j) :
    exec (.sideCoreRv64Instruction i) s = .next (s.onSide fun x => ({ x.setReg rd v with jseat := j }).retire (x.pc + 4)) := by
  show execSideCoreRv64Instruction i s = _
  simp only [execSideCoreRv64Instruction, h]

end

/-- A jump goes on at an aligned target and stops the side core at another. -/
theorem rvJump_aligned (rd : Reg5) (link : Word) {t : Word} (h : t.toNat % 4 = 0) : rvJump rd link t = .go rd link t := if_neg (not_not_intro h)

theorem rvJump_misaligned (rd : Reg5) (link : Word) {t : Word} (h : t.toNat % 4 ≠ 0) : rvJump rd link t = .stop 5 t.toNat := if_pos h

theorem dataOffset_inside {a size : Nat} (hlo : 0x10000 ≤ a) (hhi : a + size ≤ 0x14000) : dataOffset a size = some (a - 0x10000) := if_pos ⟨hlo, hhi⟩

theorem dataOffset_outside {a size : Nat} (h : a < 0x10000 ∨ 0x14000 < a + size) : dataOffset a size = none := if_neg (by omega)

section
variable (x : Side) (word : Nat) (data : Nat → Nat → Nat)

theorem rv_branch_taken {k : RvBranch} {rs1 rs2 : Reg5} {off : BitVec 12} (h : rvTaken k (x.reg rs1) (x.reg rs2) = true) :
    x.rv word data (.branch k rs1 rs2 off) = rvJump 0 0 (x.pc + off.signExtend 64 * 2) := if_pos h

theorem rv_branch_not {k : RvBranch} {rs1 rs2 : Reg5} {off : BitVec 12} (h : rvTaken k (x.reg rs1) (x.reg rs2) = false) :
    x.rv word data (.branch k rs1 rs2 off) = .go 0 0 (x.pc + 4) := if_neg (by rw [h]; exact Bool.false_ne_true)

variable {k : RvLoad} {ks : RvStore} {rd rs1 rs2 : Reg5} {imm : BitVec 12}

theorem rv_load_misaligned (h : (x.reg rs1 + imm.signExtend 64).toNat % (rvLoadForm k).1 ≠ 0) :
    x.rv word data (.load k rd rs1 imm) = .stop 5 (x.reg rs1 + imm.signExtend 64).toNat := if_pos h

theorem rv_load_aligned (h : (x.reg rs1 + imm.signExtend 64).toNat % (rvLoadForm k).1 = 0) :
    x.rv word data (.load k rd rs1 imm) = match dataOffset (x.reg rs1 + imm.signExtend 64).toNat (rvLoadForm k).1 with
      | none => .stop 6 (x.reg rs1 + imm.signExtend 64).toNat
      | some off => .go rd (extend (rvLoadForm k).1 (rvLoadForm k).2 (data off (rvLoadForm k).1)) (x.pc + 4) :=
  if_neg (not_not_intro h)

theorem rv_store_misaligned (h : (x.reg rs1 + imm.signExtend 64).toNat % rvStoreSize ks ≠ 0) :
    x.rv word data (.store ks rs1 rs2 imm) = .stop 5 (x.reg rs1 + imm.signExtend 64).toNat := if_pos h

theorem rv_store_aligned (h : (x.reg rs1 + imm.signExtend 64).toNat % rvStoreSize ks = 0) :
    x.rv word data (.store ks rs1 rs2 imm) = match dataOffset (x.reg rs1 + imm.signExtend 64).toNat (rvStoreSize ks) with
      | none => .stop 6 (x.reg rs1 + imm.signExtend 64).toNat
      | some off => .put off (rvStoreSize ks) (x.reg rs2).toNat :=
  if_neg (not_not_intro h)

end

end Sys2Proof.Machine

/-! ### Xjaind instructions (16 R415-R420) -/

namespace Sys2Proof.Machine

section
variable {s : State}

theorem Seat.queueShut_iff (st : Seat) : st.queueShut = true ↔ st.st = .free ∨ st.st = .loading ∨ st.leaving = true := by
  simp only [Seat.queueShut, Bool.or_eq_true, beq_iff_eq, or_assoc]

theorem exec_jqPush_goes {r : Reg5} (hopen : ¬s.jseat.queueShut = true) (hroom : s.jseat.inq.length < 16) :
    exec (.jqPush r) s = .next (s.onJseat fun st => { st with inq := st.inq ++ [s.side.reg r] }).sideDone :=
  if_neg (by simp [hopen, hroom])

theorem exec_jqPush_waits {r : Reg5} (h : s.jseat.queueShut = true ∨ 16 ≤ s.jseat.inq.length) : exec (.jqPush r) s = .next s.sideWait :=
  if_pos (by simpa using h)

theorem exec_jqPull_goes {d : Reg5} {v : Word} {rest : List Word} (hq : s.jseat.outq = v :: rest) (hopen : ¬s.jseat.queueShut = true) :
    exec (.jqPull d) s = .next ((s.onJseat fun st => { st with outq := rest }).sideResult d v) := by
  show execJqPull d s = _
  simp only [execJqPull, hq]
  exact if_neg hopen

theorem exec_jqPull_waits {d : Reg5} (h : s.jseat.outq = [] ∨ s.jseat.queueShut = true) : exec (.jqPull d) s = .next s.sideWait := by
  show execJqPull d s = _
  cases hq : s.jseat.outq with
  | nil => simp only [execJqPull, hq]
  | cons v rest =>
    simp only [execJqPull, hq]
    exact if_pos (h.resolve_left (by rw [hq]; exact List.cons_ne_nil v rest))

theorem exec_jCpy_ok {d a b : Reg5} {p : Nat} {t : State}
    (h : s.acceptCopy s.sideIssuing s.side.jseat s.cx.issuer .cpy (s.side.reg a) (s.side.reg b) s.jseat.job 0 none [] [] = .ok (p, t)) :
    exec (.jCpy d a b) s = .next (t.sideResult d (BitVec.ofNat 64 p)) := by
  show execJCpy d a b s = _
  simp only [execJCpy, h]

theorem exec_jCpy_fails {d a b : Reg5} {f : Fail}
    (h : s.acceptCopy s.sideIssuing s.side.jseat s.cx.issuer .cpy (s.side.reg a) (s.side.reg b) s.jseat.job 0 none [] [] = .error f) :
    exec (.jCpy d a b) s = .next (s.sideFail f) := by
  show execJCpy d a b s = _
  simp only [execJCpy, h]

theorem exec_jDclm_ok {d a b : Reg5} {p : Nat} {t : State}
    (h : s.acceptClaim s.sideIssuing s.side.jseat s.cx.issuer (s.side.reg a) (s.side.reg b) s.jseat.job none [] [] = .ok (p, t)) :
    exec (.jDclm d a b) s = .next (t.sideResult d (BitVec.ofNat 64 p)) := by
  show execJDclm d a b s = _
  simp only [execJDclm, h]

theorem exec_jDclm_fails {d a b : Reg5} {f : Fail}
    (h : s.acceptClaim s.sideIssuing s.side.jseat s.cx.issuer (s.side.reg a) (s.side.reg b) s.jseat.job none [] [] = .error f) :
    exec (.jDclm d a b) s = .next (s.sideFail f) := by
  show execJDclm d a b s = _
  simp only [execJDclm, h]

/-- The commands of the executing side core due by a promise. -/
def State.sideDue (s : State) (p : Nat) : List Cmd := s.me.cmds.filter fun k => k.issuer == s.cx.issuer && k.promise ≤ p

theorem exec_jWtc_waits {d a : Reg5} (h : s.cyc < (s.side.reg a).toNat) : exec (.jWtc d a) s = .next s.sideWait := if_pos h

theorem exec_jWtc_gives {d a : Reg5} (h : (s.side.reg a).toNat ≤ s.cyc) :
    exec (.jWtc d a) s = .next (if cmdStatus (s.sideDue (s.side.reg a).toNat) = 0 then
      (s.sideResult d (BitVec.ofNat 64 (cmdStatus (s.sideDue (s.side.reg a).toNat)))).onSide
        fun x => { x with seen := x.seen ++ (s.sideDue (s.side.reg a).toNat).map (·.id) }
      else s.sideResult d (BitVec.ofNat 64 (cmdStatus (s.sideDue (s.side.reg a).toNat)))) := if_neg (Nat.not_lt.mpr h)

theorem exec_jLte (d a : Reg5) : exec (.jLte d a) s = .next (s.sideResult d (if fieldNamed (field (s.side.reg a) 13 8) then
    ltGet (s.jseat.entry (field (s.side.reg a) 4 0)) (field (s.side.reg a) 13 8)
    else Config.unnamedField (field (s.side.reg a) 13 8) (s.jseat.entry (field (s.side.reg a) 4 0)))) := rfl

theorem exec_jLteW_goes {a v : Reg5} (hcode : field (s.side.reg a) 13 8 < 13)
    (hlock : lteRead (s.jseat.entry (field (s.side.reg a) 4 0)) 17 = 0) :
    exec (.jLteW a v) s = .next (s.onCore s.cx.core fun k => { k with
      lteDue := k.lteDue ++ [⟨s.side.jseat, field (s.side.reg a) 4 0, field (s.side.reg a) 13 8, (s.side.reg v).toNat, false⟩] }).sideDone :=
  if_neg (by simp [lteUserField, lteLocked, hcode, hlock])

theorem exec_jLteW_fails {a v : Reg5} (h : 13 ≤ field (s.side.reg a) 13 8 ∨ lteRead (s.jseat.entry (field (s.side.reg a) 4 0)) 17 = 1) :
    exec (.jLteW a v) s = .next (s.stopSide 7 (field (s.side.reg a) 4 0 % 32 * 256 + 7)) := by
  have hexec : exec (.jLteW a v) s = .next (s.stopSide 7 (sideVal 0 (field (s.side.reg a) 4 0) 7)) :=
    if_pos (by simpa [lteUserField, lteLocked] using h)
  rw [hexec, sideVal]
  simp

theorem exec_jRelease_ok {e sc : Reg5} :
    (s.bindCheck s.sideIssuing e.val (s.jseat.entry e.val) true = none → exec (.jPub e sc) s =
      .next (s.release (s.sideItem 4) s.cx.core (s.jseat.entry e.val) (some (lteRead (s.jseat.entry e.val) 18)) []).sideDone) ∧
    (s.bindCheck s.sideIssuing e.val (s.jseat.entry e.val) false = none → exec (.jRel e sc) s =
      .next (s.release (s.sideItem 4) s.cx.core (s.jseat.entry e.val) none []).sideDone) := by
  refine ⟨fun h => ?_, fun h => ?_⟩
  · show Host.Outcome.next (s.sideRelease e.val true) = _
    simp only [State.sideRelease, h]
    rfl
  · show Host.Outcome.next (s.sideRelease e.val false) = _
    simp only [State.sideRelease, h]
    rfl

theorem exec_jRelease_fails {e sc : Reg5} {f : Fail} :
    (s.bindCheck s.sideIssuing e.val (s.jseat.entry e.val) true = some f → exec (.jPub e sc) s = .next (s.sideFail f)) ∧
    (s.bindCheck s.sideIssuing e.val (s.jseat.entry e.val) false = some f → exec (.jRel e sc) s = .next (s.sideFail f)) := by
  refine ⟨fun h => ?_, fun h => ?_⟩
  · show Host.Outcome.next (s.sideRelease e.val true) = _
    simp only [State.sideRelease, h]
  · show Host.Outcome.next (s.sideRelease e.val false) = _
    simp only [State.sideRelease, h]

theorem exec_jAcq_asked {e sc : Reg5} {num : Nat} (h : s.side.acquiring = some num) :
    exec (.jAcq e sc) s = .next (if s.canal.requests.any fun r => r.num == num then s.sideWait else s.sideDone) := by
  show execJAcq e sc s = _
  simp only [execJAcq, h]

theorem exec_jAcq_fails {e sc : Reg5} {f : Fail} (h : s.side.acquiring = none)
    (hf : s.bindCheck s.sideIssuing e.val (s.jseat.entry e.val) false = some f) : exec (.jAcq e sc) s = .next (s.sideFail f) := by
  show execJAcq e sc s = _
  simp only [execJAcq, h, hf]

/-- Writes of the executing side core under way at an object. -/
def State.sideWritesAt (s : State) (o : Nat) : Bool :=
  s.posted.any fun p => p.agent == .side s.cx.core s.cx.storer && meetsAny p.kind.addrs ((List.range 16).map (o + ·))

theorem exec_jAcq_ok {e sc : Reg5} {o : Nat} (h : s.side.acquiring = none)
    (hf : s.bindCheck s.sideIssuing e.val (s.jseat.entry e.val) false = none) (ho : syncObject s.cx.core (s.jseat.entry e.val) = some o) :
    exec (.jAcq e sc) s =
      if 2 ^ 100 ≤ o then .next ((s.askAcquire s.cx.core s.coreTenant s.jseat.job o (.side s.cx.storer)).onSide fun y =>
        { y with waiting := true, acquiring := some s.nextPost })
      else if s.sideWritesAt o then .next s.sideWait else .next s.sideDone := by
  show execJAcq e sc s = _
  simp only [execJAcq, h, hf, ho, farObject, Option.getD_some, decide_eq_true_eq]
  rfl

theorem exec_jSbeq_long {e ctl dat : Reg5} (h : 8 < field (s.side.reg ctl) 7 0 + 1) :
    exec (.jSbeq e ctl dat) s = .next (s.stopSide 7 (sideVal 0 e.val (Config.sideKind s.nextPost).toNat)) := if_pos h

/-- j.sbeq of at most eight bytes whose access forms and translates. -/
theorem exec_jSbeq_ok {e ctl dat : Reg5} {fm : Formed} {xs : List Spot} (hlen : field (s.side.reg ctl) 7 0 + 1 ≤ 8)
    (hfm : s.form { s.sideIssuing with bad := !(lteSpace (s.jseat.entry e.val) == 4 || lteSpace (s.jseat.entry e.val) == 5) ||
      (field (s.side.reg ctl) 7 0 + 1) % lteSize (s.jseat.entry e.val) != 0 } .store e.val 0 (s.jseat.entry e.val)
      [field (s.side.reg ctl) 47 32, field (s.side.reg ctl) 63 48, 0, 0]
      (max 1 ((field (s.side.reg ctl) 7 0 + 1) / lteSize (s.jseat.entry e.val))) = .ok fm)
    (hxs : s.spots { s.sideIssuing with bad := !(lteSpace (s.jseat.entry e.val) == 4 || lteSpace (s.jseat.entry e.val) == 5) ||
      (field (s.side.reg ctl) 7 0 + 1) % lteSize (s.jseat.entry e.val) != 0 } .store fm [0] = .ok xs) :
    let b := s.jseat.entry e.val
    let c := s.cx.core
    let k := s.side.reg ctl
    let sel := s.askSelector (s.sideItem 4) c b s.sideIssuing.stamp
    let item := { sel.2.sideItem (dieReach b) with bound := syncObject c b, after := sel.1, named := namesCore b }
    let bytes := sbeqBytes c b (fm.offs.headD 0) (leBytes (field k 7 0 + 1) (s.side.reg dat).toNat)
    exec (.jSbeq e ctl dat) s =
      if overFlume c b then .next (sel.2.sideMessages item b bytes (field k 15 13 * 32 + field k 12 8) sel.1.isEmpty).sideDone
      else .next ((sel.2.post { item with kind := .write bytes none, reach := accessReach c b xs }).post { item with
        kind := .flag (lteCore b (if lteSpace b = 4 then dieOf c else lteDie b)) (field k 15 13) (field k 12 8) false,
        after := [sel.2.nextPost] }).sideDone := by
  intro b c k sel item bytes
  show execJSbeq e ctl dat s = _
  simp only [execJSbeq, Nat.not_lt.mpr hlen, hfm, hxs, if_false]
  rfl

theorem exec_scfltWrite {c : Nat} {storer : Bool} {pc : Word} (hl : ((s.core c).side storer).loaded = true)
    (hc : field ((s.core c).side storer).scflt 7 0 ≠ 0) :
    exec (.scfltWrite c storer pc) s = .next (s.setSideAt c storer
      { (s.core c).side storer with pc := pc, scflt := putField ((s.core c).side storer).scflt 7 0 0 }) :=
  if_pos (by simpa [hl, Side.cause] using hc)

theorem exec_sideCoreException {c : Nat} {storer : Bool} {cause val : Nat} (hr : ((s.core c).side storer).runs = true)
    (he : s.sideException c storer = some (cause, val)) :
    exec (.sideCoreException c storer) s = .next ((s.sideCount c storer).stopSideAt c storer cause val) := by
  show execSideCoreException c storer s = _
  simp only [execSideCoreException, hr, he, Bool.not_true, Bool.false_eq_true, if_false]

end

/-- Settles O52. -/
theorem sideXjaindResults : Obligations.SideXjaindResults := by
  unfold Obligations.SideXjaindResults
  intro s x st gives done waits shut
  have hshut : st.queueShut = true ↔ shut := st.queueShut_iff
  refine ⟨fun r => ⟨fun ho hr => ?_, fun h => ?_⟩, fun d => ⟨fun v rest hq ho => ?_, fun h => ?_⟩, fun d => rfl,
    fun d a b => ⟨fun p t => exec_jCpy_ok, fun p t => exec_jDclm_ok, fun f => exec_jCpy_fails, fun f => exec_jDclm_fails⟩,
    fun d a => ⟨exec_jWtc_waits, fun hp hs => ?_, fun hp hs => ?_⟩, fun d a => ⟨fun hn => ?_, _, exec_jLte d a⟩,
    fun a v => ⟨exec_jLteW_goes, exec_jLteW_fails⟩, fun a => rfl, fun d => rfl,
    fun e sc => ⟨exec_jRelease_ok.1, fun f => exec_jRelease_fails.1,
      fun f hf => ⟨exec_jRelease_fails.2 hf, fun ha => exec_jAcq_fails ha hf⟩, fun num hnum => ?_, fun hf => ⟨exec_jRelease_ok.2 hf, fun o ho ha => ?_⟩⟩,
    fun e ctl dat => ⟨fun hlong => ⟨_, exec_jSbeq_long hlong⟩, fun fm xs hlen hfm hxs => ⟨fun hf => ?_, fun hf => ?_⟩⟩,
    fun c storer pc => ⟨exec_scfltWrite, fun hr cause val => exec_sideCoreException hr⟩⟩
  · exact exec_jqPush_goes (mt hshut.mp ho) hr
  · exact exec_jqPush_waits (h.imp_left hshut.mpr)
  · exact exec_jqPull_goes hq (mt hshut.mp ho)
  · exact exec_jqPull_waits (h.imp_right hshut.mpr)
  · exact (exec_jWtc_gives hp).trans (congrArg _ (if_neg hs))
  · refine (exec_jWtc_gives hp).trans (congrArg _ ((if_pos hs).trans ?_))
    rw [show cmdStatus (s.sideDue (s.side.reg a).toNat) = 0 from hs]
    rfl
  · exact (exec_jLte d a).trans (congrArg (fun v => Host.Outcome.next (s.sideResult d v)) (if_pos hn))
  · rw [exec_jAcq_asked hnum]
    split <;> rfl
  · have hexec := exec_jAcq_ok (sc := sc) ha hf ho
    intro own
    have hown : s.sideWritesAt o = own := rfl
    refine ⟨fun hnear hno => hexec.trans ((if_neg (Nat.not_le.mpr hnear)).trans ?_),
      fun hnear hyes => hexec.trans ((if_neg (Nat.not_le.mpr hnear)).trans ?_), fun hfar => hexec.trans (if_pos hfar)⟩
    · rw [hown, hno]
      rfl
    · rw [hown, hyes]
      rfl
  · exact (exec_jSbeq_ok hlen hfm hxs).trans (if_neg (by rw [show overFlume .. = _ from hf]; exact Bool.false_ne_true))
  · exact (exec_jSbeq_ok hlen hfm hxs).trans (if_pos hf)

/-! ### When Xjaind instructions retire (16 R411) -/

section
variable {s : State}

theorem State.engineFull_cases (s : State) (c : Nat) : s.engineFull c = true ∨ s.engineFull c = false := by
  cases s.engineFull c
  · exact .inr rfl
  · exact .inl rfl

theorem State.acceptCopy_side {t : State} {n : Nat} {issuer : Issuer} {kind : CmdKind} {a b : Word} {job num p : Nat} {w : Issuing}
    {task : Option (Nat × Nat)} {after ords : List Nat} (h : s.acceptCopy w n issuer kind a b job num task after ords = .ok (p, t)) :
    t.side = s.side := by
  rcases s.engineFull_cases w.core with hfull | hfull
  · rw [(State.acceptCopy_full hfull h).2]
  · obtain ⟨s1, k, rfl, hlook, _⟩ := State.acceptCopy_shape hfull h
    exact (State.onCore_side fun _ => rfl).trans hlook.side

theorem State.acceptClaim_side {t : State} {n : Nat} {issuer : Issuer} {a b : Word} {job p : Nat}
    {task : Option (Nat × Nat)} {after ords : List Nat} (h : s.acceptClaim s.sideIssuing n issuer a b job task after ords = .ok (p, t)) :
    t.side = s.side := by
  rcases s.engineFull_cases s.cx.core with hfull | hfull
  · rw [(State.acceptClaim_full hfull h).2]
  · obtain ⟨_, _, _, _, _, _, _, hcx, hside⟩ := State.acceptClaim_shape hfull h
    rw [State.side, State.me, hcx]
    exact hside s.cx.storer

theorem State.release_side (item : Posted) (c : Nat) (b : LteBits) (flip : Option Nat) (cover : List Nat) :
    (s.release item c b flip cover).side = s.side := by
  unfold State.release
  split <;> exact State.side_of_cores rfl rfl

theorem State.setFlag_side (c n f : Nat) (clear : Bool) : (s.setFlag c n f clear).side = s.side := State.onSeat_side ..

theorem State.sideMessages_side (item : Posted) (b : LteBits) (bs : List (Nat × Byte)) (tag : Nat) (now : Bool) :
    (s.sideMessages item b bs tag now).side = s.side := by
  refine Unseen.side (foldl_rel .refl .trans (fun s r => ?_) _ s)
  dsimp only
  split <;> exact .of_cores rfl rfl rfl

/-- An object of this package lies below the addresses that stand for other packages' objects. -/
theorem syncObject_near {c : Nat} {b : LteBits} (h6 : lteSync b ≠ 6) (h7 : lteSync b ≠ 7) : (syncObject c b).getD 0 < 2 ^ 100 := by
  have hoff : syncOffset b < 2 ^ 25 := by
    have h15 : lteRead b 15 < 2 ^ 20 := Nat.mod_lt _ (Nat.two_pow_pos 20)
    unfold syncOffset
    split <;> omega
  have hnum (h : Home) : h.number < 2 ^ 14 := by
    have hbit (st : Bool) : (if st then 1 else 0) ≤ 1 := by cases st <;> decide
    cases h
    case instr c st | data c st =>
      have := hbit st
      simp only [Home.number]
      omega
    all_goals
      simp only [Home.number]
      omega
  unfold syncObject
  split
  · rename_i h _
    have := hnum h
    simp only [Option.getD_some, Home.at, window]
    omega
  · rw [if_neg (by simp [h6, h7])]
    exact Nat.two_pow_pos 100

theorem exec_jAcq_retires {e sc : Reg5} (hposted : s.posted = []) (ha : s.side.acquiring = none)
    (hf : s.bindCheck s.sideIssuing e.val (s.jseat.entry e.val) false = none) (h6 : lteSync (s.jseat.entry e.val) ≠ 6)
    (h7 : lteSync (s.jseat.entry e.val) ≠ 7) : exec (.jAcq e sc) s = .next s.sideDone := by
  have hnear := syncObject_near (c := s.cx.core) h6 h7
  show execJAcq e sc s = _
  simp only [execJAcq, ha, hf, farObject, decide_eq_true_eq, if_neg (Nat.not_le.mpr hnear), hposted]
  rfl

theorem exec_jSbeq_retires {e ctl dat : Reg5} {fm : Formed} {xs : List Spot} (hlen : field (s.side.reg ctl) 7 0 = 0)
    (hfm : s.form { s.sideIssuing with bad := !(lteSpace (s.jseat.entry e.val) == 4 || lteSpace (s.jseat.entry e.val) == 5) ||
      (1 % (lteSize (s.jseat.entry e.val)) != 0) } .store e.val 0 (s.jseat.entry e.val)
      [field (s.side.reg ctl) 47 32, field (s.side.reg ctl) 63 48, 0, 0] (max 1 (1 / lteSize (s.jseat.entry e.val))) = .ok fm)
    (hxs : s.spots { s.sideIssuing with bad := !(lteSpace (s.jseat.entry e.val) == 4 || lteSpace (s.jseat.entry e.val) == 5) ||
      (1 % (lteSize (s.jseat.entry e.val)) != 0) } .store fm [0] = .ok xs) : ∃ t, exec (.jSbeq e ctl dat) s = .next t ∧ Retires s t := by
  have hexec := exec_jSbeq_ok (s := s) (e := e) (ctl := ctl) (dat := dat) (fm := fm) (xs := xs) (by omega)
    (by rw [hlen]; exact hfm) (by rw [hlen]; exact hxs)
  have hask := (Unseen.askSelector s (s.sideItem 4) s.cx.core (s.jseat.entry e.val) s.sideIssuing.stamp).side
  cases hover : overFlume s.cx.core (s.jseat.entry e.val) with
  | true => exact ⟨_, hexec.trans (if_pos hover), State.sideDone_retires ((State.sideMessages_side ..).trans hask)⟩
  | false =>
    refine ⟨_, hexec.trans (if_neg (by rw [hover]; exact Bool.false_ne_true)), State.sideDone_retires ?_⟩
    exact (State.side_of_cores rfl rfl).trans hask

end

theorem State.stopSideAt_cause (s : State) (c : Nat) (storer : Bool) (cause val : Nat) :
    field (((s.stopSideAt c storer cause val).core c).side storer).scflt 7 0 = cause % 256 := by
  have hside (w : Word) : (((s.setSideAt c storer { (s.core c).side storer with scflt := w, waiting := false, acquiring := none }).core c).side
      storer).scflt = w := by rw [State.setSideAt_side]
  unfold State.stopSideAt
  refine (congrArg (field · 7 0) (hside _)).trans ?_
  rw [field, BitVec.toNat_ofNat]
  omega

theorem State.setSideAt_seatAt (s : State) (c : Nat) (storer : Bool) (x : Side) (c' n : Nat) :
    (s.setSideAt c storer x).seatAt c' n = s.seatAt c' n := by
  by_cases h : c' = c
  · rw [State.setSideAt, State.seatAt, h, State.onCore_self]
    cases storer <;> rfl
  · rw [State.setSideAt, State.seatAt, State.onCore_other _ _ _ _ h]
    rfl

/-- Settles O51. -/
theorem sideRv64Results : Obligations.SideRv64Results := by
  unfold Obligations.SideRv64Results
  intro s x run goes next stops
  refine ⟨fun k rd rs1 rs2 => exec_rv_go rfl, fun k rd rs1 imm => exec_rv_go rfl, fun k rd rs1 sh => exec_rv_go rfl, fun k rd rs1 => exec_rv_go rfl,
    fun rd imm => ⟨exec_rv_go rfl, exec_rv_go rfl⟩, fun rd off => ⟨fun h => exec_rv_go (rvJump_aligned _ _ h), fun h => exec_rv_stop (rvJump_misaligned _ _ h)⟩,
    fun rd rs1 imm => ⟨fun h => exec_rv_go (rvJump_aligned _ _ h), fun h => exec_rv_stop (rvJump_misaligned _ _ h)⟩,
    fun k rs1 rs2 off => ⟨fun h => exec_rv_go (rv_branch_not _ _ _ h),
      fun h ht => exec_rv_go ((rv_branch_taken _ _ _ h).trans (rvJump_aligned _ _ ht)),
      fun h ht => exec_rv_stop ((rv_branch_taken _ _ _ h).trans (rvJump_misaligned _ _ ht))⟩,
    fun k rd rs1 imm => ⟨fun h => exec_rv_stop (rv_load_misaligned _ _ _ h), fun h hlo hhi => exec_rv_go ?load, fun h ho => exec_rv_stop ?loadStop⟩,
    fun k rs1 rs2 imm => ⟨fun h => exec_rv_stop (rv_store_misaligned _ _ _ h), fun h hlo hhi => ?store, fun h ho => exec_rv_stop ?storeStop⟩,
    fun rd rs1 => ⟨exec_rv_go rfl, exec_rv_go rfl, ?seat, exec_rv_stop rfl, exec_rv_stop rfl⟩,
    exec_rv_go rfl, exec_rv_go rfl, exec_rv_go rfl, exec_rv_stop rfl, exec_rv_stop rfl, ?retires, fun c storer pc => ⟨fun hl hc => ?restart,
      fun hr cause val he => ?exception⟩, fun y rd r v => y.reg_setReg rd r v, fun f => ⟨rfl, rfl, fun c n => ?seats⟩⟩
  case load => rw [rv_load_aligned _ _ _ h, dataOffset_inside hlo hhi]; rfl
  case loadStop => rw [rv_load_aligned _ _ _ h, dataOffset_outside ho]
  case storeStop => rw [rv_store_aligned _ _ _ h, dataOffset_outside ho]
  case store =>
    have hput : s.side.rv s.cx.word (s.sideData s.cx.core s.cx.storer) (.store k rs1 rs2 imm) =
        .put ((s.side.reg rs1 + imm.signExtend 64).toNat - 0x10000) (rvStoreSize k) (s.side.reg rs2).toNat := by
      rw [rv_store_aligned _ _ _ h, dataOffset_inside hlo hhi]
    have hside : (s.storeNat ((Home.data s.cx.core s.cx.storer).at ((s.side.reg rs1 + imm.signExtend 64).toNat - 0x10000)) (rvStoreSize k)
        (s.side.reg rs2).toNat).sideDone.side = s.side.retire (s.side.pc + 4) := State.onSide_side _ _
    refine ⟨_, exec_rv_put hput, ?_, fun p hp => s.byte_storeNat_other _ hp, by rw [hside]; rfl, by rw [hside]; rfl⟩
    rw [← pow_bytes]
    exact s.loadNat_storeNat _ _ _
  case seat =>
    have hseat : s.side.rv s.cx.word (s.sideData s.cx.core s.cx.storer) (.csr .rw rd rs1 0x800) =
        .seat rd (BitVec.ofNat 64 s.side.jseat) ((s.side.reg rs1).toNat % 8) := by
      have hfield : field (s.side.reg rs1) 2 0 = (s.side.reg rs1).toNat % 8 := by
        show (s.side.reg rs1).toNat / 1 % 8 = _
        rw [Nat.div_one]
      rw [← hfield]
      rfl
    exact exec_rv_seat hseat
  case retires =>
    intro retires st here d a b
    have gives {i : Instr} {t : State} (he : exec i s = .next t) (h : Retires s t) : retires i := ⟨t, he, h.pc, h.instret, h.waiting⟩
    have hopen (h : here) : ¬s.jseat.queueShut = true := by
      obtain ⟨hfree, hload, hleave⟩ := h
      exact fun hs => ((Seat.queueShut_iff _).mp hs).elim hfree fun h => h.elim hload fun h => Bool.false_ne_true (hleave.symm.trans h)
    refine ⟨fun h hroom => gives (exec_jqPush_goes (hopen h) hroom) (State.sideDone_retires (State.onSeat_side ..)), fun h hne => ?_,
      gives rfl (State.sideResult_retires rfl ..), fun p t h => gives (exec_jCpy_ok h) (State.sideResult_retires (State.acceptCopy_side h) ..),
      fun p t h => gives (exec_jDclm_ok h) (State.sideResult_retires (State.acceptClaim_side h) ..), fun h => ?_,
      gives (exec_jLte d a) (State.sideResult_retires rfl ..),
      fun hcode hlock => gives (exec_jLteW_goes hcode hlock) (State.sideDone_retires (State.onCore_side fun _ => rfl)),
      gives rfl (State.sideDone_retires (State.setFlag_side ..)), gives rfl (State.sideResult_retires rfl ..),
      fun h => gives (exec_jRelease_ok.1 h) (State.sideDone_retires (State.release_side ..)),
      fun h => ⟨gives (exec_jRelease_ok.2 h) (State.sideDone_retires (State.release_side ..)),
        fun hposted ha h6 h7 => gives (exec_jAcq_retires hposted ha h h6 h7) (State.sideDone_retires rfl)⟩, ?_⟩
    · cases hq : s.jseat.outq with
      | nil => exact absurd hq hne
      | cons v rest => exact gives (exec_jqPull_goes hq (hopen h)) (State.sideResult_retires (State.onSeat_side ..) ..)
    · have hexec := exec_jWtc_gives (d := d) h
      by_cases hs : cmdStatus (s.sideDue (s.side.reg a).toNat) = 0
      · have hret := State.sideResult_retires (s := s) rfl d (BitVec.ofNat 64 (cmdStatus (s.sideDue (s.side.reg a).toNat)))
        refine gives (hexec.trans (congrArg _ (if_pos hs))) ⟨?_, ?_, ?_⟩ <;> rw [State.onSide_side]
        · exact hret.pc
        · exact hret.instret
        · exact hret.waiting
      · exact gives (hexec.trans (congrArg _ (if_neg hs))) (State.sideResult_retires rfl ..)
    · intro e bad hlen fm xs hfm hxs
      obtain ⟨t, ht, hret⟩ := exec_jSbeq_retires (dat := b) hlen hfm hxs
      exact gives ht hret
  case restart =>
    refine ⟨_, exec_scfltWrite hl hc, ?_, ?_⟩
    · rw [State.setSideAt_side]
    · rw [State.setSideAt_side, Side.runs, Side.cause]
      show (((s.core c).side storer).loaded && _) = true
      rw [hl, field_putField_self _ _ (by decide) (by decide)]
      rfl
  case exception =>
    refine ⟨_, exec_sideCoreException hr he, ?_, rfl⟩
    exact State.stopSideAt_cause ..
  case seats => exact State.setSideAt_seatAt ..

end Sys2Proof.Machine

/-! ### Waits end, monitors fire, and reduction packets move on (07 R195, R200; 06 R163; 14 R378-R383) -/

namespace Sys2Proof.Machine

section
variable {s : State} {c n : Nat}

theorem event_true (name : String) (s : State) {ok : Bool} (h : ok = true) : event name ok s = .next s := if_pos h

theorem State.timeWait_ends {name : String} {p : WaitKind → Bool} {w : Wait} (h : (s.seatAt c n).waitOf p = some w)
    (hd : w.deadline ≤ s.cycOf c) : s.timeWait name c n p = .next (s.endWait c n p) := by
  simp only [State.timeWait, h]
  exact event_true _ _ (decide_eq_true hd)

theorem exec_stationFlagSet {k : Nat} {f : FlagDue} (h : s.flume.flagsDue[k]? = some f) (hp : s.performed f.after = true) :
    let s1 := { s with flume := { s.flume with flagsDue := s.flume.flagsDue.eraseIdx k, bumps := s.flume.bumps ++ f.counter.toList } }
    exec (.stationFlagSet k) s = match f.flag with
      | none => .next s1
      | some (c, n, i) => .next (s1.onSeat c n fun st =>
          let bit := BitVec.ofNat 32 (2 ^ i)
          { st with flags := st.flags ||| bit, missing := tdel st.missing i, flagErr := if f.err then st.flagErr ||| bit else st.flagErr }) := by
  show execStationFlagSet k s = _
  simp only [execStationFlagSet, h, hp, Bool.not_true, Bool.false_eq_true, if_false] <;> rfl

theorem exec_monitorFire {m : Monitor} (hm : (s.seatAt c n).monitor = some m) (hf : m.fired = false) (hl : m.local_ = true) (hh : m.hit = true) :
    exec (.monitorFire c n) s = .next (s.onSeat c n fun st => { st with monitor := some { m with fired := true } }) := by
  show execMonitorFire c n s = _
  simp only [execMonitorFire, hm]
  exact event_true _ _ (by simp [hl, hh, hf])

theorem exec_monitorTimeout {m : Monitor} (hm : (s.seatAt c n).monitor = some m) (hf : m.fired = false) (hl : m.local_ = false)
    (hd : m.deadline ≤ s.cycOf c) :
    exec (.monitorTimeout c n) s = .next (s.onSeat c n fun st => { st with monitor := some { m with fired := true } }) := by
  show execMonitorTimeout c n s = _
  simp only [execMonitorTimeout, hm]
  exact event_true _ _ (by simp [hl, hd, hf])

theorem exec_parkWake {p : Park} (hst : (s.seatAt c n).st = .parked) (hp : (s.seatAt c n).park = some p) (hl : p.local_ = true)
    (hh : p.hit = true) : exec (.parkWake c n) s = .next (s.onSeat c n Seat.woken) := by
  show execParkWake c n s = _
  simp only [execParkWake, hp]
  exact event_true _ _ (by simp [hst, hl, hh])

theorem exec_parkTimeoutWake {p : Park} (hst : (s.seatAt c n).st = .parked) (hp : (s.seatAt c n).park = some p) (hl : p.local_ = false)
    (hd : p.wakeAt ≤ s.cycOf c) : exec (.parkTimeoutWake c n) s = .next (s.onSeat c n Seat.woken) := by
  show execParkTimeoutWake c n s = _
  simp only [execParkTimeoutWake, hp]
  exact event_true _ _ (by simp [hst, hl, hd])

/-- A woken seat, told as the seat it becomes. -/
theorem State.onSeat_const (s : State) (c n : Nat) (f : Seat → Seat) : s.onSeat c n f = s.onSeat c n fun _ => f (s.seatAt c n) := rfl

end

/-! ### Acquire reads (06 R163, 14 R373) -/

section
variable {s : State} {c n a : Nat} {w : Wait}

theorem exec_acquireRead_here (h : (s.seatAt c n).acquiring = some (w, a)) (hg : w.got = none) (hfar : farObject a = false)
    (hfree : s.objectFree c n a = true) (hcut : s.cutOff c [a] = false) (hheld : (s.seatAt c n).held = none) :
    exec (.acquireReadPerformed c n) s = .next (s.acquireHere c n w a) := by
  show execAcquireReadPerformed c n s = _
  simp only [execAcquireReadPerformed, h, hg, hfar, Option.isSome_none, Bool.false_eq_true, if_false]
  exact event_true _ _ (by simp [hfree, hcut, hheld])

theorem exec_acquireRead_asks (h : (s.seatAt c n).acquiring = some (w, a)) (hg : w.got = none) (hfar : farObject a = true)
    (hask : s.acquireAsked c n = false) :
    exec (.acquireReadPerformed c n) s =
      .next (s.askAcquire c (s.seatAt c n).tenant (s.seatAt c n).job a (.acquire n)) := by
  show execAcquireReadPerformed c n s = _
  simp only [execAcquireReadPerformed, h, hg, hfar, Option.isSome_none, Bool.false_eq_true, if_false, if_true]
  exact event_true _ _ (by simp [hask])

theorem exec_acqtReread_near {b : Nat} {old : Word} (h : (s.seatAt c n).acquiring = some (w, a)) (hk : w.kind = .target b true)
    (hheld : (s.seatAt c n).held = none) (hg : w.got = some old) (hne : BitVec.ofNat 64 (s.loadNat a 8) ≠ old)
    (hfree : s.objectFree c n a = true) (hcut : s.cutOff c [a] = false) :
    exec (.acqtReread c n) s = .next (s.acquireHere c n w a) := by
  show execAcqtReread c n s = _
  simp only [execAcqtReread, h, hk, hg, hheld, Option.isSome_none, Bool.false_eq_true, if_false, if_true]
  exact event_true _ _ (by simp [hne, hfree, hcut])

theorem exec_acqtReread_away {b : Nat} {old : Word} (h : (s.seatAt c n).acquiring = some (w, a)) (hk : w.kind = .target b false)
    (hheld : (s.seatAt c n).held = none) (hg : w.got = some old) (hd : w.deadline + 1024 ≤ s.cycOf c) :
    (farObject a = false → s.objectFree c n a = true → s.cutOff c [a] = false →
      exec (.acqtReread c n) s = .next (s.acquireHere c n w a)) ∧
    (farObject a = true → s.acquireAsked c n = false → exec (.acqtReread c n) s =
      .next (s.askAcquire c (s.seatAt c n).tenant (s.seatAt c n).job a (.acquire n))) := by
  refine ⟨fun hfar hfree hcut => ?_, fun hfar hask => ?_⟩ <;> show execAcqtReread c n s = _ <;>
    simp only [execAcqtReread, h, hk, hg, hheld, hfar, Option.isSome_none, Bool.false_eq_true, if_false, if_true, Nat.not_lt.mpr hd]
  · exact event_true _ _ (by simp [hfree, hcut])
  · exact event_true _ _ (by simp [hask])

end

/-! ### The reduction mesh (14 R378-R381) -/

section
variable {s : State} {c k : Nat} {m : RedMove}

theorem exec_reductionArrival (h : s.mesh[k]? = some m) (hc : m.core = c) :
    let gone := { s with mesh := s.mesh.eraseIdx k }
    let node := (tget (0 : BitVec 23) (s.core c).router.nodes m.packet.tree).toNat
    let turn := m.packet.turns / 4 ^ m.used % 4
    let heading := (m.heading + (if turn = 1 then 1 else if turn = 2 then 3 else 0)) % 4
    exec (.reductionPacketArrival c k) s =
      if turn = 3 then
        if node.testBit 22 then .next (gone.collect c m.packet)
        else match gone.stopAt c m.port m.packet with
          | some s => .next s
          | none => event "REDUCTION_PACKET_ARRIVAL" false s
      else match meshStep c heading with
        | none => .next (gone.logRoute c 0 m.packet.mask)
        | some (next, port) =>
          if m.used = 7 then .next (gone.logRoute c 1 m.packet.mask)
          else .next { gone with mesh := gone.mesh ++ [{ m with core := next, port := port, heading := heading, used := m.used + 1 }] } := by
  show execReductionPacketArrival c k s = _
  simp only [execReductionPacketArrival, h, hc, ne_eq, not_true_eq_false, if_false] <;> rfl

end

/-- Settles O54. -/
theorem waitEvents : Obligations.WaitEvents := by
  unfold Obligations.WaitEvents
  refine ⟨fun s c n w hd => ⟨fun h => State.timeWait_ends h hd, fun h => State.timeWait_ends h hd, fun h => State.timeWait_ends h hd,
      fun h => State.timeWait_ends h hd⟩, fun s k f h hp => ?flag,
    fun s c n m hm hf => ⟨exec_monitorFire hm hf, exec_monitorTimeout hm hf⟩, fun s c n p hst hp => ?park, fun s c n a w h => ?acquire,
    fun s c k m h hc => ?mesh, fun s c tree t r hr hd => ?router⟩
  case flag =>
    have hexec := exec_stationFlagSet h hp
    cases hflag : f.flag with
    | none =>
      rw [hflag] at hexec
      exact ⟨_, hexec, rfl, rfl, rfl, fun _ => rfl, nofun⟩
    | some x =>
      obtain ⟨c, n, i⟩ := x
      rw [hflag] at hexec
      refine ⟨_, hexec, rfl, rfl, rfl, nofun, fun c' n' i' he => ?_⟩
      obtain ⟨rfl, rfl, rfl⟩ : c = c' ∧ n = n' ∧ i = i' := by simpa using he
      exact ⟨tdel (s.seatAt c n).missing i, rfl⟩
  case park =>
    intro awake
    have hwoken {x : Res} (hx : x = .next (s.onSeat c n Seat.woken)) : awake x :=
      ⟨_, (s.seatAt c n).woken, hx, State.onSeat_const .., rfl, rfl, rfl, rfl, rfl, rfl⟩
    exact ⟨fun hl hh => hwoken (exec_parkWake hst hp hl hh), fun hl hd => hwoken (exec_parkTimeoutWake hst hp hl hd)⟩
  case acquire =>
    exact ⟨exec_acquireRead_here h, exec_acquireRead_asks h, fun b old hk hheld hg hne hfree hcut => exec_acqtReread_near h hk hheld hg hne hfree hcut,
      fun b old hk hheld hg hd => exec_acqtReread_away h hk hheld hg hd⟩
  case mesh =>
    intro gone node turn heading run
    have hexec := exec_reductionArrival h hc
    refine ⟨fun ht hroot => ?_, fun t ht hroot hstop => ?_, fun ht hstep => ?_, fun next port ht hstep => ⟨fun hu => ?_, fun hu => ?_⟩⟩
    · exact hexec.trans ((if_pos ht).trans (if_pos hroot))
    · refine hexec.trans ((if_pos ht).trans ((if_neg (by rw [show Nat.testBit _ 22 = _ from hroot]; exact Bool.false_ne_true)).trans ?_))
      rw [show State.stopAt .. = _ from hstop]
    · refine hexec.trans ((if_neg ht).trans ?_)
      rw [show meshStep .. = _ from hstep]
    · refine hexec.trans ((if_neg ht).trans ?_)
      rw [show meshStep .. = _ from hstep]
      exact if_pos hu
    · refine hexec.trans ((if_neg ht).trans ?_)
      rw [show meshStep .. = _ from hstep]
      exact if_neg hu
  case router =>
    show execReductionRouterTimeout c tree s = _
    simp only [execReductionRouterTimeout, hr]
    exact event_true _ _ (decide_eq_true hd)

end Sys2Proof.Machine

/-! ### Results, code lines and trips arrive (02 R49-R55, 07 R192) -/

namespace Sys2Proof.Machine

section
variable {s : State} {c : Nat}

theorem exec_resultLand {l : Landing} (h : s.firstRipe c = some l) (hs : l.effect.survives = false) :
    exec (.resultLand c) s = .next (s.landFirst c l) := by
  show execResultLand c s = _
  simp only [execResultLand, h]
  exact event_true _ _ (by simp [hs])

theorem exec_pushLand {l : Landing} (h : s.firstRipe c = some l) (hs : l.effect.survives = true) :
    exec (.pushLand c) s = .next (s.landFirst c l) := by
  show execPushLand c s = _
  simp only [execPushLand, h]
  exact event_true _ _ hs

theorem fillTime_le (c a : Nat) : fillTime c a ≤ 480 := by
  unfold fillTime
  split
  · split
    · exact Nat.le_refl _
    · exact Nat.zero_le _
  · exact Nat.zero_le _

/-- A fill keeps every set of the instruction cache to its eight ways. -/
theorem fillIcache_ways {ctx line : Nat} {l : BitVec 512} {t : List ((Nat × Nat) × BitVec 512)}
    (h : ∀ r, (t.filter fun e => e.1.2 % 256 == r).length ≤ 8) (set : Nat) :
    ((fillIcache ctx line l t).filter fun e => e.1.2 % 256 == set).length ≤ 8 := by
  have hmine : ∀ e ∈ (t.filter fun e => e.1.2 % 256 == line % 256 && e.1 != (ctx, line)).take 7, e.1.2 % 256 = line % 256 := by
    intro e he
    have := (List.mem_filter.1 (List.mem_of_mem_take he)).2
    simp only [Bool.and_eq_true, beq_iff_eq] at this
    exact this.1
  have hothers : ∀ e ∈ t.filter fun e => e.1.2 % 256 != line % 256, e.1.2 % 256 ≠ line % 256 := by
    intro e he
    simpa using (List.mem_filter.1 he).2
  unfold fillIcache
  dsimp only
  by_cases hset : set = line % 256
  · have hnone : (t.filter fun e => e.1.2 % 256 != line % 256).filter (fun e => e.1.2 % 256 == set) = [] :=
      List.filter_eq_nil_iff.2 fun e he => by simpa [hset] using hothers e he
    rw [List.filter_cons, if_pos (by simp [hset]), List.filter_append, hnone, List.append_nil, List.length_cons]
    have h1 := List.length_filter_le (fun e : (Nat × Nat) × BitVec 512 => e.1.2 % 256 == set)
      ((t.filter fun e => e.1.2 % 256 == line % 256 && e.1 != (ctx, line)).take 7)
    have h2 := List.length_take_le 7 (t.filter fun e => e.1.2 % 256 == line % 256 && e.1 != (ctx, line))
    omega
  · have hnone : ((t.filter fun e => e.1.2 % 256 == line % 256 && e.1 != (ctx, line)).take 7).filter (fun e => e.1.2 % 256 == set) = [] :=
      List.filter_eq_nil_iff.2 fun e he => by
        rw [hmine e he]
        simpa using Ne.symm hset
    rw [List.filter_cons, if_neg (by simpa using Ne.symm hset), List.filter_append, hnone, List.nil_append, List.filter_filter]
    refine Nat.le_trans ?_ (h set)
    rw [← List.countP_eq_length_filter, ← List.countP_eq_length_filter]
    exact List.countP_mono_left fun e _ he => ((Bool.and_eq_true _ _).mp he).1

theorem exec_icacheFill {n ctx line a : Nat} {l : BitVec 512} (hf : (s.core c).fetching = some (ctx, line)) (hr : (s.core c).running = some n)
    (hl : s.codeLine c ctx (s.seatAt c n).sup (64 * line) = .ok (l, a)) (ht : (s.core c).fetchSince + 480 ≤ s.cycOf c) :
    exec (.icacheFill c) s = .next ((s.noteMiss c ctx (64 * line) 3).onCore c fun k =>
      { k with icache := fillIcache ctx line l k.icache, fetching := none }) := by
  have hl : s.codeLine c ctx ((s.core c).seat n).sup (64 * line) = .ok (l, a) := hl
  have hlate : ¬s.cycOf c < (s.core c).fetchSince + fillTime c a := by
    have := fillTime_le c a
    omega
  show execIcacheFill c s = _
  simp only [execIcacheFill, hf, hr, hl, hlate, if_false]

theorem icacheFill_result {n ctx line a : Nat} {l : BitVec 512} (hf : (s.core c).fetching = some (ctx, line)) (hr : (s.core c).running = some n)
    (hl : s.codeLine c ctx (s.seatAt c n).sup (64 * line) = .ok (l, a)) (ht : (s.core c).fetchSince + 480 ≤ s.cycOf c) :
    ∃ t, exec (.icacheFill c) s = .next t ∧ (t.core c).fetching = none ∧ (t.core c).icache.head? = some ((ctx, line), l) ∧
      t.mem = s.mem ∧ (∀ d, d ≠ c → (t.core d).icache = (s.core d).icache) ∧
      (∀ set, (∀ r, ((s.core c).icache.filter fun e => e.1.2 % 256 == r).length ≤ 8) →
        ((t.core c).icache.filter fun e => e.1.2 % 256 == set).length ≤ 8) := by
  have hlook := Unseen.noteMiss s c ctx (64 * line) 3
  refine ⟨_, exec_icacheFill hf hr hl ht, ?_, ?_, hlook.mem, fun d hd => ?_, fun set hways => ?_⟩
  · rw [State.onCore_self]
  · rw [State.onCore_self]
    rfl
  · obtain ⟨tlb, hd'⟩ := hlook.cores d
    rw [State.onCore_other _ _ _ _ hd, hd']
  · obtain ⟨tlb, hc⟩ := hlook.cores c
    rw [State.onCore_self, hc]
    exact fillIcache_ways hways set

section
variable {k : Nat} {l : Landing} {t : Trip} (h : s.awayAt c k = some (l, t))
include h

theorem exec_outerLoad_direct (hr : t.route = .direct) (hne : t.nextPart ≠ []) (hp : s.performed t.after = true)
    (hcut : s.cutOff c t.nextPart = false) (hfirst : s.firstThere c l.seat t.id t.nextTouch = true) (hpois : s.poisoned t.nextPart = false)
    (href : s.refusedAt (t.owner c) t.tenant t.nextPart = false) :
    exec (.outerLoadArrival c k) s = match t.atomic with
      | none =>
        let t1 := s.giveTrip c t.id (t.nextPart.map fun a => (a, s.byteKeyed (t.keyAt a) a)) .direct
        .next (if l.spin then t1.armSpin c l.seat l.ord l.load else t1)
      | some a => .next ((s.atomicAt a (t.nextPart.headD 0)).2.giveTrip c t.id
          (placed (t.nextPart.headD 0) (leBytes a.size (s.loadNat (t.nextPart.headD 0) a.size))) .direct) := by
  have hempty : t.nextPart.isEmpty = false := by simpa using hne
  show execOuterLoadArrival c k s = _
  simp only [execOuterLoadArrival, h, hr, hp, hempty, hfirst, hpois, hcut, href, Bool.not_false, Bool.and_self, Bool.not_true,
    Bool.false_eq_true, if_false]
  cases t.atomic <;> rfl

theorem exec_outerLoad_waiting {b : LteBits} (hr : t.route = .waiting b) (hmay : s.mayDepart c l.seat b t = true) :
    exec (.outerLoadArrival c k) s =
      .next ((s.depart c (s.seatAt c l.seat).job b t).2.reroute c t.id (s.depart c (s.seatAt c l.seat).job b t).1) := by
  show execOuterLoadArrival c k s = _
  simp only [execOuterLoadArrival, h, hr, hmay, Bool.not_true, Bool.false_eq_true, if_false]

theorem exec_outerLoad_asking {q : Query} {v : Vec} {s1 : State} (hr : t.route = .asking q) (hp : s.performed t.after = true)
    (hfirst : s.firstThere c l.seat t.id t.touches = true) (hpois : s.poisoned t.addrs = false) (hcut : s.cutOff c t.addrs = false)
    (href : s.refusedAt (t.owner c) t.tenant t.addrs = false) (hq : s.answerTo c l t q = some (v, s1)) :
    exec (.outerLoadArrival c k) s = .next (s1.giveValue c t.id v) := by
  show execOuterLoadArrival c k s = _
  simp only [execOuterLoadArrival, h, hr, hp, hfirst, hpois, hcut, href, hq, Bool.not_false, Bool.and_self, if_true]

theorem exec_remoteRefusal (hr : t.route = .direct) (hp : s.performed t.after = true) (hcut : s.cutOff c t.nextPart = false)
    (href : s.refusedAt (t.owner c) t.tenant t.nextPart = true) :
    exec (.remoteRefusal c k) s =
      .next ((s.logRefusalAt (t.nextPart.headD 0) (c * 8 + l.seat % 8) t.tenant).loseTrip c t.id 13 1) := by
  show execRemoteRefusal c k s = _
  simp only [execRemoteRefusal, h, hr]
  exact event_true _ _ (by simp [hp, hcut, href])

theorem exec_remoteTimeout {f : Nat} (hf : (s.core c).frozenSince = some f) (hx : f + (s.die (dieOf c)).xto ≤ s.cycOf c)
    (hseat : l.seat < 8) (hdue : l.due ≤ (s.core c).idx) : exec (.remoteTimeout c k) s = .next (s.timeOut c t) := by
  have hx : f + (s.die (dieOf c)).xto ≤ (s.die (dieOf c)).cyc := hx
  show execRemoteTimeout c k s = _
  simp only [execRemoteTimeout, h, hf]
  exact event_true _ _ (by simp [hx, hseat, hdue])

end

theorem State.timeOut_direct {t : Trip} (hr : t.route = .direct) : s.timeOut c t = (s.dropRequests t).loseTrip c t.id 36 0 := by
  simp only [State.timeOut, hr]
  rfl

end

end Sys2Proof.Machine

/-! ### Posted work is performed (06 R152-R162) -/

namespace Sys2Proof.Machine

section
variable {s : State} {id : Nat} {p : Posted}

theorem exec_posted (h : s.posted.find? (fun q => q.id == id) = some p) (ht : s.turnOf p = true) (ho : s.inOrder p = true) :
    exec (.postedWritePerform id) s =
      match p.kind with
      | .write bs m =>
        if s.itemHeld p then event "POSTED_WRITE_PERFORM" false s
        else
          match p.carrier ((bs.head?.map (·.1)).getD 0) with
          | some src => .next (s.carry p src bs m)
          | none =>
            if s.refusesWrite p bs then .next ((s.unpost id).logRefused p ((bs.head?.map (·.1)).getD 0))
            else .next ((if (p.nextUnit bs).2.isEmpty then s.unpost id else s.onPosted id (.write (p.nextUnit bs).2 m)).performItem p m
              (p.nextUnit bs).1)
      | .visit n station h v =>
        if s.itemHeld p then event "POSTED_WRITE_PERFORM" false s else .next (s.performVisit p n station h v)
      | .heldMessage station m => .next ((s.onPosted id (.message m)).enqueue station m)
      | .selector none => .next (s.unpost id)
      | .decrement d rec amount =>
        if d ≠ p.die || p.agent.atXi then .next (s.sendDecrement p d rec amount)
        else if s.recordRefused d rec p.tenant then .next ((s.unpost id).refuseItem p (s.recAt d rec))
        else .next ((s.unpost id).decrement d rec amount p.tenant 10)
      | .flag c n f clear =>
        if s.refusedAt p.owner p.tenant [(Home.spad c).at 0] then .next ((s.unpost id).logRefused p ((Home.spad c).at 0))
        else .next ((s.unpost id).setFlag c n f clear)
      | .tail q v => .next ((s.unpost id).writeTail q v)
      | .counter key => .next { s.unpost id with flume := { (s.unpost id).flume with bumps := (s.unpost id).flume.bumps ++ [key] } }
      | _ => event "POSTED_WRITE_PERFORM" false s := by
  show execPostedWritePerform id s = _
  simp only [execPostedWritePerform, h, ht, ho, Bool.not_true, Bool.or_self, Bool.false_eq_true, if_false] <;> rfl

theorem State.performItem_plain {m : Option (BitVec 512)} {bs : List (Nat × Byte)} (h : p.leaf = none ∨ p.va = none) :
    s.performItem p m bs = s.writeBytes m bs := by
  rcases h with h | h
  · simp only [State.performItem, h]
  · cases hl : p.leaf <;> simp only [State.performItem, h, hl]

theorem State.performItem_through {m : Option (BitVec 512)} {bs : List (Nat × Byte)} {l : Leaf} {va : Nat} (hl : p.leaf = some l)
    (hva : p.va = some va) : s.performItem p m bs = s.performThrough p.die p.ctx va l m bs := by
  simp only [State.performItem, hl, hva]

section
variable (h : s.posted.find? (fun q => q.id == id) = some p) (ht : s.turnOf p = true) (ho : s.inOrder p = true)
include h ht ho

theorem exec_posted_write {bs : List (Nat × Byte)} {m : Option (BitVec 512)} (hk : p.kind = .write bs m) (hheld : s.itemHeld p = false) :
    (∀ src, p.carrier ((bs.head?.map (·.1)).getD 0) = some src → exec (.postedWritePerform id) s = .next (s.carry p src bs m)) ∧
    (p.carrier ((bs.head?.map (·.1)).getD 0) = none → s.refusesWrite p bs = true →
      exec (.postedWritePerform id) s = .next ((s.unpost id).logRefused p ((bs.head?.map (·.1)).getD 0))) ∧
    (p.carrier ((bs.head?.map (·.1)).getD 0) = none → s.refusesWrite p bs = false → exec (.postedWritePerform id) s =
      .next ((if (p.nextUnit bs).2.isEmpty then s.unpost id else s.onPosted id (.write (p.nextUnit bs).2 m)).performItem p m (p.nextUnit bs).1)) := by
  have hexec := exec_posted h ht ho
  simp only [hk, hheld, Bool.false_eq_true, if_false] at hexec
  refine ⟨fun src hc => ?_, fun hc href => ?_, fun hc href => ?_⟩ <;> rw [hexec, hc]
  · exact if_pos href
  · exact if_neg (by rw [href]; exact Bool.false_ne_true)

theorem exec_posted_decrement {d rec amount : Nat} (hk : p.kind = .decrement d rec amount) (hd : d = p.die) (hxi : p.agent.atXi = false) :
    exec (.postedWritePerform id) s = .next (if s.recordRefused d rec p.tenant then (s.unpost id).refuseItem p (s.recAt d rec)
      else (s.unpost id).decrement d rec amount p.tenant 10) := by
  have hexec := exec_posted h ht ho
  simp only [hk, hd, hxi, ne_eq, not_true_eq_false, decide_false, Bool.or_self, Bool.false_eq_true, if_false] at hexec
  rw [hexec, hd]
  split <;> rfl

theorem exec_releasePerform {a : Nat} {flip : Option Nat} (hk : p.kind = .release a flip)
    (href : s.objectRefused (p.agent.core.getD 1024) p.tenant a = false) :
    exec (.releasePerform id) s = .next ((s.unpost id).releaseAt a flip) := by
  show execReleasePerform id s = _
  simp only [execReleasePerform, h, hk, href, Bool.false_eq_true, if_false]
  exact event_true _ _ (by rw [ht, ho]; rfl)

end

end

end Sys2Proof.Machine

/-! ### Granules, walks, commands, streams and invalidations (03 R70-R76, 14 R364-R367, 13 R346, 15 R399) -/

namespace Sys2Proof.Machine

section
variable {s : State} {d : Nat}

theorem exec_armedGranuleCopy {ctx va : Nat} {l : Leaf} (h : s.armedLeaf d ctx va = some l) (hw : s.holdsWrite d ctx (va / 65536) = true) :
    exec (.armedGranuleCopy d ctx va) s = .next ((s.copyGranule d ctx va l).markSaved d ctx va l true) := by
  show execArmedGranuleCopy d ctx va s = _
  simp only [execArmedGranuleCopy, h]
  exact event_true _ _ hw

theorem exec_pageWalk {m : Miss} (h : oldestMiss (s.die d).misses = some m) (hw : (s.die d).walks.length < 64) :
    exec (.pageWalk d) s =
      .next ((s.onDie d fun k => { k with misses := k.misses.erase m, walks := k.walks ++ [m] }).admitMisses d) := by
  show execPageWalk d s = _
  simp only [execPageWalk, h]
  exact event_true _ _ (decide_eq_true hw)

/-- What looking up the TLBs leaves of a die: its walks, and every translation in its last-level TLB. -/
structure WalksKept (d : Nat) (s t : State) : Prop where
  mem : t.mem = s.mem
  walks : (t.die d).walks = (s.die d).walks
  tlb : ∀ u ∈ (s.die d).tlb, u ∈ (t.die d).tlb

theorem WalksKept.refl (d : Nat) (s : State) : WalksKept d s s := ⟨rfl, rfl, fun _ h => h⟩

theorem WalksKept.trans {d : Nat} {s t u : State} (h : WalksKept d s t) (h' : WalksKept d t u) : WalksKept d s u :=
  ⟨h'.mem.trans h.mem, h'.walks.trans h.walks, fun x hx => h'.tlb x (h.tlb x hx)⟩

theorem WalksKept.onDie (s : State) (e : Nat) {f : Die → Die} (hw : (f (s.die e)).walks = (s.die e).walks)
    (ht : ∀ u ∈ (s.die e).tlb, u ∈ (f (s.die e)).tlb) : WalksKept d s (s.onDie e f) where
  mem := rfl
  walks := by
    by_cases h : d = e
    · rw [h, State.onDie_self, hw]
    · rw [State.onDie_other _ _ _ _ h]
  tlb u hu := by
    by_cases h : d = e
    · subst h
      rw [State.onDie_self]
      exact ht u hu
    · rwa [State.onDie_other _ _ _ _ h]

theorem mem_cons_filter_ne {t u : TlbEntry} {l : List TlbEntry} (h : u ∈ l) : u ∈ t :: l.filter fun x => x != t := by
  by_cases e : u = t
  · exact e ▸ List.mem_cons_self ..
  · exact List.mem_cons_of_mem _ (List.mem_filter.2 ⟨h, bne_iff_ne.2 e⟩)

theorem WalksKept.noteMiss (s : State) (c ctx va rank : Nat) : WalksKept d s (s.noteMiss c ctx va rank) := by
  have hmem := (Unseen.noteMiss s c ctx va rank).mem
  unfold State.noteMiss State.touchTlb
  dsimp only
  split
  · split
    · exact ⟨rfl, rfl, fun _ h => h⟩
    · split
      · rename_i t _
        let u := s.onCore c fun k => { k with tlb := (t :: k.tlb).take 384 }
        have hu : WalksKept d s u := ⟨rfl, rfl, fun _ h => h⟩
        exact hu.trans (.onDie u (dieOf c) (f := fun k => { k with tlb := t :: k.tlb.filter fun u => u != t }) rfl
          fun _ => mem_cons_filter_ne)
      · exact .refl d s
  · split
    · exact .onDie _ _ rfl fun _ h => h
    · split <;> exact .onDie _ _ rfl fun _ h => h

theorem WalksKept.admitMisses (s : State) (e : Nat) : WalksKept d s (s.admitMisses e) :=
  (WalksKept.onDie s e rfl fun _ h => h).trans (foldl_rel (.refl d) .trans (fun s _ => .noteMiss s _ _ _ _) _ _)

theorem exec_pageWalkComplete_error {k : Nat} {m : Miss} {e : Nat × Nat} (h : (s.die d).walks[k]? = some m)
    (hw : s.walk d m.ctx (m.page * 65536) = .error e) :
    ∃ t, exec (.pageWalkComplete d k) s = .next t ∧ t.mem = s.mem ∧ (t.die d).walks = (s.die d).walks.eraseIdx k := by
  have hexec : exec (.pageWalkComplete d k) s = .next ((s.onDie d fun x =>
      { x with walks := x.walks.eraseIdx k, attached := x.attached.filter fun y => !(y.ctx == m.ctx && y.page == m.page) }).admitMisses d) := by
    show execPageWalkComplete d k s = _
    simp only [execPageWalkComplete, h, hw]
  have hkept := WalksKept.admitMisses (d := d) (s.onDie d fun x =>
      { x with walks := x.walks.eraseIdx k, attached := x.attached.filter fun y => !(y.ctx == m.ctx && y.page == m.page) }) d
  exact ⟨_, hexec, hkept.mem, hkept.walks.trans (by rw [State.onDie_self])⟩

/-- What a step that writes the TLBs of cores alone leaves. -/
structure CoresOnly (s t : State) : Prop where
  mem : t.mem = s.mem
  dies : t.dies = s.dies

/-- A translation entered in the TLBs of a list of cores stands in each of them. -/
theorem fillCores (t : TlbEntry) (cores : List Nat) (s : State) :
    CoresOnly s (cores.foldl (fun s c => s.onCore c fun x => { x with tlb := (t :: x.tlb.filter fun u => !u.same t).take 384 }) s) ∧
    ∀ c ∈ cores, t ∈ ((cores.foldl (fun s c => s.onCore c fun x =>
      { x with tlb := (t :: x.tlb.filter fun u => !u.same t).take 384 }) s).core c).tlb := by
  have hfill (s : State) (c : Nat) : t ∈ ((s.onCore c fun x => { x with tlb := (t :: x.tlb.filter fun u => !u.same t).take 384 }).core c).tlb := by
    rw [State.onCore_self]
    exact List.mem_cons_self ..
  have hkeep (s : State) (c c' : Nat) (h : t ∈ (s.core c').tlb) :
      t ∈ ((s.onCore c fun x => { x with tlb := (t :: x.tlb.filter fun u => !u.same t).take 384 }).core c').tlb := by
    by_cases e : c' = c
    · exact e ▸ hfill s c
    · rwa [State.onCore_other _ _ _ _ e]
  have hfold (l : List Nat) (s : State) (c' : Nat) (h : t ∈ (s.core c').tlb) :
      t ∈ ((l.foldl (fun s c => s.onCore c fun x => { x with tlb := (t :: x.tlb.filter fun u => !u.same t).take 384 }) s).core c').tlb := by
    induction l generalizing s with
    | nil => exact h
    | cons c l ih => exact ih _ (hkeep s c c' h)
  refine ⟨foldl_rel (fun s => ⟨rfl, rfl⟩) (fun h h' => ⟨h'.mem.trans h.mem, h'.dies.trans h.dies⟩) (fun s c => ⟨rfl, rfl⟩) cores s, ?_⟩
  induction cores generalizing s with
  | nil => exact fun c hc => absurd hc List.not_mem_nil
  | cons c cores ih =>
    intro c' hc'
    rcases List.mem_cons.1 hc' with rfl | hc'
    · exact hfold cores _ _ (hfill s _)
    · exact ih _ c' hc'

theorem mem_sortAddrs_cons (a : Nat) (l : List Nat) : a ∈ sortAddrs (a :: l) := by
  have hput (t : Tab Unit) (k : Nat) : k ∈ (tput t k ()).map (·.1) := by
    induction t with
    | nil => exact List.mem_singleton.2 rfl
    | cons p t ih =>
      unfold tput
      split
      · exact List.mem_cons_of_mem _ ih
      · split <;> exact List.mem_cons_self ..
  have hkeep (t : Tab Unit) (k j : Nat) (h : j ∈ t.map (·.1)) : j ∈ (tput t k ()).map (·.1) := by
    induction t with
    | nil => exact absurd h List.not_mem_nil
    | cons p t ih =>
      unfold tput
      split
      · exact (List.mem_cons.1 h).elim (fun e => List.mem_cons.2 (.inl e)) fun h => List.mem_cons_of_mem _ (ih h)
      · split
        · rename_i e
          rcases List.mem_cons.1 h with rfl | h
          · exact List.mem_cons.2 (.inl e)
          · exact List.mem_cons_of_mem _ h
        · exact List.mem_cons_of_mem _ h
  have hfold (l : List Nat) (t : Tab Unit) (h : a ∈ t.map (·.1)) : a ∈ (l.foldl (fun t a => tput t a ()) t).map (·.1) := by
    induction l generalizing t with
    | nil => exact h
    | cons b l ih => exact ih _ (hkeep t b a h)
  exact hfold l _ (hput [] a)

/-- The leaf of a walk of a miss as the TLBs hold it. -/
def Miss.entry (m : Miss) (l : Leaf) : TlbEntry := ⟨m.ctx, m.page * 65536 / 2 ^ (if l.level = 1 then 29 else 16), l⟩

/-- A die whose `k`-th walk has ended with translation `t`, which serves the misses in `queued`. -/
def Die.walked (k : Nat) (t : TlbEntry) (queued : List Miss) (x : Die) : Die :=
  { x with
    walks := x.walks.eraseIdx k, attached := x.attached.filter (fun y => !t.covers y.ctx (y.page * 65536)),
    misses := x.misses.filter (fun y => !queued.contains y), tlb := fillSet t x.tlb }

theorem exec_pageWalkComplete {k : Nat} {m : Miss} {l : Leaf} (h : (s.die d).walks[k]? = some m)
    (hw : s.walk d m.ctx (m.page * 65536) = .ok l) (ha : bitOf l.entry 6 = true) :
    ∃ queued cores, exec (.pageWalkComplete d k) s = .next ((sortAddrs (m.core :: cores)).foldl (fun s c => s.onCore c fun x =>
      { x with tlb := (m.entry l :: x.tlb.filter fun u => !u.same (m.entry l)).take 384 })
      ((s.onDie d (Die.walked k (m.entry l) queued)).admitMisses d)) := by
  refine ⟨if l.level = 1 then (s.die d).misses.filter fun x => (m.entry l).covers x.ctx (x.page * 65536) else [],
    (((s.die d).attached.filter fun x => (m.entry l).covers x.ctx (x.page * 65536)) ++
      if l.level = 1 then (s.die d).misses.filter fun x => (m.entry l).covers x.ctx (x.page * 65536) else []).map (·.core), ?_⟩
  show execPageWalkComplete d k s = _
  simp only [execPageWalkComplete, h, hw, ha, if_true]
  rfl

theorem exec_pageWalkComplete_ok {k : Nat} {m : Miss} {l : Leaf} (h : (s.die d).walks[k]? = some m)
    (hw : s.walk d m.ctx (m.page * 65536) = .ok l) (ha : bitOf l.entry 6 = true) :
    ∃ t, exec (.pageWalkComplete d k) s = .next t ∧ t.mem = s.mem ∧ (t.die d).walks = (s.die d).walks.eraseIdx k ∧
      (∃ u ∈ (t.core m.core).tlb, u.covers m.ctx (m.page * 65536) = true ∧ u.leaf = l) ∧
      ∃ u ∈ (t.die d).tlb, u.covers m.ctx (m.page * 65536) = true ∧ u.leaf = l := by
  obtain ⟨queued, cores, hexec⟩ := exec_pageWalkComplete h hw ha
  have hkept := WalksKept.admitMisses (d := d) (s.onDie d (Die.walked k (m.entry l) queued)) d
  obtain ⟨honly, hcores⟩ := fillCores (m.entry l) (sortAddrs (m.core :: cores)) ((s.onDie d (Die.walked k (m.entry l) queued)).admitMisses d)
  have hcovers : (m.entry l).covers m.ctx (m.page * 65536) = true :=
    (Bool.and_eq_true _ _).mpr ⟨beq_self_eq_true _, beq_self_eq_true _⟩
  refine ⟨_, hexec, honly.mem.trans hkept.mem, ?_, ⟨_, hcores m.core (mem_sortAddrs_cons ..), hcovers, rfl⟩, ?_⟩
  · rw [State.die, honly.dies]
    refine hkept.walks.trans ?_
    rw [State.onDie_self]
    rfl
  · rw [State.die, honly.dies]
    refine ⟨_, hkept.tlb _ ?_, hcovers, rfl⟩
    rw [State.onDie_self]
    exact List.mem_cons_self ..

end

section
variable {s : State} {c id : Nat} {k : Cmd} (h : s.cmd c id = some k)
include h

theorem exec_copyComplete (hc : k.complete = false) (hf : k.faulted = none) (hk : k.kind = .cpy) (hm : k.ne * k.nr ≤ k.moved)
    (hg : k.going = []) (hp : s.performed k.unacked = true) :
    exec (.copyComplete c id) s = .next (s.onCmd c id fun k => { k with complete := true, unacked := [] }) := by
  show execCopyComplete c id s = _
  simp [execCopyComplete, h, hc, hf, hk, hm, hg, hp]

theorem exec_copyFault {f : Fail} (hr : s.cmdReady c k = true) (hk : k.kind = .cpy) (hm : k.moved < k.ne * k.nr)
    (hf : (s.cmdSpots c k [k.moved]).2 = some f) :
    exec (.copyFault c id) s = .next (s.onCmd c id fun k => { k with faulted := some f.tval, faultCause := f.cause }) := by
  have hnext : k.nextRow = none := by simp only [Cmd.nextRow, hk]
  show execCopyFault c id s = _
  simp only [execCopyFault, h, hr, hnext, hm, hf, Bool.not_true, Bool.false_eq_true, if_false, if_true]

theorem exec_drawerRowFilled {i key : Nat} {xs : List Spot} (hr : s.cmdReady c k = true) (hn : k.nextRow = some (i, key))
    (hff : s.fillsFirst c id key = false) (ha : k.asked = []) (ht : k.tags = []) (hx : s.claimRow c k i = .ok xs) :
    (k.holds xs = false → exec (.drawerRowFilled c id) s =
      .next ((if k.got.isEmpty then s.noteFresh (k.issuing c) k.ahead xs else s).cmdFetch c k xs)) ∧
    (k.holds xs = true → tget .ready (s.core c).rows key = .pending id → exec (.drawerRowFilled c id) s =
      .next (((s.store (placed ((Home.drawer c).at (key * 256)) (xs.flatMap k.bytesAt))).onCore c fun x =>
        { x with rows := tdel x.rows key }).onCmd c id fun k =>
          { k with rows := k.rows.drop 1, complete := k.rows.length ≤ 1, got := [] })) := by
  refine ⟨fun hh => ?_, fun hh hmine => ?_⟩ <;> show execDrawerRowFilled c id s = _
  · simp only [execDrawerRowFilled, h, hn, hr, hff, ha, ht, hx, hh, Bool.not_true, Bool.not_false, List.isEmpty_nil, Bool.or_self,
      Bool.false_eq_true, if_false, if_true]
  · simp only [execDrawerRowFilled, h, hn, hr, hff, ha, ht, hx, hh, hmine, Bool.not_true, List.isEmpty_nil, Bool.or_self,
      Bool.false_eq_true, if_false, if_true, beq_self_eq_true]

end

theorem exec_prefetch {s : State} {c n : Nat} {t : Stream} (h : (s.seatAt c n).stream = some t) :
    exec (.prefetchReadArrival c n) s =
      match (if t.live.foldl (fun k r => k + r.out) 0 < field (s.seatAt c n).pfd 5 0 then t.reads.find? fun r => s.streamMay c n t r else none) with
      | some r => .next (s.streamSend c n t r)
      | none =>
        match (if t.live.foldl (fun k r => k + r.out) 0 + t.live.foldl (fun k r => k + r.unsent) 0 < field (s.seatAt c n).pfd 5 0 then
          s.streamNext (s.issuingFor c n) (s.seatAt c n) t else none) with
        | some (row, lack) => .next (s.streamAsk c n row t lack)
        | none =>
          match t.reads.find? fun r => s.streamHere c n r with
          | none => event "PREFETCH_READ_ARRIVAL" false s
          | some r => .next (s.streamTake c n t r) := by
  show execPrefetchReadArrival c n s = _
  simp only [execPrefetchReadArrival, h] <;> rfl

section
variable {s : State} {id kind key ctx va : Nat} {p : Posted} (h : s.posted.find? (fun q => q.id == id) = some p)
  (hfirst : s.posted.all (fun q => id ≤ q.id) = true)
include h hfirst

theorem exec_tlbiComplete :
    (p.kind = .tlbi kind key ctx va none → exec (.tlbiComplete id) s =
      .next ((s.dropTlb fun t => t.dropped kind key ctx va).onPosted id (.tlbi kind key ctx va (some s.nextPost)))) ∧
    (∀ n, p.kind = .tlbi kind key ctx va (some n) → s.translatedBefore n = false → exec (.tlbiComplete id) s = .next (s.unpost id)) := by
  have hnone (f : Posted → Bool) : (s.posted.any fun q => q.id < id && f q) = false := by
    refine List.any_eq_false.2 fun q hq => ?_
    have hle : id ≤ q.id := by simpa using List.all_eq_true.1 hfirst q hq
    simp [Nat.not_lt.mpr hle]
  refine ⟨fun hk => ?_, fun n hk hb => ?_⟩ <;> show execTlbiComplete id s = _ <;>
    simp only [execTlbiComplete, h, hk, Bool.and_assoc, hnone, Bool.false_eq_true, if_false]
  exact event_true _ _ (by rw [hb]; rfl)

end

/-- Settles O53. -/
theorem arrivalEvents : Obligations.ArrivalEvents := by
  unfold Obligations.ArrivalEvents
  refine ⟨fun s c l h => ⟨exec_resultLand h, exec_pushLand h⟩, fun s c n ctx line a l hf hr hl ht => icacheFill_result hf hr hl ht,
    fun s c k l t h hr hne hp hcut => ?direct, fun s c k l t h => ⟨fun b hr hmay => exec_outerLoad_waiting h hr hmay,
      fun q v s1 hr hp hfirst hpois hcut href hq => exec_outerLoad_asking h hr hp hfirst hpois hcut href hq⟩,
    fun s c k f l t h hf hx hseat hdue => ?timeout, fun s id p h ht ho => ?posted,
    fun s d ctx va l => exec_armedGranuleCopy, fun s d m => exec_pageWalk,
    fun s d k m h => ⟨fun e he => exec_pageWalkComplete_error h he, fun l hl ha _ => exec_pageWalkComplete_ok h hl ha⟩,
    fun s c id k h => ⟨exec_copyComplete h, fun f => exec_copyFault h,
      fun i key xs hr hn hff ha ht hx => (exec_drawerRowFilled h hr hn hff ha ht hx).1,
      fun i key xs hr hn hff ha ht hx => (exec_drawerRowFilled h hr hn hff ha ht hx).2⟩,
    fun s c n row t lack h => ?stream, fun s id kind key ctx va p h hfirst => exec_tlbiComplete h hfirst⟩
  case direct =>
    intro part
    refine ⟨fun hfirst hpois href => ⟨fun ha => ?_, fun a ha => ?_⟩, exec_remoteRefusal h hr hp hcut⟩
    · rw [exec_outerLoad_direct h hr hne hp hcut hfirst hpois href, ha]
    · rw [exec_outerLoad_direct h hr hne hp hcut hfirst hpois href, ha]
  case timeout =>
    have hexec := exec_remoteTimeout h hf hx hseat hdue
    by_cases hr : t.route = .direct
    · exact ⟨0, hexec.trans (congrArg _ (State.timeOut_direct hr)), fun _ => rfl⟩
    · exact ⟨_, hexec, fun h => absurd h hr⟩
  case posted =>
    intro done run
    have hexec := exec_posted h ht ho
    refine ⟨fun bs m hk hheld => ?_, fun n station hd v hk hheld => ?_, fun station m hk => ?_, fun hk => ?_,
      fun d rec amount hk hd hxi => exec_posted_decrement h ht ho hk hd hxi, fun c n f clear hk href => ?_, fun q v hk => ?_, fun key hk => ?_,
      fun a flip => exec_releasePerform h ht ho⟩
    · intro now later left first
      obtain ⟨hcarry, hrefuse, hwrite⟩ := exec_posted_write h ht ho hk hheld
      refine ⟨hrefuse, fun hc href => ⟨fun hplain => ?_, fun l va hl hva => ?_⟩, fun src => hcarry src⟩
      · rw [show run = _ from hwrite hc href, State.performItem_plain hplain]
      · rw [show run = _ from hwrite hc href, State.performItem_through hl hva]
    all_goals simp only [hk] at hexec
    · rw [hheld] at hexec
      exact hexec
    · exact hexec
    · exact hexec
    · exact hexec.trans (if_neg (by rw [href]; exact Bool.false_ne_true))
    · exact hexec
    · exact hexec
  case stream =>
    intro depth out unsent may next
    have hexec := exec_prefetch h
    have hno {p : Prop} [Decidable p] {α : Type} {x : Option α} (h : ¬p ∨ x = none) : (if p then x else none) = none := by
      rcases h with h | h
      · exact if_neg h
      · rw [h, ite_self]
    have hmay (hm : depth ≤ out ∨ may = none) : (if out < depth then may else none) = none := hno (hm.imp_left Nat.not_lt.mpr)
    refine ⟨fun r hlt hr => ?_, fun hm hlt hn => ?_, fun r hm hn hr => ?_⟩
    · rw [hexec, show (if out < depth then may else none) = some r from (if_pos hlt).trans hr]
    · rw [hexec, show (if out < depth then may else none) = none from hmay hm,
        show (if out + unsent < depth then next else none) = some (row, lack) from (if_pos hlt).trans hn]
    · rw [hexec, show (if out < depth then may else none) = none from hmay hm,
        show (if out + unsent < depth then next else none) = none from hno (hn.imp_left Nat.not_lt.mpr), hr]

end Sys2Proof.Machine

/-! ### The tables of launches, jobs and tasks under writes of memory -/

namespace Sys2Proof.Machine

/-- The tables of launches, jobs and tasks: no write of memory is seen in them. -/
structure Files where
  launches : Tab Launch
  jobs : Tab Job
  savedTasks : List SavedTask
  taskKeys : List (Nat × Nat × BitVec 256)
  inserting : List Insertion
  hitting : List (Nat × Nat × Nat)

def State.files (s : State) : Files := ⟨s.launches, s.jobs, s.savedTasks, s.taskKeys, s.inserting, s.hitting⟩

variable (s : State)

@[simp] theorem State.reseal_files (m : BitVec 512) (g : Nat) : (s.reseal m g).files = s.files := by
  unfold State.reseal
  split <;> rfl

theorem foldl_files {α : Type} {f : State → α → State} (h : ∀ s a, (f s a).files = s.files) (l : List α) (s : State) :
    (l.foldl f s).files = s.files :=
  foldl_rel (R := fun s t : State => t.files = s.files) (fun _ => rfl) (fun h h' => h'.trans h) h l s

@[simp] theorem State.storeKeyed_files (m : Option (BitVec 512)) (bs : List (Nat × Byte)) : (s.storeKeyed m bs).files = s.files := by
  cases m with
  | none => rfl
  | some m =>
    refine Eq.trans (b := (bs.foldl (fun s p => if encrypted p.1 then s.reseal m (p.1 / 64) else s) s).files) rfl (foldl_files (fun s p => ?_) bs s)
    split
    · exact s.reseal_files m _
    · rfl

@[simp] theorem State.notify_files (gs : List Nat) : (s.notify gs).files = s.files := rfl
@[simp] theorem State.onCore_files (c : Nat) (f : Core → Core) : (s.onCore c f).files = s.files := rfl
@[simp] theorem State.onDie_files (d : Nat) (f : Die → Die) : (s.onDie d f).files = s.files := rfl
@[simp] theorem State.onSeat_files (c n : Nat) (f : Seat → Seat) : (s.onSeat c n f).files = s.files := rfl
@[simp] theorem State.logAt_files (d cls unit info loc tenant coord : Nat) : (s.logAt d cls unit info loc tenant coord).files = s.files := rfl
@[simp] theorem State.queueTask_files (d rec : Nat) (front : Bool) : (s.queueTask d rec front).files = s.files := rfl
@[simp] theorem State.freeSeat_files (c n : Nat) : (s.freeSeat c n).files = s.files := rfl
@[simp] theorem State.store_files (bs : List (Nat × Byte)) : (s.store bs).files = s.files := rfl

@[simp] theorem State.setRecDw_files (d rec i : Nat) (v : Word) : (s.setRecDw d rec i v).files = s.files := by
  rw [State.setRecDw, State.notify_files, State.storeNat, State.store_files]

@[simp] theorem State.setRecState_files (d rec v : Nat) : (s.setRecState d rec v).files = s.files := s.setRecDw_files d rec 0 _

@[simp] theorem State.performBytes_files (m : Option (BitVec 512)) (bs : List (Nat × Byte)) : (s.performBytes m bs).files = s.files := by
  rw [State.performBytes, State.notify_files, State.storeKeyed_files]

@[simp] theorem State.ring_files (bs : List (Nat × Byte)) : (s.ring bs).files = s.files := by
  unfold State.ring
  dsimp only
  split <;> rfl

@[simp] theorem State.clip_files (a : Nat) : (s.clip a).files = s.files := by
  unfold State.clip
  dsimp only
  split
  · exact s.store_files _
  · split
    · exact s.store_files _
    · rfl

@[simp] theorem State.writeBytes_files (m : Option (BitVec 512)) (bs : List (Nat × Byte)) : (s.writeBytes m bs).files = s.files := by
  refine (foldl_files (fun s p => s.clip_files p.1) bs _).trans ?_
  rw [State.ring_files, State.performBytes_files]

@[simp] theorem State.onEntry_files (a : Nat) (f : Word → Word) : (s.onEntry a f).files = s.files := by
  unfold State.onEntry
  simp

@[simp] theorem State.onLeaf_files (l : Leaf) (f : Word → Word) : (s.onLeaf l f).files = s.files := by
  unfold State.onLeaf
  dsimp only
  split
  · exact s.onEntry_files _ f
  · rfl

@[simp] theorem State.setDirty_files (d ctx va : Nat) (l : Leaf) : (s.setDirty d ctx va l).files = s.files := by
  unfold State.setDirty
  dsimp only
  split
  · split <;> simp
  · simp

@[simp] theorem State.announce_files (d ctx va : Nat) (l : Leaf) (bs : List (Nat × Byte)) : (s.announce d ctx va l bs).files = s.files := by
  unfold State.announce
  dsimp only
  have hdrop : (if bitOf (s.current l).entry 5 = true then s.dropDigests (bs.map fun p => p.1 / 65536) else s).files = s.files := by
    split <;> rfl
  split
  · exact hdrop
  · rw [State.setDirty_files, hdrop]

@[simp] theorem State.performThrough_files (d ctx va : Nat) (l : Leaf) (m : Option (BitVec 512)) (bs : List (Nat × Byte)) :
    (s.performThrough d ctx va l m bs).files = s.files := by
  rw [State.performThrough, State.writeBytes_files, State.announce_files]

@[simp] theorem State.emptyEntry_files (d e tenant coord : Nat) : (s.emptyEntry d e tenant coord).files = s.files := by
  rw [State.emptyEntry, State.logAt_files, State.performBytes_files]

@[simp] theorem State.setReuseDw_files (d e i v : Nat) : (s.setReuseDw d e i v).files = s.files := s.performBytes_files none _

@[simp] theorem State.writeSpot_files (d ctx : Nat) (x : Spot) (bs : List Byte) : (s.writeSpot d ctx x bs).files = s.files := by
  unfold State.writeSpot
  split <;> simp

@[simp] theorem State.writeOutputs_files (d ctx : Nat) (xs : List (Nat × Spot)) (bs : List Byte) : (s.writeOutputs d ctx xs bs).files = s.files :=
  foldl_rel (R := fun x y : State × List Byte => y.1.files = x.1.files) (fun _ => rfl) (fun h h' => h'.trans h)
    (fun x y => x.1.writeSpot_files d ctx y.2 _) xs (s, bs)

theorem State.writeVirt_files {s t : State} {d ctx va : Nat} {bs : List Byte} (h : s.writeVirt d ctx va bs = some t) : t.files = s.files := by
  unfold State.writeVirt at h
  have hrel := foldl_rel (R := fun x y : Option State => ∀ t, y = some t → ∃ u, x = some u ∧ t.files = u.files)
    (f := fun (acc : Option State) p => acc.bind fun s => match s.mapOn d ctx true .write p.1 with
      | .error _ => none
      | .ok m =>
        if (s.mapFault d ctx p.1 m.leaf).isSome then none
        else some (s.performThrough d ctx p.1 m.leaf m.material (placed m.flat ((bs.drop (p.1 - va)).take p.2))))
    (fun _ t h => ⟨t, h, rfl⟩)
    (fun h h' t ht => by
      obtain ⟨u, hu, e⟩ := h' t ht
      obtain ⟨v, hv, e'⟩ := h u hu
      exact ⟨v, hv, e.trans e'⟩)
    (fun x p t ht => by
      obtain ⟨u, hu, hstep⟩ := Option.bind_eq_some_iff.1 ht
      refine ⟨u, hu, ?_⟩
      split at hstep
      · cases hstep
      · split at hstep
        · cases hstep
        · obtain rfl := Option.some.inj hstep
          simp) (pagesOf va bs.length) (some s) t h
  obtain ⟨u, hu, e⟩ := hrel
  obtain rfl := Option.some.inj hu
  exact e

end Sys2Proof.Machine

/-! ### Scheduling, saves, launches and reuse (15 R392-R407, 17 R430-R441) -/

namespace Sys2Proof.Machine

/-- A fold over other seats leaves the core but for its seats, and its own seat. -/
theorem Core.foldl_setSeat (g : Core → Nat → Seat) {i : Nat} {l : List Nat} (h : i ∉ l) (k : Core) :
    ∃ x, l.foldl (fun k j => k.setSeat j (g k j)) k = { k with seats := x } ∧ tget Seat.reset x i = k.seat i := by
  induction l generalizing k with
  | nil => exact ⟨k.seats, rfl, rfl⟩
  | cons j l ih =>
    obtain ⟨hj, hl⟩ := not_or.1 (mt List.mem_cons.2 h)
    obtain ⟨x, hx, hi⟩ := ih hl (k.setSeat j (g k j))
    exact ⟨x, hx, hi.trans (Core.setSeat_other _ _ _ _ hj)⟩

/-- The core once the selector has chosen a seat (17 R434). -/
theorem Core.select_chosen {k : Core} {p i : Nat} (h : k.chosen = some (p, i)) :
    ∃ x, k.select = ({ k with seats := x, rr := tput k.rr p i, running := some i, withheld := none, latches := .zero }).setSeat i
      { k.seat i with st := .running, passed := 0, span := 0, spin := .clear } := by
  have hnot : i ∉ k.choices.filter (fun j => j != i) := by simp
  obtain ⟨x, hx, hi⟩ := Core.foldl_setSeat (fun k j =>
    { k.seat j with passed := (k.seat j).passed + 1, boost := (k.seat j).boost || (k.seat j).passed + 1 == 65536 }) hnot k
  refine ⟨x, ?_⟩
  simp only [Core.select, h]
  dsimp only at hx
  rw [hx]
  show Core.setSeat _ i { tget Seat.reset x i with st := .running, passed := 0, span := 0, spin := .clear } = _
  rw [hi]

variable {s : State} {c n : Nat}

theorem issueSelect_result {p i : Nat} (hrun : (s.core c).running = none) (hb : (s.core c).bubble = false) (h : (s.core c).chosen = some (p, i)) :
    ∃ t, exec (.issueSelect c) s = .next t ∧ t.mem = s.mem ∧ t.dies = s.dies ∧ (t.core c).running = some i ∧ (t.core c).latches = .zero ∧
      (t.core c).withheld = none ∧ (t.core c).flight = (s.core c).flight ∧ (t.seatAt c i).st = .running ∧ (t.seatAt c i).passed = 0 ∧
      (t.seatAt c i).pc = (s.seatAt c i).pc ∧ (t.seatAt c i).s0 = (s.seatAt c i).s0 ∧ (t.seatAt c i).v = (s.seatAt c i).v := by
  obtain ⟨x, hx⟩ := Core.select_chosen h
  have hexec : exec (.issueSelect c) s = .next (s.onCore c Core.select) := event_true _ _ (by simp [hrun, hb, h])
  refine ⟨_, hexec, rfl, rfl, ?_⟩
  simp only [State.seatAt, State.onCore_self, hx, Core.setSeat_self]
  exact ⟨rfl, rfl, rfl, rfl, trivial, trivial, trivial, trivial, trivial⟩

/-! ### Binding and dispatch (17 R433, 07 R186) -/

/-- A write that others see changes the seats of a core alone. -/
theorem State.notify_core (s : State) (gs : List Nat) (c : Nat) : ∃ x, (s.notify gs).core c = { s.core c with seats := x } := by
  show ∃ x, tget Core.reset (s.cores.map fun p => (p.1, _)) c = _
  rcases tget_map Core.reset s.cores (fun k => { k with seats := k.seats.map fun q => (q.1, q.2.notified gs) }) c with h | h
  · exact ⟨(s.core c).seats, h⟩
  · exact ⟨_, h⟩

theorem State.setRecDw_core (s : State) (d rec i : Nat) (v : Word) (c : Nat) : ∃ x, (s.setRecDw d rec i v).core c = { s.core c with seats := x } := by
  rw [State.setRecDw, State.storeNat, ← State.store_core s (placed (s.recAt d rec + 8 * i) (leBytes 8 v.toNat)) c]
  exact State.notify_core _ _ c

theorem State.setRecState_core (s : State) (d rec v c : Nat) : ∃ x, (s.setRecState d rec v).core c = { s.core c with seats := x } :=
  s.setRecDw_core d rec 0 _ c

/-- What the Sluice leaves of a core whose seat `n` it bound to a task of slot `l` and priority `p`. -/
structure Core.Bound (k k' : Core) (n p l : Nat) : Prop where
  st : (k'.seat n).st = .loading
  loading : (k'.seat n).loading = 41
  dcnt : tget 0 k'.dcnt n = tget 0 k.dcnt n + 1
  ptr : tget 63 k'.ptr p = l

theorem Core.Bound.setSeat {k k' : Core} {n p l : Nat} {st : Seat} (hd : k'.dcnt = tput k.dcnt n (tget 0 k.dcnt n + 1))
    (hp : k'.ptr = tput k.ptr p l) (hst : st.st = .loading) (hload : st.loading = 41) : k.Bound (k'.setSeat n st) n p l where
  st := by rw [Core.setSeat_self, hst]
  loading := by rw [Core.setSeat_self, hload]
  dcnt := by rw [Core.setSeat_dcnt, hd, tget_tput_self]
  ptr := by rw [Core.setSeat_ptr, hp, tget_tput_self]

theorem Core.Bound.cmds {k k' : Core} {n p l : Nat} (h : k.Bound k' n p l) (cmds : List Cmd) : k.Bound { k' with cmds := cmds } n p l :=
  ⟨h.st, h.loading, h.dcnt, h.ptr⟩

theorem State.rename_bound {s : State} {c n p l : Nat} {task : Nat × Nat} {k : Core} (h : k.Bound (s.core c) n p l) :
    k.Bound ((s.rename c n task).core c) n p l := by
  rw [State.rename, State.onCore_self]
  exact h.cmds _

theorem sluiceBind_result {p l rec : Nat} {t : State} (hnext : (s.core c).nextTask = some (p, l, rec)) (hfree : (s.core c).freeSeat = some n)
    (hmay : s.mayBind c l rec = true) (hat : (s.core c).boundAt ≠ some (s.cycOf c)) (hin : s.installSides c l = some t) :
    ∃ u, exec (.sluiceBind c) s = .next u ∧ (t.core c).Bound (u.core c) n p l := by
  have hno : (!s.mayBind c l rec || (s.core c).boundAt == some (s.cycOf c)) = false := by simp [hmay, hat]
  let t1 : State := { t with
    spawned := t.spawned.filter fun x => !(x.1 == dieOf c && x.2.1 == rec)
    savedTasks := t.savedTasks.filter fun x => !(x.die == dieOf c && x.record == rec) }
  obtain ⟨x, hx⟩ := t1.setRecState_core (dieOf c) rec 3 c
  have hx : (t1.setRecState (dieOf c) rec 3).core c = { t.core c with seats := x } := hx
  show ∃ u, execSluiceBind c s = .next u ∧ _
  simp only [execSluiceBind, hnext, hfree, hno, hin]
  cases hsaved : t.savedTasks.find? fun t => t.die == dieOf c && t.record == rec with
  | none =>
    refine ⟨_, rfl, ?_⟩
    rw [State.onCore_self, State.onCore_self, hx]
    exact .setSeat rfl rfl rfl rfl
  | some y =>
    refine ⟨_, rfl, ?_⟩
    split
    · refine State.rename_bound ?_
      rw [State.onCore_self, State.onCore_self, hx]
      exact .setSeat rfl rfl rfl rfl
    · rw [State.onDie_core]
      refine State.rename_bound ?_
      rw [State.onCore_self, State.onCore_self, hx]
      exact .setSeat rfl rfl rfl rfl

section
variable (hl : (s.seatAt c n).st = .loading)
include hl

theorem exec_dispatchComplete {t : Tab LteBits} (hr : (s.seatAt c n).restoring = false) (hf : (s.seatAt c n).filling = false)
    (h0 : (s.seatAt c n).loading = 0) (ht : s.template (dieOf c) (s.recSlot (dieOf c) (s.seatAt c n).record) = some t) :
    ∃ u, exec (.dispatchComplete c n) s = .next u ∧ u.mem = s.mem ∧ (u.seatAt c n).lte = t ∧
      (u.seatAt c n).g = s.firstG (dieOf c) (s.seatAt c n).record (s.recSlot (dieOf c) (s.seatAt c n).record) ∧
      (u.seatAt c n).pc = (s.seatAt c n).pc ∧ ((s.seatAt c n).pure = false → (u.seatAt c n).st = .runnable) := by
  have hready : ((s.seatAt c n).st ≠ .loading || (s.seatAt c n).restoring || (s.seatAt c n).filling || (s.seatAt c n).loading ≠ 0) = false := by
    simp [hl, hr, hf, h0]
  show ∃ u, execDispatchComplete c n s = .next u ∧ _
  simp only [execDispatchComplete, hready, ht, Bool.false_eq_true, if_false]
  refine ⟨_, rfl, rfl, ?_⟩
  rw [State.seatAt, State.onCore_self, Core.setSeat_self]
  split
  · rename_i hfill
    exact ⟨rfl, rfl, rfl, fun hp => by simp [hp] at hfill⟩
  · exact ⟨rfl, rfl, rfl, fun _ => rfl⟩

theorem exec_scratchFillComplete (hf : (s.seatAt c n).filling = true) :
    ∃ u, exec (.scratchFillComplete c n) s = .next u ∧ (u.seatAt c n).st = .runnable ∧ (u.seatAt c n).filling = false := by
  have hready : ((s.seatAt c n).st ≠ .loading || !(s.seatAt c n).filling) = false := by simp [hl, hf]
  show ∃ u, execScratchFillComplete c n s = .next u ∧ _
  simp only [execScratchFillComplete, hready, Bool.false_eq_true, if_false]
  exact ⟨_, rfl, by rw [State.onSeat_self], by rw [State.onSeat_self]⟩

theorem exec_seatRestoreComplete (hr : (s.seatAt c n).restoring = true) (h0 : (s.seatAt c n).loading = 0)
    (hasks : (s.die (dieOf c)).asks.any (fun a => a.core == c && a.seat == n) = false) (hm : (s.seatAt c n).mBlank = true) :
    ∃ u, exec (.seatRestoreComplete c n) s = .next u ∧ u.mem = s.mem ∧ (u.seatAt c n).st = .runnable ∧
      (u.seatAt c n).restoring = false ∧ (u.seatAt c n).pc = (s.seatAt c n).pc := by
  show ∃ u, execSeatRestoreComplete c n s = .next u ∧ _
  simp only [execSeatRestoreComplete, hl, hr, h0, hasks, hm]
  refine ⟨_, rfl, rfl, ?_⟩
  rw [State.seatAt, State.onCore_self, Core.setSeat_self]
  exact ⟨rfl, rfl, rfl⟩

end

/-! ### Pre-emption, saves and leave (17 R437-R441) -/

theorem exec_preemptRequest {why : Preempt} (hst : (s.seatAt c n).st ≠ .free) (hsv : (s.seatAt c n).saving = none)
    (hlv : (s.seatAt c n).leaving = false) (hp : why = .priority → (s.core c).outranked n = true)
    (hs : why = .snapshot → s.shooting (dieOf c) (s.seatAt c n).job = true) :
    ∃ t, exec (.preemptRequest c n why) s = .next t ∧ t.mem = s.mem ∧ (t.seatAt c n).saving = some (why,
      if why = .snapshot then tget (s.die (dieOf c)).cyc (s.job (s.seatAt c n).job).received (dieOf c) + (s.job (s.seatAt c n).job).shot
      else (s.die (dieOf c)).cyc + s.flim (dieOf c)) ∧
      (t.seatAt c n).leaving = ((s.seatAt c n).st == .runnable || (s.seatAt c n).st == .parked) := by
  have hexec (deadline : Nat) : ∀ t, t = s.preempt c n why deadline → t.mem = s.mem ∧ (t.seatAt c n).saving = some (why, deadline) ∧
      (t.seatAt c n).leaving = ((s.seatAt c n).st == .runnable || (s.seatAt c n).st == .parked) := by
    rintro _ rfl
    rw [State.preempt, State.onSeat_self]
    exact ⟨rfl, rfl, by simp [hlv]⟩
  refine ⟨_, event_true _ _ ?_, ?_⟩
  · cases why <;> simp_all
  · cases why <;> exact hexec _ _ rfl

theorem exec_forcedSave {why : Preempt} {deadline : Nat} (hrun : (s.core c).running = some n)
    (hsv : (s.seatAt c n).saving = some (why, deadline)) (hd : deadline ≤ (s.die (dieOf c)).cyc) (ht : (s.seatAt c n).trapping = none) :
    let b := s.landDue c (s.core c).idx
    ∃ t, exec (.forcedSave c n) s = .next t ∧ t.mem = b.mem ∧ (t.core c).running = none ∧
      (t.core c).flight = (b.core c).flight.filter (fun l => l.seat != n) ∧ (t.seatAt c n).st = .runnable ∧ (t.seatAt c n).leaving = true ∧
      (t.seatAt c n).drained.isSome = true ∧ bitOf (t.seatAt c n).tstat tstatFORCED = true := by
  intro b
  have hno : ((s.core c).running ≠ some n || (s.seatAt c n).trapping.isSome || !(decide (deadline ≤ (s.die (dieOf c)).cyc))) = false := by
    simp [hrun, ht, hd]
  show ∃ t, execForcedSave c n s = .next t ∧ _
  simp only [execForcedSave, hsv, hno, Bool.false_eq_true, if_false]
  refine ⟨_, rfl, rfl, ?_⟩
  simp only [State.seatAt, State.onCore_self, Core.setSeat_self, State.dropWaits_core]
  exact ⟨rfl, rfl, trivial, trivial, rfl, bitOf_setBit_self _ true (by decide)⟩

@[simp] theorem State.queueTask_seatAt (s : State) (d rec : Nat) (front : Bool) (c n : Nat) : (s.queueTask d rec front).seatAt c n = s.seatAt c n := by
  by_cases h : c = s.recCore d rec
  · subst h
    rw [State.queueTask, State.seatAt, State.onCore_self]
    rfl
  · rw [State.queueTask, State.seatAt, State.onCore_other _ _ _ _ h]
    rfl

theorem exec_seatSaveComplete {m : Mapped} {va : Nat} (hlv : (s.seatAt c n).leaving = true) (hq : s.quiet c n = true)
    (hslot : s.saveSlot (dieOf c) (s.seatAt c n).record (s.seatAt c n).ctx = .ok (m, va))
    (hheld : s.heldArmed (dieOf c) (s.seatAt c n).ctx va m.leaf = false) :
    let st := s.seatAt c n
    ∃ t x, exec (.seatSaveComplete c n) s = .next t ∧ (t.seatAt c n).st = .free ∧ t.savedTasks = s.savedTasks ++ [x] ∧ x.die = dieOf c ∧
      x.record = st.record ∧ x.core = c ∧ x.image = st.kept ∧ x.leave = st.leave ∧ x.why = st.saving.map (·.1) := by
  intro st
  show ∃ t x, execSeatSaveComplete c n s = .next t ∧ _
  simp only [execSeatSaveComplete, hlv, hq, hslot, hheld, Bool.not_true, Bool.or_false, Bool.false_eq_true, if_false]
  generalize hu : ({ s with nextPost := s.nextPost + 1 } : State).performThrough (dieOf c) (s.seatAt c n).ctx va m.leaf m.material
    (saveBytes s.nextPost m.flat (s.seatAt c n)) = u
  generalize hx : SavedTask.mk _ _ _ _ _ _ _ _ = x
  have hfiles : u.files = s.files := hu ▸ State.performThrough_files _ _ _ _ _ _ _
  generalize hv : (State.setRecState _ _ _ _).freeSeat c n = v
  have hsaved : v.savedTasks = s.savedTasks ++ [x] := by
    have hkept : v.files = ({ u with savedTasks := u.savedTasks ++ [x] } : State).files := by
      rw [← hv, State.freeSeat_files, State.setRecState_files]
    exact (congrArg Files.savedTasks hkept).trans (congrArg (· ++ [x]) (congrArg Files.savedTasks hfiles))
  have hfree : (v.seatAt c n).st = .free := hv ▸ (State.freeSeat_free _ c n).1
  subst hx
  split
  · exact ⟨_, _, rfl, (congrArg Seat.st (v.queueTask_seatAt ..)).trans hfree, hsaved, rfl, rfl, rfl, rfl, rfl, rfl⟩
  · exact ⟨_, _, rfl, hfree, hsaved, rfl, rfl, rfl, rfl, rfl, rfl⟩
  · exact ⟨_, _, rfl, hfree, hsaved, rfl, rfl, rfl, rfl, rfl, rfl⟩

theorem exec_leaveGrant {d : Nat} {a : LeaveAsk} (h : oldestAsk (s.die d).asks = some a)
    (hfit : (s.die d).grant + a.units ≤ s.pool (s.die d).memBound) :
    ∃ t, exec (.leaveGrant d) s = .next t ∧ t.mem = s.mem ∧ (t.die d).grant = (s.die d).grant + a.units ∧
      (t.die d).asks = (s.die d).asks.filter (fun b => b != a) ∧
      ((s.seatAt a.core a.seat).restoring = true → (t.seatAt a.core a.seat).leave = a.units) := by
  show ∃ t, execLeaveGrant d s = .next t ∧ _
  simp only [execLeaveGrant, h, gt_iff_lt, if_neg (Nat.not_lt.2 hfit)]
  refine ⟨_, rfl, rfl, ?_, ?_, fun hr => ?_⟩
  · rw [State.onSeat_die, State.onDie_self]
  · rw [State.onSeat_die, State.onDie_self]
  · rw [State.onSeat_self, State.onDie_seatAt, if_pos hr]

/-! ### Traps at the PC, and tasks released (07 R197, 18 R447) -/

section
variable (hrun : (s.core c).running = some n)
include hrun

theorem exec_spanWatchdog (h : (s.die (dieOf c)).wdog ≤ (s.seatAt c n).span) :
    exec (.spanWatchdog c) s =
      .next ((s.trapHere c n 19 (BitVec.ofNat 64 (s.seatAt c n).span) 0).onSeat c n fun st => { st with span := 0 }) := by
  show execSpanWatchdog c s = _
  simp only [execSpanWatchdog, hrun]
  exact event_true _ _ (by simp [State.overSpan, h])

theorem exec_illegalBundle {cause : Nat} {tval : Word} (h : s.illegalAt c n = some (cause, tval)) :
    exec (.illegalBundle c) s = .next (s.trapHere c n cause tval (field tval 10 8)) := by
  show execIllegalBundle c s = _
  simp only [execIllegalBundle, hrun, h]

end

theorem exec_taskRelease {d record : Nat} {t : SavedTask} (h : s.savedTasks.find? (fun t => t.die == d && t.record == record) = some t)
    (hq : s.queued d record = false) (hwhy : t.why = none) (hcode : field t.image.tcause 7 0 ≠ 24) :
    (∃ u, exec (.taskRelease d record true) s = .next u ∧ u.savedTasks = s.savedTasks.filter (fun u => !(u.die == d && u.record == record))) ∧
    (∃ u x, exec (.taskRelease d record false) s = .next u ∧ x ∈ u.savedTasks ∧ x.die = d ∧ x.record = record ∧ x.image = t.image.returned) := by
  have hmatch : (t.die == d && t.record == record) = true := by simpa using List.find?_some h
  obtain ⟨hd, hr⟩ := Bool.and_eq_true_iff.1 hmatch
  refine ⟨?_, ?_⟩
  · show ∃ u, execTaskRelease d record true s = .next u ∧ _
    simp only [execTaskRelease, h, hwhy, hq, hcode, ne_eq, not_false_iff, decide_true, Bool.not_true, Bool.or_self, Bool.false_eq_true,
      if_false, if_true]
    exact ⟨_, rfl, rfl⟩
  · show ∃ u x, execTaskRelease d record false s = .next u ∧ _
    simp only [execTaskRelease, h, hwhy, hq, hcode, ne_eq, not_false_iff, decide_true, Bool.not_true, Bool.or_self, Bool.false_eq_true,
      if_false]
    refine ⟨_, { t with image := t.image.returned }, rfl, ?_, eq_of_beq hd, eq_of_beq hr, rfl⟩
    refine List.mem_map.2 ⟨t, List.mem_of_find?_eq_some h, ?_⟩
    simp [hmatch]

/-! ### Launches (17 R430-R436) and streams (04 R96) -/

theorem exec_launchQueuePoll_waiting {q root : Nat} (h : s.waitingRoot q = some root) :
    exec (.launchQueuePoll q) s = .next (State.acceptSpawned q root 64 s) := by
  show execLaunchQueuePoll q s = _
  simp only [execLaunchQueuePoll, h]

section
variable {q : Nat} (hq : q < 64) (hon : s.queueOn q = true) (hawake : s.awake.contains q = true) (hw : s.waitingRoot q = none)
include hq hon hawake hw

theorem exec_launchQueuePoll_empty (hc : s.consumable q = false) :
    exec (.launchQueuePoll q) s =
      .next { ({ s with polled := tput s.polled q s.flume.time } : State) with awake := s.awake.filter fun x => x != q } := by
  have hturn (r : Bool) : (!(q < 64 && s.queueDue q && (!s.consumable q || r))) = false := by
    simp only [State.queueDue, hon, hawake, hc, hq, decide_true, Bool.true_or, Bool.and_self, Bool.not_false, Bool.not_true]
  have hc1 : ({ s with polled := tput s.polled q s.flume.time } : State).consumable q = false := hc
  show execLaunchQueuePoll q s = _
  simp only [execLaunchQueuePoll, hw, hturn, hc1, Bool.false_eq_true, if_false, Bool.not_false, if_true]

theorem exec_launchQueuePoll_takes {t : State} (hc : s.consumable q = true)
    (hrr : roundRobin 64 s.lastQueue ((List.range 64).filter fun i => s.queueDue i && s.consumable i) = some q) :
    let h := s.queueHead q
    let s1 := { s with polled := tput s.polled q s.flume.time }
    (s1.setQueueDw q 1 (h + 1)).takeRecord q (s1.loadNat (Home.ioc.at (s1.ringOff q h)) 8 % 2 ^ 17 * 256) = some t →
      exec (.launchQueuePoll q) s = .next { t with lastQueue := q } := by
  intro h s1 ht
  have hdue : s.queueDue q = true := by
    simp only [State.queueDue, hon, hawake, Bool.true_or, Bool.and_self]
  have hturn : (!(q < 64 && s.queueDue q && (!s.consumable q ||
      roundRobin 64 s.lastQueue ((List.range 64).filter fun i => s.queueDue i && s.consumable i) == some q))) = false := by
    simp only [hrr, hdue, hq, decide_true, beq_self_eq_true, Bool.or_true, Bool.and_self, Bool.not_true]
  have hc1 : s1.consumable q = true := hc
  show execLaunchQueuePoll q s = _
  simp only [execLaunchQueuePoll, hw, hturn, Bool.false_eq_true, if_false]
  rw [if_neg (by rw [hc1]; exact Bool.false_ne_true), ht]

end

theorem exec_launchCompletion_starting {slot : Nat} {next : List Nat} (h : (s.launch slot).starting = some next) (hf : s.freeSlots ≠ []) :
    exec (.launchCompletion slot) s = .next (s.finishLaunch slot next) := by
  show execLaunchCompletion slot s = _
  simp only [execLaunchCompletion, h]
  exact event_true _ _ (by simpa using hf)

theorem exec_launchCompletion_ended {slot : Nat} (hin : s.launches.any (fun l => l.1 == slot) = true)
    (hst : (s.launch slot).starting = none) (hend : s.launchEnded slot = true) (hwr : s.launchWrites slot = false) :
    let l := s.launch slot
    let s1 := (s.releaseStreams slot).writeCompletion slot (if l.failed = 0 then 0 else 2) 0 l
    let s1 := l.tasks.foldl (fun s t => s.setRecState t.1 t.2 0) s1
    let next := if l.failed = 0 then (s1.successorRecords slot false).map (·.2) else []
    exec (.launchCompletion slot) s = .next (s1.finishLaunch slot next) ∧
      (next = [] → s1.finishLaunch slot next = { s1 with launches := tdel s1.launches slot }) := by
  intro l s1 s1 next
  refine ⟨?_, fun h => ?_⟩
  · show execLaunchCompletion slot s = _
    simp only [execLaunchCompletion, hin, hst, hend, hwr, Bool.not_true, Bool.or_self, Bool.false_eq_true, if_false]
    rfl
  · rw [h]
    rfl

/-- Dies on which a launch still has to make its tasks. -/
def State.toMake (s : State) (slot : Nat) : List Nat := (s.launch slot).diesLeft

theorem State.toMake_of_files {s t : State} (h : t.files = s.files) (slot : Nat) : t.toMake slot = s.toMake slot :=
  congrArg (fun x : Files => (tget Launch.reset x.launches slot).diesLeft) h

theorem State.onLaunch_toMake {f : Launch → Launch} (hf : ∀ l, (f l).diesLeft = l.diesLeft) (s : State) (k slot : Nat) :
    (s.onLaunch k f).toMake slot = s.toMake slot := by
  by_cases h : slot = k
  · subst h
    rw [State.toMake, State.onLaunch_self, hf]
    rfl
  · exact congrArg Launch.diesLeft (tget_tput_other _ _ _ _ _ h)

theorem State.settle_toMake (s : State) (d rec : Nat) (failed hit : Bool) (slot : Nat) : (s.settle d rec failed hit).toMake slot = s.toMake slot := by
  refine Eq.trans (State.onLaunch_toMake ?_ _ _ _) ?_
  · exact fun _ => rfl
  · exact State.toMake_of_files (s.setRecState_files ..) slot

theorem State.makeReady_files (s : State) (d rec : Nat) : (s.makeReady d rec).files = s.files := by
  unfold State.makeReady
  dsimp only
  split
  · exact s.setRecState_files d rec 2
  · rw [State.queueTask_files, State.setRecState_files]

/-- A record whose doublewords are written joins its launch, ready if nothing comes before it (17 R431). -/
def State.joinLaunch (s : State) (d rec k dep save : Nat) : State :=
  let s := { s with
    taskKeys := s.taskKeys.filter fun x => !(x.1 == d && x.2.1 == rec)
    spawned := s.spawned.filter fun x => !(x.1 == d && x.2.1 == rec) }
  let s := s.onLaunch k fun x => { x with saves := x.saves ++ [save], tasks := x.tasks ++ [(d, rec)], total := x.total + 1 }
  if sint 32 dep ≤ 0 then s.makeReady d rec else s

theorem State.createRecord_joins (s : State) (d rec k coord dep save : Nat) (succ : Word) :
    ∃ words : List Word, s.createRecord d rec k coord dep save succ =
      ((List.range 16).foldl (fun s i => s.setRecDw d rec i (words.getD i 0)) s).joinLaunch d rec k dep save := ⟨_, rfl⟩

theorem State.joinLaunch_toMake (s : State) (d rec k dep save slot : Nat) : (s.joinLaunch d rec k dep save).toMake slot = s.toMake slot := by
  have hready (t : State) : (if sint 32 dep ≤ 0 then t.makeReady d rec else t).toMake slot = t.toMake slot := by
    split
    · exact State.toMake_of_files (t.makeReady_files d rec) slot
    · rfl
  refine (hready _).trans ((State.onLaunch_toMake ?_ _ _ _).trans rfl)
  exact fun _ => rfl

/-- A record that is made does not take a die from its launch. -/
theorem State.createRecord_toMake (s : State) (d rec k coord dep save : Nat) (succ : Word) (slot : Nat) :
    (s.createRecord d rec k coord dep save succ).toMake slot = s.toMake slot := by
  obtain ⟨words, h⟩ := s.createRecord_joins d rec k coord dep save succ
  rw [h, State.joinLaunch_toMake]
  exact State.toMake_of_files (foldl_files (fun s i => s.setRecDw_files ..) _ s) slot

theorem exec_taskCreation {slot d : Nat} {rest : List Nat} (h : (s.launch slot).diesLeft = d :: rest) (hsp : (s.launch slot).spawnLeft = [])
    (hroom : (s.slotCoords slot d).length ≤ (s.freeRecords d (s.slotCoords slot d).length 0).length) :
    ∃ t, exec (.taskCreation slot d) s = .next t ∧ (t.launch slot).diesLeft = rest := by
  have hno : ¬((s.launch slot).diesLeft.head? ≠ some d ∨ (!(s.launch slot).spawnLeft.isEmpty) = true ∨
      (s.freeRecords d (s.slotCoords slot d).length 0).length < (s.slotCoords slot d).length) := by
    simp [h, hsp, Nat.not_lt.2 hroom]
  show ∃ t, execTaskCreation slot d s = .next t ∧ t.toMake slot = rest
  simp only [execTaskCreation, if_neg hno]
  refine ⟨_, rfl, ?_⟩
  refine (foldl_rel (R := fun s t : State => t.toMake slot = s.toMake slot) (fun _ => rfl) (fun h h' => h'.trans h) (fun s i => ?_) _ _).trans ?_
  · split
    · rename_i save _
      generalize hu : State.createRecord s _ _ _ _ _ _ _ = u
      have hkept : u.toMake slot = s.toMake slot := hu ▸ State.createRecord_toMake ..
      split
      · rw [State.failRecord, State.settle_toMake, ← hkept]
        exact State.toMake_of_files (u.logAt_files ..) slot
      · exact hkept
    · rfl
  · rw [State.toMake, State.onLaunch_self, h]
    rfl

/-- An update of the Flume in which streams and class changes stand as they were. -/
def State.sameStreams (s t : State) : Prop := t.mem = s.mem ∧ t.flume.streams = s.flume.streams ∧ t.flume.classes = s.flume.classes

theorem State.writeGates_sameStreams (gs : List Nat) (s : State) : s.sameStreams (gs.foldl (fun s g => s.writeGate g 0) s) :=
  foldl_rel (R := State.sameStreams) (f := fun s g => s.writeGate g 0) (fun _ => ⟨rfl, rfl, rfl⟩)
    (fun h h' => ⟨h'.1.trans h.1, h'.2.1.trans h.2.1, h'.2.2.trans h.2.2⟩) (fun _ _ => ⟨rfl, rfl, rfl⟩) gs s

theorem tget_foldl_tput {α : Type} (d v : α) (f : Nat → Nat) (l : List Nat) (t : Tab α) (k : Nat) :
    tget d (l.foldl (fun t n => tput t (f n) v) t) k = if k ∈ l.map f then v else tget d t k := by
  induction l generalizing t with
  | nil => rfl
  | cons a l ih =>
    rw [List.foldl_cons, ih]
    by_cases h : k = f a
    · simp [h]
    · simp [h, tget_tput_other]

theorem exec_streamCloseFollowup {k at_ : Nat} {r : StreamRec} (hr : s.flume.streams[k]? = some r) (hc : r.closing = some at_)
    (hd : at_ + s.rotation (ringOf r.ring) ≤ s.ringTime (ringOf r.ring)) :
    ∃ t, exec (.streamCloseFollowup k) s = .next t ∧ t.mem = s.mem ∧
      t.flume.streams = s.flume.streams.eraseIdx k ∧ (∀ key, tget true t.flume.classes key =
        if key ∈ r.slots.map (slotKey (ringOf r.ring)) then false else tget true s.flume.classes key) := by
  show ∃ t, execStreamCloseFollowup k s = .next t ∧ _
  simp only [execStreamCloseFollowup, hr, hc]
  refine ⟨_, event_true _ _ (decide_eq_true hd), ?_⟩
  generalize sortAddrs _ = gs
  obtain ⟨hmem, hstreams, hclasses⟩ := State.writeGates_sameStreams gs s
  refine ⟨hmem, congrArg (List.eraseIdx · k) hstreams, fun key => ?_⟩
  exact (tget_foldl_tput true false (slotKey (ringOf r.ring)) r.slots _ key).trans (by rw [hclasses])

theorem State.hitting_of_files {s t : State} (h : t.files = s.files) : t.hitting = s.hitting := congrArg Files.hitting h

theorem State.inserting_of_files {s t : State} (h : t.files = s.files) : t.inserting = s.inserting := congrArg Files.inserting h

/-! ### The end and the reuse of tasks (15 R392-R407) -/

theorem exec_taskEndSuccessors {d record : Nat} (hst : s.recState d record = 5) (hw : s.taskWritten d record = true) :
    exec (.taskEndSuccessors d record) s = .next (((s.releaseSuccessors d record).settle d record false false).beginInsert d record) :=
  event_true _ _ (by simp [hst, hw])

section
variable {d record : Nat} (hst : s.recState d record = 2) (hp : s.recPure d record = true) (hq : s.queued d record = false)
  (hb : bitOf (s.recDw d record 5) 15 = false) (hm : s.madeReady d record = true) (hk : s.missedKey d record = none)
include hst hp hq hb hm hk

theorem reuseLookup_ready :
    (!(s.recState d record == 2 && s.recPure d record && !s.queued d record && !bitOf (s.recDw d record 5) 15 &&
      (s.missedKey d record).isNone && s.madeReady d record)) = false := by
  simp [hst, hp, hq, hb, hm, hk]

theorem exec_reuseLookup_unread (h : s.taskKey d record = none) : exec (.reuseLookup d record) s = .next (s.queueTask d record false) := by
  show execReuseLookup d record s = _
  simp only [execReuseLookup, reuseLookup_ready hst hp hq hb hm hk, h, Bool.false_eq_true, if_false]

theorem exec_reuseLookup_key {key : BitVec 256} {t : State} (h : s.taskKey d record = some (key, t)) :
    let missed : Res := .next ({ t with taskKeys := t.taskKeys ++ [(d, record, key)] }.queueTask d record false)
    (t.entryOf d (t.recTenant d record) key = none → exec (.reuseLookup d record) s = missed) ∧
    (∀ e, t.entryOf d (t.recTenant d record) key = some e →
      (t.reuseState d e = 2 → exec (.reuseLookup d record) s = .next { t.setRecDw d record 5 (BitVec.ofNat 64 (2 ^ 15 + e)) with
        hitting := t.hitting ++ [(d, record, e)] }) ∧
      (t.reuseState d e ≠ 2 → exec (.reuseLookup d record) s = missed)) := by
  intro missed
  show (_ → execReuseLookup d record s = _) ∧ ∀ e, _ → (_ → execReuseLookup d record s = _) ∧ (_ → execReuseLookup d record s = _)
  simp only [execReuseLookup, reuseLookup_ready hst hp hq hb hm hk, h, Bool.false_eq_true, if_false]
  refine ⟨fun he => ?_, fun e he => ⟨fun h2 => ?_, fun h2 => ?_⟩⟩ <;> rw [he]
  · exact if_pos h2
  · exact if_neg h2

end

theorem exec_reuseHitComplete {d record e : Nat} {bs : List Byte} {xs : List (Nat × Spot)}
    (hf : s.hitting.find? (fun x => x.1 == d && x.2.1 == record) = some (d, record, e)) :
    let k := s.recSlot d record
    let tenant := s.slotTenant k
    s.readVirt d (s.quotaCtx d tenant) true (s.blockVa d tenant e) (field (s.reuseDw d e 5) 31 0) = .ok bs →
    (s.template d k).bind (fun t => s.outputSpots (taskAgent (s.recCore d record) tenant (s.slotCtx k)) (roleEntries t 2)) = some xs →
    s.outputsHeld d (s.slotCtx k) xs = false → ∃ t : State, exec (.reuseHitComplete d record) s =
      .next ((t.releaseSuccessors d record).settle d record false true) ∧ t.hitting = s.hitting.filter fun x => !(x.1 == d && x.2.1 == record) := by
  intro k tenant hread hout hheld
  show ∃ t : State, execReuseHitComplete d record s = _ ∧ _
  simp only [execReuseHitComplete, hf]
  rw [hread, hout]
  refine ⟨_, if_neg (by rw [hheld]; exact Bool.false_ne_true), ?_⟩
  refine State.hitting_of_files (s := { s with hitting := s.hitting.filter fun x => !(x.1 == d && x.2.1 == record) }) ?_
  rw [State.setRecDw_files, State.setReuseDw_files, State.writeOutputs_files]

theorem exec_reuseInsertComplete {d record : Nat} {x : Insertion}
    (hf : s.inserting.find? (fun x => x.die == d && x.record == record) = some x)
    (hheld : ∀ xs, s.outputSpots (taskAgent x.core x.tenant x.ctx) x.outputs = some xs →
      s.rangeHeld d (s.quotaCtx d x.tenant) (s.blockVa d x.tenant x.entry) (s.outputBytes xs).length = false) :
    ∃ t, exec (.reuseInsertComplete d record) s = .next t ∧ t.inserting = s.inserting.erase x ∧
      (s.outputSpots (taskAgent x.core x.tenant x.ctx) x.outputs = none →
        let u := ({ s with inserting := s.inserting.erase x } : State).emptyEntry d x.entry x.tenant 0
        t = if u.recState d record = 6 then u.setRecDw d record 5 0 else u) := by
  have hempty : ∀ t u : State, u = ({ s with inserting := s.inserting.erase x } : State).emptyEntry d x.entry x.tenant 0 →
      t = (if u.recState d record = 6 then u.setRecDw d record 5 0 else u) → t.inserting = s.inserting.erase x := by
    rintro t u rfl rfl
    refine State.inserting_of_files (s := { s with inserting := s.inserting.erase x }) ?_
    split <;> simp
  show ∃ t, execReuseInsertComplete d record s = .next t ∧ _
  simp only [execReuseInsertComplete, hf]
  cases hout : s.outputSpots (taskAgent x.core x.tenant x.ctx) x.outputs with
  | none => exact ⟨_, rfl, hempty _ _ rfl rfl, fun _ => rfl⟩
  | some xs =>
    simp only [hheld xs hout, Bool.false_eq_true, if_false]
    split
    · exact ⟨_, rfl, hempty _ _ rfl rfl, nofun⟩
    · rename_i t k hcopied
      refine ⟨_, rfl, ?_, nofun⟩
      split at hcopied
      · cases hcopied
      · obtain ⟨u, hu, he⟩ := Option.map_eq_some_iff.1 hcopied
        obtain rfl : u = t := congrArg Prod.fst he
        refine State.inserting_of_files (s := { s with inserting := s.inserting.erase x }) ?_
        rw [State.setReuseDw_files, State.setReuseDw_files, State.setReuseDw_files, State.writeVirt_files hu]

/-- Settles O55. -/
theorem schedulerEvents : Obligations.SchedulerEvents := by
  unfold Obligations.SchedulerEvents
  refine ⟨fun s c p i => issueSelect_result, fun s c p l rec n t hn hf hm hb hi => ?_, fun s c n hl => ⟨fun t => exec_dispatchComplete hl,
    exec_scratchFillComplete hl, exec_seatRestoreComplete hl⟩, fun s c n why => exec_preemptRequest, fun s c n deadline why => exec_forcedSave,
    fun s c n m va => exec_seatSaveComplete, fun s d a => exec_leaveGrant, fun s c n h => ⟨exec_spanWatchdog h, fun cause tval => exec_illegalBundle h⟩,
    fun s d record t => exec_taskRelease, fun s q root => exec_launchQueuePoll_waiting,
    fun s q hq hon ha hw => ⟨exec_launchQueuePoll_empty hq hon ha hw, fun t => exec_launchQueuePoll_takes hq hon ha hw⟩,
    fun s slot d rest => exec_taskCreation, fun s slot next => exec_launchCompletion_starting, fun s slot => exec_launchCompletion_ended,
    fun s k at_ r => exec_streamCloseFollowup, fun s d record => ⟨exec_taskEndSuccessors, fun hst hp hq hb hm hk =>
      ⟨exec_reuseLookup_unread hst hp hq hb hm hk, fun key t => exec_reuseLookup_key hst hp hq hb hm hk⟩,
      fun e bs xs => exec_reuseHitComplete, fun x => exec_reuseInsertComplete⟩⟩
  obtain ⟨u, hexec, hbound⟩ := sluiceBind_result hn hf hm hb hi
  exact ⟨u, hexec, hbound.st, hbound.loading, hbound.dcnt, hbound.ptr⟩

end Sys2Proof.Machine

/-! ### Passes of slots at stations (04 R86-R120) -/

namespace Sys2Proof.Machine

section
variable (s : State) (p : Pass)

/-- The state of a pass once the slot's flits have come in (04 R118). -/
def State.slotIn : State := if p.ring = .flume then s else s.flitsIn (portTo s.package (s.ladeHop p.ring p.slot true)) 5

/-- The slot that passes. -/
def State.passing : Slot := p.arrives.getD (tget Slot.reset s.flume.slots (slotKey p.ring p.slot))

/-- A pass is over: the slot goes on as it is (04 R93, R118). -/
def State.passDone (t : State) (took : Bool) (h : Slot) : State :=
  let key := slotKey p.ring p.slot
  let u := if (s.halves p).2 = true then t.countWait p took else t
  { u with flume := { u.flume with
    slots := tset Slot.reset u.flume.slots key h
    leaving := if p.ring = .flume then u.flume.leaving else u.flume.leaving ++ [(key, h)]
    spoiled := if (s.halves p).2 = true then u.flume.spoiled.filter (fun k => k != key) else u.flume.spoiled
    done := if p.ring = .flume then u.flume.done ++ [(p.slot, p.station)] else u.flume.done } }

theorem State.slotIn_eq : ∃ k, s.slotIn p = { s with canal := k } := by
  unfold State.slotIn
  split
  · exact ⟨s.canal, rfl⟩
  · exact ⟨_, rfl⟩

theorem State.slotIn_flume : (s.slotIn p).flume = s.flume := by
  obtain ⟨k, h⟩ := s.slotIn_eq p
  rw [h]

theorem State.slotIn_nextPost : (s.slotIn p).nextPost = s.nextPost := by
  obtain ⟨k, h⟩ := s.slotIn_eq p
  rw [h]

theorem State.slotIn_halves : (s.slotIn p).halves p = s.halves p := by
  obtain ⟨k, h⟩ := s.slotIn_eq p
  rw [h]
  rfl

end

/-- The actions of a station on a slot that is good. -/
def State.acts (b : State) (p : Pass) (h : Slot) : State × Slot × List PassCase :=
  if h.owned then b.passOwned p h else b.passBest p h (slotKey p.ring p.slot)

theorem SlotState.isBusy_emptied (h : Slot) : h.emptied.state.isBusy = false := by
  unfold Slot.emptied
  split <;> rfl

/-- A pass of a good slot without a credit at a station that is not bypassed. -/
structure State.GoodPass (s : State) (p : Pass) : Prop where
  due : s.passDue p = true
  good : p.bad = false
  inRing : p.ring = .flume → s.flume.bypass.contains p.station = false
  whole : s.flume.spoiled.contains (slotKey p.ring p.slot) = false
  credit : (s.passing p).credit = none

section
variable {s : State} {p : Pass} (g : s.GoodPass p)
include g

theorem State.GoodPass.takeCredit : (s.slotIn p).takeCredit p (s.passing p) (slotKey p.ring p.slot) = (s.slotIn p, s.passing p) := by
  simp only [State.takeCredit, g.credit]

/-- What station 0 does first, and what the station then does, happen in the pass. -/
theorem State.GoodPass.passAt {t t' : State} {h h' : Slot} {c c' : List PassCase}
    (h0 : (if (s.halves p).1 then (s.slotIn p).station0 p (s.passing p) (slotKey p.ring p.slot) else (s.slotIn p, s.passing p, [])) = (t, h, c))
    (ha : t.acts p h = (t', h', c')) : (s.passAt p).2 = c ++ c' ∧
      (t'.flume.bypass = s.flume.bypass → h'.credit = none → t'.flume.owed.find? (fun x => x.1 / 32 == p.place && x.2 != 0) = none →
        (s.passAt p).1 = s.passDone p t' ((c ++ c').contains .takeSlot) h') := by
  have hbypass : ¬(p.ring = .flume ∧ (s.slotIn p).flume.bypass.contains p.station = true) := fun ⟨hr, hb⟩ => by
    rw [State.slotIn_flume, g.inRing hr] at hb
    exact Bool.false_ne_true hb
  have hspoiled : ((s.slotIn p).flume.spoiled.contains (slotKey p.ring p.slot)) = false := by rw [State.slotIn_flume, g.whole]
  have htake : (if (s.halves p).1 then (s.slotIn p).takeCredit p (s.passing p) (slotKey p.ring p.slot) else (s.slotIn p, s.passing p)) =
      (s.slotIn p, s.passing p) := by
    rw [g.takeCredit, ite_self]
  rcases hio : s.halves p with ⟨i, o⟩
  simp only [hio] at h0 htake
  unfold State.passAt
  simp only [hio, g.good, Bool.false_eq_true, if_false]
  simp only [← State.slotIn.eq_1, ← State.passing.eq_1, if_neg hbypass, hspoiled, Bool.and_false, Bool.false_eq_true, if_false, htake, h0,
    ← State.acts.eq_1, ha]
  refine ⟨trivial, fun hby hcr how => ?_⟩
  have hput : (if o then t'.putCredit p h' (slotKey p.ring p.slot) else (t', h')) = (t', h') := by
    simp only [State.putCredit, hcr, how, Option.isSome_none, Bool.false_eq_true, ite_self]
  have hout : (o = true ∧ (!decide (p.ring = .flume ∧ t'.flume.bypass.contains p.station = true)) = true) = (o = true) := by
    rw [hby]
    by_cases hr : p.ring = .flume
    · rw [g.inRing hr]
      simp
    · simp [hr]
  simp only [hput, hout, State.passDone, hio, Bool.false_and, Bool.false_eq_true, if_false]

/-- Where station 0 has nothing to do, the actions are the pass. -/
theorem State.GoodPass.acted {t : State} {h : Slot} {c : List PassCase} (hst : (s.slotIn p).staleAt0 p (s.passing p) = false)
    (hcl : p.station = 0 → s.flume.classes.find? (fun k => k.1 == slotKey p.ring p.slot) = none)
    (ha : (s.slotIn p).acts p (s.passing p) = (t, h, c)) : (s.passAt p).2 = c ∧
      (t.flume.bypass = s.flume.bypass → h.credit = none → t.flume.owed.find? (fun x => x.1 / 32 == p.place && x.2 != 0) = none →
        (s.passAt p).1 = s.passDone p t (c.contains .takeSlot) h) := by
  refine g.passAt (c := []) ?_ ha
  have hfl := s.slotIn_flume p
  split
  · simp only [State.station0, hst, Bool.false_and, Bool.false_eq_true, if_false, hfl]
    cases hfind : s.flume.classes.find? (fun k => k.1 == slotKey p.ring p.slot) with
    | none => rfl
    | some x =>
      have hne : p.station ≠ 0 := fun h => by
        rw [hcl h] at hfind
        cases hfind
      simp [hne]
  · rfl

theorem State.GoodPass.event {c : PassCase} (name : String) (h : c ∈ (s.passAt p).2) : s.passEvent name p c = .next (s.passAt p).1 := by
  refine event_true (ok := s.passDue p && (s.passAt p).2.contains c) _ _ ?_
  rw [g.due, Bool.true_and, List.contains_iff_mem]
  exact h

/-- Station 0 changes the class of a free slot (04 R107). -/
theorem State.GoodPass.classChange {k : Nat} {owned : Bool} (hin : (s.halves p).1 = true) (h0 : p.station = 0) (hf : (s.passing p).state = .free)
    (hc : s.flume.classes.find? (fun k => k.1 == slotKey p.ring p.slot) = some (k, owned)) :
    exec (.station0ClassChange p) s = .next (s.passAt p).1 ∧ (s.station0 p (s.passing p) (slotKey p.ring p.slot)).2.1.owned = owned ∧
      (s.station0 p (s.passing p) (slotKey p.ring p.slot)).1.flume.classes = tdel s.flume.classes (slotKey p.ring p.slot) := by
  have hstale (b : State) : b.staleAt0 p (s.passing p) = false := by simp [State.staleAt0, hf, SlotState.isBusy]
  have h0 (b : State) (hb : b.flume = s.flume) : b.station0 p (s.passing p) (slotKey p.ring p.slot) =
      ({ b with flume := { b.flume with classes := tdel b.flume.classes (slotKey p.ring p.slot) } }, { s.passing p with owned := owned },
        [.classChange]) := by
    simp only [State.station0, hstale, Bool.false_and, Bool.false_eq_true, if_false, hb, hc, h0, hf]
    rfl
  refine ⟨g.event _ ?_, by rw [h0 s rfl], by rw [h0 s rfl]⟩
  rw [(g.passAt ((if_pos hin).trans (h0 _ (s.slotIn_flume p))) rfl).1]
  simp

/-- Station 0 empties a stale slot (04 R109). -/
theorem State.GoodPass.emptyStale (hin : (s.halves p).1 = true) (hst : (s.slotIn p).staleAt0 p (s.passing p) = true) :
    exec (.station0EmptyStale p) s = .next (s.passAt p).1 ∧
      ((s.slotIn p).station0 p (s.passing p) (slotKey p.ring p.slot)).2.1.state.isBusy = false := by
  have h0 (b : State) (hb : b.staleAt0 p (s.passing p) = true) :
      (b.station0 p (s.passing p) (slotKey p.ring p.slot)).2.1.state.isBusy = false ∧
        PassCase.emptyStale ∈ (b.station0 p (s.passing p) (slotKey p.ring p.slot)).2.2 := by
    simp only [State.station0, hb, if_true]
    split
    · split
      · exact ⟨SlotState.isBusy_emptied _, List.mem_append_left _ (List.mem_singleton_self _)⟩
      · exact ⟨SlotState.isBusy_emptied _, List.mem_singleton_self _⟩
    · exact ⟨SlotState.isBusy_emptied _, List.mem_singleton_self _⟩
  refine ⟨g.event _ ?_, (h0 _ hst).1⟩
  rw [(g.passAt (if_pos hin) rfl).1]
  exact List.mem_append_left _ (h0 _ hst).2

end

/-! ### Gate actions (04 R97-R104) -/

section
variable {b : State} {p : Pass} {h : Slot}

theorem State.acts_owned (ho : h.owned = true) : b.acts p h = b.passOwned p h := if_pos ho

theorem State.acts_best (ho : h.owned = false) : b.acts p h = b.passBest p h (slotKey p.ring p.slot) := if_neg (by simp [ho])

theorem State.passOwned_pass (ha : gateAct (b.gate (gateKey p.ring p.station p.slot)) = 0) : b.passOwned p h = (b, h, []) := if_pos (.inl ha)

theorem gateGet_lt (e : GateBits) (dw hi lo : Nat) : gateGet e dw hi lo < 2 ^ (hi + 1 - lo) := Nat.mod_lt _ (Nat.two_pow_pos _)

/-- The slot that a LOAD fills carries the entry's fields. -/
structure LoadedBy (e : GateBits) (place : Nat) (h' : Slot) : Prop where
  state : h'.state = .busy
  owned : h'.owned = true
  stream : h'.stream.toNat = gateStream e
  cseq : h'.cseq.toNat = gateNext e
  len : h'.len.toNat = gateLen e
  dest : h'.dest.toNat = gateDest e
  fmt : h'.fmt.toNat = gateFmt e
  inc : h'.inc = false
  origin : h'.origin = BitVec.ofNat 5 place

theorem State.gateLoads_free {gk place : Nat} {e : GateBits} (hf : h.state = .free) (harm : b.armedGate place e = true) (hp : place < 21) :
    ∃ h', b.gateLoads gk place e h = some (b.firstDone gk e [], h') ∧ h'.credit = h.credit ∧ LoadedBy e place h' := by
  have horigin : ¬20 < place := by omega
  have hbit (dw hi lo n : Nat) (hn : hi + 1 - lo ≤ n) : (BitVec.ofNat n (gateGet e dw hi lo)).toNat = gateGet e dw hi lo :=
    (BitVec.toNat_ofNat _ _).trans (Nat.mod_eq_of_lt (Nat.lt_of_lt_of_le (gateGet_lt e dw hi lo) (Nat.pow_le_pow_right (by decide) hn)))
  refine ⟨_, (if_pos hf).trans ((if_pos harm).trans (congrArg some (Prod.ext (if_pos rfl) rfl))), rfl, rfl, rfl, hbit _ _ _ _ (by decide),
    hbit _ _ _ _ (by decide), ?_, hbit _ _ _ _ (by decide), hbit _ _ _ _ (by decide), rfl, ?_⟩
  · have := gateGet_lt e 3 23 16
    simp only [BitVec.toNat_ofNat, gateLen]
    omega
  · simp only [if_neg horigin]

/-- An update of a pass that leaves the bypass and the credits owed. -/
def State.keepsRing (b t : State) : Prop := t.flume.bypass = b.flume.bypass ∧ t.flume.owed = b.flume.owed

theorem State.firstDone_keepsRing (b : State) (gk : Nat) (e : GateBits) (after : List Nat) : b.keepsRing (b.firstDone gk e after) := by
  unfold State.firstDone
  dsimp only
  split <;> split <;> exact ⟨rfl, rfl⟩

/-- MISSREG changes the seats of the cores alone. -/
theorem State.missreg_eq (b : State) (gk : Nat) (e : GateBits) (miss : BitVec 21) : ∃ ks, b.missreg gk e miss = { b with cores := ks } := by
  unfold State.missreg
  split
  · exact ⟨_, rfl⟩
  · exact ⟨b.cores, rfl⟩

/-- The slot as ADD leaves it: combined with the buffer's bytes (04 R99). -/
def State.combined (b : State) (gk : Nat) (e : GateBits) (h : Slot) : Slot :=
  if gateAct e = 3 then
    { h with payload := BitVec.ofNat 2048 (combineBytes h.fmt.toNat h.len.toNat h.payload.toNat
      (leNat (b.bufBytes (b.bufAt gk e h.cseq.toNat) h.key.toNat h.len.toNat))) }
  else h

/-- The bytes that COPY and TAKE write to the entry's buffer. -/
def State.chunkWrites (b : State) (gk : Nat) (e : GateBits) (h h' : Slot) : List (Nat × Byte) :=
  match b.bufAt gk e h.cseq.toNat with
  | some a => if gateAct e = 2 ∨ gateAct e = 4 then placed a h'.bytes else []
  | none => []

/-- What is done with the first chunk of its stream, MISSREG written (04 R99). -/
def State.meetFirst (b : State) (gk place : Nat) (e : GateBits) (h : Slot) (h' : Slot) : State × Slot :=
  if h'.inc && gateAct e == 4 then (b, h')
  else
    let bs := b.chunkWrites gk e h h'
    let t := if bs.isEmpty then b
      else b.post { Posted.of (.station place) ((keyDie gk).getD 0) 0 0 h'.job.toNat 2 with
        kind := .write bs (b.streamMaterial h'.key.toNat), bound := (gateObject gk e).map fun o => o.1.at o.2 }
    (t.firstDone gk e (if bs.isEmpty then [] else [b.nextPost]), if gateAct e = 4 ∨ gateAct e = 5 then { h' with state := .free } else h')

section
variable {gk place bit : Nat} {e : GateBits} (hfmt : h.fmt.toNat = gateFmt e) (hearly : b.jobEarly h place = false)
  (hlate : b.jobLate h place = false) (hseq : h.cseq.toNat = gateNext e) (harm : b.armedGate place e = true)
include hfmt hearly hlate hseq harm

/-- The first chunk of a stream that a station meets in time (04 R99). -/
theorem State.gateActs_first :
    ∃ ks, (if h.inc then b.missreg gk e h.miss else b) = { b with cores := ks } ∧
      b.gateActs gk place bit e h = ({ b with cores := ks } : State).meetFirst gk place e h (b.combined gk e h) := by
  obtain ⟨ks, hm⟩ : ∃ ks, (if h.inc then b.missreg gk e h.miss else b) = { b with cores := ks } := by
    split
    · exact b.missreg_eq gk e h.miss
    · exact ⟨b.cores, rfl⟩
  refine ⟨ks, hm, ?_⟩
  have hno : ¬(h.fmt.toNat ≠ gateFmt e ∨ b.jobEarly h place = true) := by simp [hfmt, hearly]
  have hfirst : (h.cseq.toNat == gateNext e) = true := by simp [hseq]
  have hagain : ((h.cseq.toNat + 1) % 65536 == gateNext e) = false := by
    have := h.cseq.isLt
    rw [← hseq, beq_eq_false_iff_ne]
    omega
  have harm' : ({ b with cores := ks } : State).armedGate place e = true := harm
  have hlog (bs : List (Nat × Byte)) (flag : Option (Nat × Nat × Nat)) (counter gate : Option Nat) :
      ({ b with cores := ks } : State).logChannel (b.combined gk e h) place bs flag counter gate = { b with cores := ks } := by
    have : ({ b with cores := ks } : State).jobLate (b.combined gk e h) place = false := by
      rw [← hlate]
      unfold State.combined
      split <;> rfl
    rw [State.logChannel, this]
    rfl
  have hcomb : (if gateAct e = 3 then { h with payload := BitVec.ofNat 2048 (combineBytes h.fmt.toNat h.len.toNat h.payload.toNat
      (leNat (({ b with cores := ks } : State).bufBytes (({ b with cores := ks } : State).bufAt gk e h.cseq.toNat) h.key.toNat h.len.toNat))) }
      else h) = b.combined gk e h := rfl
  simp only [State.gateActs, if_neg hno, hfirst, hagain, Bool.true_or, Bool.and_true, Bool.true_and, Bool.not_true, Bool.false_and, hm, harm',
    Bool.false_eq_true, if_false, hcomb, hlog] <;> rfl

end

theorem State.meetFirst_keepsRing (b : State) (gk place : Nat) (e : GateBits) (h h' : Slot) :
    b.keepsRing (b.meetFirst gk place e h h').1 ∧ (b.meetFirst gk place e h h').2.credit = h'.credit := by
  unfold State.meetFirst
  generalize b.chunkWrites gk e h h' = bs
  dsimp only
  split
  · exact ⟨⟨rfl, rfl⟩, rfl⟩
  · refine ⟨?_, ?_⟩
    · cases bs.isEmpty
      · exact State.firstDone_keepsRing (b.post _) gk e _
      · exact State.firstDone_keepsRing b gk e _
    · dsimp only
      split <;> rfl

section
variable (b) (gk place : Nat) {e : GateBits} (h' : Slot)

theorem State.meetFirst_add (ha : gateAct e = 3) : b.meetFirst gk place e h h' = (b.firstDone gk e [], h') := by
  have hbs : b.chunkWrites gk e h h' = [] := by
    unfold State.chunkWrites
    split <;> simp [ha]
  simp [State.meetFirst, ha, hbs]

theorem State.meetFirst_empty (ha : gateAct e = 5) : b.meetFirst gk place e h h' = (b.firstDone gk e [], { h' with state := .free }) := by
  have hbs : b.chunkWrites gk e h h' = [] := by
    unfold State.chunkWrites
    split <;> simp [ha]
  simp [State.meetFirst, ha, hbs]

theorem State.meetFirst_write {a : Nat} (hbuf : b.bufAt gk e h.cseq.toNat = some a) (hlen : 0 < h'.len.toNat)
    (ha : gateAct e = 2 ∨ gateAct e = 4 ∧ h'.inc = false) : b.meetFirst gk place e h h' =
      ((b.post { Posted.of (.station place) ((keyDie gk).getD 0) 0 0 h'.job.toNat 2 with
        kind := .write (placed a h'.bytes) (b.streamMaterial h'.key.toNat)
        bound := (gateObject gk e).map fun o => o.1.at o.2 }).firstDone gk e [b.nextPost],
        if gateAct e = 4 then { h' with state := .free } else h') := by
  have hbytes : (placed a h'.bytes).isEmpty = false := by
    have : (placed a h'.bytes).length = h'.len.toNat := by simp [placed, Slot.bytes]
    rw [List.isEmpty_eq_false_iff, ← List.length_pos_iff, this]
    exact hlen
  have hbs : b.chunkWrites gk e h h' = placed a h'.bytes := by
    simp only [State.chunkWrites, hbuf]
    exact if_pos (ha.imp_right And.left)
  unfold State.meetFirst
  rw [hbs]
  rcases ha with ha | ⟨ha, hinc⟩
  · simp [ha, hbytes]
  · simp [ha, hinc, hbytes]

end

/-- An entry that takes slots in meets a slot of its stream (04 R99). -/
theorem State.passOwned_input {gk : Nat} {e : GateBits} (hgk : gateKey p.ring p.station p.slot = gk) (he : b.gate gk = e) (hin : (b.halves p).1 = true)
    (hserr : gateSerr e = false) (hact : gateAct e ≠ 0) (hload : gateAct e ≠ 1) (hbusy : h.state = .busy) (hstr : h.stream.toNat = gateStream e)
    (hdest : h.dest.getLsbD p.station = true) :
    b.passOwned p h = ((b.gateActs gk p.place p.station e h).1, (b.gateActs gk p.place p.station e h).2, [gateCase (gateAct e)]) := by
  simp only [State.passOwned, hgk, he]
  rw [if_neg (by simp [hact, hload, hin]), if_neg (by simp [hserr]), if_neg hload, if_pos ⟨hbusy, hstr, hdest⟩]

theorem State.passOwned_load {gk : Nat} {e : GateBits} (hgk : gateKey p.ring p.station p.slot = gk) (he : b.gate gk = e) (hout : (b.halves p).2 = true)
    (hserr : gateSerr e = false) (hact : gateAct e = 1) (hmay : b.mayLoad p.station (gateStream e) = true) {t : State} {h' : Slot}
    (hl : b.gateLoads gk p.place e h = some (t, h')) : b.passOwned p h = (t, h', [.load]) := by
  simp only [State.passOwned, hgk, he]
  rw [if_neg (by simp [hact, hout]), if_neg (by simp [hserr]), if_pos hact]
  simp only [hmay, if_true, hl]

end

section
variable {s : State} {p : Pass} (g : s.GoodPass p) (hst : (s.slotIn p).staleAt0 p (s.passing p) = false)
  (hcl : p.station = 0 → s.flume.classes.find? (fun k => k.1 == slotKey p.ring p.slot) = none)
include g hst hcl

theorem State.GoodPass.case {t : State} {h : Slot} {c : List PassCase} {k : PassCase} (ha : (s.slotIn p).acts p (s.passing p) = (t, h, c))
    (name : String) (hk : k ∈ c) : s.passEvent name p k = .next (s.passAt p).1 :=
  g.event name ((g.acted hst hcl ha).1 ▸ hk)

variable (how : s.flume.owed.find? (fun x => x.1 / 32 == p.place && x.2 != 0) = none)
include how

/-- A pass in which nothing comes of the credits is its actions and the slot's going on. -/
theorem State.GoodPass.run {t : State} {h : Slot} {c : PassCase} (ha : (s.slotIn p).acts p (s.passing p) = (t, h, [c]))
    (hk : (s.slotIn p).keepsRing t) (hcr : h.credit = none) (name : String) :
    s.passEvent name p c = .next (s.passDone p t ([c].contains .takeSlot) h) := by
  have hfl := s.slotIn_flume p
  rw [g.case hst hcl ha name (List.mem_singleton_self c), (g.acted hst hcl ha).2 (hk.1.trans (by rw [hfl])) hcr (by rw [hk.2, hfl, how])]

theorem exec_gatePass (ho : (s.passing p).owned = true) (ha : gateAct (s.gate (gateKey p.ring p.station p.slot)) = 0) :
    exec (.gatePass p) s = .next (s.passDone p (s.slotIn p) false (s.passing p)) := by
  have hfl := s.slotIn_flume p
  have hgate : gateAct ((s.slotIn p).gate (gateKey p.ring p.station p.slot)) = 0 := by rw [State.gate, hfl]; exact ha
  obtain ⟨hcases, hstate⟩ := g.acted hst hcl ((State.acts_owned ho).trans (State.passOwned_pass hgate))
  refine Eq.trans ?_ (congrArg Host.Outcome.next (hstate (by rw [hfl]) g.credit (by rw [hfl, how])))
  refine event_true (ok := s.passDue p && (s.passAt p).2.isEmpty) _ _ ?_
  rw [g.due, hcases]
  rfl

section
variable (ho : (s.passing p).owned = true)
  (hserr : gateSerr (s.gate (gateKey p.ring p.station p.slot)) = false)
include ho hserr

theorem exec_gateLoad (hact : gateAct (s.gate (gateKey p.ring p.station p.slot)) = 1) (hout : (s.halves p).2 = true)
    (hf : (s.passing p).state = .free) (harm : (s.slotIn p).armedGate p.place (s.gate (gateKey p.ring p.station p.slot)) = true)
    (hp : p.place < 21) (hmay : (s.slotIn p).mayLoad p.station (gateStream (s.gate (gateKey p.ring p.station p.slot))) = true) :
    ∃ h', exec (.gateLoad p) s = .next (s.passDone p ((s.slotIn p).firstDone (gateKey p.ring p.station p.slot)
      (s.gate (gateKey p.ring p.station p.slot)) []) false h') ∧ LoadedBy (s.gate (gateKey p.ring p.station p.slot)) p.place h' := by
  have he : (s.slotIn p).gate (gateKey p.ring p.station p.slot) = s.gate (gateKey p.ring p.station p.slot) := by
    rw [State.gate, s.slotIn_flume, State.gate]
  obtain ⟨h', hl, hcr, hloaded⟩ := State.gateLoads_free (gk := gateKey p.ring p.station p.slot) hf harm hp
  refine ⟨h', ?_, hloaded⟩
  exact g.run hst hcl how ((State.acts_owned ho).trans (State.passOwned_load rfl he (by rw [s.slotIn_halves, hout]) hserr hact hmay hl))
    (State.firstDone_keepsRing ..) (hcr.trans g.credit) "GATE_LOAD"

/-- An input meets the first chunk of its stream, armed and in its epoch (04 R99). -/
theorem State.GoodPass.input (hin : (s.halves p).1 = true) (hbusy : (s.passing p).state = .busy) :
    let h := s.passing p
    let gk := gateKey p.ring p.station p.slot
    let e := s.gate gk
    let b := s.slotIn p
    h.stream.toNat = gateStream e → h.dest.getLsbD p.station = true → h.fmt.toNat = gateFmt e → b.jobEarly h p.place = false →
    b.jobLate h p.place = false → h.cseq.toNat = gateNext e → b.armedGate p.place e = true → gateAct e ≠ 0 → gateAct e ≠ 1 →
    ∃ ks, (if h.inc then b.missreg gk e h.miss else b) = { b with cores := ks } ∧ ∀ t h',
      ({ b with cores := ks } : State).meetFirst gk p.place e h (b.combined gk e h) = (t, h') →
      ∀ name, s.passEvent name p (gateCase (gateAct e)) = .next (s.passDone p t false h') := by
  intro h gk e b hstr hdest hfmt hearly hlate hseq harm h0 h1
  obtain ⟨ks, hm, hacts⟩ := State.gateActs_first (gk := gk) (bit := p.station) hfmt hearly hlate hseq harm
  refine ⟨ks, hm, fun t h' hmeet name => ?_⟩
  have he : b.gate gk = e := by
    show (s.slotIn p).gate gk = s.gate gk
    rw [State.gate, s.slotIn_flume, State.gate]
  have hkeep := State.meetFirst_keepsRing ({ b with cores := ks } : State) gk p.place e h (b.combined gk e h)
  rw [hmeet] at hkeep
  have hcr : (b.combined gk e h).credit = h.credit := by
    unfold State.combined
    split <;> rfl
  have hcase : ([gateCase (gateAct e)].contains PassCase.takeSlot) = false := by
    unfold gateCase
    split <;> rfl
  rw [← hcase]
  refine g.run hst hcl how ((State.acts_owned ho).trans ?_) hkeep.1 (hkeep.2.trans (hcr.trans g.credit)) name
  rw [State.passOwned_input rfl he (by rw [s.slotIn_halves, hin]) hserr h0 h1 hbusy hstr hdest, hacts, hmeet]

end

/-! ### Best-effort slots (04 R110-R116) -/

section
variable (ho : (s.passing p).owned = false)
include ho

section
variable (hout : (s.halves p).2 = true) (horigin : (s.passing p).origin.toNat ≠ p.station)
include hout horigin

/-- A slot that is not for the station, nor one it loaded, meets its output. -/
theorem State.GoodPass.output (hdest : ((s.passing p).state.isBusy && (s.passing p).dest.getLsbD p.station) = false) {t : State} {h' : Slot}
    {k : PassCase} (ht : (s.slotIn p).takeOrHold p (s.passing p) (slotKey p.ring p.slot) = (t, h', [k])) (hk : (s.slotIn p).keepsRing t)
    (hcr : h'.credit = none) (name : String) :
    s.passEvent name p k = .next (s.passDone p t ([k].contains .takeSlot) h') := by
  refine g.run hst hcl how ((State.acts_best ho).trans ?_) hk hcr name
  simp [State.passBest, hdest, horigin, ht, s.slotIn_halves, hout]

variable {m : BeMsg} (hm : (s.slotIn p).eligible p = some m)
include hm

theorem exec_beTakeSlot (hf : (s.passing p).state = .free) :
    exec (.beTakeSlot p) s = .next (s.passDone p ((s.slotIn p).loadMsg p (s.passing p) (slotKey p.ring p.slot) m).1 true
      ((s.slotIn p).loadMsg p (s.passing p) (slotKey p.ring p.slot) m).2) := by
  refine g.output hst hcl how ho hout horigin (by simp [hf, SlotState.isBusy]) (k := .takeSlot)
    (t := ((s.slotIn p).loadMsg p (s.passing p) (slotKey p.ring p.slot) m).1) (h' := ((s.slotIn p).loadMsg p (s.passing p) (slotKey p.ring p.slot) m).2) ?_ ⟨rfl, rfl⟩ g.credit "BE_TAKE_SLOT"
  simp [State.takeOrHold, hm, hf]

theorem exec_beHold (hbusy : (s.passing p).state = .busy) (hdest : (s.passing p).dest.getLsbD p.station = false)
    (hheld : s.flume.held.contains (laneQueue p) = false)
    (hwait : (s.slotIn p).bestOf p.place * (s.slotIn p).rotation p.ring ≤ tget 0 s.flume.waits (laneQueue p)) :
    exec (.beHold p) s = .next (s.passDone p { s.slotIn p with flume := { (s.slotIn p).flume with held := (s.slotIn p).flume.held ++ [laneQueue p] } }
      false { s.passing p with state := .busyHeld, hold := BitVec.ofNat 5 p.station }) := by
  have hfl := s.slotIn_flume p
  refine g.output hst hcl how ho hout horigin (by simp [hdest]) (k := .hold)
    (t := { s.slotIn p with flume := { (s.slotIn p).flume with held := (s.slotIn p).flume.held ++ [laneQueue p] } })
    (h' := { s.passing p with state := .busyHeld, hold := BitVec.ofNat 5 p.station }) ?_ ⟨rfl, rfl⟩ g.credit "BE_HOLD"
  rw [← hfl] at hheld hwait
  simp only [State.takeOrHold, hm, hbusy]
  rw [if_neg (by simp), if_pos ⟨trivial, hwait, by rw [hheld]; rfl⟩]

end

/-- A refused message comes back to the station that loaded it (04 R116). -/
theorem State.GoodPass.resend (hin : (s.halves p).1 = true) (horigin : (s.passing p).origin.toNat = p.station)
    (hbusy : (s.passing p).state = .busy) (hdest : (s.passing p).dest.getLsbD p.station = false) (he : (s.slotIn p).eligible p = none) {h' : Slot}
    (hagain : (s.slotIn p).comeBack p (s.passing p) (slotKey p.ring p.slot) = (s.slotIn p, h', [.resend])) (hb : h'.state = .busy)
    (hcr : h'.credit = none) : exec (.beResend p) s = .next (s.passDone p (s.slotIn p) false h') := by
  refine g.run hst hcl how ((State.acts_best ho).trans ?_) ⟨rfl, rfl⟩ hcr "BE_RESEND" (c := .resend)
  have htake : (s.slotIn p).takeOrHold p h' (slotKey p.ring p.slot) = (s.slotIn p, h', []) := by
    simp [State.takeOrHold, he, hb]
  have hbz : (s.passing p).state.isBusy = true := by rw [hbusy]; rfl
  simp only [State.passBest, s.slotIn_halves, hin, hbz, hdest, horigin, Bool.not_true, Bool.false_eq_true, if_false, Bool.and_false, beq_self_eq_true,
    Bool.and_self, if_true, hagain, htake, List.append_nil, ite_self]

theorem exec_beResend (hin : (s.halves p).1 = true) (horigin : (s.passing p).origin.toNat = p.station)
    (hbusy : (s.passing p).state = .busy) (hdest : (s.passing p).dest.getLsbD p.station = false) (hinc : (s.passing p).inc = true)
    (he : (s.slotIn p).eligible p = none) :
    (s.flume.sent.find? (fun x => x.1 == slotKey p.ring p.slot) = none →
      exec (.beResend p) s = .next (s.passDone p (s.slotIn p) false
        { s.passing p with inc := false, miss := 0, epar := (s.slotIn p).parityOf p.place (s.passing p).job.toNat })) ∧
    (∀ k m, s.flume.sent.find? (fun x => x.1 == slotKey p.ring p.slot) = some (k, m) →
      exec (.beResend p) s = .next (s.passDone p (s.slotIn p) false
        { (s.slotIn p).withMsg p (s.passing p) m with hold := (s.passing p).hold })) := by
  have hfl := s.slotIn_flume p
  refine ⟨fun hs => ?_, fun k m hs => ?_⟩
  · refine g.resend hst hcl how ho hin horigin hbusy hdest he ?_ hbusy g.credit
    simp only [State.comeBack, hinc, if_true, hfl, hs]
  · refine g.resend hst hcl how ho hin horigin hbusy hdest he ?_ rfl g.credit
    simp only [State.comeBack, hinc, if_true, hfl, hs, hbusy]
    rfl

end

end

/-! ### Deliveries (04 R110, R116) -/

section
variable {b : State} {p : Pass} {h : Slot} {key : Nat} (hbusy : h.state = .busy) (hinc : h.inc = false) (hearly : b.jobEarly h p.place = false)
  (hfirst : b.firstRefused p.place h.origin.toNat = none ∨ b.firstRefused p.place h.origin.toNat = some key)
include hbusy hinc hearly hfirst

/-- A message that is neither refused nor behind one of its origin is drained, and its slot emptied. -/
theorem State.deliver_drains : ∃ u : State,
    b.deliver p h key = (u.drainMsg p h ((b.flume.sent.find? fun x => x.1 == key).map (·.2)), { h with state := .free }, [kindCase (h.stream.toNat / 256)]) ∧
      u.mem = b.mem ∧ u.cores = b.cores ∧ u.posted = b.posted ∧ u.flume.slots = b.flume.slots := by
  have hgo : (match b.firstRefused p.place h.origin.toNat with
      | some k => k != key
      | none => false) = false := by
    rcases hfirst with hf | hf <;> simp [hf]
  have hempty : h.emptied = { h with state := .free } := by simp [Slot.emptied, hbusy]
  have hown : (h.inc || b.jobEarly h p.place) = false := by rw [hinc, hearly]; rfl
  refine ⟨_, (if_neg ?_).trans (Prod.ext rfl (Prod.ext hempty rfl)), rfl, rfl, rfl, rfl⟩
  rw [hown, Bool.false_or]
  exact fun h => Bool.false_ne_true (hgo.symm.trans h)

end

theorem kindCase_reserved {k : Nat} (h : 7 ≤ k) : kindCase k = .reserved := by
  obtain ⟨m, rfl⟩ := Nat.exists_eq_add_of_le' h
  rfl

theorem State.passBest_delivers {b u : State} {p : Pass} {h h' : Slot} {k : PassCase} (hin : (b.halves p).1 = true) (hbusy : h.state = .busy)
    (hdest : h.dest.getLsbD p.station = true) (hd : b.deliver p h (slotKey p.ring p.slot) = (u, h', [k])) :
    k ∈ (b.passBest p h (slotKey p.ring p.slot)).2.2 := by
  have hbz : h.state.isBusy = true := by rw [hbusy]; rfl
  simp only [State.passBest, hin, hbz, hdest, hd, Bool.not_true, Bool.false_eq_true, if_false, Bool.and_self, if_true]
  split
  · exact List.mem_append_left _ (List.mem_singleton_self k)
  · exact List.mem_singleton_self k

/-! ### Lades and failed hops (04 R119, R120) -/

/-- A Lade as bring-up leaves it: its hops padded to the longest (04 R119). -/
def ladeUp (ring : Ring) (n hops : Nat) : Lade :=
  ⟨n, hops, 10 + Config.ladePeriod ring.index, (List.range n).map fun i => hops - Config.ladeHop ring.index i⟩

theorem longestHop_le {ring : Ring} {n i : Nat} (h : i < n) : Config.ladeHop ring.index i ≤ longestHop ring n := by
  have hfold (l : List Nat) (m : Nat) : m ≤ l.foldl (fun m i => max m (Config.ladeHop ring.index i)) m ∧
      ∀ i ∈ l, Config.ladeHop ring.index i ≤ l.foldl (fun m i => max m (Config.ladeHop ring.index i)) m := by
    induction l generalizing m with
    | nil => exact ⟨Nat.le_refl _, nofun⟩
    | cons a l ih =>
      obtain ⟨hm, hl⟩ := ih (max m (Config.ladeHop ring.index a))
      refine ⟨Nat.le_trans (Nat.le_max_left ..) hm, fun i hi => ?_⟩
      rcases List.mem_cons.1 hi with rfl | hi
      · exact Nat.le_trans (Nat.le_max_right ..) hm
      · exact hl i hi
  exact (hfold _ 1).2 i (List.mem_range.2 h)

theorem longestHop_pos (ring : Ring) (n : Nat) : 0 < longestHop ring n := by
  have hfold (l : List Nat) (m : Nat) : m ≤ l.foldl (fun m i => max m (Config.ladeHop ring.index i)) m := by
    induction l generalizing m with
    | nil => exact Nat.le_refl _
    | cons a l ih => exact Nat.le_trans (Nat.le_max_left ..) (ih _)
  exact hfold _ 1

section
variable {s : State} {ring : Ring} {n hops : Nat} (hring : ring ≠ .flume) (hhops : hops = longestHop ring n) (hmine : s.ladeStation ring < n)
  (hn : n = (if ring = .row then s.canal.cols else s.canal.rows))
include hring hhops hmine hn

theorem exec_ladeBringUp : exec (.ladeBringUp ring n hops) s =
    .next (if 1024 < n * hops then s else
      let s1 : State := { s with flume := { s.flume with lades := tput s.flume.lades ring.index (ladeUp ring n hops) } }
      (s.openPorts.filter fun p => s1.onLade ring p).foldl (fun s p => s.onLink p fun l => { l with windowAt := l.cycles }) s1) := by
  have hpos : 0 < hops := hhops ▸ longestHop_pos ring n
  refine event_true _ _ ?_
  simp only [Bool.and_eq_true, bne_iff_ne, decide_eq_true_eq, beq_iff_eq]
  exact ⟨⟨⟨⟨hring, hpos⟩, hhops⟩, hmine⟩, hn⟩

theorem ladeBringUp_result (hfit : n * hops ≤ 1024) : ∃ (up : Lade) (t : State), exec (.ladeBringUp ring n hops) s = .next t ∧
    t.flume = { s.flume with lades := tput s.flume.lades ring.index up } ∧ t.mem = s.mem ∧ t.cores = s.cores ∧ t.posted = s.posted ∧ up.n = n ∧
      up.h = hops ∧ 10 ≤ up.p ∧ up.pads.length = n ∧ ∀ i < n, up.pads.getD i 0 + Config.ladeHop ring.index i = hops := by
  refine ⟨ladeUp ring n hops, _,
    (exec_ladeBringUp hring hhops hmine hn).trans (by rw [if_neg (Nat.not_lt.2 hfit)]), ?_⟩
  generalize hs1 : ({ s with flume := _ } : State) = s1
  obtain ⟨k, hk⟩ : ∃ k, (s.openPorts.filter fun p => s1.onLade ring p).foldl (fun s p => s.onLink p fun l => { l with windowAt := l.cycles }) s1 =
      { s1 with canal := k } :=
    foldl_rel (R := fun s t : State => ∃ k, t = { s with canal := k }) (fun s => ⟨s.canal, rfl⟩)
      (fun ⟨_, h⟩ ⟨k, h'⟩ => ⟨k, by rw [h', h]⟩) (fun _ _ => ⟨_, rfl⟩) _ _
  dsimp only
  rw [hk, ← hs1]
  refine ⟨rfl, rfl, rfl, rfl, rfl, rfl, Nat.le_add_right .., by simp [ladeUp], fun i hi => ?_⟩
  have := hhops ▸ longestHop_le (ring := ring) hi
  simp [ladeUp, hi]
  omega

end

/-- Settles O56. -/
theorem flumeEvents : Obligations.FlumeEvents := by
  unfold Obligations.FlumeEvents
  refine ⟨?pass, ?lade, ?hop⟩
  case hop =>
    intro s station h hs
    exact ⟨event_true _ _ (by simp [h, hs]), event_true _ _ (by simp [h, hs])⟩
  case lade =>
    intro s ring n hops hring hhops hmine hn
    refine ⟨ladeBringUp_result hring hhops hmine hn, fun hbig => ?_⟩
    rw [exec_ladeBringUp hring hhops hmine hn, if_pos hbig]
  case pass =>
    intro s p key h e b inward outward done hdue hgood hring hwhole hcredit
    have g : s.GoodPass p := ⟨hdue, hgood, hring, hwhole, hcredit⟩
    refine ⟨fun k owned hin h0 hf hc => g.classChange hin h0 hf hc, fun hin hst => g.emptyStale hin hst, fun hst hcl how => ?_⟩
    refine ⟨fun ho ha => exec_gatePass g hst hcl how ho ha, fun ho hserr => ⟨fun ha hout hf harm hp hmay => ?_,
      fun hin hbusy hstr hdest hfmt hearly hlate hseq harm => ?_⟩, fun hout ho horigin m hm =>
      ⟨exec_beTakeSlot g hst hcl how ho hout horigin hm, fun hbusy hdest hheld hwait =>
        exec_beHold g hst hcl how ho hout horigin hm hbusy hdest hheld hwait⟩,
      fun hin ho horigin hbusy hdest hinc he => exec_beResend g hst hcl how ho hin horigin hbusy hdest hinc he,
      fun hin ho hbusy hdest hinc hearly hfirst => ?_⟩
    · obtain ⟨h', hexec, hl⟩ := exec_gateLoad g hst hcl how ho hserr ha hout hf harm hp hmay
      exact ⟨h', hexec, hl.state, hl.owned, hl.stream, hl.cseq, hl.len, hl.dest, hl.fmt, hl.inc, hl.origin⟩
    · intro m buf freed sum
      have hacts := fun h0 h1 => g.input hst hcl how ho hserr hin hbusy hstr hdest hfmt hearly hlate hseq harm h0 h1
      have hplain (ha : gateAct e ≠ 3) : (s.slotIn p).combined (gateKey p.ring p.station p.slot) e (s.passing p) = h := if_neg ha
      refine ⟨fun ha => ?_, fun ha => ?_, fun a hbuf hlen => ⟨fun ha => ?_, fun ha hinc => ?_⟩⟩
      all_goals obtain ⟨ks, hm, hacts⟩ := hacts (by rw [ha]; decide) (by rw [ha]; decide)
      all_goals have hm : m = _ := hm
      · have hsum : (s.slotIn p).combined (gateKey p.ring p.station p.slot) e (s.passing p) = { h with payload := BitVec.ofNat 2048 sum } := if_pos ha
        have hexec := hacts _ _ (State.meetFirst_add _ _ _ _ ha) "GATE_ADD"
        rw [ha, hsum] at hexec
        rw [hm]
        exact hexec
      · have hexec := hacts _ _ (State.meetFirst_empty _ _ _ _ ha) "GATE_EMPTY"
        rw [hplain (by rw [ha]; decide), ha] at hexec
        rw [hm]
        exact hexec
      · rw [hplain (by rw [ha]; decide)] at hacts
        have hexec := hacts _ _ (State.meetFirst_write _ _ _ _ hbuf hlen (.inl ha)) "GATE_COPY"
        rw [ha] at hexec
        rw [hm, ← s.slotIn_nextPost p]
        exact hexec
      · rw [hplain (by rw [ha]; decide)] at hacts
        have hexec := hacts _ _ (State.meetFirst_write _ _ _ _ hbuf hlen (.inr ⟨ha, hinc⟩)) "GATE_TAKE"
        rw [ha] at hexec
        rw [hm, ← s.slotIn_nextPost p]
        exact hexec
    · intro kind run
      obtain ⟨u, hu, hmem, hcores, hposted, hslots⟩ := State.deliver_drains hbusy hinc hearly hfirst
      obtain ⟨k, hb⟩ := s.slotIn_eq p
      have hrun (name : String) (k : PassCase) (hk : kindCase kind = k) : s.passEvent name p k = .next (s.passAt p).1 := by
        refine g.case hst hcl rfl name ?_
        show _ ∈ ((s.slotIn p).acts p (s.passing p)).2.2
        rw [State.acts_best (h := s.passing p) ho, ← hk]
        exact State.passBest_delivers (by rw [s.slotIn_halves]; exact hin) hbusy hdest hu
      have hb : b = { s with canal := k } := hb
      rw [hb] at hu hmem hcores hposted hslots
      refine ⟨⟨u, hb ▸ hu, hmem, hcores, hposted, hslots⟩, fun h => hrun _ _ (by rw [h]; rfl), fun h => hrun _ _ (by rw [h]; rfl),
        fun h => hrun _ _ (by rw [h]; rfl), fun h => hrun _ _ (by rw [h]; rfl), fun h => hrun _ _ (by rw [h]; rfl),
        fun h => hrun _ _ (by rw [h]; rfl), fun h => hrun _ _ (by rw [h]; rfl), fun h => hrun _ _ (kindCase_reserved h)⟩

end Sys2Proof.Machine

/-! ### Packets of the Canal and its links (05) -/

namespace Sys2Proof.Machine

variable {s : State}

/-- What a link counts when a packet comes changes the links alone. -/
theorem State.countIn_eq (s : State) (p : Packet) : ∃ ls, s.countIn p = { s with canal := { s.canal with links := ls } } := by
  unfold State.countIn State.drainIn State.comeIn
  split
  · exact ⟨_, rfl⟩
  · exact ⟨_, rfl⟩

theorem State.countIn_package (s : State) (p : Packet) : (s.countIn p).package = s.package := by
  obtain ⟨ls, h⟩ := s.countIn_eq p
  rw [h]
  rfl

theorem State.onLink_congr {f g : Link → Link} {port : Nat} (h : f (s.link port) = g (s.link port)) : s.onLink port f = s.onLink port g :=
  congrArg (fun l => s.onCanal fun k => { k with links := tput k.links port l }) h

theorem State.onRecv_congr {f g : Recv → Recv} {peer : Nat} (h : f (s.recv peer) = g (s.recv peer)) : s.onRecv peer f = s.onRecv peer g :=
  congrArg (fun r => s.onCanal fun k => { k with recv := tput k.recv peer r }) h

/-! ### Injection (05 R126-R129) -/

section
variable {k port : Nat} {det : Bool} {j : Inject} (hj : s.canal.inject[k]? = some j)
  (hfirst : (s.canal.inject.take k).all (fun i => i.peer != j.peer || i.packet.src != j.packet.src) = true) (hst : j.stored = true)
  (hp : s.performed j.after = true)
  (hl : (s.posted.all fun q => q.id != j.id || q.lands.isEmpty || s.landed q.agent.coreNo q.lands) = true) (hw : s.unackedSeqs j.peer < 4096)
include hfirst hst hp hl hw

theorem canalInject_may : (!((s.canal.inject.take k).all fun i => i.peer != j.peer || i.packet.src != j.packet.src) || !j.stored ||
    !s.performed j.after || !(s.posted.all fun q => q.id != j.id || q.lands.isEmpty || s.landed q.agent.coreNo q.lands) ||
    s.unackedSeqs j.peer ≥ 4096) = false := by
  simp only [hfirst, hst, hp, hl, Bool.not_true, Bool.or_self, Bool.false_or, ge_iff_le, decide_eq_false_iff_not, Nat.not_le, hw]

include hj

theorem exec_canalInject_noRoute (hr : s.route { j.packet with seq := BitVec.ofNat 40 (tget 0 s.canal.sendSeq j.peer) } true = none)
    (hno : j.noRoute = false) : exec (.canalInject k) s = .next ((s.onCanal fun c =>
      { c with inject := c.inject.modify k fun i => { i with noRoute := true } }).logFabric 0 j.peer) := by
  show execCanalInject k s = _
  simp only [execCanalInject, hj, canalInject_may hfirst hst hp hl hw, Bool.false_eq_true, if_false, hr]
  exact event_true _ _ (by simp [hno])

theorem exec_canalInject_leaves
    (hr : s.route { j.packet with seq := BitVec.ofNat 40 (tget 0 s.canal.sendSeq j.peer) } true = some (port, det)) :
    let seq := tget 0 s.canal.sendSeq j.peer
    let p : Packet := { j.packet with seq := BitVec.ofNat 40 seq, det := det }
    s.room port p = true →
    ∃ t : State, exec (.canalInject k) s = .next t ∧ t.mem = s.mem ∧ t.cores = s.cores ∧ t.canal.inject = s.canal.inject.eraseIdx k ∧
      t.canal.sendSeq = tput s.canal.sendSeq j.peer (seq + 1) ∧
      t.canal.store = s.canal.store ++ [⟨j.peer, seq, p, if p.pfl = 0 then 0 else units p.payload.length, j.win, j.id, false⟩] ∧
      t.canal.out = tput s.canal.out port (tget [] s.canal.out port ++ [p]) := by
  intro seq p hroom
  show ∃ t, execCanalInject k s = .next t ∧ _
  simp only [execCanalInject, hj, canalInject_may hfirst hst hp hl hw, Bool.false_eq_true, if_false, hr]
  exact ⟨_, if_neg (by rw [hroom]; exact Bool.false_ne_true), rfl, rfl, rfl, rfl, rfl, rfl⟩

end

/-! ### Packets that come by a link (05 R131, R136) -/

section
variable {p : Packet} (hup : s.linkUp p.via.toNat = true)
include hup

section
variable {port : Nat} (hvc : p.vc ≠ 0) (hpfl : p.pfl ≠ 0) (htr : p.trimmed = false) (hfree : (s.link p.via.toNat).laneFree p = true)
  (hover : s.canal.trimAt < s.portFlits port + p.flits)
include hvc hpfl htr hfree hover

theorem execCanalTrim_cut (hport : s.trimPort p = some port) : execCanalTrim port p s =
    match (s.countIn p).cutAt port p with
    | some t => .next t
    | none => .next (s.keepIn p) := by
  have hpos : 1 ≤ p.vc.toNat := Nat.one_le_iff_ne_zero.2 fun h => hvc (BitVec.eq_of_toNat_eq h)
  have hpfl : (p.pfl != 0) = true := bne_iff_ne.2 hpfl
  have htrims : s.trims port p = true := by
    simp only [State.trims, hpos, hpfl, htr, hover, decide_true, Bool.not_false, Bool.and_self]
  have hno : (!s.linkUp p.via.toNat || !(s.link p.via.toNat).laneFree p || s.trimPort p != some port || !s.trims port p) = false := by
    simp [hup, hfree, hport, htrims]
  rw [execCanalTrim, hno]
  rfl

theorem canalTrim_results :
    let s1 := (s.countIn p).onCanal fun k => { k with trims := tput k.trims port (tget 0 k.trims port + 1) }
    let cut : Packet := { p with trimmed := true, vc := 0, payload := [], hop := p.hop + 1 }
    (p.dstPackage = s.package → port = 30 → exec (.canalTrim port p) s = .next (s1.makeHole cut)) ∧
    (∀ det, p.dstPackage ≠ s.package → s.route p false = some (port, det) → (s.countIn p).room port (cutHeader p) = true →
      exec (.canalTrim port p) s = .next (s1.queueOut port cut)) ∧
    (∀ det, p.dstPackage ≠ s.package → s.route p false = some (port, det) → (s.countIn p).room port (cutHeader p) = false →
      exec (.canalTrim port p) s = .next (s.keepIn p)) := by
  intro s1 cut
  have hpk := s.countIn_package p
  have hexec := execCanalTrim_cut hup hvc hpfl htr hfree hover
  refine ⟨fun hd h30 => ?_, fun det hd hr hroom => ?_, fun det hd hr hroom => ?_⟩
  · refine (hexec ((if_pos hd).trans (by rw [h30]))).trans ?_
    rw [State.cutAt, hpk]
    simp only [hd, if_true]
    rfl
  · refine (hexec ((if_neg hd).trans (by rw [hr]; rfl))).trans ?_
    rw [State.cutAt, hpk]
    simp only [hd, hroom, if_true, if_false]
    rfl
  · refine (hexec ((if_neg hd).trans (by rw [hr]; rfl))).trans ?_
    rw [State.cutAt, hpk]
    simp only [hd, hroom, if_false, Bool.false_eq_true]

end

theorem exec_canalReservedType (h : 9 ≤ p.type.toNat) : exec (.canalReservedType p) s =
    .next (((s.countIn p).onCanal fun k => { k with dropped := k.dropped + 1 }).logFabric p.type.toNat p.via.toNat) :=
  event_true _ _ (by simp [h, hup])

section
variable (hfits : (s.link p.via.toNat).fits p = true) {name : String} {ok : Bool} (hok : ok = true) {take : State → Option State}
include hfits hok

theorem State.comesBy_runs : s.comesBy name ok p take =
    if !(s.link p.via.toNat).laneFree p then .next (s.keepIn p)
    else if s.cuts p then event name false s
    else match (if p.dstPackage = s.package then take (s.countIn p) else (s.countIn p).forward p) with
      | some t => .next t
      | none => .next (s.keepIn p) := by
  have hno : (!ok || !s.linkUp p.via.toNat || !(s.link p.via.toNat).fits p) = false := by simp [hok, hup, hfits]
  simp only [State.comesBy, hno, Bool.false_eq_true, if_false] <;> rfl

theorem State.comesBy_behind (h : (s.link p.via.toNat).laneFree p = false) : s.comesBy name ok p take = .next (s.keepIn p) := by
  rw [s.comesBy_runs hup hfits hok, h]
  rfl

section
variable (hfree : (s.link p.via.toNat).laneFree p = true)
include hfree

theorem State.comesBy_here (hd : p.dstPackage = s.package) (ht : s.trims 30 p = false) : s.comesBy name ok p take =
    match take (s.countIn p) with
    | some t => .next t
    | none => .next (s.keepIn p) := by
  have hcuts : s.cuts p = false := by simp [State.cuts, State.trimPort, hd, ht]
  rw [s.comesBy_runs hup hfits hok, hfree, hcuts, if_pos hd]
  rfl

theorem State.comesBy_onward {port : Nat} {det : Bool} (hd : p.dstPackage ≠ s.package) (hr : (s.countIn p).route p false = some (port, det))
    (hcut : p.vc = 0 ∨ p.pfl = 0 ∨ p.trimmed = true ∨ s.cuts p = false) :
    ((s.countIn p).room port p = true → s.comesBy name ok p take = .next ((s.countIn p).queueOut port { p with hop := p.hop + 1 })) ∧
    ((s.countIn p).room port p = false → s.comesBy name ok p take = .next (s.keepIn p)) := by
  have hcuts : s.cuts p = false := by
    rcases hcut with h | h | h | h
    · simp [State.cuts, State.trims, h]
    · simp [State.cuts, State.trims, h]
    · simp [State.cuts, State.trims, h]
    · exact h
  rw [s.comesBy_runs hup hfits hok, hfree, hcuts, if_neg hd]
  refine ⟨fun h => ?_, fun h => ?_⟩ <;> simp only [State.forward, hr, Option.bind_some, h] <;> rfl

end

end

/-- What the event that brings a packet of another package's here answers (05 R136). -/
def State.Onward (s : State) (p : Packet) (r : Res) : Prop :=
  (p.dstPackage ≠ s.package → (s.link p.via.toNat).laneFree p = false → r = .next (s.keepIn p)) ∧
    ∀ port det, p.dstPackage ≠ s.package → (s.link p.via.toNat).laneFree p = true → (s.countIn p).route p false = some (port, det) →
      (p.vc = 0 ∨ p.pfl = 0 ∨ p.trimmed = true ∨ s.cuts p = false) →
      ((s.countIn p).room port p = true → r = .next ((s.countIn p).queueOut port { p with hop := p.hop + 1 })) ∧
      ((s.countIn p).room port p = false → r = .next (s.keepIn p))

/-- What the event that brings a request or a write answers (05 R136, R137). -/
def State.Comes (s : State) (p : Packet) (r : Res) : Prop :=
  (p.dstPackage = s.package → (s.link p.via.toNat).laneFree p = true → s.trims 30 p = false →
      ((s.countIn p).responseFits p = true → r = .next ((s.countIn p).arrivePacket { p with hop := p.hop + 1 })) ∧
      ((s.countIn p).responseFits p = false → r = .next (s.keepIn p))) ∧
    (p.dstPackage = s.package → (s.link p.via.toNat).laneFree p = false → r = .next (s.keepIn p)) ∧ s.Onward p r

section
variable (hfits : (s.link p.via.toNat).fits p = true)
include hfits

theorem State.comesBy_goes {name : String} {ok : Bool} {take : State → Option State} (hok : ok = true) :
    s.Onward p (s.comesBy name ok p take) :=
  ⟨fun _ hl => s.comesBy_behind hup hfits hok hl, fun _ _ hd hl hr hcut => s.comesBy_onward hup hfits hok hl hd hr hcut⟩

theorem State.canalIn_comes {name : String} {ok : Bool} (hok : ok = true) : s.Comes p (s.canalIn name ok p) := by
  refine ⟨fun hd hl ht => ?_, fun _ hl => s.comesBy_behind hup hfits hok hl, s.comesBy_goes hup hfits hok⟩
  rw [State.canalIn, s.comesBy_here hup hfits hok hl hd ht]
  refine ⟨fun h => ?_, fun h => ?_⟩ <;> simp only [State.takeRequest, h] <;> rfl

theorem State.atomicIn_comes {name : String} {codes : List Nat} (ht : p.type = 3) (ha : p.aop.toNat ∈ codes) : s.Comes p (s.atomicIn name codes p) :=
  s.canalIn_comes hup hfits (by simp [ht, ha])

/-! ### Answers and control packets (05 R132-R150) -/

section
variable (hd : p.dstPackage = s.package) (hfree : (s.link p.via.toNat).laneFree p = true) (ht : s.trims 30 p = false)
include hd hfree ht

theorem State.comesBy_taken {name : String} {ok : Bool} {take : State → State} (hok : ok = true) :
    s.comesBy name ok p (fun s => some (take s)) = .next (take (s.countIn p)) := by
  rw [s.comesBy_here hup hfits hok hfree hd ht]

theorem State.answerIn_given {name : String} {type : Nat} {t : State} {r : Request} (htype : p.type.toNat = type) (hw : p.trimmed = false)
    (hrec : (s.countIn p).recordAnswer { p with hop := p.hop + 1 } = some t) (hreq : t.requestOf p = some r) :
    s.answerIn name type p = .next (t.give r p) := by
  have hrec : (s.countIn p).recordAnswer (crossed p) = some t := hrec
  rw [State.answerIn, s.comesBy_taken hup hfits hd hfree ht (beq_iff_eq.2 htype)]
  simp only [State.takeAnswer, hw, Bool.false_eq_true, if_false, hrec, hreq]

theorem exec_canalReadResponse_given {t : State} {r : Request} (htype : p.type = 1) (hw : p.trimmed = false)
    (hrec : (s.countIn p).recordAnswer { p with hop := p.hop + 1 } = some t) (hreq : t.requestOf p = some r) (hfit : s.answerFits p = true) :
    exec (.canalReadResponse p) s = .next (t.giveAnswer r (p.payload.take r.len)) := by
  have hno : (decide (p.dstPackage = s.package) && !p.trimmed && !s.answerFits p) = false := by simp [hfit]
  show execCanalReadResponse p s = _
  rw [execCanalReadResponse, hno, if_neg Bool.false_ne_true, s.answerIn_given hup hfits hd hfree ht (by rw [htype]; rfl) hw hrec hreq, State.give, htype]
  rfl

theorem State.controlIn_taken {name : String} {type : Nat} {act : State → State} (htype : p.type.toNat = type) :
    s.controlIn name type p act = .next (act (s.countIn p)) := s.comesBy_taken hup hfits hd hfree ht (beq_iff_eq.2 htype)

theorem exec_canalReRequest_resent (htype : p.type = 5) {e : StoreEntry} :
    let mine (e : StoreEntry) : Bool := e.peer == p.srcPackage && e.seq % 2 ^ 40 == p.opa.toNat % 2 ^ 40
    s.canal.store.find? mine = some e → e.win = none →
    exec (.canalReRequest p) s = .next (((s.countIn p).onCanal fun k => { k with
      store := adjust mine (fun e => { e with resent := true }) k.store }).sendOrHold { e.packet with det := false } false) := by
  intro mine hfind hwin
  obtain ⟨ls, hin⟩ := s.countIn_eq p
  show s.controlIn "CANAL_RE_REQUEST" 5 p (fun s => s.reRequest p) = _
  refine (s.controlIn_taken hup hfits hd hfree ht (congrArg BitVec.toNat htype)).trans ?_
  have hfind : (s.countIn p).canal.store.find? (fun e => e.peer == p.srcPackage && e.seq % 2 ^ 40 == p.opa.toNat % 2 ^ 40) = some e := by
    rw [hin]
    exact hfind
  simp only [State.reRequest, hfind, hwin] <;> rfl

theorem exec_canalAcknowledgement_freed (htype : p.type = 6) :
    let low := expandSeq (tget 0 s.canal.sendSeq p.srcPackage - s.unackedSeqs p.srcPackage) (p.opa.toNat % 2 ^ 40)
    ∃ t, exec (.canalAcknowledgement p) s = .next t ∧ t.mem = s.mem ∧ t.cores = s.cores ∧
      t.canal.store = s.canal.store.filter fun e => !(e.peer == p.srcPackage && e.seq < low) := by
  intro low
  obtain ⟨ls, hin⟩ := s.countIn_eq p
  show ∃ t, s.controlIn "CANAL_ACKNOWLEDGEMENT" 6 p (fun s => s.acknowledge p) = .next t ∧ _
  refine ⟨_, s.controlIn_taken hup hfits hd hfree ht (congrArg BitVec.toNat htype), ?_⟩
  rw [hin]
  exact foldl_rel (R := fun s t : State => t.mem = s.mem ∧ t.cores = s.cores ∧ t.canal.store = s.canal.store) (fun _ => ⟨rfl, rfl, rfl⟩)
    (fun h h' => ⟨h'.1.trans h.1, h'.2.1.trans h.2.1, h'.2.2.trans h.2.2⟩) (fun s e => by split <;> exact ⟨rfl, rfl, rfl⟩) _ _

theorem exec_canalSnapshotMarker_cut (htype : p.type = 7) : exec (.canalSnapshotMarker p) s = .next ((s.countIn p).takeMarker p) := by
  show s.controlIn "CANAL_SNAPSHOT_MARKER" 7 p (fun s => s.takeMarker p) = _
  exact s.controlIn_taken hup hfits hd hfree ht (congrArg BitVec.toNat htype)

theorem exec_canalAtomicResponse_given {t : State} {r : Request} (htype : p.type = 4) (hw : p.trimmed = false)
    (hrec : (s.countIn p).recordAnswer { p with hop := p.hop + 1 } = some t) (hreq : t.requestOf p = some r) :
    exec (.canalAtomicResponse p) s = .next (t.giveAnswer r (leBytes (min 8 r.len) p.opa.toNat)) := by
  show s.answerIn _ 4 p = _
  rw [s.answerIn_given hup hfits hd hfree ht (by rw [htype]; rfl) hw hrec hreq, State.give, htype]
  rfl

theorem exec_canalRefusal_given {t : State} {r : Request} (htype : p.type = 8) (hw : p.trimmed = false)
    (hrec : (s.countIn p).recordAnswer { p with hop := p.hop + 1 } = some t) (hreq : t.requestOf p = some r) :
    exec (.canalRefusal p) s = .next (t.giveRefusal r (field p.opa 3 0)) := by
  show s.answerIn _ 8 p = _
  rw [s.answerIn_given hup hfits hd hfree ht (by rw [htype]; rfl) hw hrec hreq, State.give, htype]
  rfl

end

theorem exec_canalReadResponse_onward (htype : p.type = 1) : s.Onward p (exec (.canalReadResponse p) s) := by
  have hexec (h : p.dstPackage ≠ s.package) : exec (.canalReadResponse p) s = s.answerIn "CANAL_READ_RESPONSE" 1 p := by
    refine if_neg ?_
    simp [h]
  have hgo : s.Onward p (s.answerIn "CANAL_READ_RESPONSE" 1 p) := s.comesBy_goes hup hfits (by rw [htype]; rfl)
  refine ⟨fun hd => ?_, fun port det hd => ?_⟩ <;> rw [hexec hd]
  · exact hgo.1 hd
  · exact hgo.2 port det hd

theorem State.answerIn_onward {name : String} {type : Nat} (htype : p.type.toNat = type) : s.Onward p (s.answerIn name type p) :=
  s.comesBy_goes hup hfits (beq_iff_eq.2 htype)

theorem State.controlIn_onward {name : String} {type : Nat} {act : State → State} (htype : p.type.toNat = type) :
    s.Onward p (s.controlIn name type p act) := s.comesBy_goes hup hfits (beq_iff_eq.2 htype)

end

end

/-! ### What a target does with an atomic (05 R125) -/

section
variable {p : Packet}

theorem State.atomicRequest_reserved (h : p.aop.toNat = 27 ∨ p.aop.toNat = 28 ∨ p.aop.toNat = 30 ∨ p.aop.toNat = 31) :
    s.atomicRequest p = .error 3 := by
  refine if_pos ?_
  rcases h with h | h | h | h <;> rw [h] <;> rfl

section
variable {a : TargetPart} {rest : List TargetPart} (h0 : p.sub ≠ 0) (h3 : p.sub ≠ 3) (ht : s.targetOf p .write = .ok (a :: rest))
include h0 h3 ht

theorem State.atomicRequest_at (hr : aopReserved p.aop.toNat = false) (h26 : p.aop.toNat ≠ 26) :
    let aop := p.aop.toNat
    let size := if aop % 2 = 1 ∨ aop = 24 then 8 else 4
    s.atomicRequest p =
      if s.poisoned ((List.range size).map (a.flat + ·)) then .error 3
      else if aop = 24 ∨ aop = 25 then .ok (s.loadNat a.flat 8, s)
      else if aop = 29 then .ok (s.loadNat a.flat 8, s.releaseAt a.flat (some (field p.opa 5 0)))
      else if aop = 1 ∧ p.rel then .ok (s.loadNat a.flat 8, s.releaseAt a.flat none)
      else if a.flat % size ≠ 0 then .error 3
      else .ok (s.atomicAt ⟨atomicOfAop (aop / 2), size, if aop / 2 = 1 ∧ size = 8 then 10 else 7, p.opa, p.opb⟩ a.flat) := by
  intro aop size
  have hsub : ¬(p.sub = 0 ∨ p.sub = 3) := not_or.2 ⟨h0, h3⟩
  unfold State.atomicRequest
  simp only [hr, Bool.false_eq_true, if_false, if_neg h26, if_neg hsub, ht]
  rfl

theorem State.atomicRequest_results :
    let aop := p.aop.toNat
    let size := if aop % 2 = 1 ∨ aop = 24 then 8 else 4
    let clean := s.poisoned ((List.range size).map (a.flat + ·)) = false
    (s.poisoned ((List.range size).map (a.flat + ·)) = true → aop ≠ 26 → s.atomicRequest p = .error 3) ∧
    (aop = 24 ∨ aop = 25 → clean → s.atomicRequest p = .ok (s.loadNat a.flat 8, s)) ∧
    (aop = 29 → clean → s.atomicRequest p = .ok (s.loadNat a.flat 8, s.releaseAt a.flat (some (field p.opa 5 0)))) ∧
    (aop = 1 → p.rel = true → clean → s.atomicRequest p = .ok (s.loadNat a.flat 8, s.releaseAt a.flat none)) ∧
    (aop < 24 → aop ≠ 1 ∨ p.rel = false → clean → a.flat % size = 0 → s.atomicRequest p = .ok (s.atomicAt
        ⟨atomicOfAop (aop / 2), size, if aop / 2 = 1 ∧ size = 8 then 10 else 7, p.opa, p.opb⟩ a.flat)) := by
  intro aop size clean
  have hat := State.atomicRequest_at h0 h3 ht
  have hreserved (h : aop < 27 ∨ aop = 29) : aopReserved p.aop.toNat = false := by
    simp only [aopReserved, Bool.or_eq_false_iff, ge_iff_le, decide_eq_false_iff_not, beq_eq_false_iff_ne]
    omega
  refine ⟨fun hpois h26 => ?_, fun h hc => ?_, fun h hc => ?_, fun h hrel hc => ?_, fun h hrel hc hal => ?_⟩
  · cases hr : aopReserved p.aop.toNat with
    | true => exact if_pos hr
    | false => exact (hat hr h26).trans (if_pos hpois)
  all_goals
    rw [hat (hreserved (by omega)) (by omega)]
    refine (if_neg (by rw [hc]; exact Bool.false_ne_true)).trans ?_
  · exact if_pos h
  · rw [if_neg (by omega), if_pos h]
  · rw [if_neg (by omega), if_neg (by omega), if_pos ⟨h, hrel⟩]
  · rw [if_neg (by omega), if_neg (by omega), if_neg (fun ⟨h1, h2⟩ => hrel.elim (· h1) fun h => by rw [h] at h2; cases h2),
      if_neg (not_not_intro hal)]

end

end

/-! ### Packets that wait, holes and acknowledgements (05 R132-R140) -/

theorem State.onRecv_recv (s : State) (peer : Nat) (f : Recv → Recv) : (s.onRecv peer f).recv peer = f (s.recv peer) := tget_tput_self _ _ _ _

theorem State.sendVc0_recv (s : State) (dst type opa opb job peer : Nat) : (s.sendVc0 dst type opa opb job).recv peer = s.recv peer := by
  have hout (q : Packet) (t : State) (may : Bool) (h : s.dispatch q may = some t) : t.canal.recv = s.canal.recv ∧ t.canal.rrctl = s.canal.rrctl := by
    obtain ⟨r, _, hr⟩ := Option.bind_eq_some_iff.1 h
    split at hr
    · obtain rfl := Option.some.inj hr
      exact ⟨rfl, rfl⟩
    · cases hr
  have hkept (q : Packet) (may : Bool) : (s.sendOrHold q may).canal.recv = s.canal.recv ∧ (s.sendOrHold q may).canal.rrctl = s.canal.rrctl := by
    unfold State.sendOrHold
    split
    · exact hout _ _ _ ‹_›
    · dsimp only
      split <;> exact ⟨rfl, rfl⟩
  obtain ⟨hrecv, hctl⟩ := hkept _ _
  rw [State.recv, State.recv, State.sendVc0, Canal.recvOf, Canal.recvOf, Canal.tokenDepth, Canal.tokenDepth, hrecv, hctl]

section
variable {peer seq : Nat} {e : RecvEntry} (hf : (s.recv peer).entries.find? (fun e => e.seq == seq) = some e)
include hf

theorem exec_canalPacketPerform_waiting (h : e.state = .waiting) (hr : s.packetReady e.packet seq = true) :
    exec (.canalPacketPerform peer seq) s = .next (s.performPacket e.packet seq) := by
  show execCanalPacketPerform peer seq s = _
  simp only [execCanalPacketPerform, hf, h]
  exact event_true _ _ hr

theorem exec_canalPacketPerform_taking {got : List Byte} (h : e.state = .taking got) :
    exec (.canalPacketPerform peer seq) s =
      .next (if e.packet.type = 0 then s.takeRead e.packet seq got else s.finishPacket e.packet seq 4 (leNat got) []) := by
  show execCanalPacketPerform peer seq s = _
  simp only [execCanalPacketPerform, hf, h]

theorem exec_canalPacketPerform_refused {r : Nat} (h : e.state = .refused r) :
    exec (.canalPacketPerform peer seq) s = .next ((s.refusePacket e.packet r).markPerformed peer seq) := by
  show execCanalPacketPerform peer seq s = _
  simp only [execCanalPacketPerform, hf, h]

theorem exec_canalPacketPerform_released {ids : List Nat} (h : e.state = .released ids) (hp : s.performed ids = true) :
    (e.packet.type = 3 → exec (.canalPacketPerform peer seq) s = .next (s.finishPacket e.packet seq 4 0 [])) ∧
    (e.packet.type ≠ 3 → s.packetLate e.packet = false → exec (.canalPacketPerform peer seq) s = .next (s.markPerformed peer seq)) := by
  show (_ → execCanalPacketPerform peer seq s = _) ∧ (_ → _ → execCanalPacketPerform peer seq s = _)
  simp only [execCanalPacketPerform, hf, h]
  refine ⟨fun ht => ?_, fun ht hlate => ?_⟩
  · rw [if_pos ht]
    exact event_true _ _ hp
  · have hlog (bs : List (Nat × Byte)) : s.logPacket e.packet bs = s := by
      rw [State.logPacket, hlate]
      rfl
    rw [if_neg ht, hlog]
    exact event_true _ _ hp

theorem exec_responderWatchdog (h : e.state = .waiting) (hd : e.since + field s.canal.rwdog 31 0 ≤ s.canal.cycles) :
    exec (.responderWatchdog peer seq) s = .next ((s.refusePacket e.packet 2).markPerformed peer seq) := by
  show execResponderWatchdog peer seq s = _
  simp only [execResponderWatchdog, hf]
  exact event_true _ _ (by simp [h, hd])

theorem exec_canalHoleRerequest {again : Bool} {since : Nat} (h : e.state = .hole 0 again since) :
    let full := s.onRecv peer fun r => r.refilled s.canal
    (full.recv peer).tokens ≠ 0 →
    exec (.canalHoleRerequest peer seq) s = .next ((full.sendVc0 peer 5 (seq % 2 ^ 40) 1 0).onRecv peer fun r => { r with
      tokens := r.tokens - 1
      entries := adjust (fun e => e.seq == seq) (fun e => { e with state := .hole 1 false since }) r.entries }) := by
  intro full htok
  have hfind : (full.recv peer).entries.find? (fun e => e.seq == seq) = some e := by
    rw [State.onRecv_recv]
    exact hf
  have hgo : ¬((!((0 + 1 == 1) || (again && since + s.canal.backoff * 2 ^ min (0 + 1 - 2) 8 ≤ s.canal.cycles)) ||
      decide ((full.recv peer).tokens = 0)) = true) := by simpa using htok
  show execCanalHoleRerequest peer seq s = _
  unfold execCanalHoleRerequest
  dsimp only
  rw [show (s.onRecv peer fun r => r.refilled s.canal) = full from rfl, hfind]
  dsimp only
  rw [h]
  exact if_neg hgo

end

theorem exec_canalAckSend {peer : Nat}
    (h : ((s.recv peer).acked < (s.recv peer).low ∧ (s.recv peer).ackAt + 64 ≤ s.canal.cycles) ∨
      ((s.recv peer).entries ≠ [] ∧ (s.recv peer).ackAt + 1024 ≤ s.canal.cycles)) :
    exec (.canalAckSend peer) s = .next ((s.sendVc0 peer 6 ((s.recv peer).low % 2 ^ 40) 0 0).onRecv peer fun x =>
      { x with acked := (s.recv peer).low, ackAt := s.canal.cycles }) := by
  refine (event_true _ _ ?_).trans (congrArg Host.Outcome.next (State.onRecv_congr ?_))
  · rcases h with ⟨h, h'⟩ | ⟨h, h'⟩ <;> simp [h, h']
  · rw [State.sendVc0_recv]

/-! ### Links (05 R141-R145) -/

section
variable {port : Nat} (hup : s.linkUp port = true)
include hup

theorem exec_linkIdle {freed : List (BitVec 16)} (hf : freed.length = 12) : exec (.linkIdle port freed) s =
    .next (s.controlFlit port fun l => { l with peerFreed := (List.range 12).map fun i => (i, freed.getD i 0) }) :=
  event_true _ _ (by simp [hup, hf])

theorem exec_linkResync {freed received : List (BitVec 16)} (hf : freed.length = 12) (hr : received.length = 12) :
    exec (.linkResync port freed received) s =
      .next (if (s.link port).agrees received
        then s.controlFlit port fun l => { l with peerFreed := (List.range 12).map fun i => (i, freed.getD i 0) }
        else ((s.controlFlit port fun l => { l with peerFreed := (List.range 12).map fun i => (i, freed.getD i 0) }).onLink port
          fun l => { l with retraining := true }).logMgmt 6 8 0 port 0) :=
  event_true _ _ (by simp [hup, hf, hr])

theorem exec_linkReplayRequest_again {rpn : Nat} (hr : rpn < 2 ^ 16)
    (h : (s.link port).stopped = none ∨ (∀ r ∈ (s.link port).since (BitVec.ofNat 16 rpn), r.sent.plain = true)) :
    ∃ t : State, exec (.linkReplayRequest port rpn) s = .next t ∧ t.mem = s.mem ∧ (t.link port).replays = (s.link port).replays + 1 ∧
      (t.link port).replay = (s.link port).replay ∧ (1 ≤ (s.link port).replays → (t.link port).retraining = true) ∧
      t.canal.gone = s.canal.gone ++ ((s.link port).since (BitVec.ofNat 16 rpn)).map fun r => (port, r) := by
  show ∃ t, execLinkReplayRequest port rpn s = .next t ∧ _
  rw [execLinkReplayRequest, if_neg (Nat.not_le.2 hr)]
  have hlink := s.onLink_self port fun l => { l with replays := l.replays + 1, retraining := l.retraining || 1 ≤ l.replays }
  refine ⟨_, event_true _ _ ?_, rfl, congrArg Link.replays hlink, (congrArg Link.replay hlink).trans rfl, fun h1 => ?_, rfl⟩
  · rw [hup, Bool.true_and, Bool.or_eq_true]
    exact h.imp Option.isNone_iff_eq_none.2 List.all_eq_true.2
  · refine (congrArg Link.retraining hlink).trans ?_
    simp [h1]

theorem exec_linkReplayRequest_asks {rpn : Nat} (hr : 2 ^ 16 ≤ rpn)
    (h : (s.link port).may (.control (.replay (s.link port).rpnIn) (s.link port).rpnIn) = true) : exec (.linkReplayRequest port rpn) s =
      .next (s.sendOn port (.control (.replay (s.link port).rpnIn) (s.link port).rpnIn)) := by
  show execLinkReplayRequest port rpn s = _
  rw [execLinkReplayRequest, if_pos hr]
  exact event_true _ _ (Bool.and_eq_true_iff.2 ⟨hup, h⟩)

theorem exec_linkRkmsg {f : List Byte} (h : (s.link port).asked = true ∨ (s.link port).peerAsked = true) :
    let l := s.link port
    let fs := l.fragments ++ [f]
    let key := Config.agreedKey port (if l.asked then l.generation + 1 else l.peerGeneration + 1) fs
    (key = none → exec (.linkRkmsg port f) s = .next (s.controlFlit port fun l => { l with fragments := fs })) ∧
    (∀ k, key = some k → exec (.linkRkmsg port f) s = .next (s.controlFlit port fun l => { l with
      fragments := [], agreed := if l.asked then some k else l.agreed, peerAsked := false })) := by
  intro l fs key
  have hrun (g : Link → Link) (hg : (match key with
      | none => { l with fragments := fs }
      | some k => { l with fragments := [], agreed := if l.asked then some k else l.agreed, peerAsked := false }) = g l) :
      exec (.linkRkmsg port f) s = .next (s.controlFlit port g) := by
    refine (event_true _ _ (by simp [hup, h])).trans (congrArg Host.Outcome.next (State.onLink_congr ?_))
    rw [← show _ = g (s.link port) from hg] <;> rfl
  refine ⟨fun h => hrun _ ?_, fun k h => hrun _ ?_⟩ <;> rw [h]

theorem exec_rekeyStart (hf : 2 ^ 47 ≤ (s.link port).flits) (ha : (s.link port).asked = false) : exec (.rekeyStart port) s =
    .next (s.onLink port fun l => { l with
      asked := true, rekeying := l.rekeying ++ (.rkreq (l.generation + 1) :: agreementFlits port (l.generation + 1)) }) := by
  refine (event_true _ _ ?_).trans (congrArg Host.Outcome.next (State.onLink_congr ?_))
  · simp only [hup, hf, ha, decide_true, Bool.not_false, Bool.and_self]
  · rw [Link.ask, ha]
    rfl

theorem exec_rekeyStop (hs : (s.link port).stopped = none)
    (h : 2 ^ 48 - 3 ≤ (s.link port).flits ∨ (∃ p, s.nextOut port = some p ∧ 2 ^ 48 - 3 < (s.link port).flits + p.flits) ∨
      ((s.ladeOf port).bind fun r => s.ladeWaiting r port) ≠ none ∧ 2 ^ 48 - 3 < (s.link port).flits + 5) :
    exec (.rekeyStop port) s = .next (s.onLink port fun l => { l.ask port with stopped := some s.canal.cycles }) := by
  refine event_true _ _ ?_
  rw [hup, hs, Option.isNone_none, Bool.true_and, Bool.true_and, decide_eq_true_eq]
  rcases h with h | ⟨p, hp, h⟩ | ⟨hw, h⟩
  · cases hn : s.nextOut port with
    | none => exact Nat.lt_of_lt_of_le (by omega : _ < _ + 1) (Nat.add_le_add_left (Nat.le_max_left ..) _)
    | some p =>
      have hone : 1 ≤ p.flits := Nat.le_add_right ..
      exact Nat.lt_of_lt_of_le (by omega : _ < _ + 1) (Nat.add_le_add_left (Nat.le_trans hone (Nat.le_max_left ..)) _)
  · rw [hp]
    dsimp only
    omega
  · obtain ⟨x, hx⟩ := Option.ne_none_iff_exists'.1 hw
    rw [hx]
    dsimp only
    omega

end

section
variable {port : Nat} (hup : s.linkUp port = true)
include hup

theorem exec_linkRetire (h32 : port < 32) (h : (s.link port).retraining = true) : exec (.linkRetire port) s = .next (s.retireLink port) := by
  show execLinkRetire port s = _
  rw [execLinkRetire, if_pos h32]
  exact event_true _ _ (by rw [hup, h]; rfl)

theorem exec_rekeyTimeout {at_ : Nat} (h : (s.link port).stopped = some at_) (hd : at_ + 2 ^ 20 ≤ s.canal.cycles) :
    exec (.rekeyTimeout port) s = .next (s.retireLink port) := by
  show execRekeyTimeout port s = _
  simp only [execRekeyTimeout, h, hup, Bool.true_and, decide_eq_true hd]
  rfl

theorem exec_rpnAcknowledgement {rpn : Nat} :
    let s1 := s.onLink port fun l => { l with replay := l.since (BitVec.ofNat 16 rpn), replays := 0, retraining := false }
    ((s.link port).retraining = false → exec (.rpnAcknowledgement port rpn) s = .next s1) ∧
    ((s.link port).retraining = true → exec (.rpnAcknowledgement port rpn) s = .next (s1.logMgmt 6 8 1 port 0)) := by
  refine ⟨fun h => (event_true _ _ hup).trans ?_, fun h => (event_true _ _ hup).trans ?_⟩ <;> rw [h] <;> rfl

theorem exec_linkAdvTimer (h : (s.link port).advAt + 256 ≤ (s.link port).cycles)
    (hm : (s.link port).may (.control (.adv s.occupancies) (s.link port).rpnIn) = true) : exec (.linkAdvTimer port) s =
      .next ((s.onLink port fun l => { l with advAt := l.advAt + 256 }).sendOn port (.control (.adv s.occupancies) (s.link port).rpnIn)) := by
  refine event_true _ _ ?_
  simp only [hup, Bool.true_and, Bool.and_eq_true, decide_eq_true_eq]
  exact ⟨h, hm⟩

theorem exec_linkResyncTimer (h : (s.link port).resyncAt + 1024 ≤ (s.link port).cycles)
    (hm : (s.link port).may (.control (.resync (s.link port).freedCounts (s.link port).receivedCounts) (s.link port).rpnIn) = true) :
    exec (.linkResyncTimer port) s = .next ((s.onLink port fun l => { l with resyncAt := l.resyncAt + 1024 }).sendOn port
      (.control (.resync (s.link port).freedCounts (s.link port).receivedCounts) (s.link port).rpnIn)) := by
  refine event_true _ _ ?_
  simp only [hup, Bool.true_and, Bool.and_eq_true, decide_eq_true_eq]
  exact ⟨h, hm⟩

theorem exec_linkRkreq : exec (.linkRkreq port ((s.link port).peerGeneration + 1)) s = .next (s.controlFlit port fun l => { l with
    peerAsked := true, rekeying := l.rekeying ++ agreementFlits port ((s.link port).peerGeneration + 1) }) :=
  event_true _ _ (by simp [hup])

theorem exec_linkKeysw : exec (.linkKeysw port) s = .next (s.controlFlit port fun l => { l with peerGeneration := l.peerGeneration + 1 }) :=
  event_true _ _ hup

theorem exec_linkAdv {occ : List Byte} (h : occ.length = 31) : exec (.linkAdv port occ) s =
    .next (s.controlFlit port fun l => { l with adv := occ }) := event_true _ _ (by simp [hup, h])

end

/-- Settles O57. -/
theorem canalEvents : Obligations.CanalEvents := by
  unfold Obligations.CanalEvents
  refine ⟨fun s k port det j hj hfirst hst hp hl hw => ⟨exec_canalInject_noRoute hj hfirst hst hp hl hw,
    exec_canalInject_leaves hj hfirst hst hp hl hw⟩, fun s p port hvc hpfl htr hup hfree hover => canalTrim_results hup hvc hpfl htr hfree hover,
    fun s p => exec_canalReservedType, fun s p hup hfits => ?come, fun s p => ⟨State.atomicRequest_reserved,
      fun a rest => State.atomicRequest_results⟩, fun s peer seq e hf => ?entry, fun s peer => ⟨fun h => event_true _ _ (decide_eq_true h),
      exec_canalAckSend⟩, fun s port hup => ?link⟩
  case come =>
    intro first aop here onward comes
    refine ⟨?_, ?_, ?_, ?_, ?_, ?_, ?_, ?_, ?_, ?_, ?_⟩
    · refine ⟨fun ht => ?_, fun ht => ?_, fun ht ha => ?_, fun ht ha => ?_, fun ht ha => ?_, fun ht ha => ?_, fun ht ha => ?_, fun ht ha => ?_,
        fun ht ha => ?_, fun ht ha => ?_, fun ht ha => ?_, fun ht ha => ?_, fun ht ha => ?_, fun ht ha => ?_, fun ht ha => ?_, fun ht ha => ?_,
        fun ht ha => ?_, fun ht ha => ?_⟩
      · exact s.canalIn_comes hup hfits (beq_iff_eq.2 ht)
      · exact s.canalIn_comes hup hfits (beq_iff_eq.2 ht)
      all_goals exact s.atomicIn_comes hup hfits ht (by simp [show p.aop.toNat = aop from rfl, ha])
    · exact exec_canalReadResponse_onward hup hfits
    · exact fun ht => s.answerIn_onward hup hfits (congrArg BitVec.toNat ht)
    · exact fun ht => s.answerIn_onward hup hfits (congrArg BitVec.toNat ht)
    · exact fun ht => show s.Onward p (s.controlIn "CANAL_RE_REQUEST" 5 p fun s => s.reRequest p) from
        s.controlIn_onward hup hfits (congrArg BitVec.toNat ht)
    · exact fun ht => show s.Onward p (s.controlIn "CANAL_ACKNOWLEDGEMENT" 6 p fun s => s.acknowledge p) from
        s.controlIn_onward hup hfits (congrArg BitVec.toNat ht)
    · exact fun ht => show s.Onward p (s.controlIn "CANAL_SNAPSHOT_MARKER" 7 p fun s => s.takeMarker p) from
        s.controlIn_onward hup hfits (congrArg BitVec.toNat ht)
    · intro hd hfree hw htrim t r hrec hreq
      exact ⟨fun ht hfit => exec_canalReadResponse_given hup hfits hd hfree htrim ht hw hrec hreq hfit,
        fun ht => exec_canalAtomicResponse_given hup hfits hd hfree htrim ht hw hrec hreq,
        fun ht => exec_canalRefusal_given hup hfits hd hfree htrim ht hw hrec hreq⟩
    · exact fun hd hfree htrim ht e => exec_canalReRequest_resent hup hfits hd hfree htrim ht
    · exact fun hd hfree htrim ht => exec_canalAcknowledgement_freed hup hfits hd hfree htrim ht
    · exact fun hd hfree htrim ht => exec_canalSnapshotMarker_cut hup hfits hd hfree htrim ht
  case entry =>
    exact ⟨exec_canalPacketPerform_waiting hf, fun got h ht => (exec_canalPacketPerform_taking hf h).trans (congrArg _ (if_pos ht)),
      fun got h ht => (exec_canalPacketPerform_taking hf h).trans (congrArg _ (if_neg ht)), fun r => exec_canalPacketPerform_refused hf,
      fun ids h hp => (exec_canalPacketPerform_released hf h hp).1, fun ids h hp => (exec_canalPacketPerform_released hf h hp).2,
      exec_responderWatchdog hf, fun again since => exec_canalHoleRerequest hf⟩
  case link =>
    intro l seen
    refine ⟨fun freed hf => ⟨exec_linkIdle hup hf, fun received hr => ⟨fun h => ?_, fun h => ?_⟩⟩, fun occ => exec_linkAdv hup,
      exec_linkAdvTimer hup, exec_linkResyncTimer hup, fun rpn => exec_rpnAcknowledgement hup,
      fun rpn => exec_linkReplayRequest_again hup, fun rpn => exec_linkReplayRequest_asks hup, exec_linkRetire hup, exec_linkRkreq hup,
      fun f => exec_linkRkmsg hup, exec_linkKeysw hup, exec_rekeyStart hup, exec_rekeyStop hup, fun at_ => exec_rekeyTimeout hup⟩
    · rw [exec_linkResync hup hf hr, h]
      rfl
    · rw [exec_linkResync hup hf hr, h]
      rfl

end Sys2Proof.Machine

/-! ### Host accesses, keys and registers of the package (19 R459-R474) -/

namespace Sys2Proof.Machine

variable {s : State} {a : HostAccess}

section
variable {data : List Byte} (h1 : 1 ≤ data.length) (h512 : data.length ≤ 512) (hfn : a.fn.val = 0)
include h1 h512 hfn

theorem exec_hostPostedWrite_ioc (hbar : a.bar = 2) (hoff : a.off + data.length ≤ Home.ioc.size) :
    exec (.hostPostedWrite a data) s = .next (
      if !s.reachesBlocks (s.reachOf a) a.off data.length then s.refuseHost a
      else if s.flagClassAt a.off then s.enterFlagClass a.port.val (placed (Home.ioc.at a.off) data)
      else s.enterWrite a.port.val 0 0 0 (placed (Home.ioc.at a.off) data) none none none) := by
  have hbar0 : a.bar ≠ 0 := by rw [hbar]; decide
  show execHostPostedWrite a data s = _
  rw [execHostPostedWrite, if_pos hfn, if_neg hbar0, if_pos hbar]
  exact event_true _ _ (by simp [h1, h512, hoff])

theorem exec_hostPostedWrite_queue {q o : Nat} (hbar : a.bar = 0) (hq : queuePage a.off = some (q, o)) (ho : o + data.length ≤ 4096)
    (hno : ¬(o = 16 ∧ data.length = 8)) : exec (.hostPostedWrite a data) s =
      .next (if s.reachesQueue (s.reachOf a) q then s.enterQueuePage a.port.val q o data else s.refuseHost a) := by
  show execHostPostedWrite a data s = _
  rw [execHostPostedWrite, if_pos hfn, if_pos hbar, hq]
  refine event_true _ _ ?_
  simp only [Bool.and_eq_true, decide_eq_true_eq, Bool.not_eq_true', Bool.and_eq_false_iff, beq_eq_false_iff_ne]
  exact ⟨⟨⟨h1, h512⟩, Decidable.not_and_iff_not_or_not.mp hno⟩, ho⟩

end

theorem State.refuseHost_package (hfn : a.fn.val = 0) : s.refuseHost a = s.logMgmt 9 8 1 a.rid.toNat 0 := if_pos hfn

theorem State.refuseHost_die (hfn : a.fn.val ≠ 0) :
    s.refuseHost a = s.logAt (a.fn.val - 1) 9 8 1 a.rid.toNat (s.dfTenant (a.fn.val - 1)) 0 := if_neg hfn

theorem exec_flagClassWritePerform {port : Nat} {p : Posted} {bs : List (Nat × Byte)}
    (hp : s.posted.find? (fun p => p.agent == .host port && (match p.kind with
      | .flagClass _ => true
      | _ => false)) = some p) (hk : p.kind = .flagClass bs) (hd : s.performed p.after = true) :
    exec (.flagClassWritePerform port) s = .next ((s.unpost p.id).writeBytes none bs) := by
  have hrun : execFlagClassWritePerform port s = match some p with
      | none => event "FLAG_CLASS_WRITE_PERFORM" false s
      | some p => match p.kind with
        | .flagClass bs => event "FLAG_CLASS_WRITE_PERFORM" (s.performed p.after) ((s.unpost p.id).writeBytes none bs)
        | _ => event "FLAG_CLASS_WRITE_PERFORM" false s := by
    rw [← hp]
    rfl
  refine hrun.trans ?_
  simp only [hk]
  exact event_true _ _ hd

/-! ### Reads -/

section
variable {len : Nat} (h1 : 1 ≤ len) (h4096 : len ≤ 4096) (hu : s.unacked a.port.val = [])
include h1 h4096 hu

theorem exec_hostRead_ioc (hfn : a.fn.val = 0) (hbar : a.bar = 2) (hoff : a.off + len ≤ Home.ioc.size) : exec (.hostRead a len) s = .next (
    if s.reachesBlocks (s.reachOf a) a.off len then
      s.startRead a.port.val 0 ((List.range len).map fun i => plainByte (Home.ioc.at (a.off + i))) none
    else s.replyHost a.port.val .unsupported) := by
  have hconf : a.bar ≠ configurationBar := by rw [hbar]; decide
  have hbar0 : a.bar ≠ 0 := by rw [hbar]; decide
  show execHostRead a len s = _
  simp only [execHostRead, if_neg hconf, if_pos hfn, if_neg hbar0, if_pos hbar]
  exact event_true _ _ (by simp only [h1, h4096, hu, hoff, List.isEmpty_nil, decide_true, Bool.and_self])

theorem exec_hostRead_cores (hfn : a.fn.val ≠ 0) (hbar : a.bar = 2) (hoff : a.off + len ≤ 256 * 2 ^ 20) : exec (.hostRead a len) s = .next (
    if s.dieTakes a (a.fn.val - 1) && s.reachesCores (a.fn.val - 1) a.off len then
      s.startRead a.port.val (s.dfTenant (a.fn.val - 1)) ((bar2Bytes (a.fn.val - 1) a.off len).map fun x => match x with
        | some x => plainByte x
        | none => (.inl 0xFF, none, 0)) none
    else s.replyHost a.port.val .unsupported) := by
  have hconf : a.bar ≠ configurationBar := by rw [hbar]; decide
  have hbar0 : a.bar ≠ 0 := by rw [hbar]; decide
  show execHostRead a len s = _
  simp only [execHostRead, if_neg hconf, if_neg hfn, if_neg hbar0, if_pos hbar]
  exact event_true _ _ (by simp only [h1, h4096, hu, hoff, List.isEmpty_nil, decide_true, Bool.and_self])

theorem exec_hostRead_absent (hfn : a.fn.val ≠ 0) (hbar : a.bar = configurationBar) (hoff : a.off + len ≤ 4096)
    (hport : s.portOf (a.fn.val - 1) ≠ a.port.val) :
    exec (.hostRead a len) s = .next (s.startRead a.port.val 0 ((List.range len).map fun _ => (.inl 0xFF, none, 0)) none) := by
  have hhere : (a.fn.val == 0 || field s.hostSide.applied (2 * (a.fn.val - 1) + 1) (2 * (a.fn.val - 1)) == a.port.val) = false := by
    simpa [hfn, State.portOf] using hport
  show execHostRead a len s = _
  simp only [execHostRead, if_pos hbar, hhere]
  exact event_true _ _ (by simp only [h1, h4096, hu, hoff, List.isEmpty_nil, decide_true, Bool.and_self])

end

theorem State.readOn_ends {r : HostRead} (ha : r.asked = none) (hat : r.atomic = none) (hl : r.left = []) : s.readOn r =
    ({ s with hostSide := { s.hostSide with reads := s.hostSide.reads.filter fun x => x.id != r.id } } : State).replyHost r.port (.data r.got) := by
  simp only [State.readOn, ha, hl, State.endRead, hat]

theorem readByte_beq (b c : ReadByte) : (b == c) = true ↔ b = c := by
  have hsum (x y : Byte ⊕ Nat) : (x == y) = true ↔ x = y := by
    cases x with
    | inl x => cases y with
      | inl y => exact (beq_iff_eq (a := x) (b := y)).trans ⟨congrArg _, Sum.inl.inj⟩
      | inr y => exact ⟨nofun, nofun⟩
    | inr x => cases y with
      | inl y => exact ⟨nofun, nofun⟩
      | inr y => exact (beq_iff_eq (a := x) (b := y)).trans ⟨congrArg _, Sum.inr.inj⟩
  obtain ⟨x, m⟩ := b
  obtain ⟨y, m'⟩ := c
  rw [Prod.mk.injEq, ← hsum x y, ← beq_iff_eq (a := m)]
  exact Bool.and_eq_true_iff

/-- What a read takes at once at the byte `x` before `rest`, up to 256 B on. -/
def plainRun (x : Nat) (rest : List ReadByte) : List Nat :=
  (((plainByte x :: rest).take 256).zipIdx.takeWhile fun c => c.1 == (Sum.inr (x + c.2), none, 0)).map fun c => x + c.2

/-- A byte that its neighbour does not follow is taken alone. -/
theorem plainRun_alone {x : Nat} {rest : List ReadByte} (h : ∀ c, rest.head? = some c → c ≠ plainByte (x + 1)) : plainRun x rest = [x] := by
  have hfirst : (plainByte x == ((Sum.inr x, none, 0) : ReadByte)) = true := (readByte_beq _ _).mpr rfl
  cases rest with
  | nil =>
    simp only [plainRun, List.take_succ_cons, List.take_nil, List.zipIdx_cons, List.zipIdx_nil, List.takeWhile_cons, hfirst, if_true,
      List.takeWhile_nil, List.map_cons, List.map_nil, Nat.add_zero]
  | cons c rest =>
    have hc : (c == ((Sum.inr (x + 1), none, 0) : ReadByte)) = false :=
      Bool.eq_false_iff.mpr fun hc => h c rfl ((readByte_beq _ _).mp hc)
    simp only [plainRun, List.take_succ_cons, List.zipIdx_cons, List.takeWhile_cons, hfirst, if_true, Nat.zero_add, hc, Bool.false_eq_true,
      if_false, List.map_cons, List.map_nil, Nat.add_zero]

theorem State.readOn_plain {r : HostRead} {x : Nat} {rest : List ReadByte} (ha : r.asked = none) (hat : r.atomic = none)
    (hl : r.left = plainByte x :: rest) (hx : homeOf x = .ioc) (hp : s.poisoned [x] = false)
    (hrest : ∀ c, rest.head? = some c → c ≠ plainByte (x + 1)) :
    s.readOn r = s.onHostRead r.id fun y => { y with left := y.left.drop 1, got := y.got ++ [s.byte x] } := by
  have hdie : homeDie x = none := by simp only [homeDie, hx]
  have hrun := plainRun_alone hrest
  have hread : s.readOn r =
      if s.poisoned (plainRun x rest) then s.endHostRead r
      else if (homeDie x).isSome then s.readOn r
      else s.onHostRead r.id fun y => { y with
        left := y.left.drop ((plainRun x rest).takeWhile fun z => z / unitOf z == x / unitOf x).length
        got := y.got ++ ((plainRun x rest).takeWhile fun z => z / unitOf z == x / unitOf x).map fun b => s.byteKeyed none b } := by
    simp only [State.readOn, ha, hl, plainByte, hat, hdie]
    rfl
  rw [hread, hrun, hp, hdie]
  simp [State.byteKeyed]

/-! ### Atomics and queues -/

section
variable {op : HostAtomicOp} {wide : Bool} {v w : Word} (hbar : a.bar ≠ 0)
include hbar

theorem exec_hostAtomic_place : exec (.hostAtomic a op wide v w) s = match s.atomicPlace a (if wide then 8 else 4) with
    | none => .next (s.replyHost a.port.val .unsupported)
    | some x => event "HOST_ATOMIC" (s.unackedOn a.port.val (routeOf x)).isEmpty
        (s.startRead a.port.val (if a.fn.val = 0 then 0 else s.dfTenant (a.fn.val - 1))
          ((List.range (if wide then 8 else 4)).map fun i => plainByte (x + i)) (some (hostAtomic op wide v w))) := by
  have hq : (a.bar == 0) = false := beq_eq_false_iff_ne.mpr hbar
  show execHostAtomic a op wide v w s = _
  simp only [execHostAtomic, hq, Bool.and_false, Bool.false_and, Bool.not_false, Bool.true_and, if_false, Bool.false_eq_true]
  rfl

end

theorem exec_hostFetchaddResv {q : Nat} {v : Word} (hfn : a.fn.val = 0) (hbar : a.bar = 0) (hq : queuePage a.off = some (q, 0))
    (hu : s.unackedOn a.port.val 0 = []) (hr : s.reachesQueue (s.reachOf a) q = true) : exec (.hostFetchaddResv a v) s =
    .next ((s.setQueueDw q 0 (((s.queueDw q 0).toNat + v.toNat) % 2 ^ 64)).replyHost a.port.val (.data (leBytes 8 (s.queueDw q 0).toNat))) := by
  show execHostFetchaddResv a v s = _
  simp only [execHostFetchaddResv, hq, hr, if_true]
  exact event_true _ _ (by simp [hfn, hbar, hu])

theorem exec_queueTailWrite {q : Nat} {v : Word} (hfn : a.fn.val = 0) (hbar : a.bar = 0) (hq : queuePage a.off = some (q, 16))
    (hr : s.reachesQueue (s.reachOf a) q = true) : exec (.queueTailWrite a v) s = .next (s.enterTail a.port.val q v) := by
  show execQueueTailWrite a v s = _
  simp only [execQueueTailWrite, hq, hr, if_true]
  exact event_true _ _ (by simp [hfn, hbar])

theorem State.enterTail_first {port q : Nat} {v : Word} (h : s.unackedOn port 0 = []) : s.enterTail port q v = s.writeTail q v := by
  simp only [State.enterTail, h, List.isEmpty_nil, if_true]

theorem State.enterTail_behind {port q : Nat} {v : Word} (h : s.unackedOn port 0 ≠ []) : s.enterTail port q v =
    s.post { Posted.of (.host port) 0 0 0 0 3 with kind := .tail q v, after := s.unackedOn port 0 } := by
  simp only [State.enterTail, List.isEmpty_iff, h, if_false]

/-! ### The translated window -/

section
variable {len : Nat} (hfn : a.fn.val ≠ 0) (hbar : a.bar = 4) (h1 : 1 ≤ len) (hoff : a.off + len ≤ 64 * 2 ^ 30)
include hfn hbar h1 hoff

theorem exec_hostBar4Access_read {l : List WindowPart} (h4096 : len ≤ 4096) (hu : s.unacked a.port.val = [])
    (hd : s.dieTakes a (a.fn.val - 1) = true) (hl : s.windowParts (a.fn.val - 1) a.off len .read = some l) :
    exec (.hostBar4Access a len none) s = .next (s.startRead a.port.val (s.dfTenant (a.fn.val - 1))
      (l.flatMap fun x => (List.range x.2.1).map fun i => (.inr (x.1 + i), x.2.2.1, entryKey x.2.2.2.1.entry)) none) := by
  show execHostBar4Access a len none s = _
  simp only [execHostBar4Access, hd, hl]
  exact event_true _ _ (by simpa [hfn, hbar, h1, h4096, hu] using hoff)

theorem exec_hostBar4Access_write {bytes : List Byte} (hlen : bytes.length = len) (h512 : len ≤ 512) :
    exec (.hostBar4Access a len (some bytes)) s = .next (
      if !s.dieTakes a (a.fn.val - 1) then s
      else match s.windowParts (a.fn.val - 1) a.off len .write with
        | none => s.refuseHost a
        | some l => (l.foldl (fun (acc : State × Nat) x =>
            (acc.1.enterWrite a.port.val (s.dfTenant (a.fn.val - 1)) (a.fn.val - 1) (s.dfCtx (a.fn.val - 1))
              (placed x.1 ((bytes.drop acc.2).take x.2.1)) x.2.2.1 (some x.2.2.2.1) (some x.2.2.2.2), acc.2 + x.2.1)) (s, 0)).1) := by
  show execHostBar4Access a len (some bytes) s = _
  exact event_true _ _ (by simpa [hfn, hbar, h1, hlen, h512] using hoff)

end

/-! ### Keys (03 R77-R81) -/

section
variable {i : Nat} {rest : List Nat} (hdb : s.hostSide.doorbells = i :: rest)
include hdb

theorem State.keyRecord_of_doorbell : s.keyRecord = some (0x080000 + i * 64) := by
  simp only [State.keyRecord, hdb, List.head?_cons, Option.map_some]

theorem exec_keyDoorbellInvalid (hi : 8128 ≤ i) : exec .keyDoorbellInvalid s =
    .next (({ s with hostSide := { s.hostSide with doorbells := rest } } : State).logMgmt 9 8 0 i 0) := by
  show execKeyDoorbellInvalid s = _
  simp only [execKeyDoorbellInvalid, hdb, List.headD_cons, List.drop_one, List.tail_cons]
  exact event_true _ _ (decide_eq_true hi)

end

/-- `t` after a request of the record at `off` ended with `status`, the doorbells in `rest` still to be served. -/
def State.answeredKey (t : State) (rest : List Nat) (off status : Nat) : State :=
  ({ t with hostSide := { t.hostSide with doorbells := rest } } : State).performBytes none (placed (Home.ioc.at (off + 8)) (leBytes 8 status))

theorem State.endRequest_answered {t : State} {i : Nat} {rest : List Nat} (h : t.hostSide.doorbells = i :: rest) (off status : Nat) :
    t.endRequest off status = t.answeredKey rest off status := by
  simp only [State.endRequest, State.answeredKey, h, List.drop_one, List.tail_cons]

section
variable {i : Nat} {rest : List Nat} (hdb : s.hostSide.doorbells = i :: rest) (hi : i < 8128)
include hdb hi

theorem exec_keyBadRequest (hop : field (s.keyDw (0x080000 + i * 64) 0) 7 0 = 0 ∨ 3 < field (s.keyDw (0x080000 + i * 64) 0) 7 0) :
    exec .keyBadRequest s = .next (s.answeredKey rest (0x080000 + i * 64) 6) := by
  show execKeyBadRequest s = _
  simp only [execKeyBadRequest, State.keyRecord_of_doorbell hdb, s.endRequest_answered hdb, hdb, List.headD_cons]
  exact event_true _ _ (by simpa [hi] using hop)

section
variable {name : String} {op : Nat} {act : Nat → Word → State × Nat} {ready : Nat → Bool}
  (hop : field (s.keyDw (0x080000 + i * 64) 0) 7 0 = op)
include hop

/-- A request under the reserved key id 0. -/
theorem State.keyRequest_noKey (hid : field (s.keyDw (0x080000 + i * 64) 0) 27 16 = 0) :
    s.keyRequest name op act ready = .next (s.answeredKey rest (0x080000 + i * 64) 6) := by
  have hserved : (decide (i ≥ 8128) || decide (field (s.keyDw (0x080000 + i * 64) 0) 7 0 ≠ op)) = false := by simp [hop, hi]
  simp only [State.keyRequest, State.keyRecord_of_doorbell hdb, hdb, List.headD_cons, hserved, hid, if_true, Bool.false_eq_true, if_false,
    s.endRequest_answered hdb]

theorem State.keyRequest_acts (hid : field (s.keyDw (0x080000 + i * 64) 0) 27 16 ≠ 0)
    (hready : ready (field (s.keyDw (0x080000 + i * 64) 0) 27 16) = true) {t : State} {status : Nat}
    (hact : act (field (s.keyDw (0x080000 + i * 64) 0) 27 16) (s.keyDw (0x080000 + i * 64) 0) = (t, status))
    (ht : t.hostSide.doorbells = i :: rest) :
    s.keyRequest name op act ready = .next (t.answeredKey rest (0x080000 + i * 64) status) := by
  have hserved : (decide (i ≥ 8128) || decide (field (s.keyDw (0x080000 + i * 64) 0) 7 0 ≠ op)) = false := by simp [hop, hi]
  simp only [State.keyRequest, State.keyRecord_of_doorbell hdb, hdb, List.headD_cons, hserved, hid, hready, hact, Bool.not_true,
    Bool.false_eq_true, if_false, t.endRequest_answered ht]

end

theorem exec_keyQuery (hid : field (s.keyDw (0x080000 + i * 64) 0) 27 16 ≠ 0) (hop : field (s.keyDw (0x080000 + i * 64) 0) 7 0 = 3) :
    exec .keyQuery s = .next ((s.performBytes none (placed (Home.ioc.at (0x080000 + i * 64 + 24))
      (leBytes 8 ((s.key (field (s.keyDw (0x080000 + i * 64) 0) 27 16)).tenant * 2 +
        (if (s.key (field (s.keyDw (0x080000 + i * 64) 0) 27 16)).valid then 1 else 0))))).answeredKey rest (0x080000 + i * 64) 1) := by
  show execKeyQuery s = _
  unfold execKeyQuery
  refine State.keyRequest_acts hdb hi hop hid ?_ ?_ ?_
  · rfl
  · simp only [State.keyRecord_of_doorbell hdb]
  · exact hdb

theorem exec_keyRetire {t : State} {status : Nat} (hid : field (s.keyDw (0x080000 + i * 64) 0) 27 16 ≠ 0)
    (hop : field (s.keyDw (0x080000 + i * 64) 0) 7 0 = 2)
    (hready : (s.key (field (s.keyDw (0x080000 + i * 64) 0) 27 16)).valid = true → s.keyInUse (field (s.keyDw (0x080000 + i * 64) 0) 27 16) = false)
    (hact : (if !(s.key (field (s.keyDw (0x080000 + i * 64) 0) 27 16)).valid then (s, 5)
      else if (s.key (field (s.keyDw (0x080000 + i * 64) 0) 27 16)).tenant ≠ field (s.keyDw (0x080000 + i * 64) 0) 41 32 then (s, 4)
      else (s.retireKey (field (s.keyDw (0x080000 + i * 64) 0) 27 16), 1)) = (t, status))
    (ht : t.hostSide.doorbells = i :: rest) :
    exec .keyRetire s = .next (t.answeredKey rest (0x080000 + i * 64) status) := by
  show execKeyRetire s = _
  unfold execKeyRetire
  refine State.keyRequest_acts hdb hi hop hid ?_ hact ht
  cases hv : (s.key (field (s.keyDw (0x080000 + i * 64) 0) 27 16)).valid with
  | false => simp
  | true => simp [hready hv]

end

/-- What a LOAD does with the wrapped key at `blob` of the I/O cistern, unwrapped to `material`. -/
def State.loadKey (s : State) (blob tenant id : Nat) (material : Option (BitVec 512)) : State × Nat :=
  if (s.key id).valid then (s, 3)
  else if blob % 64 ≠ 0 ∨ Home.ioc.size < blob + 128 then (s, 6)
  else match material with
    | none => (s, 2)
    | some m =>
      if (s.listsOf tenant).any fun d => ((s.wrapUsed blob).die d).keyList.length ≥ 64 then (s.wrapUsed blob, 6)
      else ((s.listsOf tenant).foldl (fun s d => s.onDie d fun x => { x with keyList := x.keyList ++ [id] })
        { s.wrapUsed blob with keys := tput s.keys id ⟨true, tenant, m⟩ }, 1)

theorem State.loadKey_misplaced {blob tenant id : Nat} {material : Option (BitVec 512)} (hv : (s.key id).valid = false)
    (h : blob % 64 ≠ 0 ∨ Home.ioc.size < blob + 128) : s.loadKey blob tenant id material = (s, 6) := by
  unfold State.loadKey
  rw [hv, if_neg Bool.false_ne_true, if_pos h]

section
variable {blob tenant id : Nat} (hv : (s.key id).valid = false) (hb : blob % 64 = 0) (hsize : blob + 128 ≤ Home.ioc.size)
include hv hb hsize

theorem State.loadKey_placed {material : Option (BitVec 512)} : s.loadKey blob tenant id material = match material with
    | none => (s, 2)
    | some m =>
      if (s.listsOf tenant).any fun d => ((s.wrapUsed blob).die d).keyList.length ≥ 64 then (s.wrapUsed blob, 6)
      else ((s.listsOf tenant).foldl (fun s d => s.onDie d fun x => { x with keyList := x.keyList ++ [id] })
        { s.wrapUsed blob with keys := tput s.keys id ⟨true, tenant, m⟩ }, 1) := by
  have hplace : ¬(blob % 64 ≠ 0 ∨ Home.ioc.size < blob + 128) := not_or.mpr ⟨not_not_intro hb, Nat.not_lt.mpr hsize⟩
  unfold State.loadKey
  rw [hv, if_neg Bool.false_ne_true, if_neg hplace]

theorem State.loadKey_unwrapped (m : BitVec 512) (hlists : s.listsOf tenant = []) : s.loadKey blob tenant id (some m) =
    ({ s.wrapUsed blob with keys := tput s.keys id ⟨true, tenant, m⟩ }, 1) := by
  rw [State.loadKey_placed hv hb hsize]
  simp only [hlists, List.any_nil, Bool.false_eq_true, if_false, List.foldl_nil]

end

section
variable {i : Nat} {rest : List Nat} (hdb : s.hostSide.doorbells = i :: rest) (hi : i < 8128)
include hdb hi

theorem exec_keyLoad_noKey (hid : field (s.keyDw (0x080000 + i * 64) 0) 27 16 = 0) (hop : field (s.keyDw (0x080000 + i * 64) 0) 7 0 = 1)
    (m : Option (BitVec 512)) : exec (.keyLoad m) s = .next (s.answeredKey rest (0x080000 + i * 64) 6) := by
  show execKeyLoad m s = _
  unfold execKeyLoad
  exact State.keyRequest_noKey hdb hi hop hid

theorem exec_keyLoad {t : State} {status : Nat} (hid : field (s.keyDw (0x080000 + i * 64) 0) 27 16 ≠ 0)
    (hop : field (s.keyDw (0x080000 + i * 64) 0) 7 0 = 1)
    (hact : s.loadKey (s.keyDw (0x080000 + i * 64) 2).toNat (field (s.keyDw (0x080000 + i * 64) 0) 41 32)
      (field (s.keyDw (0x080000 + i * 64) 0) 27 16) (s.wrapped (s.keyDw (0x080000 + i * 64) 2).toNat) = (t, status))
    (ht : t.hostSide.doorbells = i :: rest) :
    exec (.keyLoad (s.wrapped (s.keyDw (0x080000 + i * 64) 2).toNat)) s = .next (t.answeredKey rest (0x080000 + i * 64) status) := by
  have hblob : ((s.keyRecord.map fun off => s.keyDw off 2).getD 0).toNat = (s.keyDw (0x080000 + i * 64) 2).toNat := by
    rw [State.keyRecord_of_doorbell hdb]; rfl
  show execKeyLoad _ s = _
  unfold execKeyLoad
  refine State.keyRequest_acts hdb hi hop hid ?_ ?_ ht
  · rw [hblob]; exact beq_self_eq_true _
  · rw [hblob]; exact hact

end

/-! ### Registers of the package -/

theorem foldl_onDie_memBound {b : Bool} {d : Nat} (ds : List Nat) (h : d ∈ ds ∨ (s.die d).memBound = b) :
    ((ds.foldl (fun s d => s.onDie d fun x => { x with memBound := b }) s).die d).memBound = b := by
  induction ds generalizing s with
  | nil => exact h.resolve_left List.not_mem_nil
  | cons e ds ih =>
    refine ih ?_
    by_cases hed : d = e
    · right; subst hed; rw [State.onDie_self]
    · rcases h with h | h
      · left; exact (List.mem_cons.mp h).resolve_left hed
      · right; rwa [State.onDie_other _ _ _ _ hed]

theorem foldl_onDie_keeps {α : Type} {f : Die → Die} {g : State → α} (hg : ∀ t d, g (t.onDie d f) = g t) (ds : List Nat) :
    g (ds.foldl (fun s d => s.onDie d f) s) = g s :=
  foldl_rel (R := fun t u => g u = g t) (fun _ => rfl) (fun h h' => h'.trans h) (fun t d => hg t d) ds s

theorem exec_powerClassChange {b : Bool} (h : s.packageClass = some b) : exec .powerClassChange s =
    .next ((List.range 16).foldl (fun s d => s.onDie d fun x => { x with memBound := b }) s) := by
  show execPowerClassChange s = _
  simp only [execPowerClassChange, h]

/-- The parts of the machine that no management register touches. -/
def State.Spared (s t : State) : Prop := t.mem = s.mem ∧ t.posted = s.posted ∧ ∀ c n, t.seatAt c n = s.seatAt c n

theorem State.spared_onCanal (f : Canal → Canal) : s.Spared (s.onCanal f) := ⟨rfl, rfl, fun _ _ => rfl⟩
theorem State.spared_hostSide (h : HostSide) : s.Spared { s with hostSide := h } := ⟨rfl, rfl, fun _ _ => rfl⟩
theorem State.spared_onDie (d : Nat) (f : Die → Die) : s.Spared (s.onDie d f) := ⟨rfl, rfl, fun _ _ => rfl⟩
theorem State.spared_iocTags (l : Tab Nat) : s.Spared { s with iocTags := l } := ⟨rfl, rfl, fun _ _ => rfl⟩
theorem State.Spared.refl : s.Spared s := ⟨rfl, rfl, fun _ _ => rfl⟩

theorem State.spared_ite {p : Prop} [Decidable p] {t u : State} (ht : s.Spared t) (hu : s.Spared u) : s.Spared (if p then t else u) := by
  split
  · exact ht
  · exact hu

/-- A register leaves memory, posted work and the seats as they are. -/
theorem State.writeRegister_spares (r : MgmtReg) (v : Word) : s.Spared (s.writeRegister r v) := by
  cases r with
  | fabctl | rrctl | hsalt | rwdog | tctx => exact s.spared_onCanal _
  | fmap | windowClass | mreq | rqt => exact s.spared_hostSide _
  | slctl | tableBase => exact s.spared_onDie _ _
  | best => exact State.spared_ite .refl ⟨rfl, rfl, fun _ _ => rfl⟩
  | dfctl => exact State.spared_ite .refl (s.spared_onDie _ _)
  | xmwin => exact State.spared_ite .refl (s.spared_hostSide _)
  | treeNode c t =>
    refine ⟨rfl, rfl, fun c' n => ?_⟩
    by_cases hc : c' = c % 1024
    · subst hc; simp [State.writeRegister, State.seatAt, Core.seat]
    · exact congrArg (Core.seat · n) (State.onCore_other _ _ _ _ hc)
  | blockTag d b => cases d with
    | none => exact s.spared_iocTags _
    | some d => exact s.spared_onDie _ _
  | trims => exact .refl

/-- Settles O58. -/
theorem hostEvents : Obligations.HostEvents := by
  unfold Obligations.HostEvents
  refine ⟨?_, ?_, ?_, ?_, ?_, ?_, ?_, ?_, ?_, ?_⟩
  · intro s a data hfn hbar h1 h512 hoff bs held
    have hrun := exec_hostPostedWrite_ioc h1 h512 hfn hbar hoff (s := s)
    refine ⟨fun hr => ?_, fun hr => ⟨fun hf => ?_, fun hf => ?_⟩⟩
    · simpa [hr, State.refuseHost_package hfn] using hrun
    · rw [hrun, hr, hf]; rfl
    · rw [hrun, hr, hf]; rfl
  · intro s a data q o hfn hbar hq h1 h512 ho hno
    have hrun := exec_hostPostedWrite_queue h1 h512 hfn hbar hq ho hno (s := s)
    refine ⟨fun hr => ?_, fun hr => ?_⟩
    · rw [hrun, if_pos hr]
    · rw [hrun, hr, State.refuseHost_package hfn]; rfl
  · exact fun s port p bs hp hk hd => exec_flagClassWritePerform hp hk hd
  · intro s a len h1 h4096 hu starts refused d
    refine ⟨fun hfn hbar hoff => ?_, fun hfn hbar hoff => ?_, fun hbar hoff hfn hport => exec_hostRead_absent h1 h4096 hu hfn hbar hoff hport⟩
    · have hrun := exec_hostRead_ioc h1 h4096 hu hfn hbar hoff
      refine ⟨fun hr => ?_, fun hr => ?_⟩
      · exact hrun.trans (by rw [if_pos hr])
      · exact hrun.trans (by rw [hr]; rfl)
    · have hrun := exec_hostRead_cores h1 h4096 hu hfn hbar hoff
      refine ⟨fun hd hr => ?_, fun hd => ?_, fun hr => ?_⟩
      · refine hrun.trans ?_
        rw [hd, hr, bar2Bytes, List.map_map]
        rfl
      · exact hrun.trans (by rw [hd]; rfl)
      · exact hrun.trans (by rw [hr, Bool.and_false]; rfl)
  · exact fun s r ha hat => ⟨fun hl => State.readOn_ends ha hat hl, fun x rest hl hx hp hrest => State.readOn_plain ha hat hl hx hp hrest⟩
  · intro s a op wide v w size
    refine ⟨?_, fun hx hbar => ?_⟩
    · intro x hbar hx hu op'
      rw [exec_hostAtomic_place hbar, hx]
      exact event_true _ _ (by rw [hu]; rfl)
    · rw [exec_hostAtomic_place hbar, hx]
  · intro s a v q o hfn hbar hq
    refine ⟨fun ho hu hr => ?_, fun ho hr => ?_⟩
    · subst ho
      exact exec_hostFetchaddResv hfn hbar hq hu hr
    · subst ho
      have hrun := exec_queueTailWrite (v := v) hfn hbar hq hr
      exact ⟨fun hu => hrun.trans (by rw [State.enterTail_first hu]), fun hu => hrun.trans (by rw [State.enterTail_behind hu])⟩
  · intro s a len hfn hbar h1 hoff d
    refine ⟨fun l h4096 hu hd hl => exec_hostBar4Access_read hfn hbar h1 hoff h4096 hu hd hl, fun bytes hlen h512 hd hl => ?_,
      fun bytes x hlen h512 hd hl => ?_, fun bytes hlen h512 hd => ?_⟩
    all_goals rw [exec_hostBar4Access_write hfn hbar h1 hoff hlen h512, hd]
    · rw [hl, State.refuseHost_die hfn]; rfl
    · rw [hl]; rfl
    · rfl
  · intro s i rest hdb off w op id tenant ends
    refine ⟨exec_keyDoorbellInvalid hdb, fun hi hop => exec_keyBadRequest hdb hi hop, fun hi hid => ⟨fun hop m => ?_, fun hop => ?_, fun hop => ?_⟩,
      ?_, fun hi hid hop => ⟨fun hv => ?_, fun hv hu => ⟨fun ht => ?_, fun ht => ?_⟩⟩, fun hi hid hop => exec_keyQuery hdb hi hid hop⟩
    · exact exec_keyLoad_noKey hdb hi hid hop m
    · exact (show execKeyRetire s = _ from State.keyRequest_noKey hdb hi hop hid)
    · exact (show execKeyQuery s = _ from State.keyRequest_noKey hdb hi hop hid)
    · intro hi hid hop blob out
      refine ⟨fun hv => ?_, fun hv hb => ?_, fun hv hb hsize => ?_⟩
      · exact exec_keyLoad hdb hi hid hop (if_pos hv) hdb
      · exact exec_keyLoad hdb hi hid hop (State.loadKey_misplaced hv hb) hdb
      · refine ⟨fun hout => ?_, fun m hout hlists => ?_⟩
        · rw [← hout]
          exact exec_keyLoad hdb hi hid hop ((congrArg _ hout).trans (State.loadKey_placed hv hb hsize)) hdb
        · rw [← hout]
          exact exec_keyLoad hdb hi hid hop ((congrArg _ hout).trans (State.loadKey_unwrapped hv hb hsize m hlists)) hdb
    · exact exec_keyRetire hdb hi hid hop (fun h => absurd h (Bool.eq_false_iff.mp hv)) (by rw [hv]; rfl) hdb
    · exact exec_keyRetire hdb hi hid hop (fun _ => hu) (by rw [hv, if_pos ht]; rfl) hdb
    · exact exec_keyRetire hdb hi hid hop (fun _ => hu) (by rw [hv, if_neg (not_not_intro ht)]; rfl) hdb
  · intro s v
    refine ⟨fun i hi => event_true _ _ (decide_eq_true hi), rfl, fun b hb => ⟨_, exec_powerClassChange hb, ?_, ?_, fun d hd => ?_⟩, rfl,
      fun r => ⟨_, event_true "MANAGEMENT_REGISTER_WRITE" _ rfl, State.writeRegister_spares r v⟩⟩
    · exact foldl_onDie_keeps (fun _ _ => rfl) _
    · exact foldl_onDie_keeps (fun _ _ => rfl) _
    · exact foldl_onDie_memBound _ (.inl (List.mem_range.mpr hd))

end Sys2Proof.Machine

/-! ### The package, its dies and interfaces (03 R83-R85; 19 R462-R475) -/

namespace Sys2Proof.Machine

variable {s : State}

/-- What every step of a fold keeps, the fold keeps. -/
theorem foldl_keeps {α β : Type} {f : State → α → State} {g : State → β} (h : ∀ s a, g (f s a) = g s) (l : List α) (s : State) :
    g (l.foldl f s) = g s :=
  foldl_rel (R := fun s t => g t = g s) (fun _ => rfl) (fun h h' => h'.trans h) h l s

/-! ### Owners of cores -/

/-- A change of each of some dies reaches each of them once. -/
theorem foldl_onDie_die (f : Die → Die) {ds : List Nat} (h : ds.Nodup) (d : Nat) :
    (ds.foldl (fun s d => s.onDie d f) s).die d = if d ∈ ds then f (s.die d) else s.die d := by
  induction ds generalizing s with
  | nil => rfl
  | cons e ds ih =>
    obtain ⟨he, hds⟩ := List.nodup_cons.mp h
    rw [List.foldl_cons, ih hds]
    by_cases hed : d = e
    · subst hed
      rw [if_neg he, State.onDie_self, if_pos List.mem_cons_self]
    · rw [State.onDie_other _ _ _ _ hed]
      simp only [List.mem_cons, hed, false_or]

theorem State.setOwner_die (c : Nat) (o : Owner) {d : Nat} (hd : d < 16) :
    (s.setOwner c o).die d = { s.die d with owners := tput (s.die d).owners c o } := by
  rw [State.setOwner, foldl_onDie_die _ List.nodup_range, if_pos (List.mem_range.mpr hd)]

theorem State.setOwner_ownerOf_self (c : Nat) (o : Owner) {d : Nat} (hd : d < 16) : (s.setOwner c o).ownerOf d c = o := by
  rw [State.ownerOf, State.setOwner_die c o hd, tget_tput_self]

theorem State.setOwner_ownerOf_other {c c' : Nat} (o : Owner) {d : Nat} (hd : d < 16) (hc : c ≠ c') :
    (s.setOwner c' o).ownerOf d c = s.ownerOf d c := by
  rw [State.ownerOf, State.setOwner_die c' o hd, tget_tput_other _ _ _ _ _ hc, State.ownerOf]

theorem State.setOwner_mem (c : Nat) (o : Owner) : (s.setOwner c o).mem = s.mem := by
  rw [State.setOwner, foldl_onDie_keeps (g := State.mem) fun _ _ => rfl]

theorem State.setOwner_cores (c : Nat) (o : Owner) : (s.setOwner c o).cores = s.cores := by
  rw [State.setOwner, foldl_onDie_keeps (g := State.cores) fun _ _ => rfl]

theorem State.inTransit_iff {c : Nat} : s.inTransit c = true ↔ ∀ d, d < 16 → s.ownerOf d c = .transit := by
  simp [State.inTransit]

theorem State.foldl_setOwner_transit {cs : List Nat} {c : Nat} (h : c ∈ cs ∨ s.inTransit c = true) :
    (cs.foldl (fun s c => s.setOwner c .transit) s).inTransit c = true := by
  induction cs generalizing s with
  | nil => exact h.resolve_left List.not_mem_nil
  | cons e cs ih =>
    rw [List.foldl_cons]
    refine ih (s := s.setOwner e .transit) ?_
    by_cases hc : c = e
    · subst hc
      exact .inr (State.inTransit_iff.mpr fun d hd => State.setOwner_ownerOf_self c _ hd)
    · refine h.imp (fun h => (List.mem_cons.mp h).resolve_left hc) fun h => State.inTransit_iff.mpr fun d hd => ?_
      rw [State.setOwner_ownerOf_other _ hd hc, State.inTransit_iff.mp h d hd]

theorem coreOwnerChange_results {c tenant : Nat} (hc : c < 1024) (ht : tenant < 1024) :
    (s.inTransit c = false → ∃ t, exec (.coreOwnerChange c tenant) s = .next t ∧ t.mem = s.mem ∧ t.cores = s.cores ∧ t.inTransit c = true) ∧
    (s.inTransit c = true → s.drainedCore c = true → ∃ t, exec (.coreOwnerChange c tenant) s = .next t ∧ t.mem = s.mem ∧
      (t.core c).scrubbing = true ∧ ∀ d, d < 16 → t.ownerOf d c = .owned tenant) := by
  refine ⟨fun h => ⟨s.setOwner c .transit, ?_, State.setOwner_mem .., State.setOwner_cores .., ?_⟩,
    fun h hd => ⟨(s.onCore c fun k => { k with scrubbing := true }).setOwner c (.owned tenant), ?_, State.setOwner_mem .., ?_,
      fun d hd => State.setOwner_ownerOf_self c _ hd⟩⟩
  · show execCoreOwnerChange c tenant s = _
    simp only [execCoreOwnerChange, h]
    exact event_true _ _ (by simp [hc, ht])
  · exact State.inTransit_iff.mpr fun d hd => State.setOwner_ownerOf_self c _ hd
  · show execCoreOwnerChange c tenant s = _
    simp only [execCoreOwnerChange, h]
    exact event_true _ _ (by simp [hc, ht, hd])
  · rw [State.core, State.setOwner_cores]
    exact congrArg Core.scrubbing (State.onCore_self s c _)

theorem scrubComplete_results {c : Nat} (h : (s.core c).scrubbing = true) : ∃ t, exec (.scrubComplete c) s = .next t ∧
    (t.core c).scrubbing = false ∧ (t.core c).seats = [] ∧ (t.core c).rows = [] ∧ (t.core c).icache = [] ∧ (t.core c).tlb = [] ∧
    (t.core c).flight = [] ∧ t.mem = s.mem.filter fun x => !inCore c x.1 := by
  refine ⟨s.scrub c, event_true _ _ h, ?_⟩
  simp [State.scrub, State.wipe]

/-! ### Resets and interfaces of dies -/

theorem field_two_one (w : Word) : field w 2 1 = field w 2 0 / 2 := by
  simp only [field]
  omega

theorem bitOf_zero (w : Word) : bitOf w 0 = (field w 2 0).testBit 0 := by
  rw [field_testBit, bitOf]
  rfl

theorem tdis_putField (w : Word) (v : Nat) : field (putField w 2 0 v) 2 1 = v % 8 / 2 := by
  rw [field_two_one, field_putField_self w v (by decide) (by decide)] <;> rfl

theorem reset_putField (w : Word) (v : Nat) : bitOf (putField w 2 0 v) 0 = (v % 8).testBit 0 := by
  rw [bitOf_zero, field_putField_self w v (by decide) (by decide)] <;> rfl

theorem tget_mapKeyed {α : Type} (d : α) (t : Tab α) (f : Nat → α → α) (k : Nat) :
    tget d (t.map fun p => (p.1, f p.1 p.2)) k = d ∨ tget d (t.map fun p => (p.1, f p.1 p.2)) k = f k (tget d t k) := by
  induction t with
  | nil => exact .inl rfl
  | cons p t ih =>
    obtain ⟨j, v⟩ := p
    by_cases h : j = k
    · exact .inr (by simp [tget, h])
    · simpa [tget, h] using ih

section
variable {d : Nat}

theorem State.clearDie_die : (s.clearDie d).die d = { Die.reset with
    orient := (s.die d).orient, owners := (s.die d).owners, tags := (s.die d).tags, ctxBase := (s.die d).ctxBase, taskBase := (s.die d).taskBase
    reuseBase := (s.die d).reuseBase, quotaBase := (s.die d).quotaBase, log := (s.die d).log, memBound := (s.die d).memBound
    throttled := (s.die d).throttled, dfctl := putField (s.die d).dfctl 2 0 6, inReset := true } := tget_tput_self _ _ _ _

/-- A core of a cleared die is reset, but for what its SRAM has mapped out. -/
theorem State.clearDie_core {c : Nat} (h : dieOf c = d) : ∃ m, (s.clearDie d).core c = { Core.reset with mapOut := m } := by
  have hcore := tget_mapKeyed .reset s.cores (fun c k => if dieOf c = d then { Core.reset with mapOut := k.mapOut } else k) c
  rw [if_pos h] at hcore
  rcases hcore with hcore | hcore
  · exact ⟨_, hcore⟩
  · exact ⟨_, hcore⟩

theorem State.bypassStation_bypass (station : Nat) : (s.bypassStation station).flume.bypass.contains station = true := by
  unfold State.bypassStation
  dsimp only
  split
  · assumption
  · simp

theorem dieReset_results (hd : d < 16) (h : bitOf (s.die d).dfctl 0 = false) :
    let s1 := s.onDie d fun x => { x with dfctl := putField x.dfctl 2 0 7, inReset := true }
    let stopped := (dieCores d).foldl (fun s c => s.setOwner c .transit) ((s1.abandonJobs d).failDie d)
    exec (.dieReset d) s = .next (stopped.bypassStation (stationOf d)) ∧ (s1.die d).inReset = true ∧ s1.tdis d = 3 ∧ bitOf (s1.die d).dfctl 0 = true ∧
      (∀ c, dieOf c = d → c < 1024 → stopped.inTransit c = true) ∧ (stopped.bypassStation (stationOf d)).flume.bypass.contains (stationOf d) = true := by
  intro s1 stopped
  have hdie : s1.die d = { s.die d with dfctl := putField (s.die d).dfctl 2 0 7, inReset := true } := State.onDie_self ..
  refine ⟨event_true _ _ (by simp [hd, h]), ?_, ?_, ?_, fun c hc _ => State.foldl_setOwner_transit (.inl ?_), ?_⟩
  · rw [hdie]
  · rw [State.tdis, hdie, tdis_putField]
  · rw [hdie, reset_putField]
    rfl
  · rw [← hc, dieCores, List.mem_map]
    exact ⟨c % 64, List.mem_range.mpr (Nat.mod_lt _ (by decide)), by unfold dieOf; omega⟩
  · exact State.bypassStation_bypass _

theorem resetTick_results (hb : bitOf (s.die d).dfctl 0 = true) (hk : s.keysIdle d = true) :
    let t := s.resetTick d
    (t.die d).inReset = true ∧ t.tdis d = 3 ∧ bitOf (t.die d).dfctl 0 = false ∧ t = s.endReset d ∧
      (∀ c, dieOf c = d → (t.core c).seats = [] ∧ (t.core c).flight = [] ∧ (t.core c).running = none) := by
  intro t
  have ht : t = s.endReset d := by simp only [t, State.resetTick, hb, hk, Bool.and_self, if_true]
  rw [ht]
  refine ⟨?_, ?_, ?_, rfl, fun c hc => ?_⟩
  · rw [State.endReset, State.clearDie_die]
  · rw [State.tdis, State.endReset, State.clearDie_die, tdis_putField]
  · rw [State.endReset, State.clearDie_die, reset_putField]
    rfl
  · obtain ⟨m, hm⟩ := State.clearDie_core (s := (s.die d).keyList.foldl State.retireKey s) hc
    rw [State.endReset, hm]
    exact ⟨rfl, rfl, rfl⟩

theorem dieReadmit_results (hd : d < 16) (hr : (s.die d).inReset = true) (hb : bitOf (s.die d).dfctl 0 = false) :
    ∃ t, exec (.dieReadmit d) s = .next t ∧ t.mem = s.mem ∧ (t.die d).inReset = false ∧
      t.flume.bypass = s.flume.bypass.filter fun x => x != stationOf d :=
  ⟨_, event_true "DIE_READMIT" _ (by simp [hd, hr, hb]), rfl, congrArg Die.inReset (State.onDie_self ..), rfl⟩

theorem exec_tdispMessage {m : TdispMsg} (hd : d < 16) (hm : m = .stopInterface → bitOf (s.die d).dfctl 0 = false) :
    exec (.tdispMessage d m) s = .next (match (generalizing := false) m with
      | .lockInterface => if s.tdis d = 0 then (s.setTdis d 1).replyHost (s.portOf d) .done else s.replyHost (s.portOf d) .unsupported
      | .startInterface => if s.tdis d = 1 then (s.setTdis d 2).replyHost (s.portOf d) .done else s.replyHost (s.portOf d) .unsupported
      | .stopInterface => if s.tdis d = 2 then (s.startReset d).replyHost (s.portOf d) .done else (s.setTdis d 0).replyHost (s.portOf d) .done
      | .getState => s.replyHost (s.portOf d) (.answer [s.tdis d])
      | .getReport => s.replyHost (s.portOf d)
          (.answer ([s.dfTenant d, s.dfCtx d, field (s.die d).dfctl 41 3] ++ (s.die d).keyList ++ s.measures))) := by
  refine event_true "TDISP_MESSAGE" _ ?_
  rw [decide_eq_true hd, Bool.true_and, Bool.not_eq_true', Bool.and_eq_false_iff, beq_eq_false_iff_ne]
  exact Decidable.or_iff_not_imp_left.mpr fun h => hm (Decidable.not_not.mp h)

end

/-! ### Measurements, ports, the boot and power -/

theorem exec_spdmRequest {fn index : Nat} (hf : fn < 17) (h1 : 1 ≤ index) (h6 : index ≤ 6) : exec (.spdmRequest fn index) s =
    .next (s.replyHost (if fn = 0 then 0 else s.portOf (fn - 1)) (.answer [s.measure index])) :=
  (event_true "SPDM_REQUEST" _ (decide_eq_true hf)).trans (congrArg Host.Outcome.next (if_pos ⟨h1, h6⟩))

/-- FMAP applied to the entry of a die that `port` presents or will present. -/
def applyEntry (fmap : Word) (port : Nat) (w : Word) (d : Nat) : Word :=
  if field w (2 * d + 1) (2 * d) = port ∨ field fmap (2 * d + 1) (2 * d) = port then putField w (2 * d + 1) (2 * d) (field fmap (2 * d + 1) (2 * d))
  else w

theorem applyEntry_self (fmap w : Word) (port : Nat) {d : Nat} (hd : d < 16) : field (applyEntry fmap port w d) (2 * d + 1) (2 * d) =
    if field w (2 * d + 1) (2 * d) = port ∨ field fmap (2 * d + 1) (2 * d) = port then field fmap (2 * d + 1) (2 * d)
    else field w (2 * d + 1) (2 * d) := by
  unfold applyEntry
  split
  · rw [field_putField_self w _ (by omega) (by omega)]
    exact Nat.mod_mod _ _
  · rfl

theorem applyEntry_other (fmap w : Word) (port : Nat) {d e : Nat} (he : e < 16) (h : d ≠ e) :
    field (applyEntry fmap port w e) (2 * d + 1) (2 * d) = field w (2 * d + 1) (2 * d) := by
  unfold applyEntry
  split
  · exact field_putField_other w _ (by omega) (by omega) (by omega)
  · rfl

theorem foldl_applyEntry (fmap : Word) (port : Nat) {ds : List Nat} (hds : ds.Nodup) (h16 : ∀ d ∈ ds, d < 16) (w : Word) (d : Nat) :
    field (ds.foldl (applyEntry fmap port) w) (2 * d + 1) (2 * d) =
      if d ∈ ds ∧ (field w (2 * d + 1) (2 * d) = port ∨ field fmap (2 * d + 1) (2 * d) = port) then field fmap (2 * d + 1) (2 * d)
      else field w (2 * d + 1) (2 * d) := by
  induction ds generalizing w with
  | nil => simp
  | cons e ds ih =>
    obtain ⟨he, hds⟩ := List.nodup_cons.mp hds
    have h16' : e < 16 := h16 e List.mem_cons_self
    rw [List.foldl_cons, ih hds fun d hd => h16 d (List.mem_cons_of_mem _ hd)]
    by_cases hde : d = e
    · subst hde
      simp only [he, false_and, if_false, List.mem_cons_self, true_and]
      exact applyEntry_self fmap w port h16'
    · simp only [applyEntry_other fmap w port h16' hde, List.mem_cons, hde, false_or]

theorem portReset_results {port : Nat} (hp : port < 4) : ∃ t, exec (.portReset port) s = .next t ∧ t.mem = s.mem ∧ t.cores = s.cores ∧
    t.hostSide.fmap = s.hostSide.fmap ∧ ∀ d, d < 16 → t.portOf d = if s.portOf d = port ∨ field s.hostSide.fmap (2 * d + 1) (2 * d) = port
      then field s.hostSide.fmap (2 * d + 1) (2 * d) else s.portOf d := by
  refine ⟨{ s with hostSide := { s.hostSide with applied := (List.range 16).foldl (applyEntry s.hostSide.fmap port) s.hostSide.applied } },
    event_true "PORT_RESET" _ (decide_eq_true hp), rfl, rfl, rfl, fun d hd => ?_⟩
  refine (foldl_applyEntry s.hostSide.fmap port List.nodup_range (fun d hd => List.mem_range.mp hd) s.hostSide.applied d).trans ?_
  simp only [List.mem_range, hd, true_and]
  rfl

/-- Bring-up changes the keys, the package's place and its Canal, links and dies only. -/
theorem State.broughtUp_keeps {β : Type} {g : State → β} (stamp : Nat) (hdie : ∀ t d f, g (State.onDie t d f) = g t)
    (hlink : ∀ t p f, g (State.onLink t p f) = g t)
    (hrest : ∀ t dom prow pcol canal, g ({ t with dom := dom, prow := prow, pcol := pcol, canal := canal } : State) = g t) :
    g (s.broughtUp stamp) = g { s with keys := tput s.keys 0 ⟨true, 0, Config.rootKey stamp⟩ } := by
  unfold State.broughtUp
  dsimp only
  rw [foldl_keeps (g := g) fun t d => hdie t d _, foldl_keeps (g := g) fun t p => hlink t p _]
  exact hrest { s with keys := tput s.keys 0 ⟨true, 0, Config.rootKey stamp⟩ } _ _ _ _

/-- What the boot has measured: the fuses, and each stage that started. -/
def measuredOf (ran : List FirmwareStage) (fuses : List Byte) : Tab (BitVec 256) :=
  (List.range ran.length).foldl (fun t i => match ran[i]? with
    | some x => tput t (i + 1) (digestOf x.image)
    | none => t) (tput [] 6 (digestOf fuses))

theorem measuredOf_fuses {ran : List FirmwareStage} (fuses : List Byte) (h : ran.length ≤ 5) :
    tget 0 (measuredOf ran fuses) 6 = digestOf fuses := by
  unfold measuredOf
  refine List.foldlRecOn (motive := fun t => tget 0 t 6 = digestOf fuses) (List.range ran.length) _ (tget_tput_self _ _ _ _) fun t ht i hi => ?_
  split
  · rw [tget_tput_other _ _ _ _ _ (by have := List.mem_range.mp hi; omega)]
    exact ht
  · exact ht

/-- The state in which the boot has measured its stages, before bring-up. -/
def State.measuredBoot (s : State) (stages : List FirmwareStage) (fuses : List Byte) : State :=
  { s with nextPost := s.nextPost + 1, hostSide := { s.hostSide with
    measured := measuredOf (started stages) fuses, power := true, booted := (started stages).length == 5
    cxl := (List.range 4).filter (Config.portMode s.nextPost) } }

theorem exec_boot {stages : List FirmwareStage} {fuses : List Byte} (h5 : stages.length = 5)
    (hoff : s.hostSide.booted = false ∨ s.hostSide.power = false) : exec (.boot stages fuses) s =
    .next (if (started stages).length = 5 then (s.measuredBoot stages fuses).broughtUp s.nextPost else s.measuredBoot stages fuses) :=
  event_true "BOOT" _ (by rcases hoff with h | h <;> simp [h5, h])

theorem started_length_le (stages : List FirmwareStage) : (started stages).length ≤ stages.length := (List.takeWhile_prefix _).length_le

theorem takeWhile_of_all {α : Type} {p : α → Bool} {l : List α} (h : l.all p = true) : l.takeWhile p = l := by
  induction l with
  | nil => rfl
  | cons a l ih =>
    obtain ⟨ha, hl⟩ := (Bool.and_eq_true _ _).mp (List.all_cons.symm.trans h)
    rw [List.takeWhile_cons_of_pos ha, ih hl]

/-- Every stage starts exactly when every signature verifies. -/
theorem started_length_eq_iff (stages : List FirmwareStage) : (started stages).length = stages.length ↔ stages.all (·.genuine) = true := by
  constructor
  · intro h
    rw [← (List.takeWhile_prefix _).eq_of_length h]
    exact List.all_takeWhile ..
  · intro h
    rw [started, takeWhile_of_all h]

theorem boot_results {stages : List FirmwareStage} {fuses : List Byte} (h5 : stages.length = 5)
    (hoff : s.hostSide.booted = false ∨ s.hostSide.power = false) :
    ∃ t, exec (.boot stages fuses) s = .next t ∧ t.mem = s.mem ∧ t.cores = s.cores ∧ t.hostSide.power = true ∧
      (stages.all (·.genuine) = true → t.hostSide.booted = true ∧ (t.key 0).valid = true ∧ (t.key 0).tenant = 0) ∧
      (stages.all (·.genuine) = false → t.hostSide.booted = false) ∧ tget 0 t.hostSide.measured 6 = digestOf fuses := by
  have hall := started_length_eq_iff stages
  have hfuses := measuredOf_fuses fuses (h5 ▸ started_length_le stages)
  rw [h5] at hall
  refine ⟨_, exec_boot h5 hoff, ?_⟩
  by_cases hrun : (started stages).length = 5
  · rw [if_pos hrun]
    have hhost : ((s.measuredBoot stages fuses).broughtUp s.nextPost).hostSide = (s.measuredBoot stages fuses).hostSide :=
      State.broughtUp_keeps _ (fun _ _ _ => rfl) (fun _ _ _ => rfl) fun _ _ _ _ _ => rfl
    have hkeys : ((s.measuredBoot stages fuses).broughtUp s.nextPost).keys = tput s.keys 0 ⟨true, 0, Config.rootKey s.nextPost⟩ :=
      State.broughtUp_keeps (g := State.keys) _ (fun _ _ _ => rfl) (fun _ _ _ => rfl) fun _ _ _ _ _ => rfl
    have hkey : ((s.measuredBoot stages fuses).broughtUp s.nextPost).key 0 = ⟨true, 0, Config.rootKey s.nextPost⟩ := by
      rw [State.key, hkeys, tget_tput_self]
    refine ⟨State.broughtUp_keeps (g := State.mem) _ (fun _ _ _ => rfl) (fun _ _ _ => rfl) fun _ _ _ _ _ => rfl,
      State.broughtUp_keeps (g := State.cores) _ (fun _ _ _ => rfl) (fun _ _ _ => rfl) fun _ _ _ _ _ => rfl, ?_, fun _ => ⟨?_, ?_, ?_⟩,
      fun h => absurd (hall.mp hrun) (Bool.eq_false_iff.mp h), ?_⟩
    · rw [hhost]; rfl
    · rw [hhost]; exact beq_iff_eq.mpr hrun
    · rw [hkey]
    · rw [hkey]
    · rw [hhost]; exact hfuses
  · rw [if_neg hrun]
    exact ⟨rfl, rfl, rfl, fun h => absurd (hall.mpr h) hrun, fun _ => beq_eq_false_iff_ne.mpr hrun, hfuses⟩

theorem thermalShutdown_results (h : s.hostSide.power = true) : ∃ t, exec .thermalShutdown s = .next t ∧ t.hostSide.power = false ∧
    t.mem = [] ∧ t.cores = [] ∧ t.dies = [] ∧ t.mgmtLog = (s.logMgmt 3 8 0 0 0).mgmtLog :=
  ⟨_, event_true "THERMAL_SHUTDOWN" _ h, rfl, rfl, rfl, rfl, rfl⟩

end Sys2Proof.Machine

/-! ### Jobs, their snapshots and rollback (18 R453-R458), and uncorrectable reads (R451) -/

namespace Sys2Proof.Machine

variable {s : State}

theorem State.jobs_of_files {s t : State} (h : t.files = s.files) : t.jobs = s.jobs := congrArg Files.jobs h

theorem State.job_of_jobs {s t : State} (h : t.jobs = s.jobs) (job : Nat) : t.job job = s.job job := by rw [State.job, h, State.job]

/-! ### Registration, saving and arming -/

section
variable {job : Nat}

theorem exec_jobRegister {tenant ctx : Nat} {packages : List Nat} (h1 : 1 ≤ job) (hj : job < 1024) (ht : tenant < 1024) (hc : ctx < 4096) :
    exec (.jobRegister job tenant ctx packages) s = .next (
      if !s.jobKnown job && s.jobs.all fun x => x.2.ctx != ctx then s.onJob job fun j =>
        { j with tenant := tenant, ctx := ctx, packages := packages, committed := some (s.ctxEpoch 0 ctx) }
      else s) :=
  event_true "JOB_REGISTER" _ (by simp [h1, hj, ht, hc])

theorem State.armPlace_files (job p : Nat) : (s.armPlace job p).files = s.files := by
  unfold State.armPlace
  dsimp only
  split
  · exact State.performBytes_files s none (placed (s.ctxAt p (s.job job).ctx + 8) (leBytes 8 (s.job job).epoch))
  · rfl

theorem State.sendOrHold_files (s : State) (p : Packet) (may : Bool) : (s.sendOrHold p may).files = s.files := by
  unfold State.sendOrHold
  split
  next t ht =>
    unfold State.dispatch at ht
    obtain ⟨r, hr, hout⟩ := Option.bind_eq_some_iff.mp ht
    split at hout
    · cases hout
      rfl
    · cases hout
  next =>
    dsimp only
    split <;> rfl

theorem State.sendMarkers_jobs (job : Nat) : (s.sendMarkers job).jobs = s.jobs := by
  unfold State.sendMarkers
  exact State.jobs_of_files (foldl_files (fun t q => t.sendOrHold_files _ false) _ s)

theorem snapshotSaved_results {d : Nat} (hd : d < 21) (hp : (s.job job).phase = .saving) (ha : (s.job job).asked.contains d = true)
    (hn : (s.job job).armed.contains d = false) (hs : (s.jobSeats job).all (fun x => dieOf x.1 != d) = true) (hi : s.jobInject job = false)
    (hdone : s.deliveriesDone d job = true) :
    ∃ t, exec (.snapshotSaved d job) s = .next t ∧ (t.job job).saved = (s.job job).saved ++ [s.savedOf job d] ∧
      (t.job job).armed = (s.job job).armed ++ [d] ∧
      (t.job job).phase = if snapPlaces.all (fun p => ((s.job job).armed ++ [d]).contains p) then .arming else .saving := by
  have harm : (s.armPlace job d).job job = s.job job := State.job_of_jobs (State.jobs_of_files (State.armPlace_files job d)) job
  have hjob : (((s.armPlace job d).onJob job fun j => { j with saved := j.saved ++ [s.savedOf job d], armed := j.armed ++ [d] }).job job) =
      { s.job job with saved := (s.job job).saved ++ [s.savedOf job d], armed := (s.job job).armed ++ [d] } := by
    rw [State.onJob_self, harm]
  have hrun : exec (.snapshotSaved d job) s = .next (
      let s' := (s.armPlace job d).onJob job fun j => { j with saved := j.saved ++ [s.savedOf job d], armed := j.armed ++ [d] }
      if snapPlaces.all (s'.job job).armed.contains then (s'.sendMarkers job).onJob job fun j => { j with phase := .arming } else s') := by
    have hok : (decide (d < 21) && (s.job job).phase == .saving && (s.job job).asked.contains d && !(s.job job).armed.contains d &&
        ((s.jobSeats job).all (fun x => dieOf x.1 != d) && !s.jobInject job && s.deliveriesDone d job)) = true := by
      rw [hp, ha, hn, hs, hi, hdone, decide_eq_true hd]
      rfl
    show execSnapshotSaved d job s = _
    simp only [execSnapshotSaved, hok, Bool.not_true, Bool.false_eq_true, if_false]
  refine ⟨_, hrun, ?_⟩
  dsimp only
  rw [hjob]
  split
  · rw [State.onJob_self, State.job_of_jobs (State.sendMarkers_jobs job), hjob]
    exact ⟨rfl, rfl, rfl⟩
  · rw [hjob]
    exact ⟨rfl, rfl, hp⟩

theorem snapshotResume_results (hp : (s.job job).phase = .arming) (hm : ∀ p ∈ s.canal.waiting, p.1.type ≠ 7 ∨ p.1.job.toNat ≠ job) :
    ∃ t, exec (.snapshotResume job) s = .next t ∧ t.mem = s.mem ∧ (t.job job).phase = .running := by
  have hmarked : (s.canal.waiting.all fun p => p.1.type != 7 || p.1.job.toNat != job) = true :=
    List.all_eq_true.mpr fun p h => by simpa using hm p h
  refine ⟨_, event_true "SNAPSHOT_RESUME" _ (by rw [hp, hmarked]; rfl), ?_, ?_⟩
  · rw [foldl_keeps (g := State.mem) (f := fun (s : State) (t : SavedTask) => s.queueTask t.die t.record false) fun _ _ => rfl]
    rfl
  · rw [State.job_of_jobs (s := s.onJob job fun j => { j with phase := .running }) 
      (foldl_keeps (g := State.jobs) (f := fun (s : State) (t : SavedTask) => s.queueTask t.die t.record false) (fun _ _ => rfl) _ _),
      State.onJob_self]

theorem snapshotSweepComplete_results (hp : (s.job job).phase = .running) (ha : (s.job job).abandoned = false) (hl : s.logsComplete job = true) :
    ∃ t, exec (.snapshotSweepComplete job) s = .next t ∧ (t.job job).phase = .committing :=
  ⟨_, event_true "SNAPSHOT_SWEEP_COMPLETE" _ (by rw [hp, ha, hl]; rfl), by rw [State.onJob_self]⟩

theorem State.releaseAt_files (s : State) (a : Nat) (flip : Option Nat) : (s.releaseAt a flip).files = s.files := by
  unfold State.releaseAt
  exact State.writeBytes_files s none _

theorem manifestCommit_results (sig : List Byte) (hp : (s.job job).phase = .committing) :
    ∃ t, exec (.manifestCommit job sig) s = .next t ∧ (t.job job).phase = .idle ∧ (t.job job).committed = some (s.job job).epoch ∧
      (t.job job).manifest = (s.job job).manifestBytes sig := by
  refine ⟨_, event_true "MANIFEST_COMMIT" _ (by rw [hp]; rfl), ?_⟩
  rw [State.job_of_jobs (State.jobs_of_files (State.releaseAt_files ..))]
  have hjob (f : Job → Job) : ((s.onJob job f).dropMarkers job).job job = f (s.job job) := State.onJob_self s job f
  rw [hjob]
  exact ⟨rfl, rfl, rfl⟩

/-! ### Rollback -/

theorem State.stopJob_jobs (job : Nat) : (s.stopJob job).jobs = s.jobs := by
  unfold State.stopJob
  exact foldl_keeps (g := State.jobs) (f := fun (t : State) (x : Nat × Nat) => t.discardSeat x.1 x.2) (fun t x => State.jobs_of_files ((State.freeSeat_files _ x.1 x.2).trans (State.onCore_files t x.1 _))) _ _

theorem State.remapPage_files (s : State) (ctx : Nat) (xs : List Copied) (old f : Nat × Nat) : (s.remapPage ctx xs old f).files = s.files := by
  unfold State.remapPage
  dsimp only
  rw [foldl_files (f := fun (s : State) (x : Leaf × Copied) => s.dropTlb fun t => t.covers ctx x.2.va) fun _ _ => rfl]
  refine Eq.trans (foldl_files (fun t x => ?_) _ _) (foldl_files (fun t h => t.onEntry_files h _) _ _)
  split
  · exact t.performBytes_files _ _
  · rfl

theorem State.remapPages_files {ctx : Nat} {xs : List Copied} (ps : List (Nat × Nat)) {fs : List (Nat × Nat)} {u : State}
    (h : s.remapPages ctx xs ps fs = some u) : u.files = s.files := by
  induction ps generalizing s fs with
  | nil =>
    simp only [State.remapPages, Option.some.injEq] at h
    rw [h]
  | cons p ps ih =>
    cases fs with
    | nil => cases h
    | cons f fs =>
      simp only [State.remapPages] at h
      split at h
      · exact (ih h).trans (s.remapPage_files ctx xs p f)
      · cases h

theorem State.remapped_jobs {e : Nat} {frames : List (Nat × Nat)} {u : State} (h : s.remapped job e frames = some u) : u.jobs = s.jobs := by
  unfold State.remapped at h
  exact (State.jobs_of_files (State.remapPages_files _ h)).trans (State.stopJob_jobs job)

/-- Rollback leaves the job as it was when the epoch committed. -/
theorem State.rolledBack_job (e : Nat) (dies : List Nat) : (s.rolledBack job e dies).job job = (s.job job).upTo e := by
  unfold State.rolledBack
  dsimp only
  rw [State.job_of_jobs (State.jobs_of_files (foldl_files (fun t d => t.logAt_files d _ _ _ _ _ _) _ _))]
  exact State.onJob_self _ job fun _ => (s.job job).upTo e

theorem rollback_results {e : Nat} {frames : List (Nat × Nat)} (he : (s.job job).committed = some e) (hj : job ≠ 0)
    (hm : (s.job job).manifest ≠ []) (hs : s.jobSettled job = true) :
    exec (.rollback job false frames) s = .next (s.endJob job) ∧
      ∀ u, s.remapped job e frames = some u →
        (s.lostSound ((s.job job).upTo e) = false → exec (.rollback job true frames) s = .next (u.endJob job)) ∧
        (s.lostSound ((s.job job).upTo e) = true → ∃ t, exec (.rollback job true frames) s = .next t ∧
          (t.job job).phase = .idle ∧ (t.job job).epoch = e ∧ (t.job job).manifest = (s.job job).manifest ∧
          (t.job job).copies = (s.job job).copies.filter fun c => c.epoch ≤ e) := by
  have hok : (decide (job = 0) || (s.job job).manifest.isEmpty || !s.jobSettled job) = false := by simp [hj, hm, hs]
  have hrun (verified : Bool) : exec (.rollback job verified frames) s =
      if !verified then .next (s.endJob job)
      else match s.remapped job e frames with
        | none => event "ROLLBACK" false s
        | some u => if s.lostSound ((s.job job).upTo e) then .next (u.rolledBack job e (sortAddrs ((s.jobSlots job).flatMap s.slotDies)))
          else .next (u.endJob job) := by
    show execRollback job verified frames s = _
    simp only [execRollback, he, hok, Bool.false_eq_true, if_false] <;> rfl
  refine ⟨hrun false, fun u hu => ⟨fun h => ?_, fun h => ?_⟩⟩
  · rw [hrun, hu]
    simp only [h, Bool.not_true, Bool.false_eq_true, if_false]
  · refine ⟨u.rolledBack job e (sortAddrs ((s.jobSlots job).flatMap s.slotDies)), ?_, ?_⟩
    · rw [hrun, hu]
      simp only [h, Bool.not_true, Bool.false_eq_true, if_false, if_true]
    · rw [State.rolledBack_job, State.job_of_jobs (State.remapped_jobs hu)]
      exact ⟨rfl, rfl, rfl, rfl⟩

theorem State.remapPage_retired {ctx b : Nat} {xs : List Copied} {old f : Nat × Nat} (h : pageHas old b = true) :
    (s.remapPage ctx xs old f).retired.contains b = true := by
  unfold State.remapPage
  dsimp only
  rw [foldl_keeps (g := State.retired) (f := fun (s : State) (x : Leaf × Copied) => s.dropTlb fun t => t.covers ctx x.2.va) fun _ _ => rfl]
  obtain ⟨hlo, hhi⟩ := Bool.and_eq_true_iff.mp h
  have hlo := of_decide_eq_true hlo
  have hhi := of_decide_eq_true hhi
  have hmem : b ∈ (List.range old.2).map (old.1 / 65536 + ·) := List.mem_map.mpr ⟨b - old.1 / 65536, List.mem_range.mpr (by omega), by omega⟩
  exact List.contains_iff_mem.mpr (List.mem_append_right _ hmem)

end

/-! ### Uncorrectable reads -/

section
variable {addr : Nat}

/-- What `s` keeps as its memory logs an event. -/
theorem State.logMemory_keeps {β : Type} {g : State → β} (hpost : ∀ t n, g ({ t with nextPost := n } : State) = g t)
    (hat : ∀ t d cls unit info loc tenant coord, g (State.logAt t d cls unit info loc tenant coord) = g t)
    (hmgmt : ∀ t cls unit info loc tenant, g (State.logMgmt t cls unit info loc tenant) = g t) (cls : Nat) : g (s.logMemory cls addr) = g s := by
  unfold State.logMemory
  dsimp only
  split
  case h_8 => exact (hmgmt ..).trans (hpost ..)
  all_goals exact (hat ..).trans (hpost ..)

/-- The poison of a lasting fault. -/
def State.poisonFor (s : State) (addr : Nat) : State :=
  if encrypted addr && !s.poisoned [addr] then { s with poison := s.poison ++ [addr / 64] } else s

/-- The retirement of a lasting fault. -/
def State.retireFor (s : State) (addr : Nat) : State :=
  match homeOf addr with
  | .cist _ => s.retireBlock (addr / 65536)
  | .ioc => s.retireBlock (addr / 65536)
  | _ => s

theorem State.poisonFor_mem : (s.poisonFor addr).mem = s.mem := by
  unfold State.poisonFor
  split <;> rfl

theorem State.poisonFor_poisoned (h : encrypted addr = true) : (s.poisonFor addr).poisoned [addr] = true := by
  unfold State.poisonFor
  split
  · simp [State.poisoned]
  next hno => simpa [h] using hno

theorem State.retireFor_keeps {β : Type} {g : State → β} (h : ∀ t l, g ({ t with retired := l } : State) = g t) : g (s.retireFor addr) = g s := by
  have hblock (b : Nat) : g (s.retireBlock b) = g s := by
    unfold State.retireBlock
    split
    · rfl
    · exact h s _
  unfold State.retireFor
  split
  · exact hblock _
  · exact hblock _
  · rfl

/-- The core whose SRAM a lasting fault is in is mapped out. -/
def State.mapOutFor (s : State) (addr : Nat) : State :=
  match sramCore addr with
  | some c => s.onCore c fun k => { k with mapOut := true }
  | none => s

theorem State.mapOutFor_keeps {β : Type} {g : State → β} (h : ∀ t c f, g (State.onCore t c f) = g t) : g (s.mapOutFor addr) = g s := by
  unfold State.mapOutFor
  split
  · exact h ..
  · rfl

theorem State.mapOutFor_core {c : Nat} (h : sramCore addr = some c) : ((s.mapOutFor addr).core c).mapOut = true := by
  unfold State.mapOutFor
  rw [h]
  exact congrArg Core.mapOut (State.onCore_self s c _)

theorem exec_uncorrectableRead_again (hs : offsetOf addr < (homeOf addr).size) (hp : s.poisoned [addr] = false) :
    exec (.uncorrectableRead addr true none) s = .next (s.logMemory 2 addr) := by
  have hin : (decide (offsetOf addr ≥ (homeOf addr).size) || !true) = false := by
    rw [decide_eq_false (Nat.not_le.mpr hs)]
    rfl
  show execUncorrectableRead addr true none s = _
  simp only [execUncorrectableRead, hin, Bool.false_eq_true, if_false, if_true]
  exact event_true _ _ (by rw [hp]; rfl)

theorem exec_uncorrectableRead_lasting (hs : offsetOf addr < (homeOf addr).size) : exec (.uncorrectableRead addr false none) s =
    .next ((((s.logMemory 3 addr).poisonFor addr).retireFor addr).mapOutFor addr) := by
  have hin : (decide (offsetOf addr ≥ (homeOf addr).size) || !true) = false := by
    rw [decide_eq_false (Nat.not_le.mpr hs)]
    rfl
  show execUncorrectableRead addr false none s = _
  simp only [execUncorrectableRead, hin, Bool.false_eq_true, if_false, State.readerJob, if_true]
  rfl

theorem uncorrectableRead_lasting_results (hs : offsetOf addr < (homeOf addr).size) :
    ∃ t, exec (.uncorrectableRead addr false none) s = .next t ∧ t.mem = s.mem ∧ (encrypted addr = true → t.poisoned [addr] = true) ∧
      ∀ c, sramCore addr = some c → (t.core c).mapOut = true := by
  refine ⟨_, exec_uncorrectableRead_lasting hs, ?_, fun he => ?_, fun c hc => State.mapOutFor_core hc⟩
  · rw [State.mapOutFor_keeps (g := State.mem) fun _ _ _ => rfl, State.retireFor_keeps (g := State.mem) fun _ _ => rfl, State.poisonFor_mem,
      State.logMemory_keeps (g := State.mem) (fun _ _ => rfl) (fun _ _ _ _ _ _ _ _ => rfl) fun _ _ _ _ _ _ => rfl]
  · rw [State.mapOutFor_keeps (g := (State.poisoned · [addr])) fun _ _ _ => rfl, State.retireFor_keeps (g := (State.poisoned · [addr])) fun _ _ => rfl]
    exact State.poisonFor_poisoned he

end

/-- Settles O59. -/
theorem packageAndSnapshotEvents : Obligations.PackageAndSnapshotEvents := by
  unfold Obligations.PackageAndSnapshotEvents
  refine ⟨fun s c tenant hc ht => ?_, fun s d hd => ?_, fun s => ?_, fun s job => ?_, fun s addr ha =>
    ⟨exec_uncorrectableRead_again ha, uncorrectableRead_lasting_results ha⟩⟩
  · obtain ⟨htransit, howned⟩ := coreOwnerChange_results hc ht (s := s)
    exact ⟨htransit, howned, scrubComplete_results⟩
  · refine ⟨dieReset_results hd, resetTick_results, fun hb hk => ?_, dieReadmit_results hd, fun on => event_true _ _ (decide_eq_true hd),
      fun h => ?_, fun h => ?_, fun h hb => ?_, fun h hb => ?_, fun h => ?_, ?_⟩
    · simp only [State.resetTick, hb, hk, Bool.and_false, Bool.false_eq_true, if_false]
    · exact (exec_tdispMessage (m := .lockInterface) hd nofun).trans (congrArg Host.Outcome.next (if_pos h))
    · exact (exec_tdispMessage (m := .startInterface) hd nofun).trans (congrArg Host.Outcome.next (if_pos h))
    · exact (exec_tdispMessage hd fun _ => hb).trans (congrArg Host.Outcome.next (if_pos h))
    · exact (exec_tdispMessage hd fun _ => hb).trans (congrArg Host.Outcome.next (if_neg h))
    · exact (exec_tdispMessage (m := .lockInterface) hd nofun).trans (congrArg Host.Outcome.next (if_neg h))
    · exact exec_tdispMessage hd nofun
  · exact ⟨fun fn index hf h1 h6 => exec_spdmRequest hf h1 h6, fun port hp => portReset_results hp, fun stages fuses h5 hoff => boot_results h5 hoff,
      thermalShutdown_results⟩
  · intro j
    refine ⟨fun tenant ctx packages h1 hj ht hc hk hfree => ?_, fun tenant ctx packages h1 hj ht hc hused => ?_, fun hk hslots => ?_,
      fun d hd hp ha => ?_, fun d hd hp ha hn hs hi hdone => snapshotSaved_results hd hp ha hn hs hi hdone, snapshotResume_results,
      snapshotSweepComplete_results, manifestCommit_results, fun e frames he hj hm hs => rollback_results he hj hm hs,
      fun ctx xs old f _ b hb => State.remapPage_retired hb⟩
    · rw [exec_jobRegister h1 hj ht hc, hk, hfree]
      rfl
    · rw [exec_jobRegister h1 hj ht hc]
      have hno : (!s.jobKnown job && s.jobs.all fun x => x.2.ctx != ctx) = false := by
        rcases hused with h | h
        · rw [h]; rfl
        · rw [Bool.and_eq_false_iff]
          obtain ⟨x, hx, he⟩ := List.any_eq_true.mp h
          exact .inr (List.all_eq_false.mpr ⟨x, hx, by simpa using he⟩)
      rw [hno]
      rfl
    · exact event_true _ _ (by rw [hk, hslots]; rfl)
    · exact event_true _ _ (by rw [show (s.job job).phase = .saving from hp, show (s.job job).asked.contains d = false from ha, decide_eq_true hd]; rfl)

end Sys2Proof.Machine

/-! ### The canonical form of memory through every step (02 R39; 06 R152)

Memory is written by `State.store` and `State.wipe` alone. Each lemma here says of one operation that it keeps the canonical form; its
proof is the operation's own shape: what it is built of, with the lemmas about that. -/

namespace Sys2Proof.Machine

/-- A step that answers a next state answers one whose memory is in its canonical form. -/
def NextOk (r : Res) : Prop := ∀ t, r = .next t → t.MemOk

/-- What a bundle's run has come to: the state it goes on from, and where a slot stopped the machine, what it answered. -/
def RunOk : Run ⊕ Res → Prop
  | .inl r => r.s.MemOk
  | .inr stop => NextOk stop

theorem ok_of_run {x : Run ⊕ Res} {r : Run} (e : x = .inl r) (h : RunOk x) : r.s.MemOk := by
  rw [e] at h
  exact h

theorem nextOk_of_stop {x : Run ⊕ Res} {stop : Res} (e : x = .inr stop) (h : RunOk x) : NextOk stop := by
  rw [e] at h
  exact h

variable {s t : State}

theorem State.ite_memOk {p : Prop} [Decidable p] (hs : s.MemOk) (ht : t.MemOk) : (if p then s else t).MemOk := by
  split
  · exact hs
  · exact ht

theorem nextOk_next : NextOk (.next s) ↔ s.MemOk := ⟨fun h => h s rfl, fun h _ ht => Host.Outcome.next.inj ht ▸ h⟩
theorem nextOk_fault {f : Fault} : NextOk (.fault f) := fun _ h => by cases h
theorem nextOk_refused {r : Refusal} : NextOk (.refused r) := fun _ h => by cases h

theorem nextOk_ite {p : Prop} [Decidable p] {r r' : Res} (hr : NextOk r) (hr' : NextOk r') : NextOk (if p then r else r') := by
  split
  · exact hr
  · exact hr'

/-- What keeps the canonical form step by step keeps it over a list. -/
theorem foldl_memOk {α : Type} {f : State → α → State} {l : List α} (hf : ∀ s a, s.MemOk → (f s a).MemOk) (h : s.MemOk) : (l.foldl f s).MemOk := by
  induction l generalizing s with
  | nil => exact h
  | cons a l ih => exact ih (hf s a h)

theorem foldl_fst_memOk {α β : Type} {f : State × β → α → State × β} {l : List α} {p : State × β} (hf : ∀ p a, p.1.MemOk → (f p a).1.MemOk)
    (h : p.1.MemOk) : (l.foldl f p).1.MemOk := by
  induction l generalizing p with
  | nil => exact h
  | cons a l ih => exact ih (hf p a h)

theorem event_memOk {name : String} {ok : Bool} (h : s.MemOk) : NextOk (event name ok s) := by
  unfold event
  exact nextOk_ite (nextOk_next.2 h) nextOk_refused

/-- The canonical form speaks of the bytes alone. -/
theorem State.memOk_mk {cores dies mem sealed poison retired posted nextPost agenda cx mesh flume canal wallow launches awake lastQueue polled
    taskKeys inserting hitting jobs savedTasks spawned keys hostSide mgmtLog iocTags dom prow pcol} (h : Memory.wf mem = true) :
    (State.mk cores dies mem sealed poison retired posted nextPost agenda cx mesh flume canal wallow launches awake lastQueue polled taskKeys inserting
      hitting jobs savedTasks spawned keys hostSide mgmtLog iocTags dom prow pcol).MemOk := h

/-! What may answer no state answers only states of which a property holds. -/

section
variable {ε α β : Type} {P : α → Prop}

theorem none_ok : ∀ u ∈ (none : Option α), P u := fun _ hu => absurd hu (Option.not_mem_none _)
theorem some_ok {a : α} (h : P a) : ∀ u ∈ some a, P u := fun _ hu => Option.some.inj hu ▸ h
theorem error_ok {e : ε} : ∀ u : α, Except.error e = .ok u → P u := fun _ hu => by cases hu
theorem okay_ok {a : α} (h : P a) : ∀ u : α, (Except.ok a : Except ε α) = .ok u → P u := fun _ hu => Except.ok.inj hu ▸ h

theorem ite_some_ok {p : Prop} [Decidable p] {o o' : Option α} (h : ∀ u ∈ o, P u) (h' : ∀ u ∈ o', P u) : ∀ u ∈ if p then o else o', P u := by
  split
  · exact h
  · exact h'

theorem ite_okay_ok {p : Prop} [Decidable p] {x y : Except ε α} (h : ∀ u, x = .ok u → P u) (h' : ∀ u, y = .ok u → P u) :
    ∀ u, (if p then x else y) = .ok u → P u := by
  split
  · exact h
  · exact h'

theorem bind_ok {o : Option β} {f : β → Option α} (h : ∀ b ∈ o, ∀ u ∈ f b, P u) : ∀ u ∈ o.bind f, P u := fun _ hu =>
  let ⟨b, hb, hu⟩ := Option.bind_eq_some_iff.1 hu
  h b hb _ hu

theorem map_ok {o : Option β} {f : β → α} (h : ∀ b ∈ o, P (f b)) : ∀ u ∈ o.map f, P u := fun _ hu =>
  let ⟨b, hb, hu⟩ := Option.map_eq_some_iff.1 hu
  hu ▸ h b hb

theorem foldl_some_ok {f : Option α → β → Option α} {l : List β} {o : Option α} (hf : ∀ o b, (∀ u ∈ o, P u) → ∀ u ∈ f o b, P u)
    (h : ∀ u ∈ o, P u) : ∀ u ∈ l.foldl f o, P u := by
  induction l generalizing o with
  | nil => exact h
  | cons b l ih => exact ih (hf o b h)

theorem foldl_okay_ok {f : Except ε α → β → Except ε α} {l : List β} {x : Except ε α}
    (hf : ∀ x b, (∀ u, x = .ok u → P u) → ∀ u, f x b = .ok u → P u) (h : ∀ u, x = .ok u → P u) : ∀ u, l.foldl f x = .ok u → P u := by
  induction l generalizing x with
  | nil => exact h
  | cons b l ih => exact ih (hf x b h)

end

section
variable {α ε : Type} {a : α}

theorem ite_fst_memOk {p : Prop} [Decidable p] {x y : State × α} (h : x.1.MemOk) (h' : y.1.MemOk) : (if p then x else y).1.MemOk := by
  split
  · exact h
  · exact h'

theorem ite_snd_memOk {p : Prop} [Decidable p] {x y : α × State} (h : x.2.MemOk) (h' : y.2.MemOk) : (if p then x else y).2.MemOk := by
  split
  · exact h
  · exact h'

theorem ok_of_fst {p : State × α} (e : p = (t, a)) (h : p.1.MemOk) : t.MemOk := by
  rw [e] at h
  exact h

theorem ok_of_snd {p : α × State} (e : p = (a, t)) (h : p.2.MemOk) : t.MemOk := by
  rw [e] at h
  exact h

theorem okay_snd_memOk (h : t.MemOk) : ∀ u, (Except.ok (a, t) : Except ε (α × State)) = .ok u → u.2.MemOk := fun _ hu => Except.ok.inj hu ▸ h

theorem ok_of_some {o : Option State} (e : o = some t) (h : ∀ u ∈ o, u.MemOk) : t.MemOk := h t e
theorem ok_of_some_fst {o : Option (State × α)} (e : o = some (t, a)) (h : ∀ u ∈ o, u.1.MemOk) : t.MemOk := h (t, a) e
theorem ok_of_some_snd {o : Option (α × State)} (e : o = some (a, t)) (h : ∀ u ∈ o, u.2.MemOk) : t.MemOk := h (a, t) e
theorem ok_of_okay {x : Except ε State} (e : x = .ok t) (h : ∀ u, x = .ok u → u.MemOk) : t.MemOk := h t e
theorem ok_of_okay_fst {x : Except ε (State × α)} (e : x = .ok (t, a)) (h : ∀ u, x = .ok u → u.1.MemOk) : t.MemOk := h (t, a) e
theorem ok_of_okay_snd {x : Except ε (α × State)} (e : x = .ok (a, t)) (h : ∀ u, x = .ok u → u.2.MemOk) : t.MemOk := h (a, t) e

end

/-! `Sys2Proof/Machine/Ops.lean`. -/

theorem State.setCore_memOk {c : Nat} {k : Core} (hs : s.MemOk) : (s.setCore c k).MemOk := State.memOk_mk hs

theorem State.onCore_memOk {c : Nat} {f : Core → Core} (hs : s.MemOk) : (s.onCore c f).MemOk := State.setCore_memOk hs

theorem State.onSeat_memOk {c n : Nat} {f : Seat → Seat} (hs : s.MemOk) : (s.onSeat c n f).MemOk := State.onCore_memOk hs

theorem State.onDie_memOk {d : Nat} {f : Die → Die} (hs : s.MemOk) : (s.onDie d f).MemOk := State.memOk_mk hs

theorem State.onMe_memOk {f : Seat → Seat} (hs : s.MemOk) : (s.onMe f).MemOk := State.onSeat_memOk hs

theorem State.logAt_memOk {d cls unit info loc tenant coord : Nat} (hs : s.MemOk) : (s.logAt d cls unit info loc tenant coord).MemOk :=
  State.onDie_memOk hs

theorem State.logMgmt_memOk {cls unit info loc tenant : Nat} (hs : s.MemOk) : (s.logMgmt cls unit info loc tenant).MemOk := State.memOk_mk hs

theorem State.logRefusalAt_memOk {a who tenant : Nat} (hs : s.MemOk) : (s.logRefusalAt a who tenant).MemOk := by
  unfold State.logRefusalAt
  split
  · exact State.logAt_memOk hs
  · exact State.logMgmt_memOk hs

theorem State.csrWrite_memOk {c n i : Nat} {v : Word} (hs : s.MemOk) : (s.csrWrite c n i v).MemOk := by
  unfold State.csrWrite
  split
  · exact State.onSeat_memOk hs
  · exact State.onSeat_memOk hs
  · exact State.onSeat_memOk hs
  · exact State.onSeat_memOk hs
  · exact State.onSeat_memOk hs
  · exact State.onSeat_memOk hs
  · exact State.onDie_memOk hs
  · exact State.onDie_memOk hs
  · exact State.onSeat_memOk hs
  · exact State.onDie_memOk hs
  · exact State.onSeat_memOk hs
  · exact State.onSeat_memOk hs
  · exact State.onDie_memOk hs
  · exact State.onSeat_memOk hs
  · exact State.ite_memOk (State.memOk_mk hs) hs

theorem State.setBasinRow_memOk {c r : Nat} {v : Row} (hs : s.MemOk) : (s.setBasinRow c r v).MemOk := State.store_ok _ _ hs

theorem State.notify_memOk {gs : List Nat} (hs : s.MemOk) : (s.notify gs).MemOk := State.memOk_mk hs

theorem State.performRow_memOk {c row : Nat} {v : Row} (hs : s.MemOk) : (s.performRow c row v).MemOk :=
  State.notify_memOk (State.setBasinRow_memOk hs)

theorem Effect.onState_memOk {e : Effect} {c n : Nat} (hs : s.MemOk) : (Effect.onState e s c n).MemOk := by
  unfold Effect.onState
  split
  · exact State.performRow_memOk hs
  · exact State.performRow_memOk hs
  · exact State.performRow_memOk hs
  · exact State.onCore_memOk (State.store_ok _ _ hs)
  · exact State.csrWrite_memOk hs
  · exact hs

theorem State.landOne_memOk {c : Nat} {l : Landing} (hs : s.MemOk) : (s.landOne c l).MemOk :=
  State.ite_memOk (Effect.onState_memOk hs) (State.onCore_memOk (Effect.onState_memOk hs))

theorem State.landLte_memOk {c : Nat} {all : Bool} (hs : s.MemOk) : (s.landLte c all).MemOk :=
  State.ite_memOk hs (State.onCore_memOk (foldl_memOk (fun _ _ h => State.onSeat_memOk h) hs))

theorem State.landDue_memOk {c i : Nat} (hs : s.MemOk) : (s.landDue c i).MemOk :=
  foldl_memOk (fun _ _ h => State.landOne_memOk h) (State.onCore_memOk hs)

theorem State.fly_memOk {u : UnitId} {lat : Nat} {e : Effect} {latch : Option Vec} (hs : s.MemOk) : (s.fly u lat e latch).MemOk :=
  State.onCore_memOk hs

theorem State.result_memOk {u : UnitId} {d : Dst} {lat : Nat} {v : Word} (hs : s.MemOk) : (s.result u d lat v).MemOk := State.fly_memOk hs

theorem State.vresult_memOk {d : Dst} {lat : Nat} {v : Vec} (hs : s.MemOk) : (s.vresult d lat v).MemOk := State.fly_memOk hs

theorem State.setRecDw_memOk {d rec i : Nat} {v : Word} (hs : s.MemOk) : (s.setRecDw d rec i v).MemOk :=
  State.notify_memOk (State.storeNat_ok _ _ _ _ hs)

theorem State.setRecState_memOk {d rec v : Nat} (hs : s.MemOk) : (s.setRecState d rec v).MemOk := State.setRecDw_memOk hs

theorem State.onLaunch_memOk {k : Nat} {f : Launch → Launch} (hs : s.MemOk) : (s.onLaunch k f).MemOk := State.memOk_mk hs

theorem State.settle_memOk {d rec : Nat} {failed hit : Bool} (hs : s.MemOk) : (s.settle d rec failed hit).MemOk :=
  State.onLaunch_memOk (State.setRecState_memOk hs)

theorem State.post_memOk {p : Posted} (hs : s.MemOk) : (s.post p).MemOk := State.memOk_mk hs

theorem State.onPosted_memOk {id : Nat} {k : PostKind} (hs : s.MemOk) : (s.onPosted id k).MemOk := State.memOk_mk hs

theorem State.unpost_memOk {id : Nat} (hs : s.MemOk) : (s.unpost id).MemOk := State.memOk_mk hs

theorem State.dropWaits_memOk {c n : Nat} (hs : s.MemOk) : (s.dropWaits c n).MemOk := State.onSeat_memOk (State.memOk_mk (State.onDie_memOk hs))

theorem State.freeSeat_memOk {c n : Nat} (hs : s.MemOk) : (s.freeSeat c n).MemOk :=
  State.onCore_memOk (State.onDie_memOk (State.dropWaits_memOk hs))

theorem State.failTask_memOk {c n : Nat} {tcause tval : Word} (hs : s.MemOk) : (s.failTask c n tcause tval).MemOk :=
  State.freeSeat_memOk (State.settle_memOk (State.logAt_memOk hs))

theorem State.takeTrap_memOk {c n cause : Nat} {tval : Word} {slot : Nat} {tpc : VA} (hs : s.MemOk) :
    (s.takeTrap c n cause tval slot tpc).MemOk :=
  State.ite_memOk (State.onSeat_memOk (State.landDue_memOk hs))
    (State.ite_memOk (State.failTask_memOk (State.landDue_memOk hs)) (State.onCore_memOk (State.dropWaits_memOk (State.landDue_memOk hs))))

theorem State.countTrap_memOk {c n : Nat} (hs : s.MemOk) : (s.countTrap c n).MemOk := State.ite_memOk hs (State.onCore_memOk hs)

theorem State.trapAt_memOk {c n pos cause : Nat} {tval : Word} {len : Nat} (hs : s.MemOk) : (s.trapAt c n pos cause tval len).MemOk :=
  State.takeTrap_memOk (State.ite_memOk (State.onSeat_memOk hs) hs)

theorem State.raise_memOk {cause : Nat} {tval : Word} (hs : s.MemOk) : (s.raise cause tval).MemOk := State.memOk_mk (State.trapAt_memOk hs)

theorem State.impure_memOk (hs : s.MemOk) : (s.impure).MemOk := State.raise_memOk hs

theorem State.stall_memOk {w : Wait} (hs : s.MemOk) : (s.stall w).MemOk := State.memOk_mk (State.onMe_memOk hs)

theorem State.guarded_memOk {g : Guard} {act : State → State} (hs : s.MemOk) (hact : ∀ t, t.MemOk → (act t).MemOk) : NextOk (s.guarded g act) :=
  nextOk_next.2 (State.ite_memOk (hact _ hs) hs)

theorem State.privileged_memOk {g : Guard} {act : State → State} (hs : s.MemOk) (hact : ∀ t, t.MemOk → (act t).MemOk) :
    NextOk (s.privileged g act) :=
  State.guarded_memOk hs (fun _ h => State.ite_memOk (hact _ h) (State.raise_memOk h))

theorem State.effectful_memOk {g : Guard} {act : State → State} (hs : s.MemOk) (hact : ∀ t, t.MemOk → (act t).MemOk) :
    NextOk (s.effectful g act) :=
  State.guarded_memOk hs (fun _ h => State.ite_memOk (State.impure_memOk h) (hact _ h))

theorem State.busy_memOk (hs : s.MemOk) : (s.busy).MemOk := State.onMe_memOk hs

/-! `Sys2Proof/Machine/Translate.lean`. -/

theorem State.touchTlb_memOk {c ctx va : Nat} (hs : s.MemOk) : (s.touchTlb c ctx va).MemOk := by
  unfold State.touchTlb
  dsimp only
  split
  · exact State.onCore_memOk hs
  · split
    · exact State.onDie_memOk (State.onCore_memOk hs)
    · exact hs

theorem State.noteMiss_memOk {c ctx va rank : Nat} (hs : s.MemOk) : (s.noteMiss c ctx va rank).MemOk :=
  State.ite_memOk (State.touchTlb_memOk hs) (State.ite_memOk (State.onDie_memOk hs)
    (State.ite_memOk (State.onDie_memOk hs) (State.onDie_memOk hs)))

theorem State.admitMisses_memOk {d : Nat} (hs : s.MemOk) : (s.admitMisses d).MemOk :=
  foldl_memOk (fun _ _ h => State.noteMiss_memOk h) (State.onDie_memOk hs)

theorem State.onEntry_memOk {at_ : Nat} {f : Word → Word} (hs : s.MemOk) : (s.onEntry at_ f).MemOk :=
  State.notify_memOk (State.storeKeyed_ok _ _ _ hs)

theorem State.onLeaf_memOk {l : Leaf} {f : Word → Word} (hs : s.MemOk) : (s.onLeaf l f).MemOk :=
  State.memOk_mk (State.ite_memOk (State.onEntry_memOk hs) hs)

theorem State.markSaved_memOk {d ctx va : Nat} {l : Leaf} {dirty : Bool} (hs : s.MemOk) : (s.markSaved d ctx va l dirty).MemOk := by
  unfold State.markSaved
  refine State.ite_memOk ?_ (State.onLeaf_memOk hs)
  split
  · exact hs
  · exact State.notify_memOk (State.storeKeyed_ok _ _ _ hs)

theorem State.setDirty_memOk {d ctx va : Nat} {l : Leaf} (hs : s.MemOk) : (s.setDirty d ctx va l).MemOk := by
  unfold State.setDirty
  refine State.ite_memOk ?_ (State.onLeaf_memOk hs)
  split
  · exact State.onLeaf_memOk hs
  · exact State.notify_memOk (State.storeKeyed_ok _ _ _ (State.onLeaf_memOk hs))

/-! `Sys2Proof/Machine/Issue.lean`. -/

theorem State.giveUp_memOk {c n : Nat} {st' : SeatState} (hs : s.MemOk) : (s.giveUp c n st').MemOk := State.onCore_memOk hs

theorem State.yield_memOk {withhold : Bool} (hs : s.MemOk) : (s.yield withhold).MemOk := State.onCore_memOk (State.giveUp_memOk hs)

theorem State.park_memOk {sp : Spin} (hs : s.MemOk) : (s.park sp).MemOk := State.onMe_memOk (State.giveUp_memOk hs)

theorem State.endIteration_memOk {sp : Spin} (hs : s.MemOk) : (s.endIteration sp).MemOk := State.onCore_memOk hs

theorem State.passControl_memOk {t : VA} (hs : s.MemOk) : (s.passControl t).MemOk := by
  unfold State.passControl
  refine State.ite_memOk (State.onCore_memOk (State.fly_memOk hs)) ?_
  split
  · exact State.onMe_memOk (State.fly_memOk hs)
  · exact State.ite_memOk (State.park_memOk (State.onMe_memOk (State.fly_memOk hs)))
      (State.endIteration_memOk (State.onMe_memOk (State.fly_memOk hs)))

theorem State.missedBtr_memOk (hs : s.MemOk) : (s.missedBtr).MemOk := State.ite_memOk (State.onMe_memOk hs) hs

theorem State.commit_memOk (hs : s.MemOk) : (s.commit).MemOk := by
  unfold State.commit
  extract_lets st after pending s1 s2 target s3
  have hclose : s1.MemOk := State.ite_memOk hs (State.ite_memOk (State.fly_memOk hs) (State.fly_memOk hs))
  have hmissed : s2.MemOk := State.onMe_memOk (State.missedBtr_memOk hclose)
  have hpc : s3.MemOk := by
    unfold s3
    split
    · exact State.onMe_memOk hmissed
    · exact State.ite_memOk (State.onMe_memOk hmissed) (State.ite_memOk (State.passControl_memOk hmissed) (State.onMe_memOk hmissed))
  exact State.onCore_memOk hpc

theorem State.trapAfter_memOk {cause : Nat} {tval : Word} (hs : s.MemOk) : (s.trapAfter cause tval).MemOk :=
  State.memOk_mk (State.takeTrap_memOk (State.landDue_memOk (State.commit_memOk hs)))

theorem State.transfer_memOk {t : VA} {btr rtt : Bool} (hs : s.MemOk) : (s.transfer t btr rtt).MemOk := State.memOk_mk (State.onMe_memOk hs)

theorem State.noDelay_memOk {act : State → State} (hs : s.MemOk) (hact : ∀ t, t.MemOk → (act t).MemOk) : (s.noDelay act).MemOk :=
  State.ite_memOk (State.raise_memOk hs) (hact _ hs)

theorem State.awaitLine_memOk {c ctx va : Nat} (hs : s.MemOk) : (s.awaitLine c ctx va).MemOk := State.onCore_memOk hs

theorem State.missLine_memOk {va : Nat} (hs : s.MemOk) : (s.missLine va).MemOk := State.memOk_mk (State.awaitLine_memOk hs)

/-! `Sys2Proof/Machine/Access.lean`. -/

theorem State.noteMisses_memOk {w : Issuing} {rank : Nat} {spots : List Spot} (hs : s.MemOk) : (s.noteMisses w rank spots).MemOk :=
  foldl_memOk (fun _ _ h => State.noteMiss_memOk h) hs

theorem State.dropDigests_memOk {pages : List Nat} (hs : s.MemOk) : (s.dropDigests pages).MemOk := State.memOk_mk hs

theorem State.announce_memOk {d ctx va : Nat} {l : Leaf} {bs : List (Nat × Byte)} (hs : s.MemOk) : (s.announce d ctx va l bs).MemOk :=
  State.ite_memOk (State.ite_memOk (State.dropDigests_memOk hs) hs) (State.setDirty_memOk (State.ite_memOk (State.dropDigests_memOk hs) hs))

theorem State.performThrough_memOk {d ctx va : Nat} {l : Leaf} {m : Option (BitVec 512)} {bs : List (Nat × Byte)} (hs : s.MemOk) :
    (s.performThrough d ctx va l m bs).MemOk :=
  State.writeBytes_ok _ _ _ (State.announce_memOk hs)

/-! `Sys2Proof/Machine/Send.lean`. -/

theorem State.enqueue_memOk {src : Nat} {m : BeMsg} (hs : s.MemOk) : (s.enqueue src m).MemOk := State.memOk_mk hs

theorem State.postMine_memOk {kind : PostKind} {reach : Nat} {bound : Option Nat} {after : List Nat} (hs : s.MemOk) :
    (s.postMine kind reach bound after).MemOk :=
  State.post_memOk hs

theorem State.countWrite_memOk (hs : s.MemOk) : (s.countWrite).MemOk := State.onMe_memOk hs

theorem State.injectPacket_memOk {peer : Nat} {p : Packet} {win : Option Nat} {id : Nat} {after : List Nat} (hs : s.MemOk) :
    (s.injectPacket peer p win id after).MemOk :=
  State.memOk_mk hs

theorem State.postPacket_memOk {item : Posted} {peer : Nat} {p : Packet} {win : Option Nat} {after : List Nat} (hs : s.MemOk) :
    (s.postPacket item peer p win after).MemOk := by
  unfold State.postPacket
  refine State.injectPacket_memOk ?_
  split
  · exact State.memOk_mk (State.post_memOk hs)
  · exact State.post_memOk hs

theorem State.flyLoad_memOk {u : UnitId} {lat : Nat} {e : Effect} {latch : Bool} {load : Option Nat} {v : Trip ⊕ Vec} (hs : s.MemOk) :
    (s.flyLoad u lat e latch load v).MemOk :=
  State.onCore_memOk hs

theorem State.armSpin_memOk {c n ord : Nat} {g : Option Nat} (hs : s.MemOk) : (s.armSpin c n ord g).MemOk := by
  unfold State.armSpin
  split
  · exact State.onSeat_memOk hs
  · exact hs

theorem State.newTrip_memOk (hs : s.MemOk) : (s.newTrip).2.MemOk := State.memOk_mk hs

theorem State.askPeer_memOk {c peer : Nat} {p : Packet} {asker : Asker} {addr len : Nat} (hs : s.MemOk) :
    (s.askPeer c peer p asker addr len).2.MemOk := by
  unfold State.askPeer
  split
  next hcall =>
    exact State.injectPacket_memOk (State.memOk_mk (ok_of_snd hcall (State.newTrip_memOk hs)))

theorem State.askSelector_memOk {item : Posted} {c : Nat} {b : LteBits} {stamp : Nat} (hs : s.MemOk) : (s.askSelector item c b stamp).2.MemOk := by
  unfold State.askSelector
  refine ite_snd_memOk hs ?_
  split
  · exact State.post_memOk hs
  · exact State.askPeer_memOk (State.post_memOk hs)

/-! `Sys2Proof/Machine/Vector.lean`. -/

theorem State.vtypeFault_memOk (hs : s.MemOk) : (s.vtypeFault).MemOk := State.raise_memOk hs

theorem State.typed_memOk {g : Guard} {ok : ElemTy → Bool} {vals : List Src} {act : ElemTy → State → State} (hs : s.MemOk) (hact : ∀ a t, t.MemOk → (act a t).MemOk) :
    NextOk (s.typed g ok vals act) := by
  unfold State.typed
  refine State.guarded_memOk hs (fun _ h => ?_)
  split
  · exact State.vtypeFault_memOk h
  · exact State.ite_memOk (hact _ _ h) (State.vtypeFault_memOk h)

theorem State.velementwise_memOk {t : ElemTy} {d : Dst} {lat : Nat} {r : List Nat} (hs : s.MemOk) : (s.velementwise t d lat r).MemOk :=
  State.vresult_memOk hs

theorem State.vwhole_memOk {t : ElemTy} {d : Dst} {lat : Nat} {r : List Nat} (hs : s.MemOk) : (s.vwhole t d lat r).MemOk :=
  State.vresult_memOk hs

theorem vbin_memOk {lat : Nat} {ok : ElemTy → Bool} {op : ElemTy → Nat → Nat → Nat} {f : V3} (hs : s.MemOk) : NextOk (vbin lat ok op f s) :=
  State.typed_memOk hs (fun _ _ h => State.velementwise_memOk h)

theorem vbinx_memOk {lat : Nat} {ok : ElemTy → Bool} {op : ElemTy → Nat → Nat → Nat} {f : V3x} (hs : s.MemOk) : NextOk (vbinx lat ok op f s) :=
  State.typed_memOk hs (fun _ _ h => State.velementwise_memOk h)

theorem vun_memOk {lat : Nat} {ok : ElemTy → Bool} {op : ElemTy → Nat → Nat} {f : V2} (hs : s.MemOk) : NextOk (vun lat ok op f s) :=
  State.typed_memOk hs (fun _ _ h => State.velementwise_memOk h)

theorem vbits_memOk {ok : ElemTy → Bool} {op : Nat → Nat → Nat → Nat} {f : V3} (hs : s.MemOk) : NextOk (vbits ok op f s) :=
  State.typed_memOk hs (fun _ _ h => State.velementwise_memOk h)

theorem vfused_memOk {op : ElemTy → Nat → Nat → Nat → Nat} {f : V3} (hs : s.MemOk) : NextOk (vfused op f s) :=
  State.typed_memOk hs (fun _ _ h => State.velementwise_memOk h)

theorem vote_memOk {all : Bool} {f : Vcmp} (hs : s.MemOk) : NextOk (vote all f s) := State.typed_memOk hs (fun _ _ h => State.fly_memOk h)

theorem vmove_memOk {src : ElemTy → List Nat → Nat → Nat} {f : V3} (hs : s.MemOk) : NextOk (vmove src f s) :=
  State.typed_memOk hs (fun _ _ h => State.velementwise_memOk h)

theorem State.vreduce_memOk {t : ElemTy} {d : Dst} {lat ident : Nat} {op : Nat → Nat → Nat} {a : Src} (hs : s.MemOk) :
    (s.vreduce t d lat ident op a).MemOk :=
  State.vresult_memOk hs

theorem execVreda_memOk {f : V2} (hs : s.MemOk) : NextOk (execVreda f s) := by
  unfold execVreda
  refine State.typed_memOk hs (fun _ _ h => ?_)
  split <;> exact State.vreduce_memOk h

theorem execVredm_memOk {f : Vredm} (hs : s.MemOk) : NextOk (execVredm f s) := by
  unfold execVredm
  refine State.typed_memOk hs (fun _ _ h => ?_)
  split <;> exact State.vreduce_memOk h

theorem execVcvt_memOk {f : Vcvt} (hs : s.MemOk) : NextOk (execVcvt f s) := by
  unfold execVcvt
  refine State.typed_memOk hs (fun _ _ h => ?_)
  split
  · exact h
  · exact State.ite_memOk (State.vwhole_memOk h) (State.ite_memOk (State.vwhole_memOk h) (State.vresult_memOk h))

theorem execVsatn_memOk {f : Vpart} (hs : s.MemOk) : NextOk (execVsatn f s) := by
  unfold execVsatn
  refine State.typed_memOk hs (fun _ _ h => ?_)
  split
  exact State.velementwise_memOk h

theorem vcomplex_memOk {acc : Bool} {f : V3} (hs : s.MemOk) : NextOk (vcomplex acc f s) :=
  State.typed_memOk hs (fun _ _ h => State.vresult_memOk h)

/-! `Sys2Proof/Machine/Memory.lean`. -/

theorem State.protect_memOk {e : Nat} (hs : s.MemOk) : (s.protect e).MemOk := State.raise_memOk hs

theorem State.badFormat_memOk {e : Nat} (hs : s.MemOk) : (s.badFormat e).MemOk := State.raise_memOk hs

theorem execBind_memOk {f : Lea} (hs : s.MemOk) : NextOk (execBind f s) :=
  State.effectful_memOk hs (fun _ h => State.ite_memOk (State.badFormat_memOk h) (State.ite_memOk (State.protect_memOk h) (State.fly_memOk h)))

theorem State.touch_memOk {b : LteBits} {xs : List Spot} (hs : s.MemOk) : (s.touch b xs).MemOk :=
  State.ite_memOk (State.memOk_mk hs) (State.ite_memOk (State.memOk_mk hs) hs)

theorem State.askFlume_memOk {c id job : Nat} {b : LteBits} {addrs : List Nat} (hs : s.MemOk) : (s.askFlume c id job b addrs).1.MemOk :=
  foldl_fst_memOk (fun _ _ h => State.enqueue_memOk h) hs

theorem State.askCanal_memOk {c tenant job : Nat} {b : LteBits} {addrs : List Nat} (hs : s.MemOk) : (s.askCanal c tenant job b addrs).1.MemOk := by
  unfold State.askCanal
  refine foldl_fst_memOk (fun _ _ h => ?_) hs
  split
  next hcall =>
    exact ok_of_snd hcall (State.askPeer_memOk h)

theorem State.ask_memOk {u : UnitId} {e : Effect} {q : Query} (hs : s.MemOk) : (s.ask u e q).MemOk := by
  unfold State.ask
  split
  next hcall =>
    exact State.flyLoad_memOk (ok_of_snd hcall (State.newTrip_memOk hs))

theorem State.depart_memOk {c job : Nat} {b : LteBits} {t : Trip} (hs : s.MemOk) : (s.depart c job b t).2.MemOk := by
  unfold State.depart
  dsimp only
  refine ite_snd_memOk ?_ (ite_snd_memOk ?_ hs)
  · split
    · exact State.askCanal_memOk hs
    · exact State.askPeer_memOk hs
  · split
    · exact State.askFlume_memOk hs
    · exact State.enqueue_memOk hs

theorem State.onStream_memOk {c n : Nat} {p : StreamRead → Bool} {f : StreamRead → StreamRead} (hs : s.MemOk) : (s.onStream c n p f).MemOk :=
  State.onSeat_memOk hs

theorem State.setOut_memOk {u : UnitId} {lat : Nat} {e : Effect} {latch : Bool} {gran : Option Nat} {b : LteBits} {t : Nat → Trip}
  (hs : s.MemOk) :
    (s.setOut u lat e latch gran b t).MemOk := by
  unfold State.setOut
  split
  next htrip =>
  have htrip := ok_of_snd htrip (State.newTrip_memOk hs)
  split
  next hsel =>
  have hsel := ok_of_snd hsel (State.askSelector_memOk htrip)
  refine State.ite_memOk ?_ (State.flyLoad_memOk hsel)
  split
  next hroute => exact State.flyLoad_memOk (ok_of_snd hroute (State.depart_memOk hsel))

theorem State.fetch_memOk {u : UnitId} {f : Formed} {xs : List Spot} {form : LoadForm} {spad basin : Nat} {e : Effect} {latch : Bool} (hs : s.MemOk) :
    (s.fetch u f xs form spad basin e latch).MemOk :=
  State.ite_memOk (State.armSpin_memOk (State.flyLoad_memOk (State.touch_memOk hs)))
    (State.setOut_memOk (State.noteMisses_memOk (State.touch_memOk hs)))

theorem State.accessing_memOk {w : Issuing} {u : Use} {e : Nat} {cs : List Nat} {n : Nat} {lanes : List Nat} {act : Formed → List Spot → State → State} (hs : s.MemOk) (hact : ∀ a b t, t.MemOk → (act a b t).MemOk) :
    (s.accessing w u e cs n lanes act).MemOk := by
  unfold State.accessing
  split
  · exact State.raise_memOk hs
  · split
    · exact State.raise_memOk hs
    · exact hact _ _ _ hs

theorem execVgth_memOk {f : Ldae} (hs : s.MemOk) : NextOk (execVgth f s) := by
  unfold execVgth
  dsimp only
  refine State.guarded_memOk hs (fun _ h => ?_)
  split
  · exact State.raise_memOk h
  · exact State.fly_memOk h
  · exact State.fetch_memOk h

theorem State.postGranules_memOk {b : LteBits} {xs : List Spot} {after : List Nat} {bytes : Nat → List Byte} (hs : s.MemOk) :
    (s.postGranules b xs after bytes).MemOk :=
  foldl_memOk (fun _ _ h => State.post_memOk h) hs

theorem State.sendMine_memOk {b : LteBits} {m : BeMsg} {after : List Nat} (hs : s.MemOk) : (s.sendMine b m after).MemOk :=
  State.ite_memOk (State.enqueue_memOk (State.post_memOk hs)) (State.post_memOk hs)

theorem State.postMessages_memOk {b : LteBits} {bs : List (Nat × Byte)} {after : List Nat} (hs : s.MemOk) : (s.postMessages b bs after).MemOk :=
  foldl_memOk (fun _ _ h => State.sendMine_memOk h) hs

theorem State.postCanal_memOk {b : LteBits} {bs : List (Nat × Byte)} {after : List Nat} (hs : s.MemOk) : (s.postCanal b bs after).MemOk :=
  foldl_memOk (fun _ _ h => State.postPacket_memOk h) hs

theorem State.postStore_memOk {f : Formed} {xs : List Spot} {bytes : Nat → List Byte} {after : List Nat} (hs : s.MemOk) :
    (s.postStore f xs bytes after).MemOk :=
  State.ite_memOk (State.postCanal_memOk hs) (State.ite_memOk (State.postMessages_memOk hs) (State.postGranules_memOk hs))

theorem State.put_memOk {f : Formed} {xs : List Spot} {bytes : Nat → List Byte} (hs : s.MemOk) : (s.put f xs bytes).MemOk := by
  unfold State.put
  dsimp only
  refine State.ite_memOk (State.countWrite_memOk (State.writeBytes_ok _ _ _ (State.touch_memOk hs))) ?_
  split
  · exact State.raise_memOk hs
  · split
    · exact State.stall_memOk (State.noteMisses_memOk (State.touch_memOk hs))
    · exact State.ite_memOk (State.stall_memOk (State.noteMisses_memOk (State.touch_memOk hs)))
        (State.countWrite_memOk (State.postStore_memOk (State.askSelector_memOk (State.noteMisses_memOk (State.touch_memOk hs)))))

theorem execVsct_memOk {f : Leab} (hs : s.MemOk) : NextOk (execVsct f s) := by
  unfold execVsct
  dsimp only
  refine State.guarded_memOk hs (fun _ h => ?_)
  split
  · exact State.raise_memOk h
  · exact State.ite_memOk (State.raise_memOk h) (State.put_memOk h)

theorem State.touchRows_memOk {r : Nat} (hs : s.MemOk) : (s.touchRows r).MemOk := State.memOk_mk hs

theorem execBld_memOk {f : Lda} (hs : s.MemOk) : NextOk (execBld f s) :=
  State.effectful_memOk hs (fun _ h => State.ite_memOk (State.vresult_memOk (State.touchRows_memOk h))
    (State.setOut_memOk (State.touchRows_memOk h)))

theorem State.putPair_memOk {r : Nat} {v : Vec} (hs : s.MemOk) : (s.putPair r v).MemOk :=
  State.ite_memOk (State.countWrite_memOk (State.writeBytes_ok _ _ _ (State.touchRows_memOk hs)))
    (State.countWrite_memOk (State.postGranules_memOk (State.touchRows_memOk hs)))

theorem State.atomicAt_memOk {a : Atomic} {flat : Nat} (hs : s.MemOk) : (s.atomicAt a flat).2.MemOk := State.writeBytes_ok _ _ _ hs

theorem State.atomicTrip_memOk {u : UnitId} {f : Formed} {xs : List Spot} {a : Atomic} (hs : s.MemOk) : (s.atomicTrip u f xs a).MemOk := by
  unfold State.atomicTrip
  refine State.ite_memOk ?_ (State.countWrite_memOk (State.setOut_memOk (State.touch_memOk hs)))
  split
  next hcall =>
    exact State.flyLoad_memOk (State.countWrite_memOk (State.touch_memOk (ok_of_snd hcall (State.atomicAt_memOk hs))))

theorem State.atomic_memOk {x : Bool} {op : AtomicOp} {e : Nat} {a : Src} {operand compare : Word} {bad : Bool} (hs : s.MemOk) :
    (s.atomic x op e a operand compare bad).MemOk :=
  State.accessing_memOk hs (fun _ _ _ h => State.atomicTrip_memOk h)

theorem atomicOp_memOk {op : AtomicOp} {f : Leab} (hs : s.MemOk) : NextOk (atomicOp op f s) :=
  State.effectful_memOk hs (fun _ h => State.atomic_memOk h)

/-! `Sys2Proof/Machine/Sync.lean`. -/

theorem State.release_memOk {item : Posted} {c : Nat} {b : LteBits} {flip : Option Nat} {cover : List Nat} (hs : s.MemOk) :
    (s.release item c b flip cover).MemOk := by
  unfold State.release
  split
  · exact State.post_memOk hs
  · exact State.postPacket_memOk hs

theorem State.releaseSlot_memOk {e : Nat} {pair : Bool} (hs : s.MemOk) : (s.releaseSlot e pair).MemOk := by
  unfold State.releaseSlot
  dsimp only
  split
  · exact State.raise_memOk hs
  · exact State.busy_memOk (State.release_memOk hs)

theorem execAcq_memOk {f : Le} (hs : s.MemOk) : NextOk (execAcq f s) := by
  unfold execAcq
  dsimp only
  refine State.effectful_memOk hs (fun _ h => ?_)
  split
  · exact State.raise_memOk h
  · split
    · exact State.ite_memOk h (State.stall_memOk h)
    · exact State.stall_memOk h

theorem execAcqt_memOk {f : Lea} (hs : s.MemOk) : NextOk (execAcqt f s) := by
  unfold execAcqt
  dsimp only
  refine State.effectful_memOk hs (fun _ h => ?_)
  split
  · exact State.raise_memOk h
  · split
    · split
      · exact State.ite_memOk h (State.stall_memOk h)
      · exact State.stall_memOk h
    · exact State.stall_memOk h

theorem State.decrementBy_memOk {item : Posted} {c : Nat} {handle : Word} {amount : Nat} {after : List Nat} (hs : s.MemOk) :
    (s.decrementBy item c handle amount after).MemOk := by
  unfold State.decrementBy
  refine State.ite_memOk (State.postPacket_memOk ?_) (State.post_memOk hs)
  split
  · exact State.memOk_mk hs
  · exact hs

theorem State.postBytes_memOk {b : LteBits} {bs : List (Nat × Byte)} {reach : Nat} {after : List Nat} (hs : s.MemOk) :
    (s.postBytes b bs reach after).MemOk :=
  foldl_memOk (fun _ _ h => State.post_memOk h) hs

theorem State.postFlagged_memOk {b : LteBits} {bs : List (Nat × Byte)} {tag : Nat} {after : List Nat} (hs : s.MemOk) :
    (s.postFlagged b bs tag after).MemOk :=
  foldl_memOk (fun _ _ h => State.sendMine_memOk h) hs

theorem execSbeq_memOk {f : Leab} (hs : s.MemOk) : NextOk (execSbeq f s) := by
  unfold execSbeq
  refine State.effectful_memOk hs (fun _ h => State.accessing_memOk h (fun _ _ _ h1 => ?_))
  split
  next hcall =>
    exact State.ite_memOk (State.countWrite_memOk (State.postFlagged_memOk (ok_of_snd hcall (State.askSelector_memOk h1))))
      (State.countWrite_memOk (State.post_memOk (State.postBytes_memOk (ok_of_snd hcall (State.askSelector_memOk h1)))))

theorem execRedw_memOk {f : Ldae} (hs : s.MemOk) : NextOk (execRedw f s) := by
  unfold execRedw
  dsimp only
  refine State.effectful_memOk hs (fun _ h => ?_)
  split
  · exact State.ite_memOk (State.busy_memOk (State.vresult_memOk (State.onCore_memOk h))) (State.raise_memOk h)
  · exact State.ite_memOk (State.raise_memOk h) (State.stall_memOk h)

theorem execQpop_memOk {f : Ld} (hs : s.MemOk) : NextOk (execQpop f s) := by
  unfold execQpop
  refine State.effectful_memOk hs (fun _ h => ?_)
  split
  · exact State.stall_memOk h
  · exact State.busy_memOk (State.result_memOk (State.onMe_memOk h))

theorem State.enterPushes_memOk {c n : Nat} (hs : s.MemOk) : (s.enterPushes c n).MemOk := State.ite_memOk hs (State.onSeat_memOk hs)

theorem State.settlePushes_memOk {c : Nat} (hs : s.MemOk) : (s.settlePushes c).MemOk :=
  foldl_memOk (fun _ _ h => State.ite_memOk h (State.enterPushes_memOk h)) hs

theorem execQpsh_memOk {f : La} (hs : s.MemOk) : NextOk (execQpsh f s) :=
  State.effectful_memOk hs (fun _ h => State.ite_memOk (State.busy_memOk (State.enterPushes_memOk (State.onMe_memOk h))) (State.stall_memOk h))

theorem execPref_memOk {f : Lea} (hs : s.MemOk) : NextOk (execPref f s) := by
  unfold execPref
  dsimp only
  refine State.guarded_memOk hs (fun _ h => ?_)
  split
  · exact h
  · split
    · exact h
    · exact State.noteMisses_memOk h

/-! `Sys2Proof/Machine/Engine.lean`. -/

theorem State.addCmd_memOk {c : Nat} {k : Cmd} (hs : s.MemOk) : (s.addCmd c k).MemOk := State.onCore_memOk hs

theorem State.notePages_memOk {w : Issuing} {pages : List (Nat × Leaf)} (hs : s.MemOk) : (s.notePages w pages).MemOk :=
  foldl_memOk (fun _ _ h => State.noteMiss_memOk h) hs

theorem State.acceptCopy_memOk {w : Issuing} {n : Nat} {issuer : Issuer} {kind : CmdKind} {a b : Word} {job num : Nat} {task : Option (Nat × Nat)} {after ords : List Nat} (hs : s.MemOk) :
    ∀ u, s.acceptCopy w n issuer kind a b job num task after ords = .ok u → u.2.MemOk := by
  unfold State.acceptCopy
  dsimp only
  refine ite_okay_ok (okay_ok hs) ?_
  split
  · exact error_ok
  · exact okay_ok (State.addCmd_memOk (State.askSelector_memOk (State.askSelector_memOk (State.notePages_memOk (State.notePages_memOk hs)))))

theorem State.acceptClaim_memOk {w : Issuing} {n : Nat} {issuer : Issuer} {a b : Word} {job : Nat} {task : Option (Nat × Nat)} {after ords : List Nat} (hs : s.MemOk) :
    ∀ u, s.acceptClaim w n issuer a b job task after ords = .ok u → u.2.MemOk := by
  unfold State.acceptClaim
  dsimp only
  refine ite_okay_ok (okay_ok hs) ?_
  split
  · exact error_ok
  · exact okay_ok (State.onCore_memOk (State.addCmd_memOk (State.askSelector_memOk (State.notePages_memOk hs))))

theorem State.copySlot_memOk {f : Ldab} {kind : CmdKind} (hs : s.MemOk) : (s.copySlot f kind).MemOk := by
  unfold State.copySlot
  dsimp only
  split
  · exact State.raise_memOk hs
  next hcall =>
    exact State.result_memOk (State.ite_memOk (ok_of_okay_snd hcall (State.acceptCopy_memOk hs))
      (State.countWrite_memOk (ok_of_okay_snd hcall (State.acceptCopy_memOk hs))))

theorem execDclm_memOk {f : Ldab} (hs : s.MemOk) : NextOk (execDclm f s) := by
  unfold execDclm
  dsimp only
  refine State.guarded_memOk hs (fun _ h => ?_)
  split
  · exact State.raise_memOk h
  next hcall =>
    exact State.result_memOk (State.ite_memOk (ok_of_okay_snd hcall (State.acceptClaim_memOk h))
      (State.busy_memOk (ok_of_okay_snd hcall (State.acceptClaim_memOk h))))

theorem State.onCmd_memOk {c id : Nat} {f : Cmd → Cmd} (hs : s.MemOk) : (s.onCmd c id f).MemOk := State.onCore_memOk hs

theorem State.cmdRead_memOk {c : Nat} {k : Cmd} {xs : List Spot} (hs : s.MemOk) : (s.cmdRead c k xs).MemOk := State.onCmd_memOk hs

theorem State.cmdAsk_memOk {c : Nat} {k : Cmd} {xs : List Spot} (hs : s.MemOk) : (s.cmdAsk c k xs).MemOk := by
  unfold State.cmdAsk
  dsimp only
  exact State.ite_memOk (foldl_memOk (fun _ _ h => State.onCmd_memOk (State.askPeer_memOk h)) hs)
    (State.ite_memOk hs (foldl_memOk (fun _ _ h => State.onCmd_memOk (State.enqueue_memOk (State.memOk_mk h))) hs))

theorem State.cmdFetch_memOk {c : Nat} {k : Cmd} {xs : List Spot} (hs : s.MemOk) : (s.cmdFetch c k xs).MemOk :=
  State.ite_memOk (State.cmdAsk_memOk hs) (State.cmdRead_memOk hs)

theorem State.noteFresh_memOk {w : Issuing} {ahead : List (Nat × Leaf)} {xs : List Spot} (hs : s.MemOk) : (s.noteFresh w ahead xs).MemOk :=
  State.noteMisses_memOk hs

theorem State.cmdGo_memOk {c : Nat} {k : Cmd} (hs : s.MemOk) : (s.cmdGo c k).MemOk := by
  unfold State.cmdGo
  split
  · exact hs
  · exact State.ite_memOk hs (State.onCmd_memOk (State.postPacket_memOk hs))

theorem State.cmdWrite_memOk {c : Nat} {k : Cmd} {ys : List Spot} {bytes : Nat → List Byte} (hs : s.MemOk) : (s.cmdWrite c k ys bytes).MemOk :=
  State.ite_memOk (State.onCmd_memOk hs) (State.ite_memOk (foldl_memOk (fun _ _ h => State.enqueue_memOk (State.post_memOk h)) hs)
    (foldl_memOk (fun _ _ h => State.post_memOk h) hs))

theorem State.lookAhead_memOk {c : Nat} {k : Cmd} (hs : s.MemOk) : (s.lookAhead c k).MemOk :=
  State.ite_memOk hs (State.onCmd_memOk (State.notePages_memOk (State.notePages_memOk hs)))

theorem State.moveCmd_memOk {c id : Nat} (hs : s.MemOk) : (s.moveCmd c id).MemOk := by
  unfold State.moveCmd
  split
  · exact hs
  · split
    · exact hs
    · refine State.ite_memOk hs (State.ite_memOk (State.cmdGo_memOk hs) (State.ite_memOk hs ?_))
      split
      exact State.ite_memOk hs (State.ite_memOk (State.cmdFetch_memOk (State.ite_memOk (State.noteFresh_memOk hs) hs))
        (State.lookAhead_memOk (State.onCmd_memOk (State.cmdWrite_memOk (State.noteFresh_memOk hs)))))

theorem State.releaseRow_memOk {c key : Nat} (hs : s.MemOk) : (s.releaseRow c key).MemOk := by
  unfold State.releaseRow
  split
  · exact hs
  · split
    · exact State.ite_memOk (State.store_ok _ _ hs) hs
    · exact hs

theorem execDrel_memOk {f : La} (hs : s.MemOk) : NextOk (execDrel f s) := by
  unfold execDrel
  refine State.guarded_memOk hs (fun _ h => State.busy_memOk (State.onCore_memOk (foldl_memOk (fun _ _ h1 => ?_) h)))
  split
  · exact h1
  · exact State.releaseRow_memOk h1

theorem execDrawerRowFilled_memOk {c id : Nat} (hs : s.MemOk) : NextOk (execDrawerRowFilled c id s) := by
  unfold execDrawerRowFilled
  split
  · exact event_memOk hs
  · split
    · exact event_memOk hs
    · refine nextOk_ite (event_memOk hs) ?_
      split
      · exact event_memOk hs
      · exact nextOk_ite (nextOk_next.2 (State.cmdFetch_memOk (State.ite_memOk (State.noteFresh_memOk hs) hs)))
          (nextOk_next.2 (State.onCmd_memOk (State.ite_memOk (State.onCore_memOk (State.store_ok _ _ hs)) (State.store_ok _ _ hs))))

theorem execCopyComplete_memOk {c id : Nat} (hs : s.MemOk) : NextOk (execCopyComplete c id s) := by
  unfold execCopyComplete
  split
  · exact event_memOk hs
  · refine nextOk_ite (event_memOk hs) ?_
    split
    · exact nextOk_next.2 (State.release_memOk (State.onCmd_memOk hs))
    · exact nextOk_next.2 (State.onCmd_memOk hs)

theorem execCopyFault_memOk {c id : Nat} (hs : s.MemOk) : NextOk (execCopyFault c id s) := by
  unfold execCopyFault
  dsimp only
  split
  · exact event_memOk hs
  · refine nextOk_ite (event_memOk hs) ?_
    split
    · exact event_memOk hs
    · split
      · exact nextOk_next.2 (State.ite_memOk (State.onCore_memOk (State.onCmd_memOk hs)) (State.onCmd_memOk hs))
      · exact nextOk_next.2 (State.onCmd_memOk hs)

theorem State.resumeCmds_memOk {c : Nat} {mine : Cmd → Bool} (hs : s.MemOk) : (s.resumeCmds c mine).MemOk := State.onCore_memOk hs

/-! `Sys2Proof/Machine/Digest.lean`. -/

theorem State.keepDigests_memOk {d tenant most : Nat} (hs : s.MemOk) : (s.keepDigests d tenant most).MemOk :=
  State.ite_memOk hs (State.onDie_memOk hs)

theorem State.installDigest_memOk {d : Nat} {g : Digest} (hs : s.MemOk) : (s.installDigest d g).MemOk :=
  State.ite_memOk (State.ite_memOk (State.keepDigests_memOk hs) (State.keepDigests_memOk (State.keepDigests_memOk hs)))
    (State.onDie_memOk (State.ite_memOk (State.keepDigests_memOk hs) (State.keepDigests_memOk (State.keepDigests_memOk hs))))

theorem State.digestIn_memOk {w : Issuing} {e : Nat} {b : LteBits} {half : Bool} (hs : s.MemOk) :
    ∀ u, s.digestIn w e b half = .ok u → u.2.MemOk := by
  unfold State.digestIn
  dsimp only
  split
  · exact error_ok
  · refine ite_okay_ok (okay_ok hs) ?_
    split
    · exact okay_ok (State.onDie_memOk (State.keepDigests_memOk hs))
    · exact okay_ok (State.ite_memOk (State.installDigest_memOk (State.noteMisses_memOk (State.keepDigests_memOk hs)))
        (State.noteMisses_memOk (State.keepDigests_memOk hs)))

theorem State.regionDigest_memOk {w : Issuing} {e : Nat} {b : LteBits} (hs : s.MemOk) : ∀ u, s.regionDigest w e b = .ok u → u.2.MemOk :=
  State.digestIn_memOk hs

theorem execDigq_memOk {f : Lde} (hs : s.MemOk) : NextOk (execDigq f s) := by
  unfold execDigq
  refine State.guarded_memOk hs (fun _ h => State.ite_memOk (State.impure_memOk h) ?_)
  split
  · exact State.raise_memOk h
  · refine State.ite_memOk (State.setOut_memOk h) ?_
    split
    next hcall =>
      split
      next hcall2 =>
        exact State.flyLoad_memOk (ok_of_snd hcall2 (State.askSelector_memOk (ok_of_snd hcall (State.newTrip_memOk h))))

/-! `Sys2Proof/Machine/Branch.lean`. -/

theorem State.setTarget_memOk {t : Nat} {v : Word} (hs : s.MemOk) : (s.setTarget t v).MemOk := State.fly_memOk hs

theorem State.aligned_memOk {v : Word} {act : State → State} (hs : s.MemOk) (hact : ∀ t, t.MemOk → (act t).MemOk) : (s.aligned v act).MemOk :=
  State.ite_memOk (State.raise_memOk hs) (hact _ hs)

theorem State.call_memOk {t : Word} (hs : s.MemOk) : (s.call t).MemOk := by
  unfold State.call
  dsimp only
  split
  · exact State.raise_memOk hs
  · exact State.missLine_memOk hs
  · exact hs
  · exact State.aligned_memOk hs (fun _ h => State.transfer_memOk (State.fly_memOk h))

theorem execBclA_memOk {f : Ba} (hs : s.MemOk) : NextOk (execBclA f s) :=
  State.guarded_memOk hs (fun _ h => State.noDelay_memOk h (fun _ h1 => State.aligned_memOk h1 (fun _ h2 => State.call_memOk h2)))

theorem execBrtnA_memOk {f : Ba} (hs : s.MemOk) : NextOk (execBrtnA f s) :=
  State.guarded_memOk hs (fun _ h => State.noDelay_memOk h (fun _ h1 => State.aligned_memOk h1 (fun _ h2 => State.transfer_memOk h2)))

theorem State.openLoop_memOk {count len : Nat} (hs : s.MemOk) : (s.openLoop count len).MemOk := by
  unfold State.openLoop
  dsimp only
  refine State.ite_memOk (State.raise_memOk hs) (State.ite_memOk (State.raise_memOk hs) (State.ite_memOk (State.raise_memOk hs) ?_))
  split
  · exact State.raise_memOk hs
  · exact State.onMe_memOk (State.missLine_memOk hs)
  · exact hs
  · exact State.ite_memOk (State.raise_memOk hs) (State.fly_memOk hs)

theorem execLstr_memOk {f : Blstr} (hs : s.MemOk) : NextOk (execLstr f s) := by
  unfold execLstr
  refine State.guarded_memOk hs (fun _ h => ?_)
  split
  · exact State.raise_memOk h
  · exact State.ite_memOk (State.raise_memOk h) (State.fly_memOk h)

theorem State.commitYield_memOk {withhold : Bool} (hs : s.MemOk) : (s.commitYield withhold).MemOk :=
  State.memOk_mk (State.yield_memOk (State.commit_memOk hs))

theorem execWtc_memOk {f : Ba} (hs : s.MemOk) : NextOk (execWtc f s) := by
  unfold execWtc
  dsimp only
  refine State.guarded_memOk hs (fun _ h => State.ite_memOk ?_ (State.stall_memOk h))
  split
  · exact State.raise_memOk h
  · exact State.ite_memOk h (State.raise_memOk h)

theorem execWfl_memOk {f : Bwfl} (hs : s.MemOk) : NextOk (execWfl f s) :=
  State.effectful_memOk hs (fun _ h => State.ite_memOk (State.ite_memOk (State.raise_memOk h) (State.onMe_memOk (State.busy_memOk h)))
    (State.ite_memOk (State.raise_memOk h) (State.stall_memOk h)))

theorem execWmon_memOk {f : Ba} (hs : s.MemOk) : NextOk (execWmon f s) := by
  unfold execWmon
  dsimp only
  refine State.guarded_memOk hs (fun _ h => ?_)
  split
  · exact h
  · exact State.ite_memOk (State.onMe_memOk h) (State.stall_memOk h)

theorem execAsk_memOk {f : Ba} (hs : s.MemOk) : NextOk (execAsk f s) := by
  unfold execAsk
  refine State.guarded_memOk hs (fun _ h => State.ite_memOk h (State.ite_memOk (State.raise_memOk h) ?_))
  split
  · exact State.ite_memOk (State.onMe_memOk h) (State.stall_memOk h)
  · exact State.stall_memOk (State.onDie_memOk h)

/-! `Sys2Proof/Machine/Tasks.lean`. -/

theorem State.queueTask_memOk {d rec : Nat} {front : Bool} (hs : s.MemOk) : (s.queueTask d rec front).MemOk := State.onCore_memOk hs

theorem State.makeReady_memOk {d rec : Nat} (hs : s.MemOk) : (s.makeReady d rec).MemOk :=
  State.ite_memOk (State.setRecState_memOk hs) (State.queueTask_memOk (State.setRecState_memOk hs))

theorem State.decrement_memOk {d rec amount tenant cls : Nat} (hs : s.MemOk) : (s.decrement d rec amount tenant cls).MemOk :=
  State.ite_memOk (State.logAt_memOk hs) (State.ite_memOk (State.logAt_memOk hs)
    (State.ite_memOk (State.logAt_memOk (State.setRecDw_memOk hs))
    (State.ite_memOk (State.makeReady_memOk (State.setRecDw_memOk hs)) (State.setRecDw_memOk hs))))

theorem State.releaseSuccessors_memOk {d rec : Nat} (hs : s.MemOk) : (s.releaseSuccessors d rec).MemOk :=
  foldl_memOk (fun _ _ h => State.ite_memOk (State.logRefusalAt_memOk h) (State.decrementBy_memOk h)) hs

theorem State.createRecord_memOk {d rec k coord dep saveSlot : Nat} {succ0 : Word} (hs : s.MemOk) :
    (s.createRecord d rec k coord dep saveSlot succ0).MemOk :=
  State.ite_memOk (State.makeReady_memOk (State.onLaunch_memOk (State.memOk_mk (foldl_memOk (fun _ _ h => State.setRecDw_memOk h) hs))))
    (State.onLaunch_memOk (State.memOk_mk (foldl_memOk (fun _ _ h => State.setRecDw_memOk h) hs)))

theorem execTspn_memOk {f : Bab} (hs : s.MemOk) : NextOk (execTspn f s) := by
  refine State.effectful_memOk hs fun t h => ?_
  dsimp only
  split
  next hmade =>
    refine State.fly_memOk (State.busy_memOk (ok_of_some_snd hmade ?_))
    split
    · exact none_ok
    · refine ite_some_ok none_ok ?_
      split
      · exact some_ok (State.memOk_mk (State.createRecord_memOk h))
      · exact none_ok
  · exact State.fly_memOk h

theorem execTend_memOk {f : Bn} (hs : s.MemOk) : NextOk (execTend f s) := by
  unfold execTend
  refine State.guarded_memOk hs (fun _ h => State.noDelay_memOk h (fun _ h1 => ?_))
  split
  · exact State.raise_memOk h1
  · exact State.memOk_mk (State.freeSeat_memOk (State.setRecState_memOk (State.commit_memOk h1)))

theorem execRtt_memOk {f : Bn} (hs : s.MemOk) : NextOk (execRtt f s) :=
  State.guarded_memOk hs (fun _ h => State.noDelay_memOk h (fun _ h1 => State.ite_memOk (State.raise_memOk h1) (State.transfer_memOk h1)))

theorem State.onJob_memOk {j : Nat} {f : Job → Job} (hs : s.MemOk) : (s.onJob j f).MemOk := State.memOk_mk hs

theorem State.snapFault_memOk {reason epoch : Nat} (hs : s.MemOk) : (s.snapFault reason epoch).MemOk := State.raise_memOk hs

theorem execSnap_memOk {f : Ba} (hs : s.MemOk) : NextOk (execSnap f s) :=
  State.effectful_memOk hs (fun _ h => State.ite_memOk (State.snapFault_memOk h)
    (State.ite_memOk (State.snapFault_memOk h) (State.ite_memOk (State.snapFault_memOk h) (State.ite_memOk h (State.onJob_memOk h)))))

theorem State.dropTlb_memOk {gone : TlbEntry → Bool} (hs : s.MemOk) : (s.dropTlb gone).MemOk := State.memOk_mk hs

theorem execTlbiComplete_memOk {id : Nat} (hs : s.MemOk) : NextOk (execTlbiComplete id s) := by
  unfold execTlbiComplete
  split
  · exact event_memOk hs
  · split
    · refine nextOk_ite (event_memOk hs) ?_
      split
      · exact nextOk_next.2 (State.onPosted_memOk (State.dropTlb_memOk hs))
      · exact event_memOk (State.unpost_memOk hs)
    · exact event_memOk hs

/-! `Sys2Proof/Machine/Gate.lean`. -/

theorem State.setGate_memOk {key : Nat} {b : GateBits} (hs : s.MemOk) : (s.setGate key b).MemOk := State.memOk_mk hs

theorem State.writeGate_memOk {key : Nat} {b : GateBits} (hs : s.MemOk) : (s.writeGate key b).MemOk := State.memOk_mk hs

theorem execHgset_memOk {f : Lab} (hs : s.MemOk) : NextOk (execHgset f s) := by
  unfold execHgset
  dsimp only
  refine State.privileged_memOk hs (fun _ h => ?_)
  split
  · exact State.busy_memOk (State.logMgmt_memOk h)
  · exact State.ite_memOk (State.memOk_mk (State.busy_memOk h))
      (State.ite_memOk (State.logMgmt_memOk (State.busy_memOk h)) (State.writeGate_memOk (State.busy_memOk h)))

/-! `Sys2Proof/Machine/Sched.lean`. -/

theorem State.installSide_memOk {c : Nat} {storer : Bool} {program : Nat} {bytes : List Byte} (hs : s.MemOk) :
    (s.installSide c storer program bytes).MemOk :=
  State.onCore_memOk (State.ite_memOk hs (State.store_ok _ _ (State.store_ok _ _ hs)))

theorem State.installSides_memOk {c l : Nat} (hs : s.MemOk) : ∀ u ∈ s.installSides c l, u.MemOk := by
  unfold State.installSides
  dsimp only
  refine ite_some_ok (some_ok hs) ?_
  split
  · exact some_ok (State.ite_memOk (State.ite_memOk hs (State.installSide_memOk hs))
      (State.installSide_memOk (State.ite_memOk hs (State.installSide_memOk hs))))
  · exact none_ok

theorem State.rename_memOk {c n : Nat} {task : Nat × Nat} (hs : s.MemOk) : (s.rename c n task).MemOk := State.onCore_memOk (State.memOk_mk hs)

theorem execSluiceBind_memOk {c : Nat} (hs : s.MemOk) : NextOk (execSluiceBind c s) := by
  unfold execSluiceBind
  extract_lets k d
  split
  · refine nextOk_ite (event_memOk hs) ?_
    split
    · exact event_memOk hs
    next hsides =>
      extract_lets saved s1 s2 s3
      have hbound : s2.MemOk := State.onCore_memOk (State.setRecState_memOk (State.memOk_mk (ok_of_some hsides (State.installSides_memOk hs))))
      clear_value saved
      split
      · exact nextOk_next.2 (State.onCore_memOk hbound)
      · extract_lets s4
        have hnamed : s4.MemOk := State.rename_memOk (State.onCore_memOk hbound)
        exact nextOk_next.2 (State.ite_memOk hnamed (State.onDie_memOk hnamed))
  · exact event_memOk hs

theorem execDispatchComplete_memOk {c n : Nat} (hs : s.MemOk) : NextOk (execDispatchComplete c n s) := by
  unfold execDispatchComplete
  refine nextOk_ite (event_memOk hs) ?_
  split
  · exact event_memOk hs
  · exact nextOk_next.2 (State.onCore_memOk hs)

theorem State.preempt_memOk {c n : Nat} {why : Preempt} {deadline : Nat} (hs : s.MemOk) : (s.preempt c n why deadline).MemOk :=
  State.onSeat_memOk hs

theorem execSeatSaveComplete_memOk {c n : Nat} (hs : s.MemOk) : NextOk (execSeatSaveComplete c n s) := by
  unfold execSeatSaveComplete
  dsimp only
  refine nextOk_ite (event_memOk hs) ?_
  split
  · exact nextOk_next.2 (State.failTask_memOk hs)
  · refine nextOk_ite (event_memOk hs) ?_
    split
    · exact nextOk_next.2 (State.queueTask_memOk (State.freeSeat_memOk
        (State.setRecState_memOk (State.memOk_mk (State.performThrough_memOk (State.memOk_mk hs))))))
    · exact nextOk_next.2 (State.freeSeat_memOk (State.setRecState_memOk (State.memOk_mk (State.performThrough_memOk (State.memOk_mk hs)))))
    · exact nextOk_next.2 (State.logAt_memOk (State.freeSeat_memOk
        (State.setRecState_memOk (State.memOk_mk (State.performThrough_memOk (State.memOk_mk hs))))))

theorem execSeatRestoreComplete_memOk {c n : Nat} (hs : s.MemOk) : NextOk (execSeatRestoreComplete c n s) := by
  unfold execSeatRestoreComplete
  refine nextOk_ite (event_memOk hs) (nextOk_ite (nextOk_next.2 (State.onCore_memOk hs)) ?_)
  split
  · exact event_memOk hs
  · exact nextOk_next.2 (State.onCore_memOk hs)

theorem execLeaveGrant_memOk {d : Nat} (hs : s.MemOk) : NextOk (execLeaveGrant d s) := by
  unfold execLeaveGrant
  split
  · exact event_memOk hs
  · exact nextOk_ite (event_memOk hs) (nextOk_next.2 (State.onSeat_memOk (State.onDie_memOk hs)))

theorem State.holdTask_memOk {c n : Nat} (hs : s.MemOk) : (s.holdTask c n).MemOk := State.onSeat_memOk (State.giveUp_memOk hs)

theorem State.firmwareReturns_memOk {c n : Nat} (hs : s.MemOk) : (s.firmwareReturns c n).MemOk := by
  unfold State.firmwareReturns
  dsimp only
  split
  · exact State.onSeat_memOk hs
  · exact State.ite_memOk (State.onCore_memOk hs) (State.onSeat_memOk hs)

theorem State.firmwareActs_memOk {c n : Nat} (hs : s.MemOk) : (s.firmwareActs c n).MemOk := by
  unfold State.firmwareActs
  dsimp only
  split
  · exact State.holdTask_memOk hs
  · exact State.holdTask_memOk hs
  · exact State.firmwareReturns_memOk hs
  · exact State.ite_memOk (State.holdTask_memOk hs) (State.failTask_memOk hs)
  · exact State.firmwareReturns_memOk hs
  · exact State.failTask_memOk hs

theorem execTaskRelease_memOk {d record : Nat} {fail : Bool} (hs : s.MemOk) : NextOk (execTaskRelease d record fail s) := by
  unfold execTaskRelease
  split
  · exact event_memOk hs
  · exact nextOk_ite (event_memOk hs) (nextOk_ite (nextOk_next.2 (State.memOk_mk (State.settle_memOk (State.logAt_memOk hs))))
      (nextOk_next.2 (State.queueTask_memOk (State.ite_memOk (State.resumeCmds_memOk (State.memOk_mk hs)) (State.memOk_mk hs)))))

theorem State.trapHere_memOk {c n cause : Nat} {tval : Word} {slot : Nat} (hs : s.MemOk) : (s.trapHere c n cause tval slot).MemOk :=
  State.countTrap_memOk (State.onCore_memOk (State.takeTrap_memOk hs))

theorem State.watchdog_memOk {c n : Nat} (hs : s.MemOk) : (s.watchdog c n).MemOk := State.onSeat_memOk (State.trapHere_memOk hs)

theorem execSpanWatchdog_memOk {c : Nat} (hs : s.MemOk) : NextOk (execSpanWatchdog c s) := by
  unfold execSpanWatchdog
  split
  · exact event_memOk hs
  · exact event_memOk (State.watchdog_memOk hs)

theorem execIllegalBundle_memOk {c : Nat} (hs : s.MemOk) : NextOk (execIllegalBundle c s) := by
  unfold execIllegalBundle
  split
  · exact event_memOk hs
  · split
    · exact event_memOk hs
    · exact nextOk_next.2 (State.trapHere_memOk hs)

/-! `Sys2Proof/Machine/Arrive.lean`. -/

theorem State.landFirst_memOk {c : Nat} {l : Landing} (hs : s.MemOk) : (s.landFirst c l).MemOk := State.landOne_memOk (State.onCore_memOk hs)

theorem execResultLand_memOk {c : Nat} (hs : s.MemOk) : NextOk (execResultLand c s) := by
  unfold execResultLand
  split
  · exact event_memOk hs
  · exact event_memOk (State.landFirst_memOk hs)

theorem execPushLand_memOk {c : Nat} (hs : s.MemOk) : NextOk (execPushLand c s) := by
  unfold execPushLand
  split
  · exact event_memOk hs
  · exact event_memOk (State.landFirst_memOk hs)

theorem execIcacheFill_memOk {c : Nat} (hs : s.MemOk) : NextOk (execIcacheFill c s) := by
  unfold execIcacheFill
  dsimp only
  split
  · exact event_memOk hs
  · split
    · exact event_memOk hs
    · exact nextOk_ite (event_memOk hs) (nextOk_next.2 (State.onCore_memOk (State.noteMiss_memOk hs)))

theorem State.onLandings_memOk {c : Nat} {f : Landing → Landing} (hs : s.MemOk) : (s.onLandings c f).MemOk := State.onCore_memOk hs

theorem State.giveTrip_memOk {c id : Nat} {bs : List (Nat × Byte)} {r : Route} (hs : s.MemOk) : (s.giveTrip c id bs r).MemOk :=
  State.onCore_memOk (State.onLandings_memOk hs)

theorem State.reroute_memOk {c id : Nat} {r : Route} (hs : s.MemOk) : (s.reroute c id r).MemOk := State.onLandings_memOk hs

theorem State.answerTo_memOk {c : Nat} {l : Landing} {t : Trip} {q : Query} (hs : s.MemOk) : ∀ u ∈ s.answerTo c l t q, u.2.MemOk := by
  unfold State.answerTo
  split
  · exact some_ok hs
  · exact some_ok hs
  · split
    · exact none_ok
    next hcall =>
      exact some_ok (ok_of_okay_snd hcall (State.digestIn_memOk hs))

theorem State.giveValue_memOk {c id : Nat} {v : Vec} (hs : s.MemOk) : (s.giveValue c id v).MemOk := State.onLandings_memOk hs

theorem execOuterLoadArrival_memOk {c k : Nat} (hs : s.MemOk) : NextOk (execOuterLoadArrival c k s) := by
  unfold execOuterLoadArrival
  split
  · exact event_memOk hs
  next l t _ =>
    cases ht : t.route with
    | waiting b => exact nextOk_ite (event_memOk hs) (nextOk_next.2 (State.reroute_memOk (State.depart_memOk hs)))
    | asking q =>
      dsimp only
      split
      · exact event_memOk hs
      next ht => exact nextOk_next.2 (State.giveValue_memOk (ok_of_some_snd ht (ite_some_ok (State.answerTo_memOk hs) none_ok)))
    | direct =>
      refine nextOk_ite (event_memOk hs) ?_
      cases t.atomic with
      | none => exact nextOk_next.2 (State.ite_memOk (State.armSpin_memOk (State.giveTrip_memOk hs)) (State.giveTrip_memOk hs))
      | some a => exact nextOk_next.2 (State.giveTrip_memOk (State.atomicAt_memOk hs))
    | _ => exact event_memOk hs

theorem State.loseTrip_memOk {c id cause : Nat} {tval : Word} (hs : s.MemOk) : (s.loseTrip c id cause tval).MemOk :=
  State.onCore_memOk (State.onLandings_memOk hs)

theorem State.dropRequests_memOk {t : Trip} (hs : s.MemOk) : (s.dropRequests t).MemOk := by
  unfold State.dropRequests
  split
  · exact State.memOk_mk hs
  · exact hs

theorem State.timeOut_memOk {c : Nat} {t : Trip} (hs : s.MemOk) : (s.timeOut c t).MemOk := State.loseTrip_memOk (State.dropRequests_memOk hs)

theorem execRemoteTimeout_memOk {c k : Nat} (hs : s.MemOk) : NextOk (execRemoteTimeout c k s) := by
  unfold execRemoteTimeout
  split
  · exact event_memOk hs
  · exact event_memOk (State.timeOut_memOk hs)

theorem execRemoteRefusal_memOk {c k : Nat} (hs : s.MemOk) : NextOk (execRemoteRefusal c k s) := by
  unfold execRemoteRefusal
  split
  · exact event_memOk hs
  · exact event_memOk (State.loseTrip_memOk (State.logRefusalAt_memOk hs))

theorem State.logRefused_memOk {p : Posted} {a : Nat} (hs : s.MemOk) : (s.logRefused p a).MemOk := State.logRefusalAt_memOk hs

theorem State.setFlag_memOk {c n f : Nat} {clear : Bool} (hs : s.MemOk) : (s.setFlag c n f clear).MemOk := State.onSeat_memOk hs

theorem State.sendDecrement_memOk {p : Posted} {d rec amount : Nat} (hs : s.MemOk) : (s.sendDecrement p d rec amount).MemOk :=
  State.enqueue_memOk (State.memOk_mk hs)

theorem State.writeTail_memOk {q : Nat} {v : Word} (hs : s.MemOk) : (s.writeTail q v).MemOk := State.memOk_mk (State.performBytes_ok _ _ _ hs)

theorem State.carry_memOk {p : Posted} {src : Nat} {bs : List (Nat × Byte)} {material : Option (BitVec 512)} (hs : s.MemOk) :
    (s.carry p src bs material).MemOk := by
  unfold State.carry
  split
  exact State.ite_memOk (State.enqueue_memOk (State.onPosted_memOk hs)) (State.enqueue_memOk (State.memOk_mk (State.post_memOk hs)))

theorem State.answerFrom_memOk {station : Nat} {h : Slot} {kind len data : Nat} (hs : s.MemOk) : (s.answerFrom station h kind len data).MemOk :=
  State.enqueue_memOk (State.memOk_mk hs)

theorem State.performItem_memOk {p : Posted} {m : Option (BitVec 512)} {bs : List (Nat × Byte)} (hs : s.MemOk) : (s.performItem p m bs).MemOk := by
  unfold State.performItem
  split
  · exact State.performThrough_memOk hs
  · exact State.writeBytes_ok _ _ _ hs

theorem State.performVisit_memOk {p : Posted} {n station : Nat} {h : Slot} {v : Visit} (hs : s.MemOk) : (s.performVisit p n station h v).MemOk := by
  unfold State.performVisit
  dsimp only
  split
  · exact State.ite_memOk (State.logRefused_memOk (State.unpost_memOk hs))
      (State.performItem_memOk (State.ite_memOk (State.unpost_memOk hs) (State.onPosted_memOk hs)))
  · exact State.ite_memOk (State.answerFrom_memOk (State.unpost_memOk hs)) (State.onPosted_memOk hs)
  · exact State.answerFrom_memOk (State.atomicAt_memOk (State.unpost_memOk hs))

theorem State.refuseItem_memOk {p : Posted} {a : Nat} (hs : s.MemOk) : (s.refuseItem p a).MemOk := by
  unfold State.refuseItem
  split
  · exact State.ite_memOk (State.onSeat_memOk (State.logRefused_memOk hs)) (State.logRefused_memOk hs)
  · exact State.logRefused_memOk hs

theorem execPostedWritePerform_memOk {id : Nat} (hs : s.MemOk) : NextOk (execPostedWritePerform id s) := by
  unfold execPostedWritePerform
  split
  · exact event_memOk hs
  · refine nextOk_ite (event_memOk hs) ?_
    split
    · split
      · refine nextOk_ite (event_memOk hs) ?_
        split
        · exact nextOk_next.2 (State.carry_memOk hs)
        · exact nextOk_ite (nextOk_next.2 (State.logRefused_memOk (State.unpost_memOk hs)))
            (nextOk_next.2 (State.performItem_memOk (State.ite_memOk (State.unpost_memOk hs) (State.onPosted_memOk hs))))
    · exact nextOk_ite (event_memOk hs) (nextOk_next.2 (State.performVisit_memOk hs))
    · exact nextOk_next.2 (State.enqueue_memOk (State.onPosted_memOk hs))
    · exact nextOk_next.2 (State.unpost_memOk hs)
    · exact nextOk_ite (nextOk_next.2 (State.sendDecrement_memOk hs))
        (nextOk_ite (nextOk_next.2 (State.refuseItem_memOk (State.unpost_memOk hs)))
        (nextOk_next.2 (State.decrement_memOk (State.unpost_memOk hs))))
    · exact nextOk_ite (nextOk_next.2 (State.logRefused_memOk (State.unpost_memOk hs)))
        (nextOk_next.2 (State.setFlag_memOk (State.unpost_memOk hs)))
    · exact nextOk_next.2 (State.writeTail_memOk (State.unpost_memOk hs))
    · exact nextOk_next.2 (State.memOk_mk (State.unpost_memOk hs))
    · exact event_memOk hs

theorem State.releaseAt_memOk {a : Nat} {flip : Option Nat} (hs : s.MemOk) : (s.releaseAt a flip).MemOk := State.writeBytes_ok _ _ _ hs

theorem execReleasePerform_memOk {id : Nat} (hs : s.MemOk) : NextOk (execReleasePerform id s) := by
  unfold execReleasePerform
  split
  · exact event_memOk hs
  · split
    · exact event_memOk (State.ite_memOk (State.logRefused_memOk (State.unpost_memOk hs)) (State.releaseAt_memOk (State.unpost_memOk hs)))
    · exact event_memOk hs

theorem State.copyGranule_memOk {d ctx va : Nat} {l : Leaf} (hs : s.MemOk) : (s.copyGranule d ctx va l).MemOk := by
  unfold State.copyGranule
  split
  · exact hs
  · exact State.onJob_memOk hs

theorem execArmedGranuleCopy_memOk {d ctx va : Nat} (hs : s.MemOk) : NextOk (execArmedGranuleCopy d ctx va s) := by
  unfold execArmedGranuleCopy
  split
  · exact event_memOk hs
  · exact event_memOk (State.markSaved_memOk (State.copyGranule_memOk hs))

theorem execPageWalk_memOk {d : Nat} (hs : s.MemOk) : NextOk (execPageWalk d s) := by
  unfold execPageWalk
  split
  · exact event_memOk hs
  · exact event_memOk (State.admitMisses_memOk (State.onDie_memOk hs))

theorem execPageWalkComplete_memOk {d k : Nat} (hs : s.MemOk) : NextOk (execPageWalkComplete d k s) := by
  unfold execPageWalkComplete
  dsimp only
  split
  · exact event_memOk hs
  · split
    · exact nextOk_next.2 (State.admitMisses_memOk (State.onDie_memOk hs))
    · exact nextOk_next.2 (foldl_memOk (fun _ _ h => State.onCore_memOk h)
        (State.admitMisses_memOk (State.onDie_memOk (State.ite_memOk hs (State.onEntry_memOk hs)))))

theorem State.endWait_memOk {c n : Nat} {p : WaitKind → Bool} (hs : s.MemOk) : (s.endWait c n p).MemOk := State.onSeat_memOk hs

theorem State.timeWait_memOk {name : String} {c n : Nat} {p : WaitKind → Bool} (hs : s.MemOk) : NextOk (s.timeWait name c n p) := by
  unfold State.timeWait
  split
  · exact event_memOk hs
  · exact event_memOk (State.endWait_memOk hs)

theorem execStationFlagSet_memOk {k : Nat} (hs : s.MemOk) : NextOk (execStationFlagSet k s) := by
  unfold execStationFlagSet
  split
  · exact event_memOk hs
  · refine nextOk_ite (event_memOk hs) ?_
    split
    · exact nextOk_next.2 (State.memOk_mk hs)
    · exact nextOk_next.2 (State.onSeat_memOk (State.memOk_mk hs))

theorem execMonitorFire_memOk {c n : Nat} (hs : s.MemOk) : NextOk (execMonitorFire c n s) := by
  unfold execMonitorFire
  split
  · exact event_memOk hs
  · exact event_memOk (State.onSeat_memOk hs)

theorem execMonitorTimeout_memOk {c n : Nat} (hs : s.MemOk) : NextOk (execMonitorTimeout c n s) := by
  unfold execMonitorTimeout
  split
  · exact event_memOk hs
  · exact event_memOk (State.onSeat_memOk hs)

theorem State.askAcquire_memOk {c tenant job addr : Nat} {asker : Asker} (hs : s.MemOk) : (s.askAcquire c tenant job addr asker).MemOk := by
  unfold State.askAcquire
  split
  next hcall =>
    exact State.injectPacket_memOk (State.memOk_mk (ok_of_snd hcall (State.newTrip_memOk hs)))

theorem State.giveAcquire_memOk {c n : Nat} {w : Word} (hs : s.MemOk) : (s.giveAcquire c n w).MemOk := State.onSeat_memOk hs

theorem State.refuseAcquire_memOk {c n : Nat} {w : Wait} {a : Nat} (hs : s.MemOk) : (s.refuseAcquire c n w a).MemOk :=
  State.onSeat_memOk (State.logRefusalAt_memOk hs)

theorem State.acquireHere_memOk {c n : Nat} {w : Wait} {a : Nat} (hs : s.MemOk) : (s.acquireHere c n w a).MemOk :=
  State.ite_memOk (State.refuseAcquire_memOk hs) (State.giveAcquire_memOk hs)

theorem execAcquireReadPerformed_memOk {c n : Nat} (hs : s.MemOk) : NextOk (execAcquireReadPerformed c n s) := by
  unfold execAcquireReadPerformed
  dsimp only
  split
  · exact event_memOk hs
  · exact nextOk_ite (event_memOk hs) (nextOk_ite (event_memOk (State.askAcquire_memOk hs)) (event_memOk (State.acquireHere_memOk hs)))

theorem execAcqtReread_memOk {c n : Nat} (hs : s.MemOk) : NextOk (execAcqtReread c n s) := by
  unfold execAcqtReread
  dsimp only
  split
  · exact event_memOk hs
  · split
    · exact nextOk_ite (event_memOk hs) (nextOk_ite (event_memOk (State.acquireHere_memOk hs))
        (nextOk_ite (event_memOk hs) (nextOk_ite (event_memOk (State.askAcquire_memOk hs)) (event_memOk (State.acquireHere_memOk hs)))))
    · exact event_memOk hs

theorem State.logRoute_memOk {c reason : Nat} {mask : Word} (hs : s.MemOk) : (s.logRoute c reason mask).MemOk := State.logAt_memOk hs

theorem State.collect_memOk {c : Nat} {p : RedPacket} (hs : s.MemOk) : (s.collect c p).MemOk :=
  State.ite_memOk (State.logRoute_memOk hs) (State.ite_memOk (State.logRoute_memOk hs) (State.onCore_memOk hs))

theorem State.onward_memOk {c : Nat} {p : RedPacket} (hs : s.MemOk) : (s.onward c p).MemOk := State.memOk_mk hs

theorem State.stopAt_memOk {c port : Nat} {p : RedPacket} (hs : s.MemOk) : ∀ u ∈ s.stopAt c port p, u.MemOk := by
  unfold State.stopAt
  dsimp only
  refine ite_some_ok (some_ok (State.onward_memOk hs)) ?_
  split
  · exact some_ok (State.onCore_memOk hs)
  · exact ite_some_ok none_ok (some_ok (State.onward_memOk (State.onCore_memOk hs)))

theorem execReductionPacketArrival_memOk {c k : Nat} (hs : s.MemOk) : NextOk (execReductionPacketArrival c k s) := by
  unfold execReductionPacketArrival
  dsimp only
  split
  · exact event_memOk hs
  · refine nextOk_ite (event_memOk hs) (nextOk_ite (nextOk_ite (nextOk_next.2 (State.collect_memOk (State.memOk_mk hs))) ?_) ?_)
    · split
      next hcall =>
        exact nextOk_next.2 (ok_of_some hcall (State.stopAt_memOk (State.memOk_mk hs)))
      · exact event_memOk hs
    · split
      · exact nextOk_next.2 (State.logRoute_memOk (State.memOk_mk hs))
      · exact nextOk_ite (nextOk_next.2 (State.logRoute_memOk (State.memOk_mk hs))) (nextOk_next.2 (State.memOk_mk hs))

theorem execReductionRouterTimeout_memOk {c tree : Nat} (hs : s.MemOk) : NextOk (execReductionRouterTimeout c tree s) := by
  unfold execReductionRouterTimeout
  split
  · exact event_memOk hs
  · exact event_memOk (State.onward_memOk (State.onCore_memOk hs))

/-! `Sys2Proof/Machine/Wire.lean`. -/

theorem State.onCanal_memOk {f : Canal → Canal} (hs : s.MemOk) : (s.onCanal f).MemOk := State.memOk_mk hs

theorem State.onLink_memOk {port : Nat} {f : Link → Link} (hs : s.MemOk) : (s.onLink port f).MemOk := State.onCanal_memOk hs

theorem State.sendOn_memOk {port : Nat} {x : Sent} (hs : s.MemOk) : (s.sendOn port x).MemOk := State.onCanal_memOk (State.onLink_memOk hs)

theorem State.flitsIn_memOk {port n : Nat} (hs : s.MemOk) : (s.flitsIn port n).MemOk := State.onLink_memOk hs

/-! `Sys2Proof/Machine/Flume.lean`. -/

theorem State.recordChannel_memOk {job unit place : Nat} {msg : Delivery} {bs : List (Nat × Byte)} {flag : Option (Nat × Nat × Nat)} {counter gate : Option Nat} (hs : s.MemOk) :
    (s.recordChannel job unit place msg bs flag counter gate).MemOk :=
  State.ite_memOk (State.onJob_memOk (State.memOk_mk hs)) (State.onJob_memOk
    (State.ite_memOk (State.logAt_memOk (State.memOk_mk hs)) (State.logMgmt_memOk (State.memOk_mk hs))))

theorem State.logChannel_memOk {h : Slot} {station : Nat} {bs : List (Nat × Byte)} {flag : Option (Nat × Nat × Nat)} {counter gate : Option Nat} (hs : s.MemOk) :
    (s.logChannel h station bs flag counter gate).MemOk :=
  State.ite_memOk (State.recordChannel_memOk hs) hs

theorem State.logStation_memOk {cls station slot miss : Nat} (hs : s.MemOk) : (s.logStation cls station slot miss).MemOk := by
  unfold State.logStation
  split
  · exact State.logAt_memOk hs
  · exact State.logMgmt_memOk hs

theorem State.firstDone_memOk {key : Nat} {e : GateBits} {after : List Nat} (hs : s.MemOk) : (s.firstDone key e after).MemOk :=
  State.ite_memOk (State.setGate_memOk hs) (State.memOk_mk (State.setGate_memOk hs))

theorem State.missreg_memOk {key : Nat} {e : GateBits} {miss : BitVec 21} (hs : s.MemOk) : (s.missreg key e miss).MemOk := by
  unfold State.missreg
  split
  · exact State.onSeat_memOk hs
  · exact hs

theorem State.serrFlag_memOk {key : Nat} {e : GateBits} (hs : s.MemOk) : (s.serrFlag key e).MemOk := by
  unfold State.serrFlag
  split
  · exact State.memOk_mk hs
  · exact hs

theorem State.gateLoads_memOk {key station : Nat} {e : GateBits} {h : Slot} (hs : s.MemOk) : ∀ u ∈ s.gateLoads key station e h, u.1.MemOk :=
  ite_some_ok (ite_some_ok (some_ok (State.ite_memOk (State.firstDone_memOk hs) hs)) none_ok)
    (ite_some_ok (ite_some_ok (some_ok (State.ite_memOk (State.firstDone_memOk hs) hs)) (some_ok (State.logStation_memOk hs))) none_ok)

theorem State.gateActs_memOk {key station bit : Nat} {e : GateBits} {h : Slot} (hs : s.MemOk) : (s.gateActs key station bit e h).1.MemOk := by
  unfold State.gateActs
  extract_lets act slog hm first again s1 slog1 buf h1 bs s2 id sent s3
  have hlog : slog.MemOk := State.ite_memOk (State.logStation_memOk hs) hs
  have hinc : s1.MemOk := State.ite_memOk (State.missreg_memOk hs) hs
  have hchan : s2.MemOk := State.logChannel_memOk hinc
  have hpost : s3.MemOk := State.ite_memOk hchan (State.post_memOk hchan)
  refine ite_fst_memOk (State.missreg_memOk hlog) (ite_fst_memOk (State.logStation_memOk hinc) (ite_fst_memOk (State.missreg_memOk hinc) ?_))
  exact ite_fst_memOk hinc (ite_fst_memOk hinc (State.firstDone_memOk hpost))

theorem State.passOwned_memOk {p : Pass} {h : Slot} (hs : s.MemOk) : (s.passOwned p h).1.MemOk := by
  unfold State.passOwned
  refine ite_fst_memOk hs (ite_fst_memOk (State.serrFlag_memOk hs) (ite_fst_memOk ?_ (ite_fst_memOk ?_ hs)))
  · split
    next hcall =>
      exact ok_of_some_fst hcall (ite_some_ok (State.gateLoads_memOk hs) none_ok)
    · exact hs
  · split
    next hcall =>
      exact ok_of_fst hcall (State.gateActs_memOk hs)

theorem State.xiAsk_memOk {kind tag a len : Nat} {data : BitVec 2048} {key job : Nat} (hs : s.MemOk) :
    (s.xiAsk kind tag a len data key job).MemOk :=
  State.enqueue_memOk (State.memOk_mk hs)

theorem State.setArrival_memOk {peer n : Nat} {a : Arrival} (hs : s.MemOk) : (s.setArrival peer n a).MemOk := State.onCanal_memOk hs

theorem State.onHostRead_memOk {id : Nat} {f : HostRead → HostRead} (hs : s.MemOk) : (s.onHostRead id f).MemOk := State.memOk_mk hs

theorem State.replyHost_memOk {port : Nat} {r : HostReply} (hs : s.MemOk) : (s.replyHost port r).MemOk := State.memOk_mk hs

theorem State.endHostRead_memOk {r : HostRead} (hs : s.MemOk) : (s.endHostRead r).MemOk := State.replyHost_memOk (State.memOk_mk hs)

theorem State.answer_memOk {station tag : Nat} {bs : List Byte} (hs : s.MemOk) : (s.answer station tag bs).MemOk := by
  unfold State.answer
  split
  · exact hs
  · exact State.giveTrip_memOk hs
  · exact State.onCmd_memOk hs
  · exact State.onStream_memOk hs
  · split
    · exact State.setArrival_memOk hs
    · exact hs
  · exact State.onHostRead_memOk hs

theorem State.refuseTag_memOk {station tag a : Nat} (hs : s.MemOk) : (s.refuseTag station tag a).MemOk := by
  unfold State.refuseTag
  extract_lets holder s1
  clear_value holder
  have hlog : s1.MemOk := by
    unfold s1
    split
    · exact State.logRefusalAt_memOk hs
    · exact hs
  split
  · exact hlog
  · exact State.loseTrip_memOk hlog
  · exact State.onCmd_memOk hlog
  · exact State.onStream_memOk hlog
  · exact State.setArrival_memOk hlog
  · exact State.endHostRead_memOk hlog

theorem State.delivered_memOk {from_ : Option (Nat × Nat)} (hs : s.MemOk) : (s.delivered from_).MemOk := by
  unfold State.delivered
  split
  · exact State.unpost_memOk hs
  · exact hs

theorem State.dropWrite_memOk {h : Slot} {from_ : Option (Nat × Nat)} {tenant a : Nat} (hs : s.MemOk) : (s.dropWrite h from_ tenant a).MemOk :=
  State.logRefusalAt_memOk (State.delivered_memOk hs)

theorem State.visit_memOk {station : Nat} {h : Slot} {who : Agent × Nat} {from_ : Option (Nat × Nat)} {v : Visit} (hs : s.MemOk) :
    (s.visit station h who from_ v).2.MemOk := by
  unfold State.visit
  split
  · exact State.onPosted_memOk (State.memOk_mk hs)
  · exact State.post_memOk hs

theorem State.drainMsg_memOk {p : Pass} {h : Slot} {m : Option BeMsg} (hs : s.MemOk) : (s.drainMsg p h m).MemOk := by
  unfold State.drainMsg
  dsimp only
  split
  · exact State.visit_memOk (State.logChannel_memOk hs)
  · exact State.ite_memOk (State.refuseTag_memOk hs) (State.visit_memOk (State.logChannel_memOk hs))
  · exact State.answer_memOk (State.logChannel_memOk hs)
  · split
    · exact State.decrement_memOk (State.delivered_memOk (State.logChannel_memOk hs))
    · exact State.logMgmt_memOk (State.delivered_memOk hs)
  · exact State.ite_memOk (State.refuseTag_memOk hs) (State.visit_memOk (State.logChannel_memOk hs))
  · exact State.answer_memOk (State.logChannel_memOk hs)
  · split
    · exact State.ite_memOk (State.dropWrite_memOk hs) (State.memOk_mk (State.visit_memOk (State.logChannel_memOk hs)))
    · exact State.logStation_memOk (State.delivered_memOk hs)
  · exact State.logStation_memOk (State.delivered_memOk hs)

theorem State.listRefused_memOk {station origin key : Nat} (hs : s.MemOk) : (s.listRefused station origin key).MemOk :=
  State.ite_memOk hs (State.memOk_mk hs)

theorem State.deliver_memOk {p : Pass} {h : Slot} {key : Nat} (hs : s.MemOk) : (s.deliver p h key).1.MemOk :=
  ite_fst_memOk (State.listRefused_memOk hs) (State.drainMsg_memOk (State.memOk_mk hs))

theorem State.comeBack_memOk {p : Pass} {h : Slot} {key : Nat} (hs : s.MemOk) : (s.comeBack p h key).1.MemOk := by
  unfold State.comeBack
  refine ite_fst_memOk hs (State.logStation_memOk ?_)
  split
  · exact State.unpost_memOk (State.memOk_mk hs)
  · exact State.memOk_mk hs

theorem State.loadMsg_memOk {p : Pass} {h : Slot} {key : Nat} {m : BeMsg} (hs : s.MemOk) : (s.loadMsg p h key m).1.MemOk := State.memOk_mk hs

theorem State.takeOrHold_memOk {p : Pass} {h : Slot} {key : Nat} (hs : s.MemOk) : (s.takeOrHold p h key).1.MemOk := by
  unfold State.takeOrHold
  split
  · refine ite_fst_memOk ?_ (ite_fst_memOk (State.memOk_mk hs) hs)
    split
    next hcall =>
      exact ok_of_fst hcall (State.loadMsg_memOk hs)
  · exact ite_fst_memOk (State.memOk_mk hs) hs

theorem State.countWait_memOk {p : Pass} {took : Bool} (hs : s.MemOk) : (s.countWait p took).MemOk := State.ite_memOk hs (State.memOk_mk hs)

theorem State.passBest_memOk {p : Pass} {h : Slot} {key : Nat} (hs : s.MemOk) : (s.passBest p h key).1.MemOk := by
  unfold State.passBest
  split
  next hcall =>
    refine ite_fst_memOk ?_ (ok_of_fst hcall (ite_fst_memOk hs
      (ite_fst_memOk (State.deliver_memOk hs) (ite_fst_memOk (State.comeBack_memOk hs) (ite_fst_memOk (State.memOk_mk hs) hs)))))
    split
    next hcall2 =>
      exact ok_of_fst hcall2 (State.takeOrHold_memOk (ok_of_fst hcall
        (ite_fst_memOk hs (ite_fst_memOk (State.deliver_memOk hs)
        (ite_fst_memOk (State.comeBack_memOk hs) (ite_fst_memOk (State.memOk_mk hs) hs))))))

theorem State.takeCredit_memOk {p : Pass} {h : Slot} {key : Nat} (hs : s.MemOk) : (s.takeCredit p h key).1.MemOk := by
  unfold State.takeCredit
  split
  · exact ite_fst_memOk hs (State.memOk_mk (State.memOk_mk hs))
  · exact hs

theorem State.putCredit_memOk {p : Pass} {h : Slot} {key : Nat} (hs : s.MemOk) : (s.putCredit p h key).1.MemOk := by
  unfold State.putCredit
  refine ite_fst_memOk hs ?_
  split
  · exact State.memOk_mk hs
  · exact hs

theorem State.station0_memOk {p : Pass} {h : Slot} {key : Nat} (hs : s.MemOk) : (s.station0 p h key).1.MemOk := by
  unfold State.station0
  dsimp only
  split
  · refine ite_fst_memOk (State.memOk_mk ?_) ?_
    · split
      · exact State.unpost_memOk hs
      · exact hs
    · split
      · exact State.unpost_memOk hs
      · exact hs
  · split
    · exact State.unpost_memOk hs
    · exact hs

theorem State.passAt_memOk {p : Pass} (hs : s.MemOk) : (s.passAt p).1.MemOk := by
  unfold State.passAt
  extract_lets key h s0 sbad origin
  have hin : s0.MemOk := State.ite_memOk hs (State.flitsIn_memOk hs)
  have hbad : sbad.MemOk := State.logStation_memOk hin
  clear_value s0 sbad
  split
  split
  next s1 _ _ hpass =>
    have hpass : s1.MemOk := by
      refine ok_of_fst hpass (ite_fst_memOk hin (ite_fst_memOk hin
        (ite_fst_memOk (ite_fst_memOk hbad (State.ite_memOk (State.listRefused_memOk hbad) hbad)) ?_)))
      split
      next htake =>
      have htake := ok_of_fst htake (ite_fst_memOk (State.takeCredit_memOk hin) hin)
      split
      next hzero =>
      have hzero := ok_of_fst hzero (ite_fst_memOk (State.station0_memOk htake) htake)
      split
      next hkind =>
      have hkind := ok_of_fst hkind (ite_fst_memOk (State.passOwned_memOk hzero) (State.passBest_memOk hzero))
      split
      next hput => exact ok_of_fst hput (ite_fst_memOk (State.putCredit_memOk hkind) hkind)
    extract_lets s2
    have hout : s2.MemOk := State.ite_memOk (State.countWait_memOk hpass) hpass
    exact State.memOk_mk hout

theorem State.passEvent_memOk {name : String} {p : Pass} {c : PassCase} (hs : s.MemOk) : NextOk (s.passEvent name p c) := by
  unfold State.passEvent
  split
  next hcall =>
    exact event_memOk (ok_of_fst hcall (State.passAt_memOk hs))

theorem execGatePass_memOk {p : Pass} (hs : s.MemOk) : NextOk (execGatePass p s) := by
  unfold execGatePass
  split
  next hcall =>
    exact event_memOk (ok_of_fst hcall (State.passAt_memOk hs))

theorem State.endSlotTime_memOk (hs : s.MemOk) : (s.endSlotTime).MemOk := State.memOk_mk (foldl_memOk (fun _ _ h => State.passAt_memOk h) hs)

theorem State.serrStreams_memOk {told bad : Nat → Bool} (hs : s.MemOk) : (s.serrStreams told bad).MemOk :=
  foldl_memOk (fun _ _ h => State.ite_memOk (State.writeGate_memOk h) h) hs

theorem State.stopLade_memOk {ring : Ring} (hs : s.MemOk) : (s.stopLade ring).MemOk :=
  State.logMgmt_memOk (State.serrStreams_memOk (State.memOk_mk hs))

/-! `Sys2Proof/Machine/Canal.lean`. -/

theorem State.onRecv_memOk {peer : Nat} {f : Recv → Recv} (hs : s.MemOk) : (s.onRecv peer f).MemOk := State.onCanal_memOk hs

theorem State.logFabric_memOk {info loc : Nat} (hs : s.MemOk) : (s.logFabric info loc).MemOk := State.logMgmt_memOk hs

theorem State.queueOut_memOk {port : Nat} {p : Packet} (hs : s.MemOk) : (s.queueOut port p).MemOk := State.onCanal_memOk hs

theorem State.dispatch_memOk {p : Packet} {may : Bool} (hs : s.MemOk) : ∀ u ∈ s.dispatch p may, u.MemOk :=
  bind_ok (fun _ _ => ite_some_ok (some_ok (State.queueOut_memOk hs)) none_ok)

theorem State.sendOrHold_memOk {p : Packet} {may : Bool} (hs : s.MemOk) : (s.sendOrHold p may).MemOk := by
  unfold State.sendOrHold
  split
  next hcall =>
    exact ok_of_some hcall (State.dispatch_memOk hs)
  · exact State.ite_memOk (State.logFabric_memOk (State.onCanal_memOk hs)) (State.onCanal_memOk hs)

theorem State.sendVc0_memOk {peer type opa opb job : Nat} (hs : s.MemOk) : (s.sendVc0 peer type opa opb job).MemOk := State.sendOrHold_memOk hs

theorem State.sendWaiting_memOk (hs : s.MemOk) : s.sendWaiting.MemOk := by
  unfold State.sendWaiting
  split
  next ht =>
    obtain ⟨i, _, hi⟩ := List.exists_of_findSome?_eq_some ht
    exact State.onCanal_memOk (bind_ok (P := fun u => u.2.MemOk)
      (fun _ _ => map_ok (P := fun u : Nat × State => u.2.MemOk) (State.dispatch_memOk hs)) _ hi)
  next => exact hs

theorem execCanalInject_memOk {k : Nat} (hs : s.MemOk) : NextOk (execCanalInject k s) := by
  unfold execCanalInject
  dsimp only
  split
  · exact event_memOk hs
  · refine nextOk_ite (event_memOk hs) ?_
    split
    · exact event_memOk (State.logFabric_memOk (State.onCanal_memOk hs))
    · exact nextOk_ite (event_memOk hs) (nextOk_next.2 (State.queueOut_memOk (State.memOk_mk (State.onCanal_memOk hs))))

theorem State.markPerformed_memOk {peer n : Nat} (hs : s.MemOk) : (s.markPerformed peer n).MemOk := State.onRecv_memOk hs

theorem State.makeHole_memOk {p : Packet} (hs : s.MemOk) : (s.makeHole p).MemOk := by
  unfold State.makeHole
  refine State.ite_memOk hs ?_
  split
  · split
    · exact State.onRecv_memOk hs
    · exact hs
  · exact State.onRecv_memOk hs

theorem State.comeIn_memOk {p : Packet} (hs : s.MemOk) : (s.comeIn p).MemOk := State.ite_memOk hs (State.onLink_memOk hs)

theorem State.drainIn_memOk {p : Packet} (hs : s.MemOk) : (s.drainIn p).MemOk := State.ite_memOk hs (State.onLink_memOk hs)

theorem State.countIn_memOk {p : Packet} (hs : s.MemOk) : (s.countIn p).MemOk := State.drainIn_memOk (State.comeIn_memOk hs)

theorem State.keepIn_memOk {p : Packet} (hs : s.MemOk) : (s.keepIn p).MemOk := State.onLink_memOk (State.comeIn_memOk hs)

theorem State.cutAt_memOk {port : Nat} {p : Packet} (hs : s.MemOk) : ∀ u ∈ s.cutAt port p, u.MemOk :=
  ite_some_ok (some_ok (State.makeHole_memOk (State.onCanal_memOk hs)))
    (ite_some_ok (some_ok (State.queueOut_memOk (State.onCanal_memOk hs))) none_ok)

theorem execCanalTrim_memOk {port : Nat} {p : Packet} (hs : s.MemOk) : NextOk (execCanalTrim port p s) := by
  unfold execCanalTrim
  refine nextOk_ite (event_memOk hs) ?_
  split
  next hcall =>
    exact nextOk_next.2 (ok_of_some hcall (State.cutAt_memOk (State.countIn_memOk hs)))
  · exact nextOk_next.2 (State.keepIn_memOk hs)

theorem State.forward_memOk {p : Packet} (hs : s.MemOk) : ∀ u ∈ s.forward p, u.MemOk :=
  bind_ok (fun _ _ => ite_some_ok (some_ok (State.queueOut_memOk hs)) none_ok)

theorem State.respond_memOk {p : Packet} {type opa : Nat} {bytes : List Byte} (hs : s.MemOk) : (s.respond p type opa bytes).MemOk := by
  unfold State.respond
  split
  next hcall =>
    exact State.onCanal_memOk (ok_of_snd hcall (State.newTrip_memOk hs))

theorem State.refusePacket_memOk {p : Packet} {reason : Nat} (hs : s.MemOk) : (s.refusePacket p reason).MemOk :=
  State.ite_memOk (State.ite_memOk (State.logMgmt_memOk hs) (State.logAt_memOk hs))
    (State.respond_memOk (State.ite_memOk (State.logMgmt_memOk hs) (State.logAt_memOk hs)))

theorem State.logPacket_memOk {p : Packet} {bs : List (Nat × Byte)} (hs : s.MemOk) : (s.logPacket p bs).MemOk :=
  State.ite_memOk (State.recordChannel_memOk hs) hs

theorem State.atomicRequest_memOk {p : Packet} (hs : s.MemOk) : ∀ u, s.atomicRequest p = .ok u → u.2.MemOk := by
  unfold State.atomicRequest
  refine ite_okay_ok error_ok (ite_okay_ok (ite_okay_ok error_ok (okay_ok (State.decrement_memOk hs))) (ite_okay_ok error_ok ?_))
  cases s.targetOf p .write with
  | error r => exact error_ok
  | ok l =>
    dsimp only
    generalize (l.head?.map (·.flat)).getD 0 = a
    generalize (if p.aop.toNat % 2 = 1 ∨ p.aop.toNat = 24 then 8 else 4) = size
    generalize p.aop.toNat = aop
    refine ite_okay_ok error_ok (ite_okay_ok (okay_snd_memOk hs) ?_)
    refine ite_okay_ok (okay_snd_memOk (State.releaseAt_memOk hs)) (ite_okay_ok (okay_snd_memOk (State.releaseAt_memOk hs)) ?_)
    exact ite_okay_ok error_ok (okay_ok (State.atomicAt_memOk hs))

theorem State.releaseWrite_memOk {p : Packet} {l : List TargetPart} (hs : s.MemOk) : (s.releaseWrite p l).1.MemOk :=
  foldl_memOk (fun _ _ h => State.post_memOk h) hs

theorem State.finishPacket_memOk {p : Packet} {n type old : Nat} {bytes : List Byte} (hs : s.MemOk) :
    (s.finishPacket p n type old bytes).MemOk :=
  State.markPerformed_memOk (State.respond_memOk (State.logPacket_memOk hs))

theorem State.takeRead_memOk {p : Packet} {n : Nat} {got : List Byte} (hs : s.MemOk) : (s.takeRead p n got).MemOk := by
  unfold State.takeRead
  dsimp only
  split
  · exact State.markPerformed_memOk (State.refusePacket_memOk hs)
  · split
    · exact State.finishPacket_memOk hs
    · exact State.ite_memOk (State.markPerformed_memOk (State.refusePacket_memOk hs))
        (State.ite_memOk (State.ite_memOk (State.setArrival_memOk hs) (State.setArrival_memOk (State.xiAsk_memOk hs)))
        (State.ite_memOk (State.finishPacket_memOk hs) (State.setArrival_memOk hs)))

theorem State.releaseDecrement_memOk {p : Packet} (hs : s.MemOk) : ∀ u, s.releaseDecrement p = .ok u → u.1.MemOk :=
  ite_okay_ok error_ok (okay_ok (State.post_memOk hs))

theorem State.performPacket_memOk {p : Packet} {n : Nat} (hs : s.MemOk) : (s.performPacket p n).MemOk := by
  unfold State.performPacket
  split
  · exact State.takeRead_memOk hs
  · split
    · exact State.markPerformed_memOk (State.refusePacket_memOk hs)
    · split
      next hcall =>
        exact State.setArrival_memOk (ok_of_fst hcall (State.releaseWrite_memOk hs))
  · refine State.ite_memOk ?_ ?_
    · split
      · exact State.markPerformed_memOk (State.refusePacket_memOk hs)
      next hcall =>
        exact State.setArrival_memOk (ok_of_okay_fst hcall (State.releaseDecrement_memOk hs))
    · split
      · exact State.ite_memOk hs (State.setArrival_memOk (State.xiAsk_memOk hs))
      · split
        · exact State.markPerformed_memOk (State.refusePacket_memOk hs)
        next hcall =>
          exact State.finishPacket_memOk (ok_of_okay_snd hcall (State.atomicRequest_memOk hs))

theorem State.arrivePacket_memOk {p : Packet} (hs : s.MemOk) : (s.arrivePacket p).MemOk :=
  State.ite_memOk (State.makeHole_memOk hs) (State.ite_memOk hs
    (State.ite_memOk (State.performPacket_memOk (State.onRecv_memOk hs)) (State.onRecv_memOk hs)))

theorem State.takeRequest_memOk {p : Packet} (hs : s.MemOk) : ∀ u ∈ s.takeRequest p, u.MemOk :=
  ite_some_ok (some_ok (State.arrivePacket_memOk hs)) none_ok

theorem State.comesBy_memOk {name : String} {ok : Bool} {p : Packet} {take : State → Option State} (hs : s.MemOk)
    (htake : ∀ t, t.MemOk → ∀ u ∈ take t, u.MemOk) : NextOk (s.comesBy name ok p take) := by
  unfold State.comesBy
  dsimp only
  refine nextOk_ite (event_memOk hs) (nextOk_ite (nextOk_next.2 (State.keepIn_memOk hs)) (nextOk_ite (event_memOk hs) ?_))
  split
  next ht => exact nextOk_next.2 (ok_of_some ht (ite_some_ok (htake _ (State.countIn_memOk hs)) (State.forward_memOk (State.countIn_memOk hs))))
  next => exact nextOk_next.2 (State.keepIn_memOk hs)

theorem State.canalIn_memOk {name : String} {ok : Bool} {p : Packet} (hs : s.MemOk) : NextOk (s.canalIn name ok p) :=
  State.comesBy_memOk hs (fun _ h => State.takeRequest_memOk h)

theorem State.atomicIn_memOk {name : String} {codes : List Nat} {p : Packet} (hs : s.MemOk) : NextOk (s.atomicIn name codes p) :=
  State.canalIn_memOk hs

theorem execCanalPacketPerform_memOk {peer seq : Nat} (hs : s.MemOk) : NextOk (execCanalPacketPerform peer seq s) := by
  unfold execCanalPacketPerform
  split
  · exact event_memOk hs
  · split
    · exact event_memOk (State.performPacket_memOk hs)
    · exact nextOk_next.2 (State.ite_memOk (State.takeRead_memOk hs) (State.finishPacket_memOk hs))
    · exact nextOk_next.2 (State.markPerformed_memOk (State.refusePacket_memOk hs))
    · exact nextOk_ite (event_memOk (State.finishPacket_memOk hs)) (event_memOk (State.markPerformed_memOk (State.logPacket_memOk hs)))
    · exact event_memOk hs

theorem State.recordAnswer_memOk {p : Packet} (hs : s.MemOk) : ∀ u ∈ s.recordAnswer p, u.MemOk :=
  ite_some_ok none_ok (some_ok (State.markPerformed_memOk (State.onRecv_memOk (State.logPacket_memOk hs))))

theorem State.loseSelector_memOk {c id cause : Nat} {tval : Word} (hs : s.MemOk) : (s.loseSelector c id cause tval).MemOk :=
  State.onCore_memOk (State.unpost_memOk (State.onCanal_memOk
    (foldl_memOk (fun _ _ h => State.logAt_memOk (State.unpost_memOk h)) (foldl_memOk (fun _ _ h => State.loseTrip_memOk h) hs))))

theorem State.giveAnswer_memOk {r : Request} {bs : List Byte} (hs : s.MemOk) : (s.giveAnswer r bs).MemOk := by
  unfold State.giveAnswer
  dsimp only
  split
  · split
    · exact State.giveTrip_memOk (State.onCanal_memOk hs)
    · exact State.onCanal_memOk hs
  · exact State.onCmd_memOk (State.onCanal_memOk hs)
  · exact State.onStream_memOk (State.onCanal_memOk hs)
  · exact State.giveAcquire_memOk (State.onCanal_memOk hs)
  · exact State.unpost_memOk (State.onCanal_memOk hs)
  · exact State.onCanal_memOk hs
  · exact State.onCanal_memOk hs

theorem State.giveRefusal_memOk {r : Request} {reason : Nat} (hs : s.MemOk) : (s.giveRefusal r reason).MemOk := by
  unfold State.giveRefusal
  extract_lets cause tval s1 c
  have hgone : s1.MemOk := State.onCanal_memOk hs
  split
  · split
    · exact State.loseTrip_memOk (State.dropRequests_memOk hgone)
    · exact hgone
  · exact State.onCmd_memOk hgone
  · exact State.onStream_memOk hgone
  · exact State.onSeat_memOk hgone
  · exact State.onSeat_memOk hgone
  · exact State.loseSelector_memOk hgone
  · exact hgone

theorem State.give_memOk {r : Request} {p : Packet} (hs : s.MemOk) : (s.give r p).MemOk := by
  unfold State.give
  split
  · exact State.giveAnswer_memOk hs
  · exact State.giveAnswer_memOk hs
  · exact State.giveRefusal_memOk hs

theorem State.takeAnswer_memOk {p : Packet} (hs : s.MemOk) : (s.takeAnswer p).MemOk := by
  unfold State.takeAnswer
  refine State.ite_memOk (State.makeHole_memOk hs) ?_
  split
  · exact hs
  next hcall =>
    split
    · exact ok_of_some hcall (State.recordAnswer_memOk hs)
    · exact State.give_memOk (ok_of_some hcall (State.recordAnswer_memOk hs))

theorem State.answerIn_memOk {name : String} {type : Nat} {p : Packet} (hs : s.MemOk) : NextOk (s.answerIn name type p) :=
  State.comesBy_memOk hs (fun _ h => some_ok (State.takeAnswer_memOk h))

theorem State.controlIn_memOk {name : String} {type : Nat} {p : Packet} {act : State → State} (hs : s.MemOk) (hact : ∀ t, t.MemOk → (act t).MemOk) :
    NextOk (s.controlIn name type p act) :=
  State.comesBy_memOk hs (fun _ h => some_ok (hact _ h))

theorem State.reRequest_memOk {p : Packet} (hs : s.MemOk) : (s.reRequest p).MemOk := by
  unfold State.reRequest
  dsimp only
  split
  · exact hs
  · refine State.sendOrHold_memOk (State.onCanal_memOk ?_)
    split
    · exact State.memOk_mk hs
    · exact hs

theorem State.acknowledge_memOk {p : Packet} (hs : s.MemOk) : (s.acknowledge p).MemOk := by
  unfold State.acknowledge
  refine foldl_memOk (fun _ _ h => State.memOk_mk ?_) (State.onCanal_memOk hs)
  split
  · exact State.memOk_mk h
  · exact h

theorem State.takeMarker_memOk {p : Packet} (hs : s.MemOk) : (s.takeMarker p).MemOk := State.onJob_memOk (State.onRecv_memOk hs)

theorem State.discard_memOk {p : Packet} (hs : s.MemOk) : (s.discard p).MemOk := State.logFabric_memOk (State.onCanal_memOk hs)

theorem State.take_memOk {p : Packet} (hs : s.MemOk) : ∀ u ∈ s.take p, u.MemOk := by
  unfold State.take
  split
  · exact State.takeRequest_memOk hs
  · exact State.takeRequest_memOk hs
  · exact State.takeRequest_memOk hs
  · exact some_ok (State.takeAnswer_memOk hs)
  · exact some_ok (State.takeAnswer_memOk hs)
  · exact some_ok (State.takeAnswer_memOk hs)
  · exact some_ok (State.reRequest_memOk hs)
  · exact some_ok (State.acknowledge_memOk hs)
  · exact some_ok (State.takeMarker_memOk hs)
  · exact some_ok (State.discard_memOk hs)

theorem State.leaveBuffer_memOk {p : Packet} (hs : s.MemOk) : ∀ u ∈ s.leaveBuffer p, u.MemOk := by
  unfold State.leaveBuffer
  dsimp only
  split
  · exact none_ok
  · exact ite_some_ok (State.cutAt_memOk (State.onLink_memOk (State.drainIn_memOk hs)))
      (ite_some_ok (State.take_memOk (State.onLink_memOk (State.drainIn_memOk hs)))
      (State.forward_memOk (State.onLink_memOk (State.drainIn_memOk hs))))

theorem State.drainPort_memOk {port : Nat} (hs : s.MemOk) : (s.drainPort port).MemOk := by
  unfold State.drainPort
  cases ht : (List.range 12).findSome? fun lane => ((s.link port).buffer.find? fun p => p.lane == lane).bind s.leaveBuffer with
  | none => exact hs
  | some t =>
    obtain ⟨lane, _, hl⟩ := List.exists_of_findSome?_eq_some ht
    exact bind_ok (fun _ _ => State.leaveBuffer_memOk hs) _ hl

theorem State.canalTick_memOk (hs : s.MemOk) : (s.canalTick).MemOk :=
  foldl_memOk (fun _ _ h => State.drainPort_memOk h) (State.sendWaiting_memOk (State.onCanal_memOk hs))

theorem execCanalHoleRerequest_memOk {peer seq : Nat} (hs : s.MemOk) : NextOk (execCanalHoleRerequest peer seq s) := by
  unfold execCanalHoleRerequest
  dsimp only
  split
  · exact event_memOk (State.onRecv_memOk hs)
  · split
    · exact nextOk_ite (event_memOk (State.onRecv_memOk hs))
        (nextOk_next.2 (State.ite_memOk (State.logFabric_memOk (State.onRecv_memOk (State.sendVc0_memOk (State.onRecv_memOk hs))))
        (State.onRecv_memOk (State.sendVc0_memOk (State.onRecv_memOk hs)))))
    · exact event_memOk (State.onRecv_memOk hs)

theorem execResponderWatchdog_memOk {peer seq : Nat} (hs : s.MemOk) : NextOk (execResponderWatchdog peer seq s) := by
  unfold execResponderWatchdog
  split
  · exact event_memOk hs
  · exact event_memOk (State.markPerformed_memOk (State.refusePacket_memOk hs))

theorem State.idleCycle_memOk {port : Nat} (hs : s.MemOk) : (s.idleCycle port).MemOk := State.onLink_memOk hs

theorem State.sendNext_memOk {port : Nat} (hs : s.MemOk) : (s.sendNext port).MemOk := by
  unfold State.sendNext
  split
  · exact State.ite_memOk (State.sendOn_memOk (State.onCanal_memOk (State.onLink_memOk hs))) (State.idleCycle_memOk hs)
  · exact State.ite_memOk (State.sendOn_memOk hs) (State.idleCycle_memOk hs)

theorem State.ladeWindow_memOk {r : Ring} {port : Nat} (hs : s.MemOk) : (s.ladeWindow r port).MemOk := by
  unfold State.ladeWindow
  dsimp only
  split
  · exact State.ite_memOk (State.sendOn_memOk (State.memOk_mk (State.onLink_memOk hs))) (State.onLink_memOk (State.onLink_memOk hs))
  · exact State.onLink_memOk (State.onLink_memOk hs)

theorem State.linkCycle_memOk {port : Nat} (hs : s.MemOk) : (s.linkCycle port).MemOk := by
  unfold State.linkCycle
  refine State.ite_memOk hs ?_
  split
  · exact State.ite_memOk (State.idleCycle_memOk hs) (State.onLink_memOk (State.sendOn_memOk hs))
  · exact State.ite_memOk (State.idleCycle_memOk hs) (State.onLink_memOk (State.sendOn_memOk hs))
  · split
    · exact State.ite_memOk (State.ladeWindow_memOk hs) (State.sendNext_memOk hs)
    · exact State.sendNext_memOk hs

theorem State.controlFlit_memOk {port : Nat} {f : Link → Link} (hs : s.MemOk) : (s.controlFlit port f).MemOk := State.onLink_memOk hs

theorem execLinkResync_memOk {port : Nat} {freed received : List (BitVec 16)} (hs : s.MemOk) : NextOk (execLinkResync port freed received s) :=
  event_memOk (State.ite_memOk (State.controlFlit_memOk hs) (State.logMgmt_memOk (State.onLink_memOk (State.controlFlit_memOk hs))))

theorem State.retireLink_memOk {port : Nat} (hs : s.MemOk) : (s.retireLink port).MemOk :=
  State.logMgmt_memOk (foldl_memOk (fun _ _ h => State.stopLade_memOk h)
    (foldl_memOk (fun _ _ h => State.sendOrHold_memOk h) (State.onCanal_memOk (State.onLink_memOk hs))))

/-! `Sys2Proof/Machine/Launch.lean`. -/

theorem State.setQueueDw_memOk {q i v : Nat} (hs : s.MemOk) : (s.setQueueDw q i v).MemOk := State.performBytes_ok _ _ _ hs

theorem State.copyRecord_memOk {off k : Nat} (hs : s.MemOk) : (s.copyRecord off k).MemOk := State.performBytes_ok _ _ _ hs

theorem State.askClass_memOk {ring : Nat} {slots : List Nat} {owned : Bool} (hs : s.MemOk) : (s.askClass ring slots owned).MemOk :=
  State.memOk_mk hs

theorem State.openStream_memOk {k : Nat} {r : StreamReq} (hs : s.MemOk) : ∀ u, s.openStream k r = .ok u → u.MemOk := by
  unfold State.openStream
  refine ite_okay_ok error_ok ?_
  split
  · exact error_ok
  · exact okay_ok (State.memOk_mk (State.askClass_memOk (foldl_memOk
      (fun _ _ h => foldl_memOk (fun _ _ h1 => State.writeGate_memOk h1)
      (foldl_memOk (fun _ _ h1 => State.ite_memOk h1 (State.writeGate_memOk h1)) h)) hs)))

theorem State.openStreams_memOk {k : Nat} (hs : s.MemOk) : ∀ u, s.openStreams k = .ok u → u.MemOk := by
  unfold State.openStreams
  split
  · exact error_ok
  · refine foldl_okay_ok (fun x b hx => ?_) (okay_ok hs)
    split
    · exact error_ok
    next t => exact State.openStream_memOk (hx t rfl)

theorem State.releaseStreams_memOk {k : Nat} (hs : s.MemOk) : (s.releaseStreams k).MemOk :=
  foldl_memOk (fun _ _ h => State.memOk_mk (State.ite_memOk (foldl_memOk (fun _ _ h1 => State.writeGate_memOk h1) h) h)) hs

theorem execStreamCloseFollowup_memOk {k : Nat} (hs : s.MemOk) : NextOk (execStreamCloseFollowup k s) := by
  unfold execStreamCloseFollowup
  split
  · exact event_memOk hs
  · split
    · exact event_memOk hs
    · exact event_memOk (State.memOk_mk (State.askClass_memOk (foldl_memOk (fun _ _ h => State.writeGate_memOk h) hs)))

theorem State.flushCode_memOk {k : Nat} (hs : s.MemOk) : (s.flushCode k).MemOk := foldl_memOk (fun _ _ h => State.onCore_memOk h) hs

theorem State.mapSpares_memOk {k : Nat} (hs : s.MemOk) : (s.mapSpares k).MemOk :=
  foldl_memOk (fun _ _ h => State.ite_memOk h (State.onDie_memOk (State.onCore_memOk h))) hs

theorem State.enterLaunch_memOk {k q : Nat} {parent : Option Nat} (hs : s.MemOk) : (s.enterLaunch k q parent).MemOk :=
  State.mapSpares_memOk (State.flushCode_memOk (State.memOk_mk
    (State.ite_memOk (State.performBytes_ok _ _ _ (State.setQueueDw_memOk hs))
    (State.onJob_memOk (State.performBytes_ok _ _ _ (State.setQueueDw_memOk hs))))))

theorem State.vet_memOk {q k : Nat} {parent : Option Nat} (hs : s.MemOk) : ∀ u, s.vet q k parent = .ok u → u.MemOk := by
  unfold State.vet
  split
  · exact error_ok
  · split
    · exact error_ok
    next hcall =>
      exact okay_ok (State.enterLaunch_memOk (ok_of_okay hcall (State.openStreams_memOk hs)))

theorem State.writeCompletion_memOk {k status reason : Nat} {l : Launch} (hs : s.MemOk) : (s.writeCompletion k status reason l).MemOk := by
  unfold State.writeCompletion
  exact State.releaseAt_memOk (State.performBytes_ok _ _ _ hs)

theorem State.refuseLaunch_memOk {k q reason : Nat} (hs : s.MemOk) : (s.refuseLaunch k q reason).MemOk :=
  State.writeCompletion_memOk (State.setQueueDw_memOk hs)

theorem State.dropLaunch_memOk {k : Nat} (hs : s.MemOk) : (s.dropLaunch k).MemOk := State.memOk_mk (State.releaseStreams_memOk hs)

theorem State.refuseTree_memOk {q k p reason : Nat} (hs : s.MemOk) : (s.refuseTree q k p reason).MemOk :=
  foldl_memOk (fun _ _ h => State.dropLaunch_memOk h) (foldl_memOk (fun _ _ h => State.refuseLaunch_memOk h) hs)

theorem State.acceptSpawned_memOk {q root n : Nat} (hs : s.MemOk) : (State.acceptSpawned q root n s).MemOk := by
  induction n generalizing s with
  | zero => exact hs
  | succ n ih =>
    unfold State.acceptSpawned
    dsimp only
    split
    · split
      · exact State.refuseTree_memOk (State.copyRecord_memOk hs)
      next hv => exact ih (State.onLaunch_memOk (State.onLaunch_memOk (ok_of_okay hv (State.vet_memOk (State.copyRecord_memOk hs)))))
    · exact hs

theorem State.takeRecord_memOk {q off : Nat} (hs : s.MemOk) : ∀ u ∈ s.takeRecord q off, u.MemOk := by
  unfold State.takeRecord
  dsimp only
  split
  · exact none_ok
  · split
    · exact some_ok (State.refuseLaunch_memOk (State.copyRecord_memOk hs))
    next hcall =>
      exact some_ok (State.acceptSpawned_memOk (State.onLaunch_memOk (ok_of_okay hcall (State.vet_memOk (State.copyRecord_memOk hs)))))

theorem execLaunchQueuePoll_memOk {q : Nat} (hs : s.MemOk) : NextOk (execLaunchQueuePoll q s) := by
  unfold execLaunchQueuePoll
  dsimp only
  split
  · exact nextOk_next.2 (State.acceptSpawned_memOk hs)
  · refine nextOk_ite (event_memOk hs) (nextOk_ite (nextOk_next.2 (State.memOk_mk hs)) ?_)
    split
    · exact event_memOk (State.memOk_mk hs)
    next hcall =>
      exact nextOk_next.2 (State.memOk_mk (ok_of_some hcall (State.takeRecord_memOk (State.setQueueDw_memOk (State.memOk_mk hs)))))

theorem State.failRecord_memOk {d rec : Nat} (hs : s.MemOk) : (s.failRecord d rec).MemOk := State.settle_memOk (State.logAt_memOk hs)

theorem execTaskCreation_memOk {slot d : Nat} (hs : s.MemOk) : NextOk (execTaskCreation slot d s) := by
  unfold execTaskCreation
  refine nextOk_ite (event_memOk hs) (nextOk_next.2 (foldl_memOk (fun _ _ h => ?_) (State.onLaunch_memOk hs)))
  split
  · exact State.ite_memOk (State.failRecord_memOk (State.createRecord_memOk h)) (State.createRecord_memOk h)
  · exact h

theorem State.startNext_memOk {q : Nat} {offs : List Nat} (hs : s.MemOk) : (State.startNext q offs s).2.MemOk := by
  induction offs generalizing s with
  | nil => exact hs
  | cons off offs ih =>
    unfold State.startNext
    split
    next ht => exact ih (ok_of_some ht (State.takeRecord_memOk hs))
    next => exact hs

theorem State.finishLaunch_memOk {slot : Nat} {next : List Nat} (hs : s.MemOk) : (s.finishLaunch slot next).MemOk := by
  unfold State.finishLaunch
  split
  next hcall =>
    exact State.ite_memOk (State.memOk_mk (ok_of_snd hcall (State.startNext_memOk hs)))
      (State.onLaunch_memOk (ok_of_snd hcall (State.startNext_memOk hs)))

theorem execLaunchCompletion_memOk {slot : Nat} (hs : s.MemOk) : NextOk (execLaunchCompletion slot s) := by
  unfold execLaunchCompletion
  dsimp only
  split
  · exact event_memOk (State.finishLaunch_memOk hs)
  · exact nextOk_ite (event_memOk hs) (nextOk_next.2 (State.finishLaunch_memOk
      (foldl_memOk (fun _ _ h => State.setRecState_memOk h) (State.writeCompletion_memOk (State.releaseStreams_memOk hs)))))

/-! `Sys2Proof/Machine/Reuse.lean`. -/

theorem State.setReuseDw_memOk {d e i v : Nat} (hs : s.MemOk) : (s.setReuseDw d e i v).MemOk := State.performBytes_ok _ _ _ hs

theorem State.emptyEntry_memOk {d e tenant coord : Nat} (hs : s.MemOk) : (s.emptyEntry d e tenant coord).MemOk :=
  State.logAt_memOk (State.performBytes_ok _ _ _ hs)

theorem State.taskKey_memOk {d rec : Nat} (hs : s.MemOk) : ∀ u ∈ s.taskKey d rec, u.2.MemOk := by
  unfold State.taskKey
  dsimp only
  split
  · split
    · exact none_ok
    next ht =>
      refine some_ok (ok_of_some_snd ht (foldl_some_ok (fun o p ho => ?_) (some_ok hs)))
      split
      · exact none_ok
      next t =>
        split
        · exact none_ok
        next hk => exact some_ok (ok_of_okay_snd hk (State.regionDigest_memOk (ho _ rfl)))
  · exact none_ok

theorem execReuseLookup_memOk {d record : Nat} (hs : s.MemOk) : NextOk (execReuseLookup d record s) := by
  unfold execReuseLookup
  refine nextOk_ite (event_memOk hs) ?_
  split
  · exact nextOk_next.2 (State.queueTask_memOk hs)
  next hcall =>
    split
    · exact nextOk_ite (nextOk_next.2 (State.memOk_mk (State.setRecDw_memOk (ok_of_some_snd hcall (State.taskKey_memOk hs)))))
        (nextOk_next.2 (State.queueTask_memOk (State.memOk_mk (ok_of_some_snd hcall (State.taskKey_memOk hs)))))
    · exact nextOk_next.2 (State.queueTask_memOk (State.memOk_mk (ok_of_some_snd hcall (State.taskKey_memOk hs))))

theorem State.writeSpot_memOk {d ctx : Nat} {x : Spot} {bs : List Byte} (hs : s.MemOk) : (s.writeSpot d ctx x bs).MemOk := by
  unfold State.writeSpot
  split
  · exact State.performThrough_memOk hs
  · exact State.performBytes_ok _ _ _ hs

theorem State.writeOutputs_memOk {d ctx : Nat} {xs : List (Nat × Spot)} {bs : List Byte} (hs : s.MemOk) : (s.writeOutputs d ctx xs bs).MemOk :=
  foldl_fst_memOk (fun _ _ h => State.writeSpot_memOk h) hs

theorem execReuseHitComplete_memOk {d record : Nat} (hs : s.MemOk) : NextOk (execReuseHitComplete d record s) := by
  unfold execReuseHitComplete
  dsimp only
  split
  · exact event_memOk hs
  · split
    · exact nextOk_ite (event_memOk hs) (nextOk_next.2 (State.settle_memOk
        (State.releaseSuccessors_memOk (State.setRecDw_memOk (State.setReuseDw_memOk (State.writeOutputs_memOk (State.memOk_mk hs)))))))
    · exact nextOk_next.2 (State.queueTask_memOk (State.setRecDw_memOk (State.emptyEntry_memOk (State.memOk_mk hs))))
    · exact nextOk_next.2 (State.queueTask_memOk (State.setRecDw_memOk (State.memOk_mk hs)))

theorem State.beginInsert_memOk {d rec : Nat} (hs : s.MemOk) : (s.beginInsert d rec).MemOk := by
  unfold State.beginInsert
  dsimp only
  split
  · refine State.ite_memOk (State.memOk_mk hs) ?_
    split
    · exact State.memOk_mk hs
    · exact State.memOk_mk (State.performBytes_ok _ _ _ (State.setRecDw_memOk (State.memOk_mk hs)))
  · exact State.memOk_mk hs

theorem State.writeVirt_memOk {d ctx va : Nat} {bs : List Byte} (hs : s.MemOk) : ∀ u ∈ s.writeVirt d ctx va bs, u.MemOk := by
  refine foldl_some_ok (fun o b ho => bind_ok fun t ht => ?_) (some_ok hs)
  split
  · exact none_ok
  · exact ite_some_ok none_ok (some_ok (State.performThrough_memOk (ho t ht)))

theorem execReuseInsertComplete_memOk {d record : Nat} (hs : s.MemOk) : NextOk (execReuseInsertComplete d record s) := by
  unfold execReuseInsertComplete
  split
  · exact event_memOk hs
  next x _ =>
    refine nextOk_ite (event_memOk hs) ?_
    split
    · exact nextOk_next.2 (State.ite_memOk (State.setRecDw_memOk (State.emptyEntry_memOk (State.memOk_mk hs)))
        (State.emptyEntry_memOk (State.memOk_mk hs)))
    next hcopied =>
      refine nextOk_next.2 (State.setReuseDw_memOk (State.setReuseDw_memOk (State.setReuseDw_memOk (ok_of_some_fst hcopied ?_))))
      split
      · exact none_ok
      · exact ite_some_ok none_ok (map_ok (P := fun u : State × Nat => u.1.MemOk) (State.writeVirt_memOk (State.memOk_mk hs)))

/-! `Sys2Proof/Machine/Snapshot.lean`. -/

theorem State.dropMarkers_memOk {j : Nat} (hs : s.MemOk) : (s.dropMarkers j).MemOk := State.onCanal_memOk hs

theorem State.setEpoch_memOk {d ctx e : Nat} (hs : s.MemOk) : (s.setEpoch d ctx e).MemOk := State.performBytes_ok _ _ _ hs

theorem State.armPlace_memOk {job p : Nat} (hs : s.MemOk) : (s.armPlace job p).MemOk :=
  State.memOk_mk (State.ite_memOk (State.setEpoch_memOk hs) hs)

theorem State.sendMarkers_memOk {job : Nat} (hs : s.MemOk) : (s.sendMarkers job).MemOk := foldl_memOk (fun _ _ h => State.sendOrHold_memOk h) hs

theorem execSnapshotSaved_memOk {d job : Nat} (hs : s.MemOk) : NextOk (execSnapshotSaved d job s) :=
  nextOk_ite (event_memOk hs) (nextOk_next.2 (State.ite_memOk
    (State.onJob_memOk (State.sendMarkers_memOk (State.onJob_memOk (State.armPlace_memOk hs)))) (State.onJob_memOk (State.armPlace_memOk hs))))

theorem State.sweepOne_memOk {d ctx va : Nat} {l : Leaf} (hs : s.MemOk) : (s.sweepOne d ctx va l).MemOk :=
  State.ite_memOk (State.markSaved_memOk (State.copyGranule_memOk hs)) hs

theorem State.sweep_memOk {d ctx : Nat} (hs : s.MemOk) : (s.sweep d ctx).MemOk :=
  foldl_memOk (fun _ _ h => foldl_memOk (fun _ _ h1 => State.sweepOne_memOk h1) h) hs

theorem State.discardSeat_memOk {c n : Nat} (hs : s.MemOk) : (s.discardSeat c n).MemOk := State.freeSeat_memOk (State.onCore_memOk hs)

theorem State.stopJob_memOk {job : Nat} (hs : s.MemOk) : (s.stopJob job).MemOk :=
  State.memOk_mk (foldl_memOk (fun _ _ h => State.discardSeat_memOk h) hs)

theorem State.remapPage_memOk {ctx : Nat} {xs : List Copied} {old f : Nat × Nat} (hs : s.MemOk) : (s.remapPage ctx xs old f).MemOk :=
  foldl_memOk (fun _ _ h => State.dropTlb_memOk h) (State.memOk_mk
    (State.dropDigests_memOk (foldl_memOk (fun _ _ h => State.ite_memOk (State.performBytes_ok _ _ _ h) h)
    (foldl_memOk (fun _ _ h => State.onEntry_memOk h) hs))))

theorem State.remapPages_memOk {ctx : Nat} {xs : List Copied} {ps fs : List (Nat × Nat)} (hs : s.MemOk) :
    ∀ u ∈ s.remapPages ctx xs ps fs, u.MemOk := by
  induction ps generalizing s fs with
  | nil => exact some_ok hs
  | cons p ps ih =>
    cases fs with
    | nil => exact none_ok
    | cons f fs => exact ite_some_ok (ih (State.remapPage_memOk hs)) none_ok

theorem State.writeBack_memOk {d ctx e : Nat} {x : Copied} (hs : s.MemOk) : (s.writeBack d ctx e x).MemOk := by
  unfold State.writeBack
  split
  · exact hs
  · split
    exact State.ite_memOk (State.markSaved_memOk (State.performBytes_ok _ _ _ (State.ite_memOk (State.dropDigests_memOk hs) hs))) hs

theorem State.restorePlace_memOk {job : Nat} {x : Saved} (hs : s.MemOk) : (s.restorePlace job x).MemOk :=
  State.memOk_mk (foldl_memOk (fun _ _ h => State.writeGate_memOk h) (State.performBytes_ok _ _ _ hs))

theorem State.reinject_memOk {r : ChannelRecord} (hs : s.MemOk) : (s.reinject r).MemOk := by
  unfold State.reinject
  extract_lets s1 s2 s3
  have hmsg : s1.MemOk := by
    unfold s1
    split
    next p _ =>
      refine State.ite_memOk ?_ (State.ite_memOk hs ?_)
      · split
        next hat => exact ok_of_okay_snd hat (State.atomicRequest_memOk hs)
        · exact hs
      · split
        · exact hs
        · exact foldl_fst_memOk (fun _ _ h => State.performBytes_ok _ _ _ h) hs
    next station h _ =>
      refine State.ite_memOk ?_ (State.ite_memOk ?_ (State.performBytes_ok _ _ _ hs))
      · split
        · exact State.decrement_memOk hs
        · exact hs
      · split
        · exact State.atomicAt_memOk hs
        · exact hs
  have hgate : s2.MemOk := by
    unfold s2
    split
    · exact State.writeGate_memOk hmsg
    · exact hmsg
  have hflag : s3.MemOk := by
    unfold s3
    split
    · exact State.setFlag_memOk hgate
    · exact hgate
  split
  · exact State.memOk_mk hflag
  · exact hflag

theorem State.restoreRecords_memOk {job : Nat} {saved : List Saved} (hs : s.MemOk) : (s.restoreRecords job saved).MemOk := by
  unfold State.restoreRecords
  dsimp only
  refine foldl_memOk (fun _ _ h => foldl_memOk (fun _ _ h1 => State.ite_memOk h1
    (State.ite_memOk (State.queueTask_memOk (State.memOk_mk (State.performBytes_ok _ _ _ h1)))
    (State.memOk_mk (State.performBytes_ok _ _ _ h1)))) h) (foldl_memOk (fun _ _ h => ?_) hs)
  split <;> exact State.onLaunch_memOk (foldl_memOk (fun _ _ h1 => State.setRecState_memOk h1)
    (foldl_memOk (fun _ _ h1 => State.onCore_memOk h1) h))

theorem State.endJob_memOk {job : Nat} (hs : s.MemOk) : (s.endJob job).MemOk :=
  foldl_memOk (fun _ _ h => foldl_memOk (fun _ _ h1 => State.ite_memOk (State.settle_memOk (State.onCore_memOk (State.logAt_memOk h1))) h1)
    (State.onLaunch_memOk h)) (State.memOk_mk (foldl_memOk (fun _ _ h => State.failTask_memOk h) hs))

theorem State.remapped_memOk {job e : Nat} {frames : List (Nat × Nat)} (hs : s.MemOk) : ∀ u ∈ s.remapped job e frames, u.MemOk :=
  State.remapPages_memOk (State.onCanal_memOk (State.stopJob_memOk hs))

theorem State.rolledBack_memOk {job e : Nat} {dies : List Nat} (hs : s.MemOk) : (s.rolledBack job e dies).MemOk :=
  foldl_memOk (fun _ _ h => State.logAt_memOk h) (State.dropMarkers_memOk
    (State.onJob_memOk (foldl_memOk (fun _ _ h => State.queueTask_memOk h)
    (State.memOk_mk (foldl_memOk (fun _ _ h => State.reinject_memOk h)
    (State.restoreRecords_memOk (foldl_memOk (fun _ _ h => State.restorePlace_memOk h)
    (foldl_memOk (fun _ _ h => foldl_memOk (fun _ _ h1 => State.writeBack_memOk h1) h)
    (foldl_memOk (fun _ _ h => State.setEpoch_memOk h) hs)))))))))

theorem execRollback_memOk {job : Nat} {verified : Bool} {frames : List (Nat × Nat)} (hs : s.MemOk) :
    NextOk (execRollback job verified frames s) := by
  unfold execRollback
  dsimp only
  split
  · exact event_memOk hs
  · refine nextOk_ite (event_memOk hs) (nextOk_ite (nextOk_next.2 (State.endJob_memOk hs)) ?_)
    split
    · exact event_memOk hs
    next hcall =>
      exact nextOk_ite (nextOk_next.2 (State.rolledBack_memOk (ok_of_some hcall (State.remapped_memOk hs))))
        (nextOk_next.2 (State.endJob_memOk (ok_of_some hcall (State.remapped_memOk hs))))

theorem State.logMemory_memOk {cls addr : Nat} (hs : s.MemOk) : (s.logMemory cls addr).MemOk := by
  unfold State.logMemory
  split
  · exact State.logAt_memOk (State.memOk_mk hs)
  · exact State.logAt_memOk (State.memOk_mk hs)
  · exact State.logAt_memOk (State.memOk_mk hs)
  · exact State.logAt_memOk (State.memOk_mk hs)
  · exact State.logAt_memOk (State.memOk_mk hs)
  · exact State.logAt_memOk (State.memOk_mk hs)
  · exact State.logAt_memOk (State.memOk_mk hs)
  · exact State.logMgmt_memOk (State.memOk_mk hs)

theorem State.readerFaults_memOk {c n k : Nat} {tval : Word} (hs : s.MemOk) : (s.readerFaults c n k tval).MemOk := by
  unfold State.readerFaults
  refine State.ite_memOk (State.onCmd_memOk hs) ?_
  split
  · exact State.loseTrip_memOk (State.dropRequests_memOk hs)
  · exact State.ite_memOk (State.trapHere_memOk hs) (State.onSeat_memOk hs)

theorem State.retireBlock_memOk {block : Nat} (hs : s.MemOk) : (s.retireBlock block).MemOk := State.ite_memOk hs (State.memOk_mk hs)

theorem execUncorrectableRead_memOk {addr : Nat} {again : Bool} {reader : Option (Nat × Nat × Nat)} (hs : s.MemOk) :
    NextOk (execUncorrectableRead addr again reader s) := by
  unfold execUncorrectableRead
  extract_lets known corrected s1 s2 s3 s4 j s5
  have hlog : s2.MemOk := State.ite_memOk (State.memOk_mk (State.logMemory_memOk hs)) (State.logMemory_memOk hs)
  have hretire : s3.MemOk := by
    unfold s3
    split
    · exact State.retireBlock_memOk hlog
    · exact State.retireBlock_memOk hlog
    · exact hlog
  have hmap : s4.MemOk := by
    unfold s4
    split
    · exact State.onCore_memOk hretire
    · exact hretire
  have hreader : s5.MemOk := by
    unfold s5
    split
    · exact hmap
    · exact State.readerFaults_memOk hmap
  refine nextOk_ite (event_memOk hs) (nextOk_ite (event_memOk (State.logMemory_memOk hs)) (nextOk_ite (nextOk_next.2 hreader) ?_))
  exact nextOk_ite (nextOk_next.2 (State.ite_memOk hreader (State.onJob_memOk hreader))) (nextOk_next.2 (State.endJob_memOk hreader))

theorem State.stopJobs_memOk (hs : s.MemOk) : (s.stopJobs).MemOk :=
  State.memOk_mk (foldl_memOk (fun _ _ h => State.replyHost_memOk h) (foldl_memOk (fun _ _ h => State.endJob_memOk h) hs))

theorem execFlumeHopFailure_memOk {station : Nat} {again : Bool} (hs : s.MemOk) : NextOk (execFlumeHopFailure station again s) :=
  event_memOk (State.ite_memOk (State.logStation_memOk hs) (State.stopJobs_memOk (State.logStation_memOk (State.memOk_mk hs))))

/-! `Sys2Proof/Machine/Host.lean`. -/

theorem State.enterWrite_memOk {port tenant die ctx : Nat} {bs : List (Nat × Byte)} {m : Option (BitVec 512)} {leaf : Option Leaf} {va : Option Nat} (hs : s.MemOk) :
    (s.enterWrite port tenant die ctx bs m leaf va).MemOk :=
  State.post_memOk hs

theorem State.enterFlagClass_memOk {port : Nat} {bs : List (Nat × Byte)} (hs : s.MemOk) : (s.enterFlagClass port bs).MemOk := State.post_memOk hs

theorem State.refuseHost_memOk {a : HostAccess} (hs : s.MemOk) : (s.refuseHost a).MemOk :=
  State.ite_memOk (State.logMgmt_memOk hs) (State.logAt_memOk hs)

theorem State.enterTail_memOk {port q : Nat} {value : Word} (hs : s.MemOk) : (s.enterTail port q value).MemOk :=
  State.ite_memOk (State.writeTail_memOk hs) (State.post_memOk hs)

theorem State.enterQueuePage_memOk {port q o : Nat} {data : List Byte} (hs : s.MemOk) : (s.enterQueuePage port q o data).MemOk :=
  State.ite_memOk hs (State.enterTail_memOk hs)

theorem execHostPostedWrite_memOk {a : HostAccess} {data : List Byte} (hs : s.MemOk) : NextOk (execHostPostedWrite a data s) := by
  unfold execHostPostedWrite
  refine nextOk_ite (nextOk_ite ?_ (nextOk_ite (event_memOk (State.ite_memOk (State.refuseHost_memOk hs)
    (State.ite_memOk (State.enterFlagClass_memOk hs) (State.enterWrite_memOk hs)))) (event_memOk hs)))
    (nextOk_ite (event_memOk hs) (nextOk_ite (event_memOk (State.ite_memOk hs
    (State.ite_memOk (State.refuseHost_memOk hs) (State.ite_memOk hs (State.enterWrite_memOk hs))))) (event_memOk hs)))
  split
  · exact event_memOk (State.ite_memOk (State.enterQueuePage_memOk hs) (State.refuseHost_memOk hs))
  · exact event_memOk (State.ite_memOk (State.refuseHost_memOk hs)
      (State.ite_memOk hs (State.ite_memOk (State.refuseHost_memOk hs) (State.ite_memOk hs (State.enterWrite_memOk hs)))))

theorem execFlagClassWritePerform_memOk {port : Nat} (hs : s.MemOk) : NextOk (execFlagClassWritePerform port s) := by
  unfold execFlagClassWritePerform
  split
  · exact event_memOk hs
  · split
    · exact event_memOk (State.writeBytes_ok _ _ _ (State.unpost_memOk hs))
    · exact event_memOk hs

theorem State.startRead_memOk {port tenant : Nat} {left : List ReadByte} {atomic : Option Atomic} (hs : s.MemOk) :
    (s.startRead port tenant left atomic).MemOk :=
  State.memOk_mk hs

theorem State.endRead_memOk {r : HostRead} (hs : s.MemOk) : (s.endRead r).MemOk := State.replyHost_memOk (State.memOk_mk hs)

theorem State.readOn_memOk {r : HostRead} (hs : s.MemOk) : (s.readOn r).MemOk := by
  unfold State.readOn
  split
  · exact hs
  · exact State.endRead_memOk hs
  · exact State.onHostRead_memOk hs
  · refine State.ite_memOk (State.endHostRead_memOk hs) (State.ite_memOk (State.ite_memOk hs (State.onHostRead_memOk ?_)) ?_)
    · split <;> exact State.xiAsk_memOk hs
    · split
      · split
        next hcall =>
          exact State.endRead_memOk (ok_of_snd hcall (State.atomicAt_memOk hs))
      · exact State.onHostRead_memOk hs

theorem State.hostTick_memOk (hs : s.MemOk) : (s.hostTick).MemOk := foldl_memOk (fun _ _ h => State.readOn_memOk h) hs

theorem execHostRead_memOk {a : HostAccess} {len : Nat} (hs : s.MemOk) : NextOk (execHostRead a len s) :=
  nextOk_ite (event_memOk (State.startRead_memOk hs)) (nextOk_ite
    (nextOk_ite (event_memOk (State.ite_memOk (State.startRead_memOk hs) (State.replyHost_memOk hs)))
    (nextOk_ite (event_memOk (State.ite_memOk (State.startRead_memOk hs) (State.replyHost_memOk hs))) (event_memOk hs)))
    (nextOk_ite (event_memOk (State.ite_memOk (State.startRead_memOk hs) (State.replyHost_memOk hs)))
    (nextOk_ite (event_memOk (State.ite_memOk (State.startRead_memOk hs) (State.replyHost_memOk hs))) (event_memOk hs))))

theorem execHostAtomic_memOk {a : HostAccess} {op : HostAtomicOp} {wide : Bool} {value compare : Word} (hs : s.MemOk) :
    NextOk (execHostAtomic a op wide value compare s) := by
  unfold execHostAtomic
  dsimp only
  split
  · exact event_memOk (State.replyHost_memOk hs)
  · exact event_memOk (State.startRead_memOk hs)

theorem execHostFetchaddResv_memOk {a : HostAccess} {amount : Word} (hs : s.MemOk) : NextOk (execHostFetchaddResv a amount s) := by
  unfold execHostFetchaddResv
  split
  · exact event_memOk hs
  · exact event_memOk (State.ite_memOk (State.replyHost_memOk (State.setQueueDw_memOk hs)) (State.replyHost_memOk hs))

theorem execQueueTailWrite_memOk {a : HostAccess} {value : Word} (hs : s.MemOk) : NextOk (execQueueTailWrite a value s) := by
  unfold execQueueTailWrite
  split
  · exact event_memOk hs
  · exact event_memOk (State.ite_memOk (State.enterTail_memOk hs) (State.refuseHost_memOk hs))

theorem execHostBar4Access_memOk {a : HostAccess} {len : Nat} {data : Option (List Byte)} (hs : s.MemOk) :
    NextOk (execHostBar4Access a len data s) := by
  unfold execHostBar4Access
  split
  · refine event_memOk ?_
    split
    · exact State.startRead_memOk hs
    · exact State.replyHost_memOk hs
  · refine event_memOk (State.ite_memOk hs ?_)
    split
    · exact State.refuseHost_memOk hs
    · exact foldl_fst_memOk (fun _ _ h => State.enterWrite_memOk h) hs

theorem State.endRequest_memOk {off status : Nat} (hs : s.MemOk) : (s.endRequest off status).MemOk :=
  State.performBytes_ok _ _ _ (State.memOk_mk hs)

theorem State.keyRequest_memOk {name : String} {op : Nat} {act : Nat → Word → State × Nat} {ready : Nat → Bool} (hs : s.MemOk) (hact : ∀ a b, (act a b).1.MemOk) :
    NextOk (s.keyRequest name op act ready) := by
  unfold State.keyRequest
  split
  · exact event_memOk hs
  · refine nextOk_ite (event_memOk hs) (nextOk_ite (nextOk_next.2 (State.endRequest_memOk hs)) (nextOk_ite (event_memOk hs) ?_))
    split
    next hcall =>
      exact nextOk_next.2 (State.endRequest_memOk (ok_of_fst hcall (hact _ _)))

theorem State.wrapUsed_memOk {blob : Nat} (hs : s.MemOk) : (s.wrapUsed blob).MemOk := by
  unfold State.wrapUsed
  split
  exact State.memOk_mk hs

theorem execKeyLoad_memOk {material : Option (BitVec 512)} (hs : s.MemOk) : NextOk (execKeyLoad material s) := by
  unfold execKeyLoad
  refine State.keyRequest_memOk hs (fun _ _ => ite_fst_memOk hs (ite_fst_memOk hs ?_))
  split
  · exact hs
  · exact ite_fst_memOk (State.wrapUsed_memOk hs) (foldl_memOk (fun _ _ h => State.onDie_memOk h) (State.memOk_mk (State.wrapUsed_memOk hs)))

theorem State.retireKey_memOk {id : Nat} (hs : s.MemOk) : (s.retireKey id).MemOk := State.memOk_mk (State.dropTlb_memOk hs)

theorem execKeyQuery_memOk (hs : s.MemOk) : NextOk (execKeyQuery s) := by
  unfold execKeyQuery
  refine State.keyRequest_memOk hs (fun _ _ => ?_)
  split
  · exact State.performBytes_ok _ _ _ hs
  · exact hs

theorem execKeyBadRequest_memOk (hs : s.MemOk) : NextOk (execKeyBadRequest s) := by
  unfold execKeyBadRequest
  split
  · exact event_memOk hs
  · exact event_memOk (State.endRequest_memOk hs)

theorem execPowerClassChange_memOk (hs : s.MemOk) : NextOk (execPowerClassChange s) := by
  unfold execPowerClassChange
  split
  · exact event_memOk hs
  · exact nextOk_next.2 (foldl_memOk (fun _ _ h => State.onDie_memOk h) hs)

theorem State.writeRegister_memOk {r : MgmtReg} {v : Word} (hs : s.MemOk) : (s.writeRegister r v).MemOk := by
  unfold State.writeRegister
  split
  · exact State.onCanal_memOk hs
  · exact State.onCanal_memOk hs
  · exact State.onCanal_memOk hs
  · exact State.onCanal_memOk hs
  · exact State.onCanal_memOk hs
  · exact State.ite_memOk hs (State.memOk_mk hs)
  · exact State.onDie_memOk hs
  · exact State.memOk_mk hs
  · exact State.ite_memOk hs (State.onDie_memOk hs)
  · exact State.memOk_mk hs
  · exact State.memOk_mk hs
  · exact State.memOk_mk hs
  · exact State.ite_memOk hs (State.memOk_mk hs)
  · exact State.onCore_memOk hs
  · exact State.onDie_memOk hs
  · exact State.memOk_mk hs
  · exact State.onDie_memOk hs
  · exact hs

/-! `Sys2Proof/Machine/Matrix.lean`. -/

theorem State.beat_memOk {drawer row : Nat} {act : Row → State → State} (hs : s.MemOk) (hact : ∀ a t, t.MemOk → (act a t).MemOk) :
    (s.beat drawer row act).MemOk := by
  unfold State.beat
  dsimp only
  split
  · exact hact _ _ hs
  · exact State.stall_memOk hs
  · exact State.raise_memOk hs

theorem State.atCursor_memOk {act : Nat → State → State} (hs : s.MemOk) (hact : ∀ a t, t.MemOk → (act a t).MemOk) : (s.atCursor act).MemOk :=
  hact _ _ (State.fly_memOk hs)

theorem State.push_memOk {add : Bool} {fmt : MFmt} {a : List Nat} (hs : s.MemOk) : (s.push add fmt a).MemOk :=
  State.ite_memOk (State.raise_memOk hs) (State.atCursor_memOk (State.onCore_memOk hs) (fun _ _ h => State.fly_memOk h))

theorem State.shiftIn_memOk {xs : List Nat} (hs : s.MemOk) : (s.shiftIn xs).MemOk := State.fly_memOk hs

theorem State.streamPush_memOk {f : Mblk} {add : Bool} (hs : s.MemOk) : (s.streamPush f add).MemOk := by
  unfold State.streamPush
  dsimp only
  split
  · exact State.raise_memOk hs
  · split
    · exact State.raise_memOk hs
    · split
      · exact State.raise_memOk hs
      · split
        · exact State.busy_memOk (State.push_memOk (State.onMe_memOk hs))
        · exact State.ite_memOk (State.raise_memOk hs) (State.stall_memOk (State.onMe_memOk hs))

theorem State.streamAsk_memOk {c n row : Nat} {t : Stream} {lack : List (Nat × List Spot)} (hs : s.MemOk) : (s.streamAsk c n row t lack).MemOk := by
  unfold State.streamAsk
  dsimp only
  exact State.onSeat_memOk (State.askSelector_memOk (State.newTrip_memOk (State.noteMisses_memOk hs)))

theorem State.streamSend_memOk {c n : Nat} {t : Stream} {r : StreamRead} (hs : s.MemOk) : (s.streamSend c n t r).MemOk := by
  unfold State.streamSend
  split
  · exact hs
  · refine State.ite_memOk (State.onStream_memOk hs) (State.ite_memOk ?_ ?_)
    · split
      next hcall =>
        exact State.onStream_memOk (ok_of_snd hcall (State.askPeer_memOk hs))
    · split
      next hcall =>
        exact State.onStream_memOk (ok_of_fst hcall (State.askFlume_memOk hs))

theorem State.streamTake_memOk {c n : Nat} {t : Stream} {r : StreamRead} (hs : s.MemOk) : (s.streamTake c n t r).MemOk :=
  State.ite_memOk (State.onStream_memOk (State.logRefusalAt_memOk hs)) (State.onSeat_memOk (State.onStream_memOk hs))

theorem execPrefetchReadArrival_memOk {c n : Nat} (hs : s.MemOk) : NextOk (execPrefetchReadArrival c n s) := by
  unfold execPrefetchReadArrival
  dsimp only
  split
  · exact event_memOk hs
  · split
    · exact nextOk_next.2 (State.streamSend_memOk hs)
    · split
      · exact nextOk_next.2 (State.streamAsk_memOk hs)
      · split
        · exact event_memOk hs
        · exact nextOk_next.2 (State.streamTake_memOk hs)

theorem State.drained_memOk {src : DrainSrc} {f : FpFmt} {deliver : List Nat → State → State} (hs : s.MemOk) (hdeliver : ∀ a t, t.MemOk → (deliver a t).MemOk) :
    (s.drained src f deliver).MemOk := by
  unfold State.drained
  refine State.atCursor_memOk hs (fun _ _ h => ?_)
  split
  exact State.fly_memOk (hdeliver _ _ h)

theorem execMdrb_memOk {f : Mdrb} (hs : s.MemOk) : NextOk (execMdrb f s) :=
  State.guarded_memOk hs (fun _ h => State.ite_memOk (State.atCursor_memOk h (fun _ _ h1 => State.fly_memOk h1))
    (State.drained_memOk h (fun _ _ h1 => State.ite_memOk (State.fly_memOk h1) (State.fly_memOk (State.fly_memOk h1)))))

theorem execMbld_memOk {f : Mrow} (hs : s.MemOk) : NextOk (execMbld f s) :=
  State.guarded_memOk hs (fun _ h => State.beat_memOk h (fun _ _ h1 => State.atCursor_memOk h1 (fun _ _ h2 => State.fly_memOk h2)))

theorem State.advanceArray_memOk {c n : Nat} (hs : s.MemOk) : (s.advanceArray c n).MemOk := State.onCore_memOk hs

/-! `Sys2Proof/Machine/Package.lean`. -/

theorem State.scrub_memOk {c : Nat} (hs : s.MemOk) : (s.scrub c).MemOk := State.onCore_memOk (State.wipe_ok _ _ hs)

theorem State.setOwner_memOk {c : Nat} {o : Owner} (hs : s.MemOk) : (s.setOwner c o).MemOk := foldl_memOk (fun _ _ h => State.onDie_memOk h) hs

theorem State.failDie_memOk {d : Nat} (hs : s.MemOk) : (s.failDie d).MemOk :=
  foldl_memOk (fun _ _ h => State.failRecord_memOk h) (foldl_memOk (fun _ _ h => State.failRecord_memOk h)
    (State.memOk_mk (foldl_memOk (fun _ _ h => State.failTask_memOk h) hs)))

theorem State.abandonJobs_memOk {d : Nat} (hs : s.MemOk) : (s.abandonJobs d).MemOk := State.memOk_mk hs

theorem State.bypassStation_memOk {station : Nat} (hs : s.MemOk) : (s.bypassStation station).MemOk := State.memOk_mk (State.serrStreams_memOk hs)

theorem State.clearDie_memOk {d : Nat} (hs : s.MemOk) : (s.clearDie d).MemOk := State.memOk_mk (State.wipe_ok _ _ hs)

theorem State.startReset_memOk {d : Nat} (hs : s.MemOk) : (s.startReset d).MemOk :=
  State.bypassStation_memOk (foldl_memOk (fun _ _ h => State.setOwner_memOk h)
    (State.failDie_memOk (State.abandonJobs_memOk (State.onDie_memOk hs))))

theorem State.endReset_memOk {d : Nat} (hs : s.MemOk) : (s.endReset d).MemOk :=
  State.clearDie_memOk (foldl_memOk (fun _ _ h => State.retireKey_memOk h) hs)

theorem State.resetTick_memOk {d : Nat} (hs : s.MemOk) : (s.resetTick d).MemOk := State.ite_memOk (State.endReset_memOk hs) hs

theorem State.setTdis_memOk {d v : Nat} (hs : s.MemOk) : (s.setTdis d v).MemOk := State.onDie_memOk hs

theorem execTdispMessage_memOk {d : Nat} {m : TdispMsg} (hs : s.MemOk) : NextOk (execTdispMessage d m s) := by
  unfold execTdispMessage
  refine event_memOk ?_
  split
  · exact State.ite_memOk (State.replyHost_memOk (State.setTdis_memOk hs)) (State.replyHost_memOk hs)
  · exact State.ite_memOk (State.replyHost_memOk (State.setTdis_memOk hs)) (State.replyHost_memOk hs)
  · exact State.ite_memOk (State.replyHost_memOk (State.startReset_memOk hs)) (State.replyHost_memOk (State.setTdis_memOk hs))
  · exact State.replyHost_memOk hs
  · exact State.replyHost_memOk hs

theorem execSpdmRequest_memOk {fn index : Nat} (hs : s.MemOk) : NextOk (execSpdmRequest fn index s) :=
  event_memOk (State.ite_memOk (State.replyHost_memOk hs) (State.ite_memOk (State.replyHost_memOk hs) (State.replyHost_memOk hs)))

theorem State.broughtUp_memOk {stamp : Nat} (hs : s.MemOk) : (s.broughtUp stamp).MemOk :=
  foldl_memOk (fun _ _ h => State.onDie_memOk h) (foldl_memOk (fun _ _ h => State.onLink_memOk h) (State.memOk_mk hs))

/-! `Sys2Proof/Machine/Scalar.lean`. -/

theorem intOp_memOk {lat : Nat} {op : Word → Word → Word} {f : S3} (hs : s.MemOk) : NextOk (intOp lat op f s) :=
  State.guarded_memOk hs (fun _ h => State.result_memOk h)

theorem intUnary_memOk {op : Word → Word} {f : S2} (hs : s.MemOk) : NextOk (intUnary op f s) :=
  State.guarded_memOk hs (fun _ h => State.result_memOk h)

theorem intMerge_memOk {op : Word → Word → Word → Word} {f : S3} (hs : s.MemOk) : NextOk (intMerge op f s) :=
  State.guarded_memOk hs (fun _ h => State.result_memOk h)

theorem fpOp_memOk {lat : Nat} {fmt : FpFmt} {op : Nat → Nat → Nat} {f : S3} (hs : s.MemOk) : NextOk (fpOp lat fmt op f s) :=
  State.guarded_memOk hs (fun _ h => State.result_memOk h)

theorem fpFused_memOk {fmt : FpFmt} {f : S3} (hs : s.MemOk) : NextOk (fpFused fmt f s) :=
  State.guarded_memOk hs (fun _ h => State.result_memOk h)

theorem fpRoot_memOk {fmt : FpFmt} {f : S2} (hs : s.MemOk) : NextOk (fpRoot fmt f s) := State.guarded_memOk hs (fun _ h => State.result_memOk h)

theorem State.setPair_memOk {u : UnitId} {lat j : Nat} {c : Bool} (hs : s.MemOk) : (s.setPair u lat j c).MemOk := State.fly_memOk hs

theorem State.pairResult_memOk {u : UnitId} {p : PairDst} {lat x y : Nat} (hs : s.MemOk) : (s.pairResult u p lat x y).MemOk :=
  State.result_memOk (State.result_memOk hs)

theorem pairOp_memOk {op : FpFmt → Nat → Nat → Nat × Nat} {f : Spair} (hs : s.MemOk) : NextOk (pairOp op f s) :=
  State.guarded_memOk hs (fun _ h => State.pairResult_memOk h)

theorem execCsrr_memOk {f : Scsrr} (hs : s.MemOk) : NextOk (execCsrr f s) :=
  State.guarded_memOk hs (fun _ h => State.ite_memOk (State.raise_memOk h) (State.ite_memOk (State.impure_memOk h) (State.result_memOk h)))

theorem execCsrw_memOk {f : Scsrw} (hs : s.MemOk) : NextOk (execCsrw f s) :=
  State.guarded_memOk hs (fun _ h => State.ite_memOk (State.raise_memOk h)
    (State.ite_memOk (State.impure_memOk h) (State.busy_memOk (State.fly_memOk h))))

/-! `Sys2Proof/Machine/Side.lean`. -/

theorem State.setSideAt_memOk {c : Nat} {storer : Bool} {x : Side} (hs : s.MemOk) : (s.setSideAt c storer x).MemOk := State.onCore_memOk hs

theorem State.onSide_memOk {f : Side → Side} (hs : s.MemOk) : (s.onSide f).MemOk := State.setSideAt_memOk hs

theorem State.stopSideAt_memOk {c : Nat} {storer : Bool} {cause val : Nat} (hs : s.MemOk) : (s.stopSideAt c storer cause val).MemOk :=
  State.logAt_memOk (State.setSideAt_memOk hs)

theorem State.stopSide_memOk {cause val : Nat} (hs : s.MemOk) : (s.stopSide cause val).MemOk := State.stopSideAt_memOk hs

theorem State.sideResult_memOk {d : Reg5} {v : Word} (hs : s.MemOk) : (s.sideResult d v).MemOk := State.onSide_memOk hs

theorem State.sideDone_memOk (hs : s.MemOk) : (s.sideDone).MemOk := State.onSide_memOk hs

theorem State.sideWait_memOk (hs : s.MemOk) : (s.sideWait).MemOk := State.onSide_memOk hs

theorem execSideCoreRv64Instruction_memOk {i : RvInstr} (hs : s.MemOk) : NextOk (execSideCoreRv64Instruction i s) := by
  unfold execSideCoreRv64Instruction
  split
  · exact nextOk_next.2 (State.onSide_memOk hs)
  · exact nextOk_next.2 (State.sideDone_memOk (State.store_ok _ _ hs))
  · exact nextOk_next.2 (State.onSide_memOk hs)
  · exact nextOk_next.2 (State.stopSide_memOk hs)

theorem State.sideCount_memOk {c : Nat} {storer : Bool} (hs : s.MemOk) : (s.sideCount c storer).MemOk := State.setSideAt_memOk hs

theorem execSideCoreException_memOk {c : Nat} {storer : Bool} (hs : s.MemOk) : NextOk (execSideCoreException c storer s) := by
  unfold execSideCoreException
  refine nextOk_ite (event_memOk hs) ?_
  split
  · exact event_memOk hs
  · exact nextOk_next.2 (State.stopSideAt_memOk (State.sideCount_memOk hs))

theorem State.onJseat_memOk {f : Seat → Seat} (hs : s.MemOk) : (s.onJseat f).MemOk := State.onSeat_memOk hs

theorem execJqPull_memOk {d : Reg5} (hs : s.MemOk) : NextOk (execJqPull d s) := by
  unfold execJqPull
  dsimp only
  split
  · exact nextOk_next.2 (State.sideWait_memOk hs)
  · exact nextOk_ite (nextOk_next.2 (State.sideWait_memOk hs)) (nextOk_next.2 (State.sideResult_memOk (State.onJseat_memOk hs)))

theorem State.sideFail_memOk {f : Fail} (hs : s.MemOk) : (s.sideFail f).MemOk := State.stopSide_memOk hs

theorem execJCpy_memOk {d a b : Reg5} (hs : s.MemOk) : NextOk (execJCpy d a b s) := by
  unfold execJCpy
  dsimp only
  split
  · exact nextOk_next.2 (State.sideFail_memOk hs)
  next hcall =>
    exact nextOk_next.2 (State.sideResult_memOk (ok_of_okay_snd hcall (State.acceptCopy_memOk hs)))

theorem execJDclm_memOk {d a b : Reg5} (hs : s.MemOk) : NextOk (execJDclm d a b s) := by
  unfold execJDclm
  dsimp only
  split
  · exact nextOk_next.2 (State.sideFail_memOk hs)
  next hcall =>
    exact nextOk_next.2 (State.sideResult_memOk (ok_of_okay_snd hcall (State.acceptClaim_memOk hs)))

theorem execJWtc_memOk {d a : Reg5} (hs : s.MemOk) : NextOk (execJWtc d a s) :=
  nextOk_ite (nextOk_next.2 (State.sideWait_memOk hs)) (nextOk_next.2
    (State.ite_memOk (State.onSide_memOk (State.sideResult_memOk hs)) (State.sideResult_memOk hs)))

theorem State.sideRelease_memOk {e : Nat} {pair : Bool} (hs : s.MemOk) : (s.sideRelease e pair).MemOk := by
  unfold State.sideRelease
  dsimp only
  split
  · exact State.sideFail_memOk hs
  · exact State.sideDone_memOk (State.release_memOk hs)

theorem execJAcq_memOk {e _sc : Reg5} (hs : s.MemOk) : NextOk (execJAcq e _sc s) := by
  unfold execJAcq
  dsimp only
  split
  · exact nextOk_next.2 (State.ite_memOk (State.sideWait_memOk hs) (State.sideDone_memOk hs))
  · exact nextOk_next.2 (State.sideFail_memOk hs)
  · exact nextOk_ite (nextOk_next.2 (State.onSide_memOk (State.askAcquire_memOk hs)))
      (nextOk_ite (nextOk_next.2 (State.sideWait_memOk hs)) (nextOk_next.2 (State.sideDone_memOk hs)))

theorem State.sideMessages_memOk {item : Posted} {b : LteBits} {bs : List (Nat × Byte)} {tag : Nat} {now : Bool} (hs : s.MemOk) :
    (s.sideMessages item b bs tag now).MemOk :=
  foldl_memOk (fun _ _ h => State.ite_memOk (State.enqueue_memOk (State.post_memOk h)) (State.post_memOk h)) hs

theorem execJSbeq_memOk {e ctl dat : Reg5} (hs : s.MemOk) : NextOk (execJSbeq e ctl dat s) := by
  unfold execJSbeq
  dsimp only
  refine nextOk_ite (nextOk_next.2 (State.stopSide_memOk hs)) ?_
  split
  · exact nextOk_next.2 (State.sideFail_memOk hs)
  · split
    · exact nextOk_next.2 (State.sideFail_memOk hs)
    · exact nextOk_ite (nextOk_next.2 (State.sideDone_memOk (State.sideMessages_memOk (State.askSelector_memOk hs))))
        (nextOk_next.2 (State.sideDone_memOk (State.post_memOk (State.post_memOk (State.askSelector_memOk hs)))))

theorem State.sideOpen_memOk {c : Nat} {storer : Bool} {word : Nat} (hs : s.MemOk) : (s.sideOpen c storer word).MemOk :=
  State.memOk_mk (State.sideCount_memOk hs)

theorem State.sideIdle_memOk {c : Nat} {storer : Bool} (hs : s.MemOk) : (s.sideIdle c storer).MemOk := State.setSideAt_memOk hs

/-! `Sys2Proof/Machine/Dispatch.lean`. -/

theorem exec_memOk {i : Instr} (hs : s.MemOk) : NextOk (exec i s) := by
  unfold exec
  cases i with
  | psc | pim | pimh => exact nextOk_next.2 (State.memOk_mk hs)
  | nopb | mnop => exact nextOk_next.2 hs
  | bpt => exact State.guarded_memOk hs (fun _ h => State.setTarget_memOk h)
  | bptr | bptrRel => exact State.guarded_memOk hs (fun _ h => State.aligned_memOk h (fun _ h1 => State.setTarget_memOk h1))
  | btr | brtn => exact State.guarded_memOk hs (fun _ h => State.noDelay_memOk h (fun _ h1 => State.transfer_memOk h1))
  | bcl => exact State.guarded_memOk hs (fun _ h => State.noDelay_memOk h (fun _ h1 => State.call_memOk h1))
  | bclA => exact execBclA_memOk hs
  | brtnA => exact execBrtnA_memOk hs
  | lset | lsetReg => exact State.guarded_memOk hs (fun _ h => State.noDelay_memOk h (fun _ h1 => State.openLoop_memOk h1))
  | lstr => exact execLstr_memOk hs
  | lbrk => exact State.guarded_memOk hs (fun _ h => State.noDelay_memOk h (fun _ h1 => State.memOk_mk (State.fly_memOk h1)))
  | lrrb | movx | gset | tsrd | vanyMask | vallMask | vkop | vsett | vmovkToMask | mswp | mbas | mbasKeep | mkst | mkrd | mtsr =>
    exact State.guarded_memOk hs (fun _ h => State.fly_memOk h)
  | yld | yldp => exact State.guarded_memOk hs (fun _ h => State.noDelay_memOk h (fun _ h1 => State.commitYield_memOk h1))
  | wtc => exact execWtc_memOk hs
  | wfl => exact execWfl_memOk hs
  | wmon => exact execWmon_memOk hs
  | tspn => exact execTspn_memOk hs
  | tend => exact execTend_memOk hs
  | trap => exact State.guarded_memOk hs (fun _ h => State.trapAfter_memOk h)
  | trapSv => exact State.effectful_memOk hs (fun _ h => State.trapAfter_memOk h)
  | rtt => exact execRtt_memOk hs
  | ask => exact execAsk_memOk hs
  | askr => exact State.guarded_memOk hs (fun _ h => State.onDie_memOk (State.onMe_memOk h))
  | snap => exact execSnap_memOk hs
  | snapw => exact State.effectful_memOk hs (fun _ h => State.ite_memOk (State.snapFault_memOk h) (State.onJob_memOk h))
  | add | sub | mul | mulh | mulhu | div | divu | rem | remu | and | or | xor | andn | shl | shr | sar | rotl | min | max | minu | maxu
  | bext | addw => exact intOp_memOk hs
  | clz | ctz | popc => exact intUnary_memOk hs
  | sel | bins => exact intMerge_memOk hs
  | cmp | fcmp | qop => exact State.guarded_memOk hs (fun _ h => State.setPair_memOk h)
  | fadds | faddd | fsubs | fsubd | fmuls | fmuld | fdivs | fdivd | fmins | fmaxs | fmind | fmaxd => exact fpOp_memOk hs
  | fmas | fmad => exact fpFused_memOk hs
  | fsqrs | fsqrd => exact fpRoot_memOk hs
  | fcvt | fcls | lidx | movi | ltget | fni | cpyw | lthdr | sprb => exact State.guarded_memOk hs (fun _ h => State.result_memOk h)
  | twos | twop => exact pairOp_memOk hs
  | csrr => exact execCsrr_memOk hs
  | csrw => exact execCsrw_memOk hs
  | cycr | walw => exact State.effectful_memOk hs (fun _ h => State.result_memOk h)
  | tlbi => exact State.privileged_memOk hs (fun _ h => State.countWrite_memOk (State.postMine_memOk h))
  | vadd | vsub | vmul | vdiv | vcadd => exact vbin_memOk hs
  | vfma | vfms => exact vfused_memOk hs
  | vsqrt | vabs | vneg | vexp2 | vlog2 | vrcp | vrsq | vdq | vcrt | vres | vcls | vround | vclz | vpopc => exact vun_memOk hs
  | vmin | vmax | vmulh | vabsd => exact vbinx_memOk hs
  | vcmp => exact State.typed_memOk hs (fun _ _ h => State.fly_memOk h)
  | vsel | vxtr | vupk | vhad | vqnt => exact State.typed_memOk hs (fun _ _ h => State.vwhole_memOk h)
  | vany | vall => exact vote_memOk hs
  | vand | vor | vxor | vshl | vshr | vsar => exact vbits_memOk hs
  | vbcst | vperm | vbfly | vrotl | vsplt => exact vmove_memOk hs
  | viota | vsgn | vscl => exact State.typed_memOk hs (fun _ _ h => State.velementwise_memOk h)
  | vreda => exact execVreda_memOk hs
  | vredm => exact execVredm_memOk hs
  | vcvt => exact execVcvt_memOk hs
  | vpck => exact State.typed_memOk hs (fun _ _ h => State.vresult_memOk h)
  | vcmul | vcmac => exact vcomplex_memOk hs
  | vtws => exact State.typed_memOk hs (fun _ _ h => State.velementwise_memOk (State.velementwise_memOk h))
  | vmovkToReg | vmix | vzero => exact State.guarded_memOk hs (fun _ h => State.vresult_memOk h)
  | vsatn => exact execVsatn_memOk hs
  | ltset | ltcpy | unbd => exact State.effectful_memOk hs (fun _ h => State.ite_memOk (State.protect_memOk h) (State.fly_memOk h))
  | vld | vldRaw | sld | lscl => exact State.guarded_memOk hs (fun _ h => State.accessing_memOk h (fun _ _ _ h1 => State.fetch_memOk h1))
  | vst | vstRaw | sst => exact State.guarded_memOk hs (fun _ h => State.accessing_memOk h (fun _ _ _ h1 => State.put_memOk h1))
  | vgth => exact execVgth_memOk hs
  | vsct => exact execVsct_memOk hs
  | cpy => exact State.guarded_memOk hs (fun _ h => State.copySlot_memOk h)
  | cpya => exact State.effectful_memOk hs (fun _ h => State.copySlot_memOk h)
  | pub | rel => exact State.effectful_memOk hs (fun _ h => State.releaseSlot_memOk h)
  | dclm => exact execDclm_memOk hs
  | drel => exact execDrel_memOk hs
  | dwr => exact State.guarded_memOk hs (fun _ h => State.busy_memOk (State.onCore_memOk (State.store_ok _ _ h)))
  | aadd | aaddf | aaddk | amin | amax | aminu | amaxu | axch | aand | aor | axor => exact atomicOp_memOk hs
  | acas => exact State.effectful_memOk hs (fun _ h => State.atomic_memOk h)
  | tdec => exact State.effectful_memOk hs (fun _ h => State.ite_memOk (State.raise_memOk h) (State.busy_memOk (State.decrementBy_memOk h)))
  | bind => exact execBind_memOk hs
  | acq => exact execAcq_memOk hs
  | acqt => exact execAcqt_memOk hs
  | fnc => exact State.guarded_memOk hs (fun _ h => State.ite_memOk (State.memOk_mk h) (State.ite_memOk h (State.onMe_memOk h)))
  | fnw | msyn => exact State.guarded_memOk hs (fun _ h => State.ite_memOk (State.stall_memOk h) h)
  | sflg => exact State.effectful_memOk hs (fun _ h => State.ite_memOk (State.raise_memOk h) (State.busy_memOk (State.post_memOk h)))
  | scnt => exact State.effectful_memOk hs (fun _ h => State.busy_memOk (State.post_memOk h))
  | sbeq => exact execSbeq_memOk hs
  | redp => exact State.effectful_memOk hs (fun _ h => State.busy_memOk (State.onMe_memOk (State.memOk_mk h)))
  | redw => exact execRedw_memOk hs
  | qpop => exact execQpop_memOk hs
  | qpsh => exact execQpsh_memOk hs
  | qlev => exact State.effectful_memOk hs (fun _ h => State.busy_memOk (State.result_memOk h))
  | mona => exact State.effectful_memOk hs (fun _ h => State.accessing_memOk h (fun _ _ _ h1 => State.onMe_memOk h1))
  | digq => exact execDigq_memOk hs
  | hgset => exact execHgset_memOk hs
  | hgget | manr => exact State.privileged_memOk hs (fun _ h => State.ask_memOk h)
  | pref => exact execPref_memOk hs
  | bld => exact execBld_memOk hs
  | bst | bzero => exact State.effectful_memOk hs (fun _ h => State.putPair_memOk h)
  | mshb => exact State.guarded_memOk hs (fun _ h => State.beat_memOk h (fun _ _ h1 => State.shiftIn_memOk h1))
  | mshr => exact State.guarded_memOk hs (fun _ h => State.shiftIn_memOk h)
  | mpsa | mpss => exact State.guarded_memOk hs (fun _ h => State.beat_memOk h (fun _ _ h1 => State.push_memOk h1))
  | mpra | mprs => exact State.guarded_memOk hs (fun _ h => State.streamPush_memOk h)
  | mdrd | mdrv => exact State.guarded_memOk hs (fun _ h => State.drained_memOk h (fun _ _ h1 => State.fly_memOk h1))
  | mdrb => exact execMdrb_memOk hs
  | mzro | mbst => exact State.guarded_memOk hs (fun _ h => State.atCursor_memOk h (fun _ _ h1 => State.fly_memOk h1))
  | mbld => exact execMbld_memOk hs
  | mpoi => exact State.privileged_memOk hs (fun _ h => State.atCursor_memOk h (fun _ _ h1 => State.fly_memOk h1))
  | jqPush => exact nextOk_ite (nextOk_next.2 (State.sideWait_memOk hs)) (nextOk_next.2 (State.sideDone_memOk (State.onJseat_memOk hs)))
  | jqPull => exact execJqPull_memOk hs
  | jqPullLev | jLte | jCyc => exact nextOk_next.2 (State.sideResult_memOk hs)
  | jCpy => exact execJCpy_memOk hs
  | jWtc => exact execJWtc_memOk hs
  | jDclm => exact execJDclm_memOk hs
  | jLteW => exact nextOk_ite (nextOk_next.2 (State.stopSide_memOk hs)) (nextOk_next.2 (State.sideDone_memOk (State.onCore_memOk hs)))
  | jFlag => exact nextOk_next.2 (State.sideDone_memOk (State.setFlag_memOk hs))
  | jPub | jRel => exact nextOk_next.2 (State.sideRelease_memOk hs)
  | jAcq => exact execJAcq_memOk hs
  | jSbeq => exact execJSbeq_memOk hs
  | sideCoreRv64Instruction => exact execSideCoreRv64Instruction_memOk hs
  | sideCoreException => exact execSideCoreException_memOk hs
  | scfltWrite => exact event_memOk (State.setSideAt_memOk hs)
  | resultLand => exact execResultLand_memOk hs
  | pushLand => exact execPushLand_memOk hs
  | icacheFill => exact execIcacheFill_memOk hs
  | outerLoadArrival => exact execOuterLoadArrival_memOk hs
  | remoteTimeout => exact execRemoteTimeout_memOk hs
  | remoteRefusal => exact execRemoteRefusal_memOk hs
  | postedWritePerform => exact execPostedWritePerform_memOk hs
  | releasePerform => exact execReleasePerform_memOk hs
  | armedGranuleCopy => exact execArmedGranuleCopy_memOk hs
  | pageWalk => exact execPageWalk_memOk hs
  | pageWalkComplete => exact execPageWalkComplete_memOk hs
  | copyComplete => exact execCopyComplete_memOk hs
  | copyFault => exact execCopyFault_memOk hs
  | drawerRowFilled => exact execDrawerRowFilled_memOk hs
  | tlbiComplete => exact execTlbiComplete_memOk hs
  | promiseReached | flagTimeout | wmonTimeout | reductionWaitTimeout => exact State.timeWait_memOk hs
  | stationFlagSet => exact execStationFlagSet_memOk hs
  | monitorFire => exact execMonitorFire_memOk hs
  | monitorTimeout => exact execMonitorTimeout_memOk hs
  | parkWake | parkTimeoutWake => exact event_memOk (State.onSeat_memOk hs)
  | acqtReread => exact execAcqtReread_memOk hs
  | leaveGrant => exact execLeaveGrant_memOk hs
  | reductionPacketArrival => exact execReductionPacketArrival_memOk hs
  | reductionRouterTimeout => exact execReductionRouterTimeout_memOk hs
  | spanWatchdog => exact execSpanWatchdog_memOk hs
  | taskRelease => exact execTaskRelease_memOk hs
  | issueSelect => exact event_memOk (State.onCore_memOk hs)
  | sluiceBind => exact execSluiceBind_memOk hs
  | dispatchComplete => exact execDispatchComplete_memOk hs
  | scratchFillComplete => exact nextOk_ite (event_memOk hs) (nextOk_next.2 (State.onSeat_memOk (State.performBytes_ok _ _ _ hs)))
  | seatRestoreComplete => exact execSeatRestoreComplete_memOk hs
  | preemptRequest => exact event_memOk (State.preempt_memOk hs)
  | forcedSave => exact nextOk_ite (event_memOk hs) (nextOk_next.2 (State.onCore_memOk (State.dropWaits_memOk (State.landDue_memOk hs))))
  | seatSaveComplete => exact execSeatSaveComplete_memOk hs
  | taskEndSuccessors => exact event_memOk (State.beginInsert_memOk (State.settle_memOk (State.releaseSuccessors_memOk hs)))
  | reuseLookup => exact execReuseLookup_memOk hs
  | reuseHitComplete => exact execReuseHitComplete_memOk hs
  | hostFetchaddResv => exact execHostFetchaddResv_memOk hs
  | queueTailWrite => exact execQueueTailWrite_memOk hs
  | hostPostedWrite => exact execHostPostedWrite_memOk hs
  | flagClassWritePerform => exact execFlagClassWritePerform_memOk hs
  | hostRead => exact execHostRead_memOk hs
  | hostAtomic => exact execHostAtomic_memOk hs
  | hostBar4Access => exact execHostBar4Access_memOk hs
  | launchQueuePoll => exact execLaunchQueuePoll_memOk hs
  | taskCreation => exact execTaskCreation_memOk hs
  | launchCompletion => exact execLaunchCompletion_memOk hs
  | streamCloseFollowup => exact execStreamCloseFollowup_memOk hs
  | gatePass => exact execGatePass_memOk hs
  | gateLoad | gateCopy | gateAdd | gateTake | gateEmpty | station0ClassChange | station0EmptyStale | beTakeSlot | beHold | beResend
  | beWrite | beReadRequest | beReadResponse | beCounterDecrement | beAtomicRequest | beAtomicResponse | beSbeqMessage | beReservedKind =>
    exact State.passEvent_memOk hs
  | ladeBringUp => exact event_memOk (State.ite_memOk hs (foldl_memOk (fun _ _ h => State.onLink_memOk h) (State.memOk_mk hs)))
  | canalInject => exact execCanalInject_memOk hs
  | canalTrim => exact execCanalTrim_memOk hs
  | canalReadRequest | canalPostedWrite => exact State.canalIn_memOk hs
  | canalReadResponse => exact nextOk_ite (event_memOk hs) (State.answerIn_memOk hs)
  | canalAadd | canalAaddf | canalAaddk | canalAmin | canalAmax | canalAminu | canalAmaxu | canalAxch | canalAcas | canalAand | canalAor
  | canalAxor | canalAcquireRead | canalTaskDecrement | canalPublication | canalReservedAop => exact State.atomicIn_memOk hs
  | canalAtomicResponse | canalRefusal => exact State.answerIn_memOk hs
  | canalReRequest => exact State.controlIn_memOk hs (fun _ h => State.reRequest_memOk h)
  | canalAcknowledgement => exact State.controlIn_memOk hs (fun _ h => State.acknowledge_memOk h)
  | canalSnapshotMarker => exact State.controlIn_memOk hs (fun _ h => State.takeMarker_memOk h)
  | canalReservedType => exact event_memOk (State.discard_memOk (State.countIn_memOk hs))
  | canalPacketPerform => exact execCanalPacketPerform_memOk hs
  | canalHoleRerequest => exact execCanalHoleRerequest_memOk hs
  | canalTokenRefill => exact event_memOk (State.onRecv_memOk hs)
  | canalAckSend => exact event_memOk (State.onRecv_memOk (State.sendVc0_memOk hs))
  | responderWatchdog => exact execResponderWatchdog_memOk hs
  | linkIdle | linkAdv | linkRkreq | linkRkmsg | linkKeysw => exact event_memOk (State.controlFlit_memOk hs)
  | linkResync => exact execLinkResync_memOk hs
  | linkAdvTimer | linkResyncTimer => exact event_memOk (State.sendOn_memOk (State.onLink_memOk hs))
  | linkReplayRequest => exact nextOk_ite (event_memOk (State.sendOn_memOk hs)) (event_memOk (State.onCanal_memOk (State.onLink_memOk hs)))
  | linkRetire => exact nextOk_ite (event_memOk (State.retireLink_memOk hs)) (event_memOk (foldl_memOk (fun _ _ h => State.stopLade_memOk h) hs))
  | rekeyStart | rekeyStop => exact event_memOk (State.onLink_memOk hs)
  | rekeyTimeout => exact event_memOk (State.retireLink_memOk hs)
  | keyLoad => exact execKeyLoad_memOk hs
  | keyRetire => exact State.keyRequest_memOk hs (fun _ _ => ite_fst_memOk hs (ite_fst_memOk hs (State.retireKey_memOk hs)))
  | keyQuery => exact execKeyQuery_memOk hs
  | keyBadRequest => exact execKeyBadRequest_memOk hs
  | keyDoorbellInvalid => exact event_memOk (State.logMgmt_memOk (State.memOk_mk hs))
  | wallowWrite => exact event_memOk (State.csrWrite_memOk hs)
  | pcapWrite | portReset => exact event_memOk (State.memOk_mk hs)
  | powerClassChange => exact execPowerClassChange_memOk hs
  | managementRegisterWrite => exact event_memOk (State.writeRegister_memOk hs)
  | throttle => exact event_memOk (State.onDie_memOk hs)
  | thermalShutdown => exact event_memOk (State.memOk_mk State.reset_ok)
  | dieReset => exact event_memOk (State.startReset_memOk hs)
  | dieReadmit => exact event_memOk (State.onDie_memOk (State.memOk_mk hs))
  | tdispMessage => exact execTdispMessage_memOk hs
  | spdmRequest => exact execSpdmRequest_memOk hs
  | boot => exact event_memOk (State.ite_memOk (State.broughtUp_memOk (State.memOk_mk hs)) (State.memOk_mk hs))
  | coreOwnerChange => exact nextOk_ite (event_memOk (State.setOwner_memOk hs)) (event_memOk (State.setOwner_memOk (State.onCore_memOk hs)))
  | scrubComplete => exact event_memOk (State.scrub_memOk hs)
  | jobRegister => exact event_memOk (State.ite_memOk (State.onJob_memOk hs) hs)
  | jobDeregister => exact event_memOk (State.dropMarkers_memOk (State.memOk_mk hs))
  | snapshotRequestReceipt => exact event_memOk (State.onJob_memOk hs)
  | snapshotSaved => exact execSnapshotSaved_memOk hs
  | snapshotResume => exact event_memOk (foldl_memOk (fun _ _ h => State.queueTask_memOk h) (State.onJob_memOk hs))
  | snapshotSweepComplete => exact event_memOk (State.onJob_memOk (foldl_memOk (fun _ _ h => State.sweep_memOk h) hs))
  | manifestCommit => exact event_memOk (State.releaseAt_memOk (State.dropMarkers_memOk (State.onJob_memOk hs)))
  | uncorrectableRead => exact execUncorrectableRead_memOk hs
  | flumeHopFailure => exact execFlumeHopFailure_memOk hs
  | rollback => exact execRollback_memOk hs
  | illegalBundle => exact execIllegalBundle_memOk hs
  | reuseInsertComplete => exact execReuseInsertComplete_memOk hs
  | acquireReadPerformed => exact execAcquireReadPerformed_memOk hs
  | prefetchReadArrival => exact execPrefetchReadArrival_memOk hs
  | rpnAcknowledgement => exact event_memOk (State.ite_memOk (State.logMgmt_memOk (State.onLink_memOk hs)) (State.onLink_memOk hs))

/-! `Sys2Proof/Machine/Cycle.lean`. -/

theorem Run.slot_memOk {r : Run} {pos w : Nat} {i : Instr} (hr : r.s.MemOk) : RunOk (r.slot pos w i) := by
  have hexec := exec_memOk (i := i) (s := { r.s with cx := { r.s.cx with pos := pos, word := w, out := .go } }) (State.memOk_mk hr)
  unfold Run.slot
  split
  next ht =>
    rw [ht] at hexec
    have htok := nextOk_next.1 hexec
    split
    · exact htok
    · exact htok
    · exact State.memOk_mk htok
    next cause tval slot _ =>
      show State.MemOk (Run.trapAt r slot cause tval).s
      unfold Run.trapAt
      split
      · split
        · exact hr
        · exact hr
      · exact hr
  · exact hexec

theorem Run.all_memOk {r : Run} {l : List (Nat × Nat × Instr)} (hr : r.s.MemOk) : RunOk (r.all l) := by
  induction l generalizing r with
  | nil => exact hr
  | cons x l ih =>
    have hslot := Run.slot_memOk (pos := x.1) (w := x.2.1) (i := x.2.2) hr
    unfold Run.all
    split
    next hx => exact ih (ok_of_run hx hslot)
    next hx => exact nextOk_of_stop hx hslot

theorem State.openBundle_memOk {c n len : Nat} (hs : s.MemOk) : (s.openBundle c n len).MemOk := State.memOk_mk hs

theorem State.bundleTrap_memOk {c n pos cause : Nat} {tval : Word} {len : Nat} (hs : s.MemOk) : (s.bundleTrap c n pos cause tval len).MemOk :=
  State.countTrap_memOk (State.trapAt_memOk hs)

theorem State.bundleStall_memOk {c n : Nat} {r : Run} (hs : s.MemOk) : (s.bundleStall c n r).MemOk :=
  State.ite_memOk (State.advanceArray_memOk (State.onCore_memOk (State.onDie_memOk hs))) (State.onCore_memOk (State.onDie_memOk hs))

theorem State.bundleCommit_memOk {c : Nat} (hs : s.MemOk) : (s.bundleCommit c).MemOk :=
  State.memOk_mk (State.onCore_memOk (State.ite_memOk hs (State.commit_memOk hs)))

theorem State.issue_memOk {c n : Nat} {ws : List Nat} {b : Bundle} (hs : s.MemOk) : NextOk (s.issue c n ws b) := by
  have hopen : (s.openBundle c n b.length).MemOk := State.openBundle_memOk hs
  unfold State.issue
  dsimp only
  split
  next hall => exact nextOk_of_stop hall (Run.all_memOk (State.onSeat_memOk (State.ite_memOk (State.busy_memOk hopen) hopen)))
  next hall =>
    have hr := ok_of_run hall (Run.all_memOk (State.onSeat_memOk (State.ite_memOk (State.busy_memOk hopen) hopen)))
    split
    · exact nextOk_next.2 (State.bundleTrap_memOk hs)
    · exact nextOk_ite (nextOk_next.2 (State.bundleStall_memOk hs)) (nextOk_next.2 (State.bundleCommit_memOk hr))

theorem State.heldTrap_memOk {c n cause : Nat} {tval : Word} {ord : Nat} (hs : s.MemOk) : (s.heldTrap c n cause tval ord).MemOk :=
  State.bundleTrap_memOk hs

theorem State.nextBundle_memOk {c n : Nat} (hs : s.MemOk) : NextOk (s.nextBundle c n) := by
  unfold State.nextBundle
  dsimp only
  split
  · exact nextOk_next.2 (State.heldTrap_memOk hs)
  · split
    · exact nextOk_next.2 (State.awaitLine_memOk hs)
    · exact nextOk_next.2 (State.bundleTrap_memOk hs)
    · exact nextOk_next.2 hs
    · split
      · exact nextOk_next.2 (State.bundleTrap_memOk hs)
      · exact State.issue_memOk hs

theorem State.freezeOn_memOk {c : Nat} (hs : s.MemOk) : (s.freezeOn c).MemOk := by
  unfold State.freezeOn
  dsimp only
  split
  · exact State.onCore_memOk (State.timeOut_memOk hs)
  · exact State.onCore_memOk hs

theorem State.trapWaits_memOk {c n : Nat} {x : Trapping} (hs : s.MemOk) : (s.trapWaits c n x).MemOk := by
  unfold State.trapWaits
  split
  · exact State.countTrap_memOk (State.onCore_memOk (State.takeTrap_memOk hs))
  · split
    · exact State.ite_memOk (State.timeOut_memOk hs) hs
    · exact State.onCore_memOk hs

theorem State.runSeat_memOk {c n : Nat} (hs : s.MemOk) : NextOk (s.runSeat c n) :=
  nextOk_ite (nextOk_next.2 (State.onCore_memOk (State.firmwareActs_memOk hs)))
    (nextOk_ite (nextOk_next.2 (State.freezeOn_memOk (State.onCore_memOk hs)))
    (State.nextBundle_memOk (State.onCore_memOk (State.onCore_memOk hs))))

theorem State.cycleOn_memOk {c : Nat} (hs : s.MemOk) : NextOk (s.cycleOn c) := by
  unfold State.cycleOn
  dsimp only
  split
  · exact nextOk_next.2 (State.trapWaits_memOk (State.onCore_memOk hs))
  · refine nextOk_ite (nextOk_next.2 (State.watchdog_memOk hs))
      (nextOk_ite (nextOk_next.2 (State.onCore_memOk hs)) (nextOk_ite (nextOk_next.2 (State.freezeOn_memOk (State.onCore_memOk hs)))
      (nextOk_ite (nextOk_next.2 (State.onCore_memOk hs)) (nextOk_ite (nextOk_next.2 (State.onCore_memOk hs)) ?_))))
    split
    · exact nextOk_next.2 (State.onCore_memOk (State.onCore_memOk hs))
    · exact State.runSeat_memOk (State.onCore_memOk hs)

theorem State.coreCycle_memOk {c : Nat} (hs : s.MemOk) : NextOk (s.coreCycle c) :=
  State.cycleOn_memOk (State.onCore_memOk (State.settlePushes_memOk (State.landDue_memOk (State.landLte_memOk hs))))

/-! `Sys2Proof/Machine/Round.lean`. -/

theorem State.tick_memOk {d : Nat} (hs : s.MemOk) : (s.tick d).MemOk := State.resetTick_memOk (State.onDie_memOk hs)

theorem State.meshTick_memOk {d : Nat} (hs : s.MemOk) : (s.meshTick d).MemOk := State.onDie_memOk hs

theorem State.engineTurn_memOk {c id : Nat} (hs : s.MemOk) : (s.engineTurn c id).MemOk := State.moveCmd_memOk hs

theorem orNothing_memOk {r : Res} (hs : s.MemOk) (hr : NextOk r) : NextOk (orNothing s r) := by
  unfold orNothing
  split
  · exact nextOk_next.2 hs
  · exact hr

/-! `Sys2Proof/Machine/Step.lean`. -/

theorem State.sideCycle_memOk {c : Nat} {storer : Bool} (hs : s.MemOk) : NextOk (s.sideCycle c storer) := by
  unfold State.sideCycle
  refine nextOk_ite (nextOk_next.2 (State.sideIdle_memOk hs)) ?_
  split
  · exact nextOk_next.2 (State.stopSideAt_memOk (State.sideCount_memOk hs))
  · split
    · exact exec_memOk (State.sideOpen_memOk hs)
    · exact nextOk_next.2 (State.stopSideAt_memOk (State.sideCount_memOk hs))

theorem State.turn_memOk {t : Turn} (hs : s.MemOk) : NextOk (s.turn t) := by
  unfold State.turn
  split
  · exact State.coreCycle_memOk hs
  · exact State.sideCycle_memOk hs
  · exact nextOk_next.2 (State.tick_memOk hs)
  · exact nextOk_next.2 (State.meshTick_memOk hs)
  · exact nextOk_next.2 (State.engineTurn_memOk hs)
  · exact nextOk_next.2 (State.endSlotTime_memOk hs)
  · exact nextOk_next.2 (State.linkCycle_memOk hs)
  · exact nextOk_next.2 (State.hostTick_memOk (State.canalTick_memOk hs))
  · exact exec_memOk hs
  · exact orNothing_memOk hs (exec_memOk hs)

theorem step_memOk (hs : s.MemOk) : NextOk (step s) := by
  unfold step
  split
  · exact nextOk_ite (nextOk_next.2 (State.memOk_mk hs)) nextOk_fault
  · exact nextOk_ite (State.turn_memOk (State.memOk_mk hs)) nextOk_fault

/-- Settles O14: the step is built of operations that keep the canonical form. -/
theorem memoryStaysCanonical : Obligations.MemoryStaysCanonical := fun _ t hs ht => step_memOk hs t ht

end Sys2Proof.Machine
